-- ==== Sys2Proof/Word.lean ====
section
/-! DEFINITION. The word types of the AZ9624: registers of 32 and 64 bits (R4), bytes, engine words. -/

namespace Sys2Proof

/-- A byte. -/
abbrev Byte := BitVec 8

/-- A 32-bit register word (R4). -/
abbrev Word := BitVec 32

/-- A 64-bit register, and the container every register is held in. -/
abbrev Word64 := BitVec 64

/-- A 16-bit engine data word (chapter 7). -/
abbrev Word16 := BitVec 16

/-- A 40-bit engine accumulator (chapter 7). -/
abbrev Acc40 := BitVec 40

end Sys2Proof
end

