-- ==== Sys2Proof/Syntax.lean ====
section
/-! DEFINITION. The commands of the block: one constructor for each row of the table of operations and events, with the
row's operands. An operand is what the sender names (a requester, an address, a value) or what the surroundings decide
(a measured time, a pin's level, which of several causes): see assumption 1. -/

namespace Sys2Proof

/-- What the surroundings show at a tick boundary: the levels at user I/O balls that changed (ball 48 b + p of pin IOBb_p; its level, none where nothing drives it), and
the engine cycle time each region's replica measured, in 5 ps units (R68), and the blocks (region, block) that have not
reported DONE (R131). -/
structure BoundaryInputs where
  balls : List (Nat × Option Bool)
  tec : List (Nat × Nat)
  late : List (Nat × Nat)
  deriving DecidableEq, Repr

/-- What the surroundings and the time decide about a register write, for the registers to which it matters: less than 1 ms has
passed since the latest quench of the bank (R631); a quench falls together with another cause (R630); how many pages of a BROKEN queue's chain can be reached (R409); an event that sets the alarm falls in the same
housekeeping cycle (R651); the disagreements counted at the four points of an eye check (R606). -/
structure WriteFacts where
  recent : Bool
  together : Bool
  good : Nat
  same : Bool
  eye : List Nat
  deriving DecidableEq, Repr

/-- The registers of a host port's configuration space that the spec describes (R483, Table 13-10), and the others. -/
inductive ConfigReg where
  | ident | command | classRev | subsystem | power | msix | other
  deriving DecidableEq, Repr

/-- The commands. Each docstring gives the rule of the row and what its operands are. -/
inductive Instr where
  /-- REGISTER_WRITE: R8 ; requester, C-window address, bytes (4 or 8), data, what else decides the outcome. -/
  | registerWrite (req addr n : Nat) (value : BitVec 64) (facts : WriteFacts)
  /-- REG64_LOWER_WORD_READ: R5 ; requester, address of the lower word. -/
  | reg64LowerWordRead (req addr : Nat)
  /-- REG64_UPPER_WORD_READ: R5 ; requester, address of the upper word. -/
  | reg64UpperWordRead (req addr : Nat)
  /-- RC_FIELD_READ: R9 ; requester, address, whether the read completes successfully. -/
  | rcFieldRead (req addr : Nat) (ok : Bool)
  /-- TICK_START: R38 ; requester, the START_ON_SYNC bit of the same write. -/
  | tickStart (req : Nat) (startOnSync : Bool)
  /-- TICK_FIRST_BOUNDARY: R38 ; what the surroundings show at the boundary. -/
  | tickFirstBoundary (env : BoundaryInputs)
  /-- TICK_STOP: R42 ; requester, the START_ON_SYNC bit of the same write. -/
  | tickStop (req : Nat) (startOnSync : Bool)
  /-- TICK_BOUNDARY: R39 ; what the surroundings show at the boundary. -/
  | tickBoundary (env : BoundaryInputs)
  /-- TICK_COUNT_WRITE: R84 ; requester, the 64 bits written. -/
  | tickCountWrite (req : Nat) (value : BitVec 64)
  /-- PLL_LOCK_LOST: R43 . -/
  | pllLockLost
  /-- PLL_RELOCK: R43 . -/
  | pllRelock
  /-- NULL_WAVE_COMPLETE: R47 ; region. -/
  | nullWaveComplete (r : Nat)
  /-- REGION_DONE: R47 ; region, time of DONE after the region's latest region tick in 5 ps units. -/
  | regionDone (r at5ps : Nat)
  /-- SLACK_WINDOW_END: R54 ; region. -/
  | slackWindowEnd (r : Nat)
  /-- TR_CTL_WRITE: R45 ; requester, region, data; bit RESUME of it is not written. -/
  | trCtlWrite (req r : Nat) (value : BitVec 32)
  /-- REGION_RESUME: R62 ; requester, region, data, in which RESUME is written 1. -/
  | regionResume (req r : Nat) (value : BitVec 32)
  /-- REGION_RESUME_EFFECT: R62 ; region. -/
  | regionResumeEffect (r : Nat)
  /-- TR_CLR_OVERRUN_COUNTERS: R56 ; requester, region. -/
  | trClrOverrunCounters (req r : Nat)
  /-- TR_CLR_HISTOGRAM: R55 ; requester, region. -/
  | trClrHistogram (req r : Nat)
  /-- TR_CLR_SLK_MIN_ALL: R54 ; requester, region. -/
  | trClrSlkMinAll (req r : Nat)
  /-- AVS_INTERVAL: R65 . -/
  | avsInterval
  /-- AVS_FRAME_RESPONSE: R70 ; whether the frame was acknowledged with good CRC and status. -/
  | avsFrameResponse (good : Bool)
  /-- AVS_CTL_WRITE: R72 ; requester, data. -/
  | avsCtlWrite (req : Nat) (value : BitVec 32)
  /-- AVS_VSET_WRITE: R72 ; requester, data. -/
  | avsVsetWrite (req : Nat) (value : BitVec 32)
  /-- TARANTELLA_CTL_WRITE: R74 ; requester, region, data. -/
  | tarantellaCtlWrite (req r : Nat) (value : BitVec 32)
  /-- TARANTELLA_TIMEOUT: R74 ; region. -/
  | tarantellaTimeout (r : Nat)
  /-- TR_FLOOR_WRITE: R76 ; requester, region, data; bit LOCK of it is not written. -/
  | trFloorWrite (req r : Nat) (value : BitVec 32)
  /-- TR_FLOOR_LOCK: R76 ; requester, region, data, in which LOCK is written 1. -/
  | trFloorLock (req r : Nat) (value : BitVec 32)
  /-- ACTION_ENTRY_WRITE: R80 ; requester, entry, offset in the entry, data; ARM and CANCEL of it are not written. -/
  | actionEntryWrite (req i off : Nat) (value : BitVec 64)
  /-- ACTION_ARM: R77 ; requester, entry, data for offset 0, in which ARM is written 1 and CANCEL 0. -/
  | actionArm (req i : Nat) (value : BitVec 32)
  /-- ACTION_CANCEL: R79 ; requester, entry, data for offset 0, in which CANCEL is written 1. -/
  | actionCancel (req i : Nat) (value : BitVec 32)
  /-- ACT_REG_WRITE: R83 ; entry. -/
  | actRegWrite (i : Nat)
  /-- ACT_REG_WRITE_RESPONSE: R83 ; entry. -/
  | actRegWriteResponse (i : Nat)
  /-- ACT_REGION_START: R683 ; entry. -/
  | actRegionStart (i : Nat)
  /-- ACT_REGION_STOP: R683 ; entry. -/
  | actRegionStop (i : Nat)
  /-- ACT_PR_START: R536 ; entry. -/
  | actPrStart (i : Nat)
  /-- ACT_ENGINE_TASK: R260 ; entry. -/
  | actEngineTask (i : Nat)
  /-- ACT_FLAG_PULSE: R82 ; entry. -/
  | actFlagPulse (i : Nat)
  /-- FLAG_PULSE_END: R82 ; entry whose pulse ends. -/
  | flagPulseEnd (i : Nat)
  /-- ACT_QUEUE_MARK: R369 ; entry. -/
  | actQueueMark (i : Nat)
  /-- ACT_TARANTELLA: R73 ; entry. -/
  | actTarantella (i : Nat)
  /-- ACT_DRAIN_GRANT: R593 ; entry. -/
  | actDrainGrant (i : Nat)
  /-- TICK_SYNC_ARM: R85 ; requester. -/
  | tickSyncArm (req : Nat)
  /-- TICK_SYNC_EDGE: R85 . -/
  | tickSyncEdge
  /-- TICK_SYNC_LOAD: R85 ; what the surroundings show at the boundary. -/
  | tickSyncLoad (env : BoundaryInputs)
  /-- BEACON_MISS: R88 ; peer port. -/
  | beaconMiss (p : Nat)
  /-- ILLEGAL_DETECTED: R95 ; region; 0 macrocell output, 1 block input, 2 spine input, 3 block-memory slot, 4 engine slot; its block, edge, port 2m + p or slot; signal; whether the detector responds to the pulse (R94). -/
  | illegalDetected (r kind unit sig : Nat) (detected : Bool)
  /-- FLOW_STAGE_LATCH: R114 ; region, block, controller macrocell. -/
  | flowStageLatch (r b n : Nat)
  /-- FLOW_STAGE_RELEASE: R114 ; region, block, controller macrocell. -/
  | flowStageRelease (r b n : Nat)
  /-- SAMPLE_PORT_HANDSHAKE: R118 ; region, block, controller macrocell. -/
  | samplePortHandshake (r b n : Nat)
  /-- OFFER_TOKEN_ACKNOWLEDGED: R120 ; region, block, controller macrocell. -/
  | offerTokenAcknowledged (r b n : Nat)
  /-- ARB_REQUEST: R124 ; region, block, even macrocell of the pair, the side whose request is granted if both have risen. -/
  | arbRequest (r b n : Nat) (sideB : Bool)
  /-- ARB_RELEASE: R125 ; region, block, even macrocell of the pair. -/
  | arbRelease (r b n : Nat)
  /-- REQUEST_HEADER_TAKEN: R161 ; region, block. -/
  | requestHeaderTaken (r b : Nat)
  /-- ARBITER_GRANT: R162 ; region, target. -/
  | arbiterGrant (r t : Nat)
  /-- ARBITER_RESPONSE_COMPLETE: R163 ; region, target. -/
  | arbiterResponseComplete (r t : Nat)
  /-- ARBITER_TIMEOUT: R164 ; region, target. -/
  | arbiterTimeout (r t : Nat)
  /-- REG_CMD_POWER_ON: R169 ; requester, region. -/
  | regCmdPowerOn (req r : Nat)
  /-- REGION_POWER_RAMP_DONE: R169 ; region. -/
  | regionPowerRampDone (r : Nat)
  /-- REG_CMD_POWER_OFF: R20 ; requester, region. -/
  | regCmdPowerOff (req r : Nat)
  /-- REG_CMD_START: R168 ; requester, region. -/
  | regCmdStart (req r : Nat)
  /-- REGION_START_EFFECT: R168 ; region. -/
  | regionStartEffect (r : Nat)
  /-- REG_CMD_STOP: R168 ; requester, region. -/
  | regCmdStop (req r : Nat)
  /-- REGION_STOP_EFFECT: R168 ; region. -/
  | regionStopEffect (r : Nat)
  /-- REG_CMD_RESET: R168 ; requester, region. -/
  | regCmdReset (req r : Nat)
  /-- REG_CMD_ISOLATE: R166 ; requester, region. -/
  | regCmdIsolate (req r : Nat)
  /-- REG_CMD_UNISOLATE: R171 ; requester, region. -/
  | regCmdUnisolate (req r : Nat)
  /-- REG_CMD_CLEAR: R200 ; requester, region. -/
  | regCmdClear (req r : Nat)
  /-- BM_PORT_REQUEST: R187 ; region, memory, port (0 A, 1 B), whether the other port took its latest access so close that the two collide on one row, flipped bits found. -/
  | bmPortRequest (r m p : Nat) (near : Bool) (upsets : List (Nat × Nat))
  /-- BM_PORT_REQUEST_NULL: R187 ; region, memory, port. -/
  | bmPortRequestNull (r m p : Nat)
  /-- BM_PORT_RESPONSE_ACK: R187 ; region, memory, port. -/
  | bmPortResponseAck (r m p : Nat)
  /-- BM_MAINTENANCE_ACCESS: R196 ; requester, region, memory, offset in the memory's window, bytes, whether it writes, data, byte enables, bits that have flipped (window address of a code word, number of bits). -/
  | bmMaintenanceAccess (req r m off n : Nat) (write : Bool) (value be : Nat) (upsets : List (Nat × Nat))
  /-- BM_CLEAR: R199 ; requester, region, memory. -/
  | bmClear (req r m : Nat)
  /-- BM_CLEAR_DONE: R199 ; region, memory. -/
  | bmClearDone (r m : Nat)
  /-- SCRUB_STEP: R220 ; region, bits that have flipped in memories and in frames (column, minor, word, mask of the bits). -/
  | scrubStep (r : Nat) (upsets : List (Nat × Nat)) (frameUpsets : List (Nat × Nat × Nat × Nat))
  /-- SCRUB_FRAME_WRITEBACK: R226 ; region. -/
  | scrubFrameWriteback (r : Nat)
  /-- POOL_SCRUB_STEP: R234 ; shard, bits that have flipped (address of a code word, number of bits). -/
  | poolScrubStep (h : Nat) (upsets : List (Nat × Nat))
  /-- ENG_TASK_RELEASE: R260 ; engine. -/
  | engTaskRelease (e : Nat)
  /-- ENG_TASK_START: R262 ; engine. -/
  | engTaskStart (e : Nat)
  /-- ENG_STALLED_RETIRE: R248 ; engine. -/
  | engStalledRetire (e : Nat)
  /-- ENG_INSTR_NOP: R286 ; engine, which executes the instruction at its PC. -/
  | engInstrNop (e : Nat)
  /-- ENG_INSTR_DONE: R310 ; engine, which executes the instruction at its PC. -/
  | engInstrDone (e : Nat)
  /-- ENG_INSTR_HALT: R311 ; engine, which executes the instruction at its PC. -/
  | engInstrHalt (e : Nat)
  /-- ENG_INSTR_JMP: R308 ; engine, which executes the instruction at its PC. -/
  | engInstrJmp (e : Nat)
  /-- ENG_INSTR_CALL: R308 ; engine, which executes the instruction at its PC. -/
  | engInstrCall (e : Nat)
  /-- ENG_INSTR_RET: R308 ; engine, which executes the instruction at its PC. -/
  | engInstrRet (e : Nat)
  /-- ENG_INSTR_REP: R254 ; engine, which executes the instruction at its PC. -/
  | engInstrRep (e : Nat)
  /-- ENG_INSTR_LOOP: R255 ; engine, which executes the instruction at its PC. -/
  | engInstrLoop (e : Nat)
  /-- ENG_INSTR_NWAIT: R252 ; engine, which executes the instruction at its PC. -/
  | engInstrNwait (e : Nat)
  /-- ENG_INSTR_MACM_MAC: R296 ; engine, which executes the instruction at its PC. -/
  | engInstrMacmMac (e : Nat)
  /-- ENG_INSTR_MACM_MSU: R296 ; engine, which executes the instruction at its PC. -/
  | engInstrMacmMsu (e : Nat)
  /-- ENG_INSTR_MACM_MPY: R296 ; engine, which executes the instruction at its PC. -/
  | engInstrMacmMpy (e : Nat)
  /-- ENG_INSTR_MACM_MPYN: R296 ; engine, which executes the instruction at its PC. -/
  | engInstrMacmMpyn (e : Nat)
  /-- ENG_INSTR_MACR_MAC: R297 ; engine, which executes the instruction at its PC. -/
  | engInstrMacrMac (e : Nat)
  /-- ENG_INSTR_MACR_MSU: R297 ; engine, which executes the instruction at its PC. -/
  | engInstrMacrMsu (e : Nat)
  /-- ENG_INSTR_MACR_MPY: R297 ; engine, which executes the instruction at its PC. -/
  | engInstrMacrMpy (e : Nat)
  /-- ENG_INSTR_MACR_MPYN: R297 ; engine, which executes the instruction at its PC. -/
  | engInstrMacrMpyn (e : Nat)
  /-- ENG_INSTR_ADD: R298 ; engine, which executes the instruction at its PC. -/
  | engInstrAdd (e : Nat)
  /-- ENG_INSTR_SUB: R298 ; engine, which executes the instruction at its PC. -/
  | engInstrSub (e : Nat)
  /-- ENG_INSTR_AND: R298 ; engine, which executes the instruction at its PC. -/
  | engInstrAnd (e : Nat)
  /-- ENG_INSTR_OR: R298 ; engine, which executes the instruction at its PC. -/
  | engInstrOr (e : Nat)
  /-- ENG_INSTR_XOR: R298 ; engine, which executes the instruction at its PC. -/
  | engInstrXor (e : Nat)
  /-- ENG_INSTR_SHL: R299 ; engine, which executes the instruction at its PC. -/
  | engInstrShl (e : Nat)
  /-- ENG_INSTR_SHR: R299 ; engine, which executes the instruction at its PC. -/
  | engInstrShr (e : Nat)
  /-- ENG_INSTR_ASR: R299 ; engine, which executes the instruction at its PC. -/
  | engInstrAsr (e : Nat)
  /-- ENG_INSTR_CMP: R303 ; engine, which executes the instruction at its PC. -/
  | engInstrCmp (e : Nat)
  /-- ENG_INSTR_NEG: R298 ; engine, which executes the instruction at its PC. -/
  | engInstrNeg (e : Nat)
  /-- ENG_INSTR_ABS: R298 ; engine, which executes the instruction at its PC. -/
  | engInstrAbs (e : Nat)
  /-- ENG_INSTR_ADDA: R300 ; engine, which executes the instruction at its PC. -/
  | engInstrAdda (e : Nat)
  /-- ENG_INSTR_SUBA: R300 ; engine, which executes the instruction at its PC. -/
  | engInstrSuba (e : Nat)
  /-- ENG_INSTR_NEGA: R300 ; engine, which executes the instruction at its PC. -/
  | engInstrNega (e : Nat)
  /-- ENG_INSTR_ABSA: R300 ; engine, which executes the instruction at its PC. -/
  | engInstrAbsa (e : Nat)
  /-- ENG_INSTR_CLRA: R300 ; engine, which executes the instruction at its PC. -/
  | engInstrClra (e : Nat)
  /-- ENG_INSTR_ASRA: R300 ; engine, which executes the instruction at its PC. -/
  | engInstrAsra (e : Nat)
  /-- ENG_INSTR_SHLA: R300 ; engine, which executes the instruction at its PC. -/
  | engInstrShla (e : Nat)
  /-- ENG_INSTR_SATA: R300 ; engine, which executes the instruction at its PC. -/
  | engInstrSata (e : Nat)
  /-- ENG_INSTR_LDA: R300 ; engine, which executes the instruction at its PC. -/
  | engInstrLda (e : Nat)
  /-- ENG_INSTR_LDAL: R300 ; engine, which executes the instruction at its PC. -/
  | engInstrLdal (e : Nat)
  /-- ENG_INSTR_MOVA: R301 ; engine, which executes the instruction at its PC. -/
  | engInstrMova (e : Nat)
  /-- ENG_INSTR_CMPA: R303 ; engine, which executes the instruction at its PC. -/
  | engInstrCmpa (e : Nat)
  /-- ENG_INSTR_LD: R292 ; engine, which executes the instruction at its PC. -/
  | engInstrLd (e : Nat)
  /-- ENG_INSTR_ST: R292 ; engine, which executes the instruction at its PC. -/
  | engInstrSt (e : Nat)
  /-- ENG_INSTR_STA: R302 ; engine, which executes the instruction at its PC. -/
  | engInstrSta (e : Nat)
  /-- ENG_INSTR_LD2: R302 ; engine, which executes the instruction at its PC. -/
  | engInstrLd2 (e : Nat)
  /-- ENG_INSTR_LDI: R294 ; engine, which executes the instruction at its PC. -/
  | engInstrLdi (e : Nat)
  /-- ENG_INSTR_ADDI: R294 ; engine, which executes the instruction at its PC. -/
  | engInstrAddi (e : Nat)
  /-- ENG_INSTR_CMPI: R303 ; engine, which executes the instruction at its PC. -/
  | engInstrCmpi (e : Nat)
  /-- ENG_INSTR_MOV: R294 ; engine, which executes the instruction at its PC. -/
  | engInstrMov (e : Nat)
  /-- ENG_INSTR_MAXI: R304 ; engine, which executes the instruction at its PC. -/
  | engInstrMaxi (e : Nat)
  /-- ENG_INSTR_MINI: R304 ; engine, which executes the instruction at its PC. -/
  | engInstrMini (e : Nat)
  /-- ENG_INSTR_STREAM: R306 ; engine, which executes the instruction at its PC. -/
  | engInstrStream (e : Nat)
  /-- ENG_INSTR_NRD: R307 ; engine, which executes the instruction at its PC. -/
  | engInstrNrd (e : Nat)
  /-- ENG_INSTR_NWR: R307 ; engine, which executes the instruction at its PC. -/
  | engInstrNwr (e : Nat)
  /-- ENG_INSTR_NWRN: R307 ; engine, which executes the instruction at its PC. -/
  | engInstrNwrn (e : Nat)
  /-- ENG_STREAM_INPUT_LATCH: R246 ; engine, stream input. -/
  | engStreamInputLatch (e which : Nat)
  /-- ENG_STREAM_INPUT_NULL: R246 ; engine, stream input. -/
  | engStreamInputNull (e which : Nat)
  /-- ENG_STREAM_OUTPUT_ACK: R247 ; engine, stream output. -/
  | engStreamOutputAck (e which : Nat)
  /-- ENG_NETWORK_RESPONSE: R252 ; engine, tag. -/
  | engNetworkResponse (e t : Nat)
  /-- ENG_HALT: R272 ; requester, engine. -/
  | engHalt (req e : Nat)
  /-- ENG_RESUME: R272 ; requester, engine. -/
  | engResume (req e : Nat)
  /-- ENG_STEP: R272 ; requester, engine. -/
  | engStep (req e : Nat)
  /-- ENG_ABORT: R269 ; requester, engine. -/
  | engAbort (req e : Nat)
  /-- ENG_CLEAR: R272 ; requester, engine. -/
  | engClear (req e : Nat)
  /-- ENG_SWAPREQ: R267 ; requester, engine, WHEN, ENTRY. -/
  | engSwapreq (req e : Nat) (taskEnd : Bool) (entry : BitVec 12)
  /-- ENG_RELEASE: R260 ; requester, engine, descriptor. -/
  | engRelease (req e : Nat) (task : BitVec 6)
  /-- ENG_MEMORY_HOST_WRITE: R241 ; requester, engine, offset in the engine window, bytes, data, byte enables. -/
  | engMemoryHostWrite (req e off n value be : Nat)
  /-- ENG_REGISTER_VIEW_WRITE: R277 ; requester, engine, offset in the register view, data. -/
  | engRegisterViewWrite (req e off : Nat) (value : BitVec 64)
  /-- ENG_CNTCLR_TASK: R261 ; requester, engine. -/
  | engCntclrTask (req e : Nat)
  /-- ENG_CNTCLR_RET: R236 ; requester, engine. -/
  | engCntclrRet (req e : Nat)
  /-- ROUTER_HEAD_FLIT: R329 ; node, input port, virtual channel, what else decides the outcome of a write. -/
  | routerHeadFlit (n p vc : Nat) (facts : WriteFacts)
  /-- OUTPUT_PORT_ARBITRATION: R325 ; node, output port (6 and 7 are the interfaces' sides of L0 and L1), what an interface sends (a channel, or 8 plus a fabric port), whether the link spoils the flit. -/
  | outputPortArbitration (n p sel corrupt : Nat)
  /-- CREDIT_RETURN: R326 ; node, port whose input queue returns the credit, channel. -/
  | creditReturn (n p vc : Nat)
  /-- PORT_CREDIT_HANDSHAKE: R327 ; node, port. -/
  | portCreditHandshake (n p : Nat)
  /-- NI_REQUEST_ISSUE: R324 ; node, interface, requester ID, the requester's own reference, opcode (RD, WR or WRP), route entry, whether it goes to the router's registers, priority, address, bytes, data. -/
  | niRequestIssue (n j rid ref opc entry : Nat) (toRtr : Bool) (pri addr len data : Nat)
  /-- NI_PACKET_RECEIVE: R321 ; node, interface, virtual channel, what else decides the outcome of a write. -/
  | niPacketReceive (n j vc : Nat) (facts : WriteFacts)
  /-- NI_REQUEST_TIMEOUT: R342 ; node, interface, tag. -/
  | niRequestTimeout (n j tag : Nat)
  /-- NI_TAG_QUARANTINE_END: R342 ; node, interface, tag. -/
  | niTagQuarantineEnd (n j tag : Nat)
  /-- NI_ROUTE_ENTRY_WRITE: R333 ; requester, node, interface, entry, the upper word. -/
  | niRouteEntryWrite (req n j e : Nat) (upper : BitVec 32)
  /-- CROSSING_PEER_RESET: R340 ; node, port whose far side is in reset. -/
  | crossingPeerReset (n p : Nat)
  /-- RTR_RESTORE: R346 ; requester, node, port. -/
  | rtrRestore (req n p : Nat)
  /-- RTR_RESTORE_DONE: R346 ; node, port. -/
  | rtrRestoreDone (n p : Nat)
  /-- NIP_FLOW_TX_LATCH: R349 ; region, fabric port. -/
  | nipFlowTxLatch (r i : Nat)
  /-- NIP_STRM_RECEIVE: R350 ; region, channel of its interface. -/
  | nipStrmReceive (r vc : Nat)
  /-- NIP_FLOW_RX_ACK: R350 ; region, fabric port. -/
  | nipFlowRxAck (r i : Nat)
  /-- QUEUE_DESC_WRITE: R359 ; requester, queue, descriptor word, data. -/
  | queueDescWrite (req q w : Nat) (value : BitVec 32)
  /-- QUEUE_ENABLE: R360 ; requester, queue. -/
  | queueEnable (req q : Nat)
  /-- QUEUE_DISABLE: R362 ; requester, queue. -/
  | queueDisable (req q : Nat)
  /-- QUEUE_CMD_READ: R381 ; requester, queue, N. -/
  | queueCmdRead (req q : Nat) (n : BitVec 15)
  /-- QUEUE_CMD_MARK: R381 ; requester, queue. -/
  | queueCmdMark (req q : Nat)
  /-- QUEUE_REWIND: R381 ; requester, queue. -/
  | queueRewind (req q : Nat)
  /-- QUEUE_RELEASE_TO_READ_POINT: R381 ; requester, queue. -/
  | queueReleaseToReadPoint (req q : Nat)
  /-- QUEUE_RELEASE_TO_MARK: R381 ; requester, queue. -/
  | queueReleaseToMark (req q : Nat)
  /-- QUEUE_FLUSH: R381 ; requester, queue. -/
  | queueFlush (req q : Nat)
  /-- QUEUE_RESET: R363 ; requester, queue, pages of a BROKEN queue's chain that valid link records reach. -/
  | queueReset (req q good : Nat)
  /-- CAP_SEGMENT_RECEIVE: R365 ; shard, channel of its interface. -/
  | capSegmentReceive (h vc : Nat)
  /-- QUEUE_APPEND: R368 ; shard, channel of its interface. -/
  | queueAppend (h vc : Nat)
  /-- NOTICE_POST: R376 ; queue. -/
  | noticePost (q : Nat)
  /-- CREDIT_NOTICE_SEND: R366 ; queue, the limit granted. -/
  | creditNoticeSend (q limit : Nat)
  /-- NOTICE_CONS_WRITE: R377 ; requester, shard, data. -/
  | noticeConsWrite (req h : Nat) (value : BitVec 32)
  /-- QUEUE_READ_PORT_READ: R383 ; requester, queue, offset in its read port, bytes. -/
  | queueReadPortRead (req q off n : Nat)
  /-- STORE_APERTURE_READ: R404 ; requester, byte of the aperture, bytes. -/
  | storeApertureRead (req a n : Nat)
  /-- EXHAUST_WAIT_INTERVAL: R405 ; queue. -/
  | exhaustWaitInterval (q : Nat)
  /-- SPILL_GROUP_START: R400 ; queue, heads of the free list whose records fail their check. -/
  | spillGroupStart (q : Nat) (bad : List Bool)
  /-- SPILL_PAGE_DONE: R401 ; queue. -/
  | spillPageDone (q : Nat)
  /-- REFILL_START: R402 ; queue. -/
  | refillStart (q : Nat)
  /-- REFILL_DONE: R402 ; queue. -/
  | refillDone (q : Nat)
  /-- STORE_RETRY: R403 ; store transaction. -/
  | storeRetry (id : Nat)
  /-- PAGE_RANGE_WRITE: R399 ; requester, shard, whether QM_PGCNT is written rather than QM_PGBASE, data. -/
  | pageRangeWrite (req h : Nat) (count : Bool) (value : BitVec 64)
  /-- QM_RECLAIM: R410 ; requester, shard. -/
  | qmReclaim (req h : Nat)
  /-- QM_RECLAIM_DONE: R410 ; shard. -/
  | qmReclaimDone (h : Nat)
  /-- CQP_FLOW_WRITE_LATCH: R389 ; region, capture port. -/
  | cqpFlowWriteLatch (r i : Nat)
  /-- CQP_SEGMENT_SEND: R390 ; region, capture port. -/
  | cqpSegmentSend (r i : Nat)
  /-- CQP_READ_PAIR_ISSUE: R393 ; region, capture port. -/
  | cqpReadPairIssue (r i : Nat)
  /-- CQP_READ_PAIR_RESPONSE: R393 ; region, capture port. -/
  | cqpReadPairResponse (r i : Nat)
  /-- CQP_FLOW_READ_ACK: R392 ; region, capture port. -/
  | cqpFlowReadAck (r i : Nat)
  /-- LANE_EN_SET: R427 ; requester, lane, data for LN_CTL, in which EN is written 1. -/
  | laneEnSet (req n : Nat) (value : BitVec 32)
  /-- LANE_EN_CLEAR: R430 ; requester, lane, data for LN_CTL, in which EN is written 0, whether a packet had begun in the codewords that
  the port was receiving. -/
  | laneEnClear (req n : Nat) (value : BitVec 32) (mid : Bool)
  /-- LANE_PWRUP_DONE: R437 ; lane. -/
  | lanePwrupDone (n : Nat)
  /-- LANE_TRAINING_FRAMES_SEEN: R427 ; lane. -/
  | laneTrainingFramesSeen (n : Nat)
  /-- LANE_TRAIN_DONE: R427 ; lane; by lane the transmit coefficients and receiver codes that training has set (as in LN_TXEQ and LN_RXEQ), and whether the partner has asked for precoding. -/
  | laneTrainDone (n : Nat) (eq : List (Nat × Nat × Nat × Bool))
  /-- LANE_LOCK_DONE: R427 ; lane; by lane its lead over the latest lane of the port, in 0.1 ns. -/
  | laneLockDone (n : Nat) (skew : List (Nat × Nat))
  /-- LANE_TRAINING_TIMEOUT: R427 ; lane. -/
  | laneTrainingTimeout (n : Nat)
  /-- LANE_DOWN: R428 ; lane; 0 loss of signal, 1 eight uncorrectable codewords, 2 skew, 3 training frames;
  whether a packet had begun in the codewords that the port was receiving. -/
  | laneDown (n cause : Nat) (mid : Bool)
  /-- LANE_FREQ_CHECK: R421 ; lane, magnitude of the frequency offset in ppm, whether a packet had begun in the codewords that the port was
  receiving. -/
  | laneFreqCheck (n ppm : Nat) (mid : Bool)
  /-- CODEWORD_RECEIVE: R417 ; lane, the levels received for the 514 message symbols and those for the 30 parity symbols, the first in
  the low bits (2,570 and 150 of two bits at full rate, 5,140 and 300 of one at half rate), whether a packet had begun in the codewords
  that the port was receiving. -/
  | codewordReceive (n message parity : Nat) (mid : Bool)
  /-- LANE_RETRAIN: R428 ; requester, lane, whether a packet had begun in the codewords that the port was receiving. -/
  | laneRetrain (req n : Nat) (mid : Bool)
  /-- LANE_LOOP_NEAR: R434 ; requester, lane. -/
  | laneLoopNear (req n : Nat)
  /-- LANE_PRBS_TX: R434 ; requester, lane. -/
  | lanePrbsTx (req n : Nat)
  /-- LANE_LOOP_EXIT: R434 ; requester, lane. -/
  | laneLoopExit (req n : Nat)
  /-- LANE_EYE_START: R436 ; requester, lane. -/
  | laneEyeStart (req n : Nat)
  /-- LANE_EYE_ABORT: R436 ; requester, lane. -/
  | laneEyeAbort (req n : Nat)
  /-- LANE_EYE_DONE: R436 ; lane, disagreements counted. -/
  | laneEyeDone (n count : Nat)
  /-- LANE_GROUP_CONFIG_WRITE: R423 ; requester, group, offset of the group register (0 LG_CFG, 4 LG_ROLE, 8 LG_BOND, 0xC LG_PEER), data. -/
  | laneGroupConfigWrite (req g off : Nat) (value : BitVec 32)
  /-- LANE_DOFS_WRITE: R433 ; requester, group, data. -/
  | laneDofsWrite (req g : Nat) (value : BitVec 32)
  /-- LANE_CNTCLR: R438 ; requester, lane. -/
  | laneCntclr (req n : Nat)
  /-- IDLIS_PACKET_RECEIVE: R446 ; head lane, the packet that comes next in its stream: bytes (16 where its header is not good), value,
  whether some lie in an errored block, whether a control block fell inside it, whether the buffer had room for its blocks. -/
  | idlisPacketReceive (n len v : Nat) (errored cut room : Bool)
  /-- IDLIS_DELIVERY: R447 ; head lane. -/
  | idlisDelivery (n : Nat)
  /-- IDLIS_PACKET_TRANSMIT: R440 ; head lane, the control blocks sent since the current data block was completed with FILL, if it was. -/
  | idlisPacketTransmit (n : Nat) (pause : Option Nat)
  /-- IDLIS_CREDIT_RECEIVE: R452 ; head lane, LIMIT of the CREDIT that comes next in its stream. -/
  | idlisCreditReceive (n limit : Nat)
  /-- IDLIS_CREDIT_SEND: R453 ; head lane. -/
  | idlisCreditSend (n : Nat)
  /-- DRIVE_FRAME_ARRIVAL: R456 ; lane hub, channel of its interface whose front packet is handled. -/
  | driveFrameArrival (g vc : Nat)
  /-- DRIVE_PACKET_GAP_CLOSE: R457 ; lane. -/
  | drivePacketGapClose (n : Nat)
  /-- DRIVE_DEADLINE_DISCARD: R450 ; head lane. -/
  | driveDeadlineDiscard (n : Nat)
  /-- CAPTURE_DELIVERY: R460 ; lane. -/
  | captureDelivery (n : Nat)
  /-- CAPTURE_CREDIT_WAIT_TIMEOUT: R461 ; lane. -/
  | captureCreditWaitTimeout (n : Nat)
  /-- STORE_REQUEST_SEND: R463 ; store transaction. -/
  | storeRequestSend (id : Nat)
  /-- STORE_COMPLETION_RECEIVE: R465 ; head lane, the completion that comes next in its stream: tag, status, length and value of its data. -/
  | storeCompletionReceive (n tag status : Nat) (data : Option (Nat × Nat))
  /-- STORE_TRANSACTION_TIMEOUT: R466 ; head lane, tag. -/
  | storeTransactionTimeout (n tag : Nat)
  /-- STORE_LINK_RESTORE: R467 ; requester, head lane. -/
  | storeLinkRestore (req n : Nat)
  /-- FWD_DELIVERY: R470 ; head lane. -/
  | fwdDelivery (n : Nat)
  /-- TUNNEL_ACCESS: R472 ; lane hub, channel of its interface whose front packet is handled. -/
  | tunnelAccess (g vc : Nat)
  /-- TUN_REQ_DELIVERY: R473 ; head lane. -/
  | tunReqDelivery (n : Nat)
  /-- TUN_REMOTE_RESPONSE: R473 ; head lane. -/
  | tunRemoteResponse (n : Nat)
  /-- TUN_RSP_DELIVERY: R474 ; head lane. -/
  | tunRspDelivery (n : Nat)
  /-- TUNNEL_XTAG_TIMEOUT: R474 ; head lane, XTAG. -/
  | tunnelXtagTimeout (n k : Nat)
  /-- PEER_TRIGGER_SEND: R475 ; head lane. -/
  | peerTriggerSend (n : Nat)
  /-- TRIG_DELIVERY: R476 ; head lane. -/
  | trigDelivery (n : Nat)
  /-- IDLIS_CNTCLR: R481 ; requester, head lane. -/
  | idlisCntclr (req n : Nat)
  /-- HOST_CONFIG_REQUEST: R484 ; port, direction, register of the configuration space, data. -/
  | hostConfigRequest (p : Nat) (write : Bool) (reg : ConfigReg) (value : BitVec 32)
  /-- HOST_READ: R488 ; port, BAR index, offset, bytes. -/
  | hostRead (p bar addr n : Nat)
  /-- HOST_WRITE: R487 ; port, BAR index, offset, bytes, data. -/
  | hostWrite (p bar addr n v : Nat)
  /-- HOST_Q_WINDOW_READ: R486 ; port, offset, bytes. -/
  | hostQWindowRead (p addr n : Nat)
  /-- HOST_PORT_RESET: R24 ; port, Function Level Reset rather than hot or link-down reset. -/
  | hostPortReset (p : Nat) (flr : Bool)
  /-- HOST_LINK_DOWN: R505 ; port. -/
  | hostLinkDown (p : Nat)
  /-- RESCUE_ACCESS: R492 ; port, direction, offset, bytes, data, whether a quench falls together with another cause. -/
  | rescueAccess (p : Nat) (write : Bool) (addr n v : Nat) (together : Bool)
  /-- RESCUE_TIMEOUT: R655 ; port, direction, offset. -/
  | rescueTimeout (p : Nat) (write : Bool) (addr : Nat)
  /-- RESCUE_REGION_ISOLATE: R173 ; port, region. -/
  | rescueRegionIsolate (p r : Nat)
  /-- RESCUE_REGION_RESET: R173 ; port, region. -/
  | rescueRegionReset (p r : Nat)
  /-- SEM_FORCE: R500 ; port, semaphore. -/
  | semForce (p sem : Nat)
  /-- RESCUE_QUENCH: R630 ; port, bank mask, whether the quench falls together with another cause. -/
  | rescueQuench (p mask : Nat) (together : Bool)
  /-- ST_ABORT: R597 ; port. -/
  | stAbort (p : Nat)
  /-- NOR_SUMMARY: R653 ; port. -/
  | norSummary (p : Nat)
  /-- CHIP_RESET: R494 ; port. -/
  | chipReset (p : Nat)
  /-- CHIP_RESET_ASSERT: R494 . -/
  | chipResetAssert
  /-- HSEM_ACQUIRE: R495 ; requester, semaphore, whether both host ports read it in this cycle. -/
  | hsemAcquire (req n : Nat) (both : Bool)
  /-- HSEM_RELEASE: R496 ; requester, semaphore, data. -/
  | hsemRelease (req n : Nat) (value : BitVec 32)
  /-- MSIX_MESSAGE_SEND: R502 ; port, vector. -/
  | msixMessageSend (p v : Nat)
  /-- HP_VACK_WRITE: R502 ; requester, port, data. -/
  | hpVackWrite (req p : Nat) (value : BitVec 64)
  /-- HP_DBSET_WRITE: R503 ; requester, port, data. -/
  | hpDbsetWrite (req p : Nat) (value : BitVec 32)
  /-- CFG_DATA_WRITE: R510 ; requester, offset in the aperture, bytes written, their value. -/
  | cfgDataWrite (req off n v : Nat)
  /-- CFG_SYNC: R506 . -/
  | cfgSync
  /-- CFG_NOP: R506 . -/
  | cfgNop
  /-- CFG_REGW_FAR: R518 . -/
  | cfgRegwFar
  /-- CFG_REGW_IDMASK: R511 . -/
  | cfgRegwIdmask
  /-- CFG_REGW_CTL: R512 . -/
  | cfgRegwCtl
  /-- CFG_REGW_KEYSEL: R529 . -/
  | cfgRegwKeysel
  /-- CFG_REGW_REGMAP: R535 . -/
  | cfgRegwRegmap
  /-- CFG_CMD_FRAME: R513 . -/
  | cfgCmdFrame
  /-- CFG_CMD_COMMIT: R526 . -/
  | cfgCmdCommit
  /-- CFG_CMD_START: R512 . -/
  | cfgCmdStart
  /-- CFG_CMD_END: R527 . -/
  | cfgCmdEnd
  /-- CFG_FDATA: R516 . -/
  | cfgFdata
  /-- CFG_FMASK: R517 . -/
  | cfgFmask
  /-- CFG_FZERO: R517 . -/
  | cfgFzero
  /-- CFG_CWR: R514 . -/
  | cfgCwr
  /-- CFG_CHUNK: R530 . -/
  | cfgChunk
  /-- CFG_HOST_ABORT: R528 ; requester. -/
  | cfgHostAbort (req : Nat)
  /-- CFG_HOST_PR_START: R536 ; requester, logical region, slot. -/
  | cfgHostPrStart (req : Nat) (l : BitVec 5) (k : BitVec 4)
  /-- PR_START_EFFECT: R536 . -/
  | prStartEffect
  /-- CFG_HOST_RUN_SLOT: R539 ; requester, slot. -/
  | cfgHostRunSlot (req : Nat) (k : BitVec 4)
  /-- CFG_SLOT_FIRST_READ: R539 . -/
  | cfgSlotFirstRead
  /-- CFG_REGMAP_W_WRITE: R535 ; requester, data. -/
  | cfgRegmapWWrite (req : Nat) (value : BitVec 32)
  /-- CFG_READBACK: R547 ; requester, data for CFG_RBFAR. -/
  | cfgReadback (req : Nat) (value : BitVec 32)
  /-- CFG_LISTENER_OVERFLOW: R534 . -/
  | cfgListenerOverflow
  /-- PAVANE_STAGE_2: R540 ; region. -/
  | pavaneStage2 (r : Nat)
  /-- PAVANE_STAGE_3: R540 ; region. -/
  | pavaneStage3 (r : Nat)
  /-- RESET_N_RISE: R549 ; whether REFCLK is present. -/
  | resetNRise (refclk : Bool)
  /-- RESET_N_FALL: R652 . -/
  | resetNFall
  /-- NOR_INIT: R553 ; whether the NOR meets the conditions, its bytes. -/
  | norInit (ok : Bool) (size : Nat)
  /-- JOURNAL_READ_AT_BOOT: R567 . -/
  | journalReadAtBoot
  /-- REFCLK_PRESENT: R551 . -/
  | refclkPresent
  /-- BOOT_REGION_POWER: R552 . -/
  | bootRegionPower
  /-- GALLIARD_IMAGE_ATTEMPT: R558 . -/
  | galliardImageAttempt
  /-- GALLIARD_HOST_WAIT_END: R560 . -/
  | galliardHostWaitEnd
  /-- BOOT_STREAM_END: R556 . -/
  | bootStreamEnd
  /-- BOOT_HOLD: R561 ; requester. -/
  | bootHold (req : Nat)
  /-- BOOT_RESUME: R561 ; requester. -/
  | bootResume (req : Nat)
  /-- LISTENER_NO_IMAGE_TIMEOUT: R564 . -/
  | listenerNoImageTimeout
  /-- LISTENER_BUS_READ: R563 ; address, bytes, their value as a little-endian number. -/
  | listenerBusRead (a n v : Nat)
  /-- JOURNAL_WRITE: R572 ; requester. -/
  | journalWrite (req : Nat)
  /-- JOURNAL_READ: R572 ; requester, key. -/
  | journalRead (req type dev part : Nat)
  /-- JOURNAL_OUTACK: R565 ; requester. -/
  | journalOutack (req : Nat)
  /-- JOURNAL_STORE: R570 ; readings of HOLD_SENSE in 0.5 mV, what the page reads back as if not exactly what was programmed. -/
  | journalStore (v1 v2 : Nat) (back : Option Nat)
  /-- HOLDUP_RETRY: R575 ; as JOURNAL_STORE. -/
  | holdupRetry (v1 v2 : Nat) (back : Option Nat)
  /-- POWER_LOSS_DURING_STORE: R574 . -/
  | powerLossDuringStore
  /-- NOR_RAW_READ: R581 ; requester. -/
  | norRawRead (req : Nat)
  /-- NOR_RAW_PROGRAM: R582 ; requester, FORCE. -/
  | norRawProgram (req : Nat) (force : Bool)
  /-- NOR_RAW_ERASE: R581 ; requester. -/
  | norRawErase (req : Nat)
  /-- NOR_RAW_BLANKCHK: R581 ; requester. -/
  | norRawBlankchk (req : Nat)
  /-- SLICE_START: R586 ; region. -/
  | sliceStart (r : Nat)
  /-- SLICE_COPY_DONE: R588 ; region, how long the slice has taken in µs. -/
  | sliceCopyDone (r dur : Nat)
  /-- SLICE_HANDOVER: R588 ; region, how long the slice has taken in µs. -/
  | sliceHandover (r dur : Nat)
  /-- SLICE_TEST_DONE: R599 ; region, whether the test passed, how long the slice has taken in µs. -/
  | sliceTestDone (r : Nat) (pass : Bool) (dur : Nat)
  /-- SLICE_RESTORE_DONE: R588 ; region, how long the slice has taken in µs. -/
  | sliceRestoreDone (r dur : Nat)
  /-- SLICE_HAND_BACK: R588 ; region, how long the slice has taken in µs. -/
  | sliceHandBack (r dur : Nat)
  /-- SLICE_WAIT_OUT_TIMEOUT: R594 ; region, how long the slice has taken in µs. -/
  | sliceWaitOutTimeout (r dur : Nat)
  /-- SLICE_ENGINE_WAIT_TIMEOUT: R596 ; region, how long the slice has taken in µs. -/
  | sliceEngineWaitTimeout (r dur : Nat)
  /-- FAILMAP_STORE_RETRY: R599 . -/
  | failmapStoreRetry
  /-- SELFTEST_SLICE: R587 ; requester, region, KIND, INDEX. -/
  | selftestSlice (req r kind idx : Nat)
  /-- SELFTEST_ABORT: R597 ; requester, region, ALL. -/
  | selftestAbort (req r : Nat) (all : Bool)
  /-- SELFTEST_REGION_TEST: R598 ; requester, region. -/
  | selftestRegionTest (req r : Nat)
  /-- REGION_TEST_DONE: R598 ; region, whether the test passed, how long it has taken in µs. -/
  | regionTestDone (r : Nat) (pass : Bool) (dur : Nat)
  /-- SELFTEST_ANALOG: R607 ; requester. -/
  | selftestAnalog (req : Nat)
  /-- SELFTEST_MARK_FAILED: R602 ; requester, region, KIND, INDEX. -/
  | selftestMarkFailed (req r kind idx : Nat)
  /-- SELFTEST_EYE_CHECK: R606 ; requester, lane, disagreements at −PHASE, +PHASE, −VOFS, +VOFS. -/
  | selftestEyeCheck (req n p0 p1 p2 p3 : Nat)
  /-- LANE_SELFTEST_SLICE: R606 ; lane, disagreements at −PHASE, +PHASE, −VOFS, +VOFS if it takes an eye check. -/
  | laneSelftestSlice (n p0 p1 p2 p3 : Nat)
  /-- LANE_NEAR_SLICE_END: R435 ; lane, pattern errors, whether the checker was locked throughout. -/
  | laneNearSliceEnd (n errors : Nat) (locked : Bool)
  /-- ANALOG_PART: R607 ; voltage references that disagree with both others, thermal sensors and supply monitors out of limit, failures of the diode, VCORE and hold-up checks, the diode's reading in 0.1 °C. -/
  | analogPart (bg : Nat) (ts : BitVec 32) (sup : BitVec 20) (diode vcore hold : Bool) (temp : BitVec 16)
  /-- LC_TRANSITION: R612 ; requester, TARGET, KEY. -/
  | lcTransition (req target : Nat) (key : BitVec 8)
  /-- LC_KEY_PROG: R614 ; requester, SLOT, KEY. -/
  | lcKeyProg (req slot : Nat) (key : BitVec 8)
  /-- LC_KEY_KILL: R614 ; requester, SLOT, KEY. -/
  | lcKeyKill (req slot : Nat) (key : BitVec 8)
  /-- BANK_FLOW_OUTPUT_TOKEN: R623 ; bank, pin. -/
  | bankFlowOutputToken (b p : Nat)
  /-- BANK_FLOW_INPUT_ACK: R624 ; bank, pin (2q for a GEARED pair), the level at its ball, none where nothing drives it. -/
  | bankFlowInputAck (b p : Nat) (level : Option Bool)
  /-- GEARED_OUTPUT_WORD: R625 ; bank, pair, whether it is a word boundary of the serialiser rather than a step of the handshake. -/
  | gearedOutputWord (b q : Nat) (boundary : Bool)
  /-- GEARED_INPUT_WORD: R625 ; bank, pair, the next eight bits received, the first of them in bit 0. -/
  | gearedInputWord (b q : Nat) (bits : BitVec 8)
  /-- BANK_BITSLIP: R625 ; requester, bank, pair. -/
  | bankBitslip (req b pair : Nat)
  /-- BANK_QUENCH: R630 ; requester, bank, whether it meets the cause before it at one instant. -/
  | bankQuench (req b : Nat) (together : Bool)
  /-- BANK_QCLR: R631 ; requester, bank, whether less than 1 ms has passed since the bank's latest quench. -/
  | bankQclr (req b : Nat) (recent : Bool)
  /-- CURRENT_LIMIT_EVENT: R630 ; bank, pin, whether it meets the cause before it at one instant. -/
  | currentLimitEvent (b p : Nat) (together : Bool)
  /-- BANK_SUPPLY_COLLAPSE: R626 ; bank, its VCCIO in mV, whether it meets the cause before it at one instant. -/
  | bankSupplyCollapse (b mv : Nat) (together : Bool)
  /-- BANK_SUPPLY_OUT_OF_RANGE: R627 ; bank, its VCCIO in mV. -/
  | bankSupplyOutOfRange (b mv : Nat)
  /-- BANK_SUPPLY_RETURN: R627 ; bank, its VCCIO in mV. -/
  | bankSupplyReturn (b mv : Nat)
  /-- CONTROL_PIN_INPUT_CHANGE: R635 ; control-pin index, level. -/
  | controlPinInputChange (n : Nat) (level : Bool)
  /-- CP_CFG_WRITE: R639 ; requester, control-pin index, data. -/
  | cpCfgWrite (req n : Nat) (value : BitVec 32)
  /-- TL_MAP_WRITE: R637 ; requester, trigger source, data. -/
  | tlMapWrite (req src : Nat) (value : BitVec 32)
  /-- INCIDENT_BUS_DELIVER: R641 ; SRC, SEV, CODE, ARG of the incident. -/
  | incidentBusDeliver (src sev code : Nat) (arg : BitVec 64)
  /-- INCIDENT_TAKE: R644 ; SRC of the port, whether the newest entry of the source was written less than CWIN before. -/
  | incidentTake (src : Nat) (recent : Bool)
  /-- RATE_TOKEN_REFILL: R646 ; SRC. -/
  | rateTokenRefill (src : Nat)
  /-- IL_RATE_WRITE: R646 ; requester, data. -/
  | ilRateWrite (req : Nat) (value : BitVec 32)
  /-- IL_ACK: R650 ; requester. -/
  | ilAck (req : Nat)
  /-- IL_CLEAR: R650 ; requester. -/
  | ilClear (req : Nat)
  /-- IL_ALMCLR: R651 ; requester, whether an event that sets the latch falls in the same housekeeping cycle. -/
  | ilAlmclr (req : Nat) (same : Bool)
  /-- IL_PM_ACK: R652 ; requester. -/
  | ilPmAck (req : Nat)
  /-- IL_CNTCLR: R650 ; requester. -/
  | ilCntclr (req : Nat)
  /-- SUMMARY_GAP_EXPIRY: R653 . -/
  | summaryGapExpiry
  /-- PWROK_RISE: R662 ; whether REFCLK is present. -/
  | pwrokRise (refclk : Bool)
  /-- MAIN_POWER_LOSS: R667 . -/
  | mainPowerLoss
  /-- VSTBY_LOSS: R667 . -/
  | vstbyLoss
  /-- VSTBY_RISE: R662 . -/
  | vstbyRise
  /-- SUPPLY_MONITOR_SAMPLE: R665 ; monitor (as in ST_SUPMASK; 20 for VHOLD), what it has read for 10 µs, in mV. -/
  | supplyMonitorSample (n mv : Nat)
  /-- THERMAL_SAMPLE: R670 ; the sensors' readings in 0.1 °C. -/
  | thermalSample (temps : List (BitVec 16))
  /-- THERMAL_WARNING_CLEAR: R671 . -/
  | thermalWarningClear
  /-- THERMAL_TRIP_HOLD_END: R672 . -/
  | thermalTripHoldEnd
  /-- WAKE_CHANGE: R669 ; the comparator's level. -/
  | wakeChange (level : Bool)
  /-- PWR_CTL_WRITE: R671 ; requester, data. -/
  | pwrCtlWrite (req : Nat) (value : BitVec 32)
  /-- IDLIS_RESYNC: R441 ; head lane. -/
  | idlisResync (n : Nat)
  /-- RETRY_STATUS_TIMEOUT: R484 . -/
  | retryStatusTimeout
  /-- HOST_LINK_UP: R502 ; port, negotiated speed code and width. -/
  | hostLinkUp (p : Nat) (speed : BitVec 3) (width : BitVec 4)
  /-- NOR_OPERATION_COMPLETE: R562 ; what the page of a raw program reads back as, if not what it should. -/
  | norOperationComplete (back : Option Nat)
  /-- TICK_MARK_PULSE_END: R89 . -/
  | tickMarkPulseEnd
  /-- STORE_TAG_QUARANTINE_END: R466 ; head lane, tag. -/
  | storeTagQuarantineEnd (n tag : Nat)
  /-- XTAG_QUARANTINE_END: R474 ; head lane, XTAG. -/
  | xtagQuarantineEnd (n k : Nat)
  /-- PRBS_CHECKER_LOCK: R434 ; lane, bit errors found since the checker's last event while it was locked, whether it is locked now. -/
  | prbsCheckerLock (n errors : Nat) (lock : Bool)
  /-- JTAG_INSTRUCTION: R610 ; the instruction code. -/
  | jtagInstruction (code : BitVec 8)
  /-- PIN_FILTER_SETTLE: R635 ; control-pin index. -/
  | pinFilterSettle (n : Nat)
  deriving DecidableEq, Repr

end Sys2Proof
end

