-- ==== Sys2Proof/Machine/Table.lean ====
section
/-! DEFINITION. Sparse tables: a list of (key, value) pairs with rising keys, in which a key that is not listed has a
default value. One canonical form: no entry equals its key's default (`Tbl.wf`). -/

namespace Sys2Proof.Machine

/-- A sparse table: pairs of a key and a value, keys strictly rising. -/
abbrev Tbl (α : Type) := List (Nat × α)

/-- The entry listed at key `k`, if one is. -/
def Tbl.find? {α : Type} : Tbl α → Nat → Option α
  | [], _ => none
  | (i, v) :: t, k => if i = k then some v else Tbl.find? t k

/-- The value at key `k`, `d` where nothing is listed. -/
def Tbl.get {α : Type} (d : α) (m : Tbl α) (k : Nat) : α := (Tbl.find? m k).getD d

/-- List `v` at key `k`, in its place. -/
def Tbl.insert {α : Type} : Tbl α → Nat → α → Tbl α
  | [], k, v => [(k, v)]
  | (i, w) :: t, k, v =>
    if i = k then (k, v) :: t
    else if k < i then (k, v) :: (i, w) :: t
    else (i, w) :: Tbl.insert t k v

/-- Remove what is listed at key `k`. -/
def Tbl.erase {α : Type} (m : Tbl α) (k : Nat) : Tbl α := m.filter (fun e => e.1 != k)

/-- Set key `k` to `v`, where `d` is the key's default: writing the default removes the entry. -/
def Tbl.put {α : Type} [DecidableEq α] (d : α) (m : Tbl α) (k : Nat) (v : α) : Tbl α :=
  if v = d then Tbl.erase m k else Tbl.insert m k v

/-- The keys rise strictly, and every one of them is above `lo`. -/
def Tbl.risingFrom {α : Type} : Nat → Tbl α → Bool
  | _, [] => true
  | lo, (k, _) :: t => decide (lo < k + 1) && Tbl.risingFrom (k + 1) t

/-- The canonical form: keys strictly rising, and no entry equal to its key's default `d k`. -/
def Tbl.wf {α : Type} [DecidableEq α] (d : Nat → α) (m : Tbl α) : Bool :=
  Tbl.risingFrom 0 m && m.all (fun e => decide (e.2 ≠ d e.1))

end Sys2Proof.Machine
end

