-- ==== Sys2Proof/Machine/Fields.lean ====
section
/-! DEFINITION. Register fields: their place in a register, their access codes (Table 0-2, R8), and the description of a
register that the register map lists. -/

namespace Sys2Proof.Machine

/-- A field of a register: the register's C-window address, the field's lowest bit and its width. -/
structure Fld where
  addr : Nat
  lo : Nat
  width : Nat
  deriving DecidableEq, Repr

/-- The access codes of Table 0-2 (R8). -/
inductive Access where
  | ro | rw | wo | w1c | w1s | rc | rwl
  deriving DecidableEq, Repr

/-- One field of a register description: lowest bit, width, access code. -/
structure FieldDesc where
  lo : Nat
  width : Nat
  access : Access
  deriving DecidableEq, Repr

/-- A register description: its name in the spec, the address of its first instance, the instances as (count, stride)
pairs, its width in bytes, its reset value and its fields. -/
structure RegDesc where
  name : String
  base : Nat
  dims : List (Nat × Nat)
  bytes : Nat
  reset : Nat
  fields : List FieldDesc
  deriving DecidableEq, Repr

/-- Does offset `off` lie at `below` bytes into some instance of dimensions `dims`? Answers the bytes into the instance,
and none if the offset is past the last one. A dimension of the list spans all that follow it. -/
def dimsOffset : List (Nat × Nat) → Nat → Option Nat
  | [], off => some off
  | (n, stride) :: ds, off =>
    if off / stride < n then dimsOffset ds (off % stride) else none

/-- The bytes of address `a` into an instance of the register at `base`, if `a` lies in one. -/
def instOffset (base : Nat) (dims : List (Nat × Nat)) (bytes a : Nat) : Option Nat :=
  if a < base then none
  else match dimsOffset dims (a - base) with
    | some o => if o < bytes then some o else none
    | none => none

/-- The bits of field `f` in the register value `v`. -/
def Fld.get (f : Fld) (v : Word64) : Nat := (v.extractLsb' f.lo f.width).toNat

/-- The mask of `width` ones from bit `lo`. -/
def fieldMask (lo width : Nat) : Word64 := BitVec.ofNat 64 (2 ^ width - 1) <<< lo

/-- The register value `v` with field `f` set to `x`, cut to the field's width. -/
def Fld.set (f : Fld) (x : Nat) (v : Word64) : Word64 :=
  (v &&& ~~~ fieldMask f.lo f.width) ||| ((BitVec.ofNat 64 x <<< f.lo) &&& fieldMask f.lo f.width)

/-- What a write of `new` leaves in one field of a register that holds `old` (Table 0-2). A locked field is judged
before (R680); here RWL is written like RW. -/
def FieldDesc.write (f : FieldDesc) (old new : Word64) : Word64 :=
  let m := fieldMask f.lo f.width
  match f.access with
  | .ro | .wo | .rc => old
  | .rw | .rwl => (old &&& ~~~ m) ||| (new &&& m)
  | .w1c => old &&& ~~~ (new &&& m)
  | .w1s => old ||| (new &&& m)

/-- What a write of `new` leaves in a register that holds `old`: every field by its access code, reserved bits as they
are (R6, R8). -/
def RegDesc.write (d : RegDesc) (old new : Word64) : Word64 :=
  d.fields.foldl (fun v f => f.write v new) old

/-- What a read returns of one field: 0 for a write-only one (Table 0-2). -/
def FieldDesc.readMask (f : FieldDesc) : Word64 :=
  match f.access with
  | .wo => 0
  | _ => fieldMask f.lo f.width

/-- What a read returns of a register that holds `v`: write-only fields and reserved bits read 0 (R6, R8). -/
def RegDesc.read (d : RegDesc) (v : Word64) : Word64 :=
  v &&& d.fields.foldl (fun m f => m ||| f.readMask) 0

/-- The RC fields of a register cleared, as a completed read leaves them (R9). -/
def RegDesc.clearRc (d : RegDesc) (v : Word64) : Word64 :=
  d.fields.foldl (fun v f => match f.access with
    | .rc => v &&& ~~~ fieldMask f.lo f.width
    | _ => v) v

/-- The field lies in a 64-bit register. -/
abbrev Fld.ok (f : Fld) : Prop := f.lo + f.width ≤ 64

/-- Two fields that share no bit: of different registers, or apart in one. -/
abbrev Fld.apart (f g : Fld) : Prop := f.addr ≠ g.addr ∨ f.lo + f.width ≤ g.lo ∨ g.lo + g.width ≤ f.lo

end Sys2Proof.Machine
end

