-- ==== Sys2Proof/Machine/RegMap.lean ====
section
/-! DEFINITION. The register map: every register of the spec's register tables, its address in the C-window, the
places of its fields, their access codes (Table 0-2) and their reset values. A register is named as the spec names it;
a field is named register_field. Arguments select the instance (region, queue, lane, ...). -/

namespace Sys2Proof.Machine.Reg

open Sys2Proof.Machine

/-! ## 02_tick.md -/

/-- 02_tick.md: Table 2-2. -/
def TICK_CTL : Nat := 0x20000
def TICK_CTL_RUN : Fld := ⟨TICK_CTL, 0, 1⟩
def TICK_CTL_START_ON_SYNC : Fld := ⟨TICK_CTL, 1, 1⟩

/-- 02_tick.md: Table 2-3. -/
def TICK_STATUS : Nat := 0x20004
def TICK_STATUS_RUNNING : Fld := ⟨TICK_STATUS, 0, 1⟩
def TICK_STATUS_PLL_LOCK : Fld := ⟨TICK_STATUS, 1, 1⟩
def TICK_STATUS_SYNC_WAIT : Fld := ⟨TICK_STATUS, 2, 1⟩
def TICK_STATUS_PLL_LOST : Fld := ⟨TICK_STATUS, 3, 1⟩

/-- 02_tick.md: Table 2-4, R40. -/
def TICK_PERIOD : Nat := 0x20008
def TICK_PERIOD_KM1 : Fld := ⟨TICK_PERIOD, 0, 16⟩

/-- 02_tick.md: Table 2-5. -/
def TICK_CMDSTAT : Nat := 0x2000c
def TICK_CMDSTAT_CODE : Fld := ⟨TICK_CMDSTAT, 0, 4⟩
def TICK_CMDSTAT_REQ : Fld := ⟨TICK_CMDSTAT, 8, 8⟩
def TICK_CMDSTAT_OFFSET : Fld := ⟨TICK_CMDSTAT, 16, 16⟩

/-- 02_tick.md: R39, R40. -/
def TICK_COUNT : Nat := 0x20010
def TICK_COUNT_COUNT : Fld := ⟨TICK_COUNT, 0, 64⟩

/-- 02_tick.md: R85. -/
def TICK_SYNC_LOAD : Nat := 0x20018
def TICK_SYNC_LOAD_LOAD : Fld := ⟨TICK_SYNC_LOAD, 0, 64⟩

/-- 02_tick.md: Table 2-18. -/
def TICK_SYNC_CTL : Nat := 0x20020
def TICK_SYNC_CTL_ARM : Fld := ⟨TICK_SYNC_CTL, 0, 1⟩
def TICK_SYNC_CTL_ARMED : Fld := ⟨TICK_SYNC_CTL, 1, 1⟩
def TICK_SYNC_CTL_SEEN : Fld := ⟨TICK_SYNC_CTL, 2, 1⟩
def TICK_SYNC_CTL_IGNORED : Fld := ⟨TICK_SYNC_CTL, 3, 1⟩

/-- 02_tick.md: Table 2-18, R89. -/
def TICK_MARK_CTL : Nat := 0x20024
def TICK_MARK_CTL_MLOG : Fld := ⟨TICK_MARK_CTL, 0, 6⟩
def TICK_MARK_CTL_WIDTH : Fld := ⟨TICK_MARK_CTL, 8, 8⟩
def TICK_MARK_CTL_EN : Fld := ⟨TICK_MARK_CTL, 16, 1⟩

/-- 02_tick.md: R54. -/
def SLK_WIN : Nat := 0x20028
def SLK_WIN_WLOG : Fld := ⟨SLK_WIN, 0, 5⟩

/-- 02_tick.md: R55. -/
def SLK_HIST_CFG : Nat := 0x2002c
def SLK_HIST_CFG_BASE : Fld := ⟨SLK_HIST_CFG, 0, 16⟩
def SLK_HIST_CFG_SHIFT : Fld := ⟨SLK_HIST_CFG, 16, 5⟩

/-- 02_tick.md: Table 2-13. -/
def SLACK_TGT : Nat := 0x20030
def SLACK_TGT_TGT : Fld := ⟨SLACK_TGT, 0, 16⟩

/-- 02_tick.md: Table 2-12. -/
def AVS_CTL : Nat := 0x20040
def AVS_CTL_EN : Fld := ⟨AVS_CTL, 0, 1⟩
def AVS_CTL_MODE : Fld := ⟨AVS_CTL, 1, 1⟩

/-- 02_tick.md: Table 2-12, R72. -/
def AVS_VSET : Nat := 0x20044
def AVS_VSET_VSET : Fld := ⟨AVS_VSET, 0, 16⟩

/-- 02_tick.md: Table 2-12, R64. -/
def AVS_LIMIT : Nat := 0x20048
def AVS_LIMIT_VMIN : Fld := ⟨AVS_LIMIT, 0, 16⟩
def AVS_LIMIT_VMAX : Fld := ⟨AVS_LIMIT, 16, 16⟩

/-- 02_tick.md: Table 2-13. -/
def AVS_STATUS : Nat := 0x2004c
def AVS_STATUS_VCMD : Fld := ⟨AVS_STATUS, 0, 16⟩
def AVS_STATUS_BUSY : Fld := ⟨AVS_STATUS, 16, 1⟩
def AVS_STATUS_AT_VMAX : Fld := ⟨AVS_STATUS, 17, 1⟩
def AVS_STATUS_AT_VMIN : Fld := ⟨AVS_STATUS, 18, 1⟩
def AVS_STATUS_FAULT : Fld := ⟨AVS_STATUS, 19, 1⟩
def AVS_STATUS_NOFLOOR : Fld := ⟨AVS_STATUS, 20, 1⟩

/-- 02_tick.md: Table 2-12. -/
def AVS_TUNE : Nat := 0x20050
def AVS_TUNE_INTERVAL : Fld := ⟨AVS_TUNE, 0, 4⟩
def AVS_TUNE_HYST : Fld := ⟨AVS_TUNE, 4, 8⟩
def AVS_TUNE_DNCNT : Fld := ⟨AVS_TUNE, 12, 8⟩
def AVS_TUNE_OVR_STEPS : Fld := ⟨AVS_TUNE, 20, 4⟩

/-- 02_tick.md: Table 2-18, R88. -/
def TICK_BCN_STATUS : Nat := 0x20060
def TICK_BCN_STATUS_MISMATCH : Fld := ⟨TICK_BCN_STATUS, 0, 7⟩
def TICK_BCN_STATUS_MISS : Fld := ⟨TICK_BCN_STATUS, 8, 7⟩
def TICK_BCN_STATUS_BCN_EN : Fld := ⟨TICK_BCN_STATUS, 16, 1⟩

/-- 02_tick.md: R77, Table 2-14. -/
def ACT_DONE : Nat := 0x20070
def ACT_DONE_DONE : Fld := ⟨ACT_DONE, 0, 64⟩

/-- 02_tick.md: Table 2-14. -/
def ACT_ARMED : Nat := 0x20078
def ACT_ARMED_ARMED : Fld := ⟨ACT_ARMED, 0, 64⟩

/-- 02_tick.md: Table 2-9. -/
def TR_CTL (r : Nat) : Nat := 0x21000 + 0x100 * r
def TR_CTL_TDIV (r : Nat) : Fld := ⟨TR_CTL r, 0, 2⟩
def TR_CTL_PHASE (r : Nat) : Fld := ⟨TR_CTL r, 2, 3⟩
def TR_CTL_POLICY (r : Nat) : Fld := ⟨TR_CTL r, 8, 1⟩
def TR_CTL_AVS_EXCL (r : Nat) : Fld := ⟨TR_CTL r, 9, 1⟩
def TR_CTL_HIST_EN (r : Nat) : Fld := ⟨TR_CTL r, 10, 1⟩
def TR_CTL_RESUME (r : Nat) : Fld := ⟨TR_CTL r, 16, 1⟩

/-- 02_tick.md: Table 2-10. -/
def TR_STATUS (r : Nat) : Nat := 0x21004 + 0x100 * r
def TR_STATUS_OVR (r : Nat) : Fld := ⟨TR_STATUS r, 0, 1⟩
def TR_STATUS_ENG_OVR (r : Nat) : Fld := ⟨TR_STATUS r, 1, 1⟩
def TR_STATUS_FROZEN_POL (r : Nat) : Fld := ⟨TR_STATUS r, 2, 1⟩
def TR_STATUS_STALE (r : Nat) : Fld := ⟨TR_STATUS r, 3, 1⟩
def TR_STATUS_PART (r : Nat) : Fld := ⟨TR_STATUS r, 4, 1⟩
def TR_STATUS_OVR_SAT (r : Nat) : Fld := ⟨TR_STATUS r, 5, 1⟩
def TR_STATUS_ENG_SAT (r : Nat) : Fld := ⟨TR_STATUS r, 6, 1⟩
def TR_STATUS_HIST_SAT (r : Nat) : Fld := ⟨TR_STATUS r, 7, 1⟩

/-- 02_tick.md: Table 2-15, R76. -/
def TR_FLOOR (r : Nat) : Nat := 0x21008 + 0x100 * r
def TR_FLOOR_FLOOR (r : Nat) : Fld := ⟨TR_FLOOR r, 0, 16⟩
def TR_FLOOR_LOCK (r : Nat) : Fld := ⟨TR_FLOOR r, 16, 1⟩
def TR_FLOOR_VALID (r : Nat) : Fld := ⟨TR_FLOOR r, 31, 1⟩

/-- 02_tick.md: Table 2-15, R74. -/
def TAR_CTL (r : Nat) : Nat := 0x2100c + 0x100 * r
def TAR_CTL_EN (r : Nat) : Fld := ⟨TAR_CTL r, 0, 1⟩
def TAR_CTL_TIMEOUT (r : Nat) : Fld := ⟨TAR_CTL r, 1, 1⟩
def TAR_CTL_LEVEL (r : Nat) : Fld := ⟨TAR_CTL r, 4, 5⟩
def TAR_CTL_TMAX (r : Nat) : Fld := ⟨TAR_CTL r, 16, 10⟩

/-- 02_tick.md: Table 2-7. -/
def SLK_LAST (r : Nat) : Nat := 0x21010 + 0x100 * r
def SLK_LAST_SLACK (r : Nat) : Fld := ⟨SLK_LAST r, 0, 25⟩
def SLK_LAST_OVR (r : Nat) : Fld := ⟨SLK_LAST r, 31, 1⟩

/-- 02_tick.md: Table 2-7. -/
def SLK_MIN_CUR (r : Nat) : Nat := 0x21014 + 0x100 * r
def SLK_MIN_CUR_SLACK (r : Nat) : Fld := ⟨SLK_MIN_CUR r, 0, 25⟩
def SLK_MIN_CUR_OVR (r : Nat) : Fld := ⟨SLK_MIN_CUR r, 31, 1⟩

/-- 02_tick.md: Table 2-7. -/
def SLK_MIN_WIN (r : Nat) : Nat := 0x21018 + 0x100 * r
def SLK_MIN_WIN_SLACK (r : Nat) : Fld := ⟨SLK_MIN_WIN r, 0, 25⟩
def SLK_MIN_WIN_OVR (r : Nat) : Fld := ⟨SLK_MIN_WIN r, 31, 1⟩

/-- 02_tick.md: Table 2-7. -/
def SLK_MIN_ALL (r : Nat) : Nat := 0x2101c + 0x100 * r
def SLK_MIN_ALL_SLACK (r : Nat) : Fld := ⟨SLK_MIN_ALL r, 0, 25⟩
def SLK_MIN_ALL_OVR (r : Nat) : Fld := ⟨SLK_MIN_ALL r, 31, 1⟩

/-- 02_tick.md: R56. -/
def OVR_COUNT (r : Nat) : Nat := 0x21020 + 0x100 * r
def OVR_COUNT_COUNT (r : Nat) : Fld := ⟨OVR_COUNT r, 0, 32⟩

/-- 02_tick.md: R56. -/
def OVR_ENG_COUNT (r : Nat) : Nat := 0x21024 + 0x100 * r
def OVR_ENG_COUNT_COUNT (r : Nat) : Fld := ⟨OVR_ENG_COUNT r, 0, 32⟩

/-- 02_tick.md: R56. -/
def OVR_LAST (r : Nat) : Nat := 0x21028 + 0x100 * r
def OVR_LAST_TICK (r : Nat) : Fld := ⟨OVR_LAST r, 0, 64⟩

/-- 02_tick.md: Table 2-8. -/
def TR_CLR (r : Nat) : Nat := 0x21030 + 0x100 * r
def TR_CLR_OVR (r : Nat) : Fld := ⟨TR_CLR r, 0, 1⟩
def TR_CLR_HIST (r : Nat) : Fld := ⟨TR_CLR r, 1, 1⟩
def TR_CLR_MIN (r : Nat) : Fld := ⟨TR_CLR r, 2, 1⟩

/-- 02_tick.md: R68. -/
def TR_ECLIM (r : Nat) : Nat := 0x21034 + 0x100 * r
def TR_ECLIM_LIM (r : Nat) : Fld := ⟨TR_ECLIM r, 0, 16⟩

/-- 02_tick.md: R68. -/
def TR_ENGMON (r : Nat) : Nat := 0x21038 + 0x100 * r
def TR_ENGMON_TEC (r : Nat) : Fld := ⟨TR_ENGMON r, 0, 16⟩
def TR_ENGMON_OVER (r : Nat) : Fld := ⟨TR_ENGMON r, 16, 1⟩

/-- 02_tick.md: R55. -/
def SLK_HIST (r b : Nat) : Nat := 0x21080 + 0x100 * r + 0x4 * b
def SLK_HIST_COUNT (r b : Nat) : Fld := ⟨SLK_HIST r b, 0, 32⟩

/-- 02_tick.md: Table 2-14. -/
def ACT_CTL (i : Nat) : Nat := 0x28000 + 0x20 * i
def ACT_CTL_ARM (i : Nat) : Fld := ⟨ACT_CTL i, 0, 1⟩
def ACT_CTL_CANCEL (i : Nat) : Fld := ⟨ACT_CTL i, 1, 1⟩
def ACT_CTL_RUN_LATE (i : Nat) : Fld := ⟨ACT_CTL i, 2, 1⟩
def ACT_CTL_TYPE (i : Nat) : Fld := ⟨ACT_CTL i, 4, 4⟩
def ACT_CTL_EVT (i : Nat) : Fld := ⟨ACT_CTL i, 8, 1⟩

/-- 02_tick.md: Table 2-14. -/
def ACT_STAT (i : Nat) : Nat := 0x28004 + 0x20 * i
def ACT_STAT_STATE (i : Nat) : Fld := ⟨ACT_STAT i, 0, 3⟩
def ACT_STAT_CODE (i : Nat) : Fld := ⟨ACT_STAT i, 4, 4⟩

/-- 02_tick.md: Table 2-14. -/
def ACT_TARGET (i : Nat) : Nat := 0x28008 + 0x20 * i
def ACT_TARGET_TARGET (i : Nat) : Fld := ⟨ACT_TARGET i, 0, 64⟩

/-- 02_tick.md: Table 2-14. -/
def ACT_ARG0 (i : Nat) : Nat := 0x28010 + 0x20 * i
def ACT_ARG0_ARG (i : Nat) : Fld := ⟨ACT_ARG0 i, 0, 32⟩

/-- 02_tick.md: Table 2-14. -/
def ACT_ARG1 (i : Nat) : Nat := 0x28014 + 0x20 * i
def ACT_ARG1_ARG (i : Nat) : Fld := ⟨ACT_ARG1 i, 0, 32⟩

/-- 02_tick.md: Table 2-14. -/
def ACT_EXEC (i : Nat) : Nat := 0x28018 + 0x20 * i
def ACT_EXEC_EXEC (i : Nat) : Fld := ⟨ACT_EXEC i, 0, 64⟩

/-- The registers of 02_tick.md, part 0. -/
def map_02_tick_0 : List RegDesc := [
  ⟨"TICK_CTL", 0x20000, [], 4, 0x0, [⟨0, 1, .rw⟩, ⟨1, 1, .rw⟩]⟩,
  ⟨"TICK_STATUS", 0x20004, [], 4, 0x0, [⟨0, 1, .ro⟩, ⟨1, 1, .ro⟩, ⟨2, 1, .ro⟩, ⟨3, 1, .w1c⟩]⟩,
  ⟨"TICK_PERIOD", 0x20008, [], 4, 0x7, [⟨0, 16, .rw⟩]⟩,
  ⟨"TICK_CMDSTAT", 0x2000c, [], 4, 0x0, [⟨0, 4, .ro⟩, ⟨8, 8, .ro⟩, ⟨16, 16, .ro⟩]⟩,
  ⟨"TICK_COUNT", 0x20010, [], 8, 0x0, [⟨0, 64, .rw⟩]⟩,
  ⟨"TICK_SYNC_LOAD", 0x20018, [], 8, 0x0, [⟨0, 64, .rw⟩]⟩,
  ⟨"TICK_SYNC_CTL", 0x20020, [], 4, 0x0, [⟨0, 1, .w1s⟩, ⟨1, 1, .ro⟩, ⟨2, 1, .w1c⟩, ⟨3, 1, .w1c⟩]⟩,
  ⟨"TICK_MARK_CTL", 0x20024, [], 4, 0x410, [⟨0, 6, .rw⟩, ⟨8, 8, .rw⟩, ⟨16, 1, .rw⟩]⟩,
  ⟨"SLK_WIN", 0x20028, [], 4, 0xa, [⟨0, 5, .rw⟩]⟩,
  ⟨"SLK_HIST_CFG", 0x2002c, [], 4, 0x30000, [⟨0, 16, .rw⟩, ⟨16, 5, .rw⟩]⟩,
  ⟨"SLACK_TGT", 0x20030, [], 4, 0x1e, [⟨0, 16, .rw⟩]⟩,
  ⟨"AVS_CTL", 0x20040, [], 4, 0x0, [⟨0, 1, .rw⟩, ⟨1, 1, .rw⟩]⟩,
  ⟨"AVS_VSET", 0x20044, [], 4, 0x2ee, [⟨0, 16, .rw⟩]⟩,
  ⟨"AVS_LIMIT", 0x20048, [], 4, 0x3520258, [⟨0, 16, .rw⟩, ⟨16, 16, .rw⟩]⟩,
  ⟨"AVS_STATUS", 0x2004c, [], 4, 0x2ee, [⟨0, 16, .ro⟩, ⟨16, 1, .ro⟩, ⟨17, 1, .w1c⟩, ⟨18, 1, .w1c⟩, ⟨19, 1, .w1c⟩, ⟨20, 1, .ro⟩]⟩,
  ⟨"AVS_TUNE", 0x20050, [], 4, 0x4080a2, [⟨0, 4, .rw⟩, ⟨4, 8, .rw⟩, ⟨12, 8, .rw⟩, ⟨20, 4, .rw⟩]⟩,
  ⟨"TICK_BCN_STATUS", 0x20060, [], 4, 0x10000, [⟨0, 7, .w1c⟩, ⟨8, 7, .w1c⟩, ⟨16, 1, .rw⟩]⟩,
  ⟨"ACT_DONE", 0x20070, [], 8, 0x0, [⟨0, 64, .w1c⟩]⟩,
  ⟨"ACT_ARMED", 0x20078, [], 8, 0x0, [⟨0, 64, .ro⟩]⟩,
  ⟨"TR_CTL", 0x21000, [(24, 0x100)], 4, 0x0, [⟨0, 2, .rw⟩, ⟨2, 3, .rw⟩, ⟨8, 1, .rw⟩, ⟨9, 1, .rw⟩, ⟨10, 1, .rw⟩, ⟨16, 1, .wo⟩]⟩,
  ⟨"TR_STATUS", 0x21004, [(24, 0x100)], 4, 0x0, [⟨0, 1, .w1c⟩, ⟨1, 1, .w1c⟩, ⟨2, 1, .ro⟩, ⟨3, 1, .ro⟩, ⟨4, 1, .ro⟩, ⟨5, 1, .w1c⟩, ⟨6, 1, .w1c⟩, ⟨7, 1, .w1c⟩]⟩,
  ⟨"TR_FLOOR", 0x21008, [(24, 0x100)], 4, 0x0, [⟨0, 16, .rwl⟩, ⟨16, 1, .w1s⟩, ⟨31, 1, .ro⟩]⟩,
  ⟨"TAR_CTL", 0x2100c, [(24, 0x100)], 4, 0x640000, [⟨0, 1, .rw⟩, ⟨1, 1, .w1c⟩, ⟨4, 5, .rw⟩, ⟨16, 10, .rw⟩]⟩,
  ⟨"SLK_LAST", 0x21010, [(24, 0x100)], 4, 0xffffff, [⟨0, 25, .ro⟩, ⟨31, 1, .ro⟩]⟩,
  ⟨"SLK_MIN_CUR", 0x21014, [(24, 0x100)], 4, 0xffffff, [⟨0, 25, .ro⟩, ⟨31, 1, .ro⟩]⟩,
  ⟨"SLK_MIN_WIN", 0x21018, [(24, 0x100)], 4, 0xffffff, [⟨0, 25, .ro⟩, ⟨31, 1, .ro⟩]⟩,
  ⟨"SLK_MIN_ALL", 0x2101c, [(24, 0x100)], 4, 0xffffff, [⟨0, 25, .ro⟩, ⟨31, 1, .ro⟩]⟩,
  ⟨"OVR_COUNT", 0x21020, [(24, 0x100)], 4, 0x0, [⟨0, 32, .ro⟩]⟩,
  ⟨"OVR_ENG_COUNT", 0x21024, [(24, 0x100)], 4, 0x0, [⟨0, 32, .ro⟩]⟩,
  ⟨"OVR_LAST", 0x21028, [(24, 0x100)], 8, 0x0, [⟨0, 64, .ro⟩]⟩,
  ⟨"TR_CLR", 0x21030, [(24, 0x100)], 4, 0x0, [⟨0, 1, .wo⟩, ⟨1, 1, .wo⟩, ⟨2, 1, .wo⟩]⟩,
  ⟨"TR_ECLIM", 0x21034, [(24, 0x100)], 4, 0x0, [⟨0, 16, .rw⟩]⟩,
  ⟨"TR_ENGMON", 0x21038, [(24, 0x100)], 4, 0x0, [⟨0, 16, .ro⟩, ⟨16, 1, .w1c⟩]⟩,
  ⟨"SLK_HIST", 0x21080, [(24, 0x100), (32, 0x4)], 4, 0x0, [⟨0, 32, .ro⟩]⟩,
  ⟨"ACT_CTL", 0x28000, [(64, 0x20)], 4, 0x0, [⟨0, 1, .w1s⟩, ⟨1, 1, .wo⟩, ⟨2, 1, .rw⟩, ⟨4, 4, .rw⟩, ⟨8, 1, .rw⟩]⟩,
  ⟨"ACT_STAT", 0x28004, [(64, 0x20)], 4, 0x0, [⟨0, 3, .ro⟩, ⟨4, 4, .ro⟩]⟩,
  ⟨"ACT_TARGET", 0x28008, [(64, 0x20)], 8, 0x0, [⟨0, 64, .rw⟩]⟩,
  ⟨"ACT_ARG0", 0x28010, [(64, 0x20)], 4, 0x0, [⟨0, 32, .rw⟩]⟩,
  ⟨"ACT_ARG1", 0x28014, [(64, 0x20)], 4, 0x0, [⟨0, 32, .rw⟩]⟩,
  ⟨"ACT_EXEC", 0x28018, [(64, 0x20)], 8, 0x0, [⟨0, 64, .ro⟩]⟩]

/-! ## 03_macrocells.md -/

/-- 03_macrocells.md: Table 3-10. -/
def BLK_ERR (r b : Nat) : Nat := 0x1008000 + 0x200000 * r + 0x10 * b
def BLK_ERR_ILL_MC (r b : Nat) : Fld := ⟨BLK_ERR r b, 0, 1⟩
def BLK_ERR_ILL_BI (r b : Nat) : Fld := ⟨BLK_ERR r b, 1, 1⟩
def BLK_ERR_XBAR_ILL (r b : Nat) : Fld := ⟨BLK_ERR r b, 2, 1⟩
def BLK_ERR_FLOW_PROT (r b : Nat) : Fld := ⟨BLK_ERR r b, 3, 1⟩
def BLK_ERR_OFFER_DROP (r b : Nat) : Fld := ⟨BLK_ERR r b, 4, 1⟩
def BLK_ERR_CFG_BAD (r b : Nat) : Fld := ⟨BLK_ERR r b, 5, 1⟩
def BLK_ERR_CFG_CHK (r b : Nat) : Fld := ⟨BLK_ERR r b, 6, 1⟩
def BLK_ERR_FRZ (r b : Nat) : Fld := ⟨BLK_ERR r b, 7, 1⟩
def BLK_ERR_LATE (r b : Nat) : Fld := ⟨BLK_ERR r b, 8, 1⟩
def BLK_ERR_CNT_SAT (r b : Nat) : Fld := ⟨BLK_ERR r b, 9, 1⟩
def BLK_ERR_FIRST_IDX (r b : Nat) : Fld := ⟨BLK_ERR r b, 16, 7⟩
def BLK_ERR_FIRST_BIT (r b : Nat) : Fld := ⟨BLK_ERR r b, 24, 4⟩

/-- 03_macrocells.md: Table 3-11. -/
def BLK_ERRCTL (r b : Nat) : Nat := 0x1008004 + 0x200000 * r + 0x10 * b
def BLK_ERRCTL_MASK (r b : Nat) : Fld := ⟨BLK_ERRCTL r b, 0, 7⟩
def BLK_ERRCTL_ESC (r b : Nat) : Fld := ⟨BLK_ERRCTL r b, 8, 1⟩

/-- 03_macrocells.md: Table 3-11. -/
def BLK_ERRCNT (r b : Nat) : Nat := 0x1008008 + 0x200000 * r + 0x10 * b
def BLK_ERRCNT_COUNT (r b : Nat) : Fld := ⟨BLK_ERRCNT r b, 0, 32⟩

/-- 03_macrocells.md: Table 3-11. -/
def BLK_ERRTICK (r b : Nat) : Nat := 0x100800c + 0x200000 * r + 0x10 * b
def BLK_ERRTICK_TICK (r b : Nat) : Fld := ⟨BLK_ERRTICK r b, 0, 32⟩

/-- The registers of 03_macrocells.md, part 0. -/
def map_03_macrocells_0 : List RegDesc := [
  ⟨"BLK_ERR", 0x1008000, [(24, 0x200000), (256, 0x10)], 4, 0x0, [⟨0, 1, .w1c⟩, ⟨1, 1, .w1c⟩, ⟨2, 1, .w1c⟩, ⟨3, 1, .w1c⟩, ⟨4, 1, .w1c⟩, ⟨5, 1, .w1c⟩, ⟨6, 1, .w1c⟩, ⟨7, 1, .w1c⟩, ⟨8, 1, .w1c⟩, ⟨9, 1, .w1c⟩, ⟨16, 7, .ro⟩, ⟨24, 4, .ro⟩]⟩,
  ⟨"BLK_ERRCTL", 0x1008004, [(24, 0x200000), (256, 0x10)], 4, 0x0, [⟨0, 7, .rw⟩, ⟨8, 1, .rw⟩]⟩,
  ⟨"BLK_ERRCNT", 0x1008008, [(24, 0x200000), (256, 0x10)], 4, 0x0, [⟨0, 32, .ro⟩]⟩,
  ⟨"BLK_ERRTICK", 0x100800c, [(24, 0x200000), (256, 0x10)], 4, 0x0, [⟨0, 32, .ro⟩]⟩]

/-! ## 04_crossbars_and_regions.md -/

/-- 04_crossbars_and_regions.md: Table 4-16. -/
def REG_CMD (r : Nat) : Nat := 0x1000000 + 0x200000 * r
def REG_CMD_CMD (r : Nat) : Fld := ⟨REG_CMD r, 0, 4⟩

/-- 04_crossbars_and_regions.md: Table 4-16. -/
def REG_CMDSTAT (r : Nat) : Nat := 0x1000004 + 0x200000 * r
def REG_CMDSTAT_CODE_IMM (r : Nat) : Fld := ⟨REG_CMDSTAT r, 0, 4⟩
def REG_CMDSTAT_CMD_IMM (r : Nat) : Fld := ⟨REG_CMDSTAT r, 4, 4⟩
def REG_CMDSTAT_CODE_TICK (r : Nat) : Fld := ⟨REG_CMDSTAT r, 8, 4⟩
def REG_CMDSTAT_CMD_TICK (r : Nat) : Fld := ⟨REG_CMDSTAT r, 12, 4⟩
def REG_CMDSTAT_PEND (r : Nat) : Fld := ⟨REG_CMDSTAT r, 16, 1⟩
def REG_CMDSTAT_REQ (r : Nat) : Fld := ⟨REG_CMDSTAT r, 24, 8⟩

/-- 04_crossbars_and_regions.md: Table 4-17. -/
def REG_STATUS (r : Nat) : Nat := 0x1000008 + 0x200000 * r
def REG_STATUS_STATE (r : Nat) : Fld := ⟨REG_STATUS r, 0, 3⟩
def REG_STATUS_PAVANE (r : Nat) : Fld := ⟨REG_STATUS r, 4, 2⟩
def REG_STATUS_CFG_OK (r : Nat) : Fld := ⟨REG_STATUS r, 6, 1⟩
def REG_STATUS_PEND (r : Nat) : Fld := ⟨REG_STATUS r, 7, 1⟩
def REG_STATUS_EDGE_USED (r : Nat) : Fld := ⟨REG_STATUS r, 8, 4⟩

/-- 04_crossbars_and_regions.md: Table 4-21. -/
def REG_LMAP (r : Nat) : Nat := 0x100000c + 0x200000 * r
def REG_LMAP_LOGICAL (r : Nat) : Fld := ⟨REG_LMAP r, 0, 5⟩
def REG_LMAP_MAPPED (r : Nat) : Fld := ⟨REG_LMAP r, 31, 1⟩

/-- 04_crossbars_and_regions.md: Table 4-18. -/
def REG_ERR (r : Nat) : Nat := 0x1000010 + 0x200000 * r
def REG_ERR_BLK (r : Nat) : Fld := ⟨REG_ERR r, 0, 1⟩
def REG_ERR_BM (r : Nat) : Fld := ⟨REG_ERR r, 1, 1⟩
def REG_ERR_ENG (r : Nat) : Fld := ⟨REG_ERR r, 2, 1⟩
def REG_ERR_RTR (r : Nat) : Fld := ⟨REG_ERR r, 3, 1⟩
def REG_ERR_SPINE_ILL (r : Nat) : Fld := ⟨REG_ERR r, 4, 1⟩
def REG_ERR_XSEL_BAD (r : Nat) : Fld := ⟨REG_ERR r, 5, 1⟩
def REG_ERR_RQ_BAD (r : Nat) : Fld := ⟨REG_ERR r, 6, 1⟩
def REG_ERR_ARB_TMO (r : Nat) : Fld := ⟨REG_ERR r, 7, 1⟩
def REG_ERR_ARB_ARG (r : Nat) : Fld := ⟨REG_ERR r, 8, 1⟩
def REG_ERR_MAP_BAD (r : Nat) : Fld := ⟨REG_ERR r, 9, 1⟩
def REG_ERR_FRZ (r : Nat) : Fld := ⟨REG_ERR r, 10, 1⟩
def REG_ERR_CNT_SAT (r : Nat) : Fld := ⟨REG_ERR r, 11, 1⟩

/-- 04_crossbars_and_regions.md: Table 4-19. -/
def REG_ERRCTL (r : Nat) : Nat := 0x1000014 + 0x200000 * r
def REG_ERRCTL_MASK (r : Nat) : Fld := ⟨REG_ERRCTL r, 0, 10⟩
def REG_ERRCTL_ESC (r : Nat) : Fld := ⟨REG_ERRCTL r, 16, 1⟩

/-- 04_crossbars_and_regions.md: Table 4-19. -/
def REG_ERRCNT (r : Nat) : Nat := 0x1000018 + 0x200000 * r
def REG_ERRCNT_COUNT (r : Nat) : Fld := ⟨REG_ERRCNT r, 0, 32⟩

/-- 04_crossbars_and_regions.md: Table 4-19. -/
def REG_ERRTICK (r : Nat) : Nat := 0x100001c + 0x200000 * r
def REG_ERRTICK_TICK (r : Nat) : Fld := ⟨REG_ERRTICK r, 0, 32⟩

/-- 04_crossbars_and_regions.md: Table 4-19. -/
def REG_ERRLOC (r : Nat) : Nat := 0x1000020 + 0x200000 * r
def REG_ERRLOC_BIT (r : Nat) : Fld := ⟨REG_ERRLOC r, 0, 4⟩
def REG_ERRLOC_UNIT (r : Nat) : Fld := ⟨REG_ERRLOC r, 4, 8⟩
def REG_ERRLOC_SIG (r : Nat) : Fld := ⟨REG_ERRLOC r, 12, 10⟩

/-- 04_crossbars_and_regions.md: Table 4-11. -/
def ARB_CTL (r : Nat) : Nat := 0x1000040 + 0x200000 * r
def ARB_CTL_AGE_LIM (r : Nat) : Fld := ⟨ARB_CTL r, 0, 8⟩
def ARB_CTL_TMOLOG (r : Nat) : Fld := ⟨ARB_CTL r, 8, 5⟩

/-- 04_crossbars_and_regions.md: Table 4-11. -/
def ARB_STATUS (r : Nat) : Nat := 0x1000044 + 0x200000 * r
def ARB_STATUS_BLOCKED (r : Nat) : Fld := ⟨ARB_STATUS r, 0, 32⟩

/-- 04_crossbars_and_regions.md: Table 4-11. -/
def ARB_TGT (r t : Nat) : Nat := 0x1000080 + 0x200000 * r + 0x4 * t
def ARB_TGT_CLASS (r t : Nat) : Fld := ⟨ARB_TGT r t, 0, 4⟩
def ARB_TGT_UNIT (r t : Nat) : Fld := ⟨ARB_TGT r t, 4, 8⟩
def ARB_TGT_RLEN (r t : Nat) : Fld := ⟨ARB_TGT r t, 12, 4⟩
def ARB_TGT_EN (r t : Nat) : Fld := ⟨ARB_TGT r t, 16, 1⟩

/-- 04_crossbars_and_regions.md: Table 4-15. -/
def BLK_SUM (r i : Nat) : Nat := 0x1000100 + 0x200000 * r + 0x4 * i
def BLK_SUM_SUM (r i : Nat) : Fld := ⟨BLK_SUM r i, 0, 32⟩

/-- 04_crossbars_and_regions.md: Table 4-15. -/
def BM_SUM (r i : Nat) : Nat := 0x1000120 + 0x200000 * r + 0x4 * i
def BM_SUM_SUM (r i : Nat) : Fld := ⟨BM_SUM r i, 0, 32⟩

/-- 04_crossbars_and_regions.md: Table 4-15. -/
def ENG_SUM (r : Nat) : Nat := 0x100012c + 0x200000 * r
def ENG_SUM_SUM (r : Nat) : Fld := ⟨ENG_SUM r, 0, 4⟩

/-- The registers of 04_crossbars_and_regions.md, part 0. -/
def map_04_crossbars_and_regions_0 : List RegDesc := [
  ⟨"REG_CMD", 0x1000000, [(24, 0x200000)], 4, 0x0, [⟨0, 4, .wo⟩]⟩,
  ⟨"REG_CMDSTAT", 0x1000004, [(24, 0x200000)], 4, 0x0, [⟨0, 4, .ro⟩, ⟨4, 4, .ro⟩, ⟨8, 4, .ro⟩, ⟨12, 4, .ro⟩, ⟨16, 1, .ro⟩, ⟨24, 8, .ro⟩]⟩,
  ⟨"REG_STATUS", 0x1000008, [(24, 0x200000)], 4, 0x0, [⟨0, 3, .ro⟩, ⟨4, 2, .ro⟩, ⟨6, 1, .ro⟩, ⟨7, 1, .ro⟩, ⟨8, 4, .ro⟩]⟩,
  ⟨"REG_LMAP", 0x100000c, [(24, 0x200000)], 4, 0x80000000, [⟨0, 5, .ro⟩, ⟨31, 1, .ro⟩]⟩,
  ⟨"REG_ERR", 0x1000010, [(24, 0x200000)], 4, 0x0, [⟨0, 1, .ro⟩, ⟨1, 1, .ro⟩, ⟨2, 1, .ro⟩, ⟨3, 1, .ro⟩, ⟨4, 1, .w1c⟩, ⟨5, 1, .w1c⟩, ⟨6, 1, .w1c⟩, ⟨7, 1, .w1c⟩, ⟨8, 1, .w1c⟩, ⟨9, 1, .w1c⟩, ⟨10, 1, .w1c⟩, ⟨11, 1, .w1c⟩]⟩,
  ⟨"REG_ERRCTL", 0x1000014, [(24, 0x200000)], 4, 0x0, [⟨0, 10, .rw⟩, ⟨16, 1, .rw⟩]⟩,
  ⟨"REG_ERRCNT", 0x1000018, [(24, 0x200000)], 4, 0x0, [⟨0, 32, .ro⟩]⟩,
  ⟨"REG_ERRTICK", 0x100001c, [(24, 0x200000)], 4, 0x0, [⟨0, 32, .ro⟩]⟩,
  ⟨"REG_ERRLOC", 0x1000020, [(24, 0x200000)], 4, 0x0, [⟨0, 4, .ro⟩, ⟨4, 8, .ro⟩, ⟨12, 10, .ro⟩]⟩,
  ⟨"ARB_CTL", 0x1000040, [(24, 0x200000)], 4, 0xe10, [⟨0, 8, .rw⟩, ⟨8, 5, .rw⟩]⟩,
  ⟨"ARB_STATUS", 0x1000044, [(24, 0x200000)], 4, 0x0, [⟨0, 32, .w1c⟩]⟩,
  ⟨"ARB_TGT", 0x1000080, [(24, 0x200000), (32, 0x4)], 4, 0x0, [⟨0, 4, .ro⟩, ⟨4, 8, .ro⟩, ⟨12, 4, .ro⟩, ⟨16, 1, .ro⟩]⟩,
  ⟨"BLK_SUM", 0x1000100, [(24, 0x200000), (8, 0x4)], 4, 0x0, [⟨0, 32, .ro⟩]⟩,
  ⟨"BM_SUM", 0x1000120, [(24, 0x200000), (3, 0x4)], 4, 0x0, [⟨0, 32, .ro⟩]⟩,
  ⟨"ENG_SUM", 0x100012c, [(24, 0x200000)], 4, 0x0, [⟨0, 4, .ro⟩]⟩]

/-! ## 05_block_memories.md -/

/-- 05_block_memories.md: Table 5-2. -/
def BM_CFG (r m : Nat) : Nat := 0x1000400 + 0x200000 * r + 0x10 * m
def BM_CFG_WIDTHA (r m : Nat) : Fld := ⟨BM_CFG r m, 0, 3⟩
def BM_CFG_MODEA (r m : Nat) : Fld := ⟨BM_CFG r m, 3, 2⟩
def BM_CFG_BEA (r m : Nat) : Fld := ⟨BM_CFG r m, 5, 1⟩
def BM_CFG_WIDTHB (r m : Nat) : Fld := ⟨BM_CFG r m, 8, 3⟩
def BM_CFG_MODEB (r m : Nat) : Fld := ⟨BM_CFG r m, 11, 2⟩
def BM_CFG_BEB (r m : Nat) : Fld := ⟨BM_CFG r m, 13, 1⟩
def BM_CFG_ECC (r m : Nat) : Fld := ⟨BM_CFG r m, 16, 2⟩

/-- 05_block_memories.md: Table 5-8. -/
def BM_CMD (r m : Nat) : Nat := 0x1000404 + 0x200000 * r + 0x10 * m
def BM_CMD_CLEAR (r m : Nat) : Fld := ⟨BM_CMD r m, 0, 1⟩

/-- 05_block_memories.md: Table 5-8. -/
def BM_STAT (r m : Nat) : Nat := 0x1000408 + 0x200000 * r + 0x10 * m
def BM_STAT_CODE (r m : Nat) : Fld := ⟨BM_STAT r m, 0, 4⟩
def BM_STAT_CLR_BUSY (r m : Nat) : Fld := ⟨BM_STAT r m, 4, 1⟩
def BM_STAT_COLL (r m : Nat) : Fld := ⟨BM_STAT r m, 5, 1⟩
def BM_STAT_COLL_SAT (r m : Nat) : Fld := ⟨BM_STAT r m, 6, 1⟩
def BM_STAT_PROT (r m : Nat) : Fld := ⟨BM_STAT r m, 7, 1⟩
def BM_STAT_PORT_ILL (r m : Nat) : Fld := ⟨BM_STAT r m, 8, 1⟩
def BM_STAT_CFG_BAD (r m : Nat) : Fld := ⟨BM_STAT r m, 9, 1⟩
def BM_STAT_SUB (r m : Nat) : Fld := ⟨BM_STAT r m, 10, 1⟩
def BM_STAT_VCNT (r m : Nat) : Fld := ⟨BM_STAT r m, 16, 10⟩

/-- 05_block_memories.md: Table 5-8. -/
def BM_COLLCNT (r m : Nat) : Nat := 0x100040c + 0x200000 * r + 0x10 * m
def BM_COLLCNT_COUNT (r m : Nat) : Fld := ⟨BM_COLLCNT r m, 0, 32⟩

/-- The registers of 05_block_memories.md, part 0. -/
def map_05_block_memories_0 : List RegDesc := [
  ⟨"BM_CFG", 0x1000400, [(24, 0x200000), (96, 0x10)], 4, 0x0, [⟨0, 3, .ro⟩, ⟨3, 2, .ro⟩, ⟨5, 1, .ro⟩, ⟨8, 3, .ro⟩, ⟨11, 2, .ro⟩, ⟨13, 1, .ro⟩, ⟨16, 2, .ro⟩]⟩,
  ⟨"BM_CMD", 0x1000404, [(24, 0x200000), (96, 0x10)], 4, 0x0, [⟨0, 1, .wo⟩]⟩,
  ⟨"BM_STAT", 0x1000408, [(24, 0x200000), (96, 0x10)], 4, 0x0, [⟨0, 4, .ro⟩, ⟨4, 1, .ro⟩, ⟨5, 1, .w1c⟩, ⟨6, 1, .w1c⟩, ⟨7, 1, .w1c⟩, ⟨8, 1, .w1c⟩, ⟨9, 1, .w1c⟩, ⟨10, 1, .ro⟩, ⟨16, 10, .ro⟩]⟩,
  ⟨"BM_COLLCNT", 0x100040c, [(24, 0x200000), (96, 0x10)], 4, 0x0, [⟨0, 32, .ro⟩]⟩]

/-! ## 06_memory_protection.md -/

/-- 06_memory_protection.md: Table 6-4. -/
def SCR_CTL (r : Nat) : Nat := 0x1000c00 + 0x200000 * r
def SCR_CTL_EN (r : Nat) : Fld := ⟨SCR_CTL r, 0, 1⟩
def SCR_CTL_FRAME_ESC (r : Nat) : Fld := ⟨SCR_CTL r, 1, 1⟩
def SCR_CTL_CE_LIM (r : Nat) : Fld := ⟨SCR_CTL r, 8, 8⟩

/-- 06_memory_protection.md: Table 6-4. -/
def SCR_RATE (r : Nat) : Nat := 0x1000c04 + 0x200000 * r
def SCR_RATE_PERIOD (r : Nat) : Fld := ⟨SCR_RATE r, 0, 16⟩

/-- 06_memory_protection.md: Table 6-4. -/
def SCR_STAT (r : Nat) : Nat := 0x1000c08 + 0x200000 * r
def SCR_STAT_ACTIVE (r : Nat) : Fld := ⟨SCR_STAT r, 0, 1⟩
def SCR_STAT_XCFG_CHK (r : Nat) : Fld := ⟨SCR_STAT r, 1, 1⟩
def SCR_STAT_FRZ (r : Nat) : Fld := ⟨SCR_STAT r, 2, 1⟩
def SCR_STAT_CNT_SAT (r : Nat) : Fld := ⟨SCR_STAT r, 3, 1⟩

/-- 06_memory_protection.md: Table 6-4. -/
def SCR_POS (r : Nat) : Nat := 0x1000c0c + 0x200000 * r
def SCR_POS_CLASS (r : Nat) : Fld := ⟨SCR_POS r, 0, 2⟩
def SCR_POS_INDEX (r : Nat) : Fld := ⟨SCR_POS r, 2, 16⟩

/-- 06_memory_protection.md: Table 6-4. -/
def SCR_CFGCE (r : Nat) : Nat := 0x1000c10 + 0x200000 * r
def SCR_CFGCE_COUNT (r : Nat) : Fld := ⟨SCR_CFGCE r, 0, 32⟩

/-- 06_memory_protection.md: Table 6-4. -/
def SCR_CFGUE (r : Nat) : Nat := 0x1000c14 + 0x200000 * r
def SCR_CFGUE_COUNT (r : Nat) : Fld := ⟨SCR_CFGUE r, 0, 32⟩

/-- 06_memory_protection.md: Table 6-4. -/
def SCR_SWEEPS (r : Nat) : Nat := 0x1000c18 + 0x200000 * r
def SCR_SWEEPS_COUNT (r : Nat) : Fld := ⟨SCR_SWEEPS r, 0, 32⟩

/-- 06_memory_protection.md: Table 6-5. -/
def BM_ECCSTAT (r m : Nat) : Nat := 0x1000e00 + 0x200000 * r + 0x8 * m
def BM_ECCSTAT_CE (r m : Nat) : Fld := ⟨BM_ECCSTAT r m, 0, 1⟩
def BM_ECCSTAT_UE (r m : Nat) : Fld := ⟨BM_ECCSTAT r m, 1, 1⟩
def BM_ECCSTAT_CFG_CHK (r m : Nat) : Fld := ⟨BM_ECCSTAT r m, 2, 1⟩
def BM_ECCSTAT_LIMIT (r m : Nat) : Fld := ⟨BM_ECCSTAT r m, 3, 1⟩
def BM_ECCSTAT_CNT_SAT (r m : Nat) : Fld := ⟨BM_ECCSTAT r m, 4, 1⟩
def BM_ECCSTAT_UECNT (r m : Nat) : Fld := ⟨BM_ECCSTAT r m, 8, 8⟩
def BM_ECCSTAT_CECNT (r m : Nat) : Fld := ⟨BM_ECCSTAT r m, 16, 16⟩

/-- 06_memory_protection.md: Table 6-6. -/
def BM_ECCADDR (r m : Nat) : Nat := 0x1000e04 + 0x200000 * r + 0x8 * m
def BM_ECCADDR_LOC (r m : Nat) : Fld := ⟨BM_ECCADDR r m, 0, 14⟩
def BM_ECCADDR_PART (r m : Nat) : Fld := ⟨BM_ECCADDR r m, 14, 2⟩
def BM_ECCADDR_MEM (r m : Nat) : Fld := ⟨BM_ECCADDR r m, 16, 2⟩
def BM_ECCADDR_SRC (r m : Nat) : Fld := ⟨BM_ECCADDR r m, 18, 3⟩
def BM_ECCADDR_KIND (r m : Nat) : Fld := ⟨BM_ECCADDR r m, 21, 1⟩

/-- 06_memory_protection.md: Table 6-5. -/
def ENG_ECCSTAT (r s : Nat) : Nat := 0x1001100 + 0x200000 * r + 0x8 * s
def ENG_ECCSTAT_CE (r s : Nat) : Fld := ⟨ENG_ECCSTAT r s, 0, 1⟩
def ENG_ECCSTAT_UE (r s : Nat) : Fld := ⟨ENG_ECCSTAT r s, 1, 1⟩
def ENG_ECCSTAT_CFG_CHK (r s : Nat) : Fld := ⟨ENG_ECCSTAT r s, 2, 1⟩
def ENG_ECCSTAT_LIMIT (r s : Nat) : Fld := ⟨ENG_ECCSTAT r s, 3, 1⟩
def ENG_ECCSTAT_CNT_SAT (r s : Nat) : Fld := ⟨ENG_ECCSTAT r s, 4, 1⟩
def ENG_ECCSTAT_UECNT (r s : Nat) : Fld := ⟨ENG_ECCSTAT r s, 8, 8⟩
def ENG_ECCSTAT_CECNT (r s : Nat) : Fld := ⟨ENG_ECCSTAT r s, 16, 16⟩

/-- 06_memory_protection.md: Table 6-6. -/
def ENG_ECCADDR (r s : Nat) : Nat := 0x1001104 + 0x200000 * r + 0x8 * s
def ENG_ECCADDR_LOC (r s : Nat) : Fld := ⟨ENG_ECCADDR r s, 0, 14⟩
def ENG_ECCADDR_PART (r s : Nat) : Fld := ⟨ENG_ECCADDR r s, 14, 2⟩
def ENG_ECCADDR_MEM (r s : Nat) : Fld := ⟨ENG_ECCADDR r s, 16, 2⟩
def ENG_ECCADDR_SRC (r s : Nat) : Fld := ⟨ENG_ECCADDR r s, 18, 3⟩
def ENG_ECCADDR_KIND (r s : Nat) : Fld := ⟨ENG_ECCADDR r s, 21, 1⟩

/-- 06_memory_protection.md: Table 6-8. -/
def QM_SCRCTL (q : Nat) : Nat := 0x23f000 + 0x40000 * q
def QM_SCRCTL_EN (q : Nat) : Fld := ⟨QM_SCRCTL q, 0, 1⟩
def QM_SCRCTL_PERIOD (q : Nat) : Fld := ⟨QM_SCRCTL q, 16, 16⟩

/-- 06_memory_protection.md: Table 6-8. -/
def QM_ECCSTAT (q : Nat) : Nat := 0x23f004 + 0x40000 * q
def QM_ECCSTAT_CE (q : Nat) : Fld := ⟨QM_ECCSTAT q, 0, 1⟩
def QM_ECCSTAT_UE (q : Nat) : Fld := ⟨QM_ECCSTAT q, 1, 1⟩
def QM_ECCSTAT_LINK_UE (q : Nat) : Fld := ⟨QM_ECCSTAT q, 2, 1⟩
def QM_ECCSTAT_CNT_SAT (q : Nat) : Fld := ⟨QM_ECCSTAT q, 3, 1⟩

/-- 06_memory_protection.md: Table 6-8. -/
def QM_ECCADDR (q : Nat) : Nat := 0x23f008 + 0x40000 * q
def QM_ECCADDR_CELL (q : Nat) : Fld := ⟨QM_ECCADDR q, 0, 16⟩
def QM_ECCADDR_WORD (q : Nat) : Fld := ⟨QM_ECCADDR q, 16, 5⟩
def QM_ECCADDR_KIND (q : Nat) : Fld := ⟨QM_ECCADDR q, 21, 1⟩

/-- 06_memory_protection.md: Table 6-8. -/
def QM_CECNT (q : Nat) : Nat := 0x23f00c + 0x40000 * q
def QM_CECNT_COUNT (q : Nat) : Fld := ⟨QM_CECNT q, 0, 32⟩

/-- 06_memory_protection.md: Table 6-8. -/
def QM_UECNT (q : Nat) : Nat := 0x23f010 + 0x40000 * q
def QM_UECNT_COUNT (q : Nat) : Fld := ⟨QM_UECNT q, 0, 32⟩

/-- The registers of 06_memory_protection.md, part 0. -/
def map_06_memory_protection_0 : List RegDesc := [
  ⟨"SCR_CTL", 0x1000c00, [(24, 0x200000)], 4, 0x1001, [⟨0, 1, .rw⟩, ⟨1, 1, .rw⟩, ⟨8, 8, .rw⟩]⟩,
  ⟨"SCR_RATE", 0x1000c04, [(24, 0x200000)], 4, 0x400, [⟨0, 16, .rw⟩]⟩,
  ⟨"SCR_STAT", 0x1000c08, [(24, 0x200000)], 4, 0x0, [⟨0, 1, .ro⟩, ⟨1, 1, .w1c⟩, ⟨2, 1, .w1c⟩, ⟨3, 1, .w1c⟩]⟩,
  ⟨"SCR_POS", 0x1000c0c, [(24, 0x200000)], 4, 0x0, [⟨0, 2, .ro⟩, ⟨2, 16, .ro⟩]⟩,
  ⟨"SCR_CFGCE", 0x1000c10, [(24, 0x200000)], 4, 0x0, [⟨0, 32, .ro⟩]⟩,
  ⟨"SCR_CFGUE", 0x1000c14, [(24, 0x200000)], 4, 0x0, [⟨0, 32, .ro⟩]⟩,
  ⟨"SCR_SWEEPS", 0x1000c18, [(24, 0x200000)], 4, 0x0, [⟨0, 32, .ro⟩]⟩,
  ⟨"BM_ECCSTAT", 0x1000e00, [(24, 0x200000), (96, 0x8)], 4, 0x0, [⟨0, 1, .w1c⟩, ⟨1, 1, .w1c⟩, ⟨2, 1, .w1c⟩, ⟨3, 1, .w1c⟩, ⟨4, 1, .w1c⟩, ⟨8, 8, .ro⟩, ⟨16, 16, .ro⟩]⟩,
  ⟨"BM_ECCADDR", 0x1000e04, [(24, 0x200000), (96, 0x8)], 4, 0x0, [⟨0, 14, .ro⟩, ⟨14, 2, .ro⟩, ⟨16, 2, .ro⟩, ⟨18, 3, .ro⟩, ⟨21, 1, .ro⟩]⟩,
  ⟨"ENG_ECCSTAT", 0x1001100, [(24, 0x200000), (4, 0x8)], 4, 0x0, [⟨0, 1, .w1c⟩, ⟨1, 1, .w1c⟩, ⟨2, 1, .w1c⟩, ⟨3, 1, .w1c⟩, ⟨4, 1, .w1c⟩, ⟨8, 8, .ro⟩, ⟨16, 16, .ro⟩]⟩,
  ⟨"ENG_ECCADDR", 0x1001104, [(24, 0x200000), (4, 0x8)], 4, 0x0, [⟨0, 14, .ro⟩, ⟨14, 2, .ro⟩, ⟨16, 2, .ro⟩, ⟨18, 3, .ro⟩, ⟨21, 1, .ro⟩]⟩,
  ⟨"QM_SCRCTL", 0x23f000, [(4, 0x40000)], 4, 0x1000001, [⟨0, 1, .rw⟩, ⟨16, 16, .rw⟩]⟩,
  ⟨"QM_ECCSTAT", 0x23f004, [(4, 0x40000)], 4, 0x0, [⟨0, 1, .w1c⟩, ⟨1, 1, .w1c⟩, ⟨2, 1, .w1c⟩, ⟨3, 1, .w1c⟩]⟩,
  ⟨"QM_ECCADDR", 0x23f008, [(4, 0x40000)], 4, 0x0, [⟨0, 16, .ro⟩, ⟨16, 5, .ro⟩, ⟨21, 1, .ro⟩]⟩,
  ⟨"QM_CECNT", 0x23f00c, [(4, 0x40000)], 4, 0x0, [⟨0, 32, .ro⟩]⟩,
  ⟨"QM_UECNT", 0x23f010, [(4, 0x40000)], 4, 0x0, [⟨0, 32, .ro⟩]⟩]

/-! ## 07_engines.md -/

/-- 07_engines.md: Table 7-17. -/
def ENG_CTL (r s : Nat) : Nat := 0x1130000 + 0x200000 * r + 0x40000 * s
def ENG_CTL_CMD (r s : Nat) : Fld := ⟨ENG_CTL r s, 0, 4⟩
def ENG_CTL_TASK (r s : Nat) : Fld := ⟨ENG_CTL r s, 4, 6⟩
def ENG_CTL_WHEN (r s : Nat) : Fld := ⟨ENG_CTL r s, 12, 1⟩
def ENG_CTL_ENTRY (r s : Nat) : Fld := ⟨ENG_CTL r s, 16, 12⟩

/-- 07_engines.md: Table 7-17. -/
def ENG_CMDSTAT (r s : Nat) : Nat := 0x1130004 + 0x200000 * r + 0x40000 * s
def ENG_CMDSTAT_CODE (r s : Nat) : Fld := ⟨ENG_CMDSTAT r s, 0, 4⟩
def ENG_CMDSTAT_CMD (r s : Nat) : Fld := ⟨ENG_CMDSTAT r s, 4, 4⟩
def ENG_CMDSTAT_REQ (r s : Nat) : Fld := ⟨ENG_CMDSTAT r s, 8, 8⟩
def ENG_CMDSTAT_OFFSET (r s : Nat) : Fld := ⟨ENG_CMDSTAT r s, 16, 16⟩

/-- 07_engines.md: Table 7-17. -/
def ENG_STATUS (r s : Nat) : Nat := 0x1130008 + 0x200000 * r + 0x40000 * s
def ENG_STATUS_STATE (r s : Nat) : Fld := ⟨ENG_STATUS r s, 0, 3⟩
def ENG_STATUS_BANK (r s : Nat) : Fld := ⟨ENG_STATUS r s, 3, 1⟩
def ENG_STATUS_SWAP_PEND (r s : Nat) : Fld := ⟨ENG_STATUS r s, 4, 1⟩
def ENG_STATUS_HALT_PEND (r s : Nat) : Fld := ⟨ENG_STATUS r s, 5, 1⟩
def ENG_STATUS_WAIT (r s : Nat) : Fld := ⟨ENG_STATUS r s, 6, 5⟩
def ENG_STATUS_INREP (r s : Nat) : Fld := ⟨ENG_STATUS r s, 11, 1⟩
def ENG_STATUS_LDEPTH (r s : Nat) : Fld := ⟨ENG_STATUS r s, 12, 2⟩
def ENG_STATUS_SUB (r s : Nat) : Fld := ⟨ENG_STATUS r s, 14, 1⟩
def ENG_STATUS_PC (r s : Nat) : Fld := ⟨ENG_STATUS r s, 16, 12⟩
def ENG_STATUS_CDEPTH (r s : Nat) : Fld := ⟨ENG_STATUS r s, 28, 3⟩

/-- 07_engines.md: Table 7-18. -/
def ENG_CFG (r s : Nat) : Nat := 0x113000c + 0x200000 * r + 0x40000 * s
def ENG_CFG_LOOPMODE (r s : Nat) : Fld := ⟨ENG_CFG r s, 0, 1⟩
def ENG_CFG_BANK0 (r s : Nat) : Fld := ⟨ENG_CFG r s, 1, 1⟩

/-- 07_engines.md: Table 7-18. -/
def ENG_FAULT (r s : Nat) : Nat := 0x1130010 + 0x200000 * r + 0x40000 * s
def ENG_FAULT_CAUSE (r s : Nat) : Fld := ⟨ENG_FAULT r s, 0, 4⟩
def ENG_FAULT_BANK (r s : Nat) : Fld := ⟨ENG_FAULT r s, 4, 1⟩
def ENG_FAULT_PC (r s : Nat) : Fld := ⟨ENG_FAULT r s, 16, 12⟩

/-- 07_engines.md: Table 7-18. -/
def ENG_ERR (r s : Nat) : Nat := 0x1130014 + 0x200000 * r + 0x40000 * s
def ENG_ERR_FAULT_EV (r s : Nat) : Fld := ⟨ENG_ERR r s, 0, 1⟩
def ENG_ERR_SI_PROT (r s : Nat) : Fld := ⟨ENG_ERR r s, 1, 1⟩
def ENG_ERR_SO_PROT (r s : Nat) : Fld := ⟨ENG_ERR r s, 2, 1⟩
def ENG_ERR_ILL (r s : Nat) : Fld := ⟨ENG_ERR r s, 3, 1⟩
def ENG_ERR_TASK_REF (r s : Nat) : Fld := ⟨ENG_ERR r s, 4, 1⟩
def ENG_ERR_TASK_DISC (r s : Nat) : Fld := ⟨ENG_ERR r s, 5, 1⟩
def ENG_ERR_NET_ERR (r s : Nat) : Fld := ⟨ENG_ERR r s, 6, 1⟩
def ENG_ERR_CNT_SAT (r s : Nat) : Fld := ⟨ENG_ERR r s, 7, 1⟩

/-- 07_engines.md: Table 7-18. -/
def ENG_ERRCTL (r s : Nat) : Nat := 0x1130018 + 0x200000 * r + 0x40000 * s
def ENG_ERRCTL_MASK (r s : Nat) : Fld := ⟨ENG_ERRCTL r s, 0, 7⟩

/-- 07_engines.md: Table 7-18. -/
def ENG_DBG (r s : Nat) : Nat := 0x113001c + 0x200000 * r + 0x40000 * s
def ENG_DBG_WINCHK (r s : Nat) : Fld := ⟨ENG_DBG r s, 0, 1⟩
def ENG_DBG_BPEN0 (r s : Nat) : Fld := ⟨ENG_DBG r s, 1, 1⟩
def ENG_DBG_BPEN1 (r s : Nat) : Fld := ⟨ENG_DBG r s, 2, 1⟩

/-- 07_engines.md: Table 7-19. -/
def ENG_TASKQ (r s : Nat) : Nat := 0x1130020 + 0x200000 * r + 0x40000 * s
def ENG_TASKQ_DEPTH (r s : Nat) : Fld := ⟨ENG_TASKQ r s, 0, 3⟩
def ENG_TASKQ_CUR (r s : Nat) : Fld := ⟨ENG_TASKQ r s, 8, 1⟩
def ENG_TASKQ_CURIDX (r s : Nat) : Fld := ⟨ENG_TASKQ r s, 16, 6⟩

/-- 07_engines.md: Table 7-19. -/
def ENG_TASKDONE (r s : Nat) : Nat := 0x1130024 + 0x200000 * r + 0x40000 * s
def ENG_TASKDONE_COUNT (r s : Nat) : Fld := ⟨ENG_TASKDONE r s, 0, 32⟩

/-- 07_engines.md: Table 7-19. -/
def ENG_TASKLATE (r s : Nat) : Nat := 0x1130028 + 0x200000 * r + 0x40000 * s
def ENG_TASKLATE_COUNT (r s : Nat) : Fld := ⟨ENG_TASKLATE r s, 0, 32⟩

/-- 07_engines.md: Table 7-19. -/
def ENG_TASKDISC (r s : Nat) : Nat := 0x113002c + 0x200000 * r + 0x40000 * s
def ENG_TASKDISC_COUNT (r s : Nat) : Fld := ⟨ENG_TASKDISC r s, 0, 32⟩

/-- 07_engines.md: Table 7-19. -/
def ENG_TASKREF (r s : Nat) : Nat := 0x1130030 + 0x200000 * r + 0x40000 * s
def ENG_TASKREF_COUNT (r s : Nat) : Fld := ⟨ENG_TASKREF r s, 0, 32⟩

/-- 07_engines.md: Table 7-19. -/
def ENG_CNTCLR (r s : Nat) : Nat := 0x1130034 + 0x200000 * r + 0x40000 * s
def ENG_CNTCLR_TASK (r s : Nat) : Fld := ⟨ENG_CNTCLR r s, 0, 1⟩
def ENG_CNTCLR_RET (r s : Nat) : Fld := ⟨ENG_CNTCLR r s, 1, 1⟩

/-- 07_engines.md: Table 7-19. -/
def ENG_NSTAT (r s : Nat) : Nat := 0x1130038 + 0x200000 * r + 0x40000 * s
def ENG_NSTAT_CODE (r s : Nat) : Fld := ⟨ENG_NSTAT r s, 0, 16⟩
def ENG_NSTAT_BUSY (r s : Nat) : Fld := ⟨ENG_NSTAT r s, 16, 4⟩

/-- 07_engines.md: Table 7-18. -/
def ENG_BP (r s b : Nat) : Nat := 0x1130040 + 0x200000 * r + 0x40000 * s + 0x4 * b
def ENG_BP_ADDR (r s b : Nat) : Fld := ⟨ENG_BP r s b, 0, 12⟩
def ENG_BP_BANK (r s b : Nat) : Fld := ⟨ENG_BP r s b, 12, 1⟩

/-- 07_engines.md: Table 7-19. -/
def ENG_RETIRED (r s : Nat) : Nat := 0x1130048 + 0x200000 * r + 0x40000 * s
def ENG_RETIRED_COUNT (r s : Nat) : Fld := ⟨ENG_RETIRED r s, 0, 64⟩

/-- 07_engines.md: Table 7-8. -/
def ENG_NDESC (r s d : Nat) : Nat := 0x1130200 + 0x200000 * r + 0x40000 * s + 0x10 * d
def ENG_NDESC_ROUTE (r s d : Nat) : Fld := ⟨ENG_NDESC r s d, 0, 6⟩
def ENG_NDESC_PRI (r s d : Nat) : Fld := ⟨ENG_NDESC r s d, 8, 2⟩

/-- 07_engines.md: Table 7-8. -/
def ENG_NADDR (r s d : Nat) : Nat := 0x1130208 + 0x200000 * r + 0x40000 * s + 0x10 * d
def ENG_NADDR_ADDR (r s d : Nat) : Fld := ⟨ENG_NADDR r s d, 0, 48⟩

/-- 07_engines.md: Table 7-10. -/
def ENG_TASK (r s t : Nat) : Nat := 0x1130400 + 0x200000 * r + 0x40000 * s + 0x8 * t
def ENG_TASK_ENTRY (r s t : Nat) : Fld := ⟨ENG_TASK r s t, 0, 12⟩
def ENG_TASK_WM1 (r s t : Nat) : Fld := ⟨ENG_TASK r s t, 16, 16⟩

/-- 07_engines.md: Table 7-10. -/
def ENG_TASKARG (r s t : Nat) : Nat := 0x1130404 + 0x200000 * r + 0x40000 * s + 0x8 * t
def ENG_TASKARG_ARG (r s t : Nat) : Fld := ⟨ENG_TASKARG r s t, 0, 32⟩

/-- The registers of 07_engines.md, part 0. -/
def map_07_engines_0 : List RegDesc := [
  ⟨"ENG_CTL", 0x1130000, [(24, 0x200000), (4, 0x40000)], 4, 0x0, [⟨0, 4, .wo⟩, ⟨4, 6, .wo⟩, ⟨12, 1, .wo⟩, ⟨16, 12, .wo⟩]⟩,
  ⟨"ENG_CMDSTAT", 0x1130004, [(24, 0x200000), (4, 0x40000)], 4, 0x0, [⟨0, 4, .ro⟩, ⟨4, 4, .ro⟩, ⟨8, 8, .ro⟩, ⟨16, 16, .ro⟩]⟩,
  ⟨"ENG_STATUS", 0x1130008, [(24, 0x200000), (4, 0x40000)], 4, 0x0, [⟨0, 3, .ro⟩, ⟨3, 1, .ro⟩, ⟨4, 1, .ro⟩, ⟨5, 1, .ro⟩, ⟨6, 5, .ro⟩, ⟨11, 1, .ro⟩, ⟨12, 2, .ro⟩, ⟨14, 1, .ro⟩, ⟨16, 12, .ro⟩, ⟨28, 3, .ro⟩]⟩,
  ⟨"ENG_CFG", 0x113000c, [(24, 0x200000), (4, 0x40000)], 4, 0x0, [⟨0, 1, .ro⟩, ⟨1, 1, .ro⟩]⟩,
  ⟨"ENG_FAULT", 0x1130010, [(24, 0x200000), (4, 0x40000)], 4, 0x0, [⟨0, 4, .ro⟩, ⟨4, 1, .ro⟩, ⟨16, 12, .ro⟩]⟩,
  ⟨"ENG_ERR", 0x1130014, [(24, 0x200000), (4, 0x40000)], 4, 0x0, [⟨0, 1, .w1c⟩, ⟨1, 1, .w1c⟩, ⟨2, 1, .w1c⟩, ⟨3, 1, .w1c⟩, ⟨4, 1, .w1c⟩, ⟨5, 1, .w1c⟩, ⟨6, 1, .w1c⟩, ⟨7, 1, .w1c⟩]⟩,
  ⟨"ENG_ERRCTL", 0x1130018, [(24, 0x200000), (4, 0x40000)], 4, 0x0, [⟨0, 7, .rw⟩]⟩,
  ⟨"ENG_DBG", 0x113001c, [(24, 0x200000), (4, 0x40000)], 4, 0x1, [⟨0, 1, .rw⟩, ⟨1, 1, .rw⟩, ⟨2, 1, .rw⟩]⟩,
  ⟨"ENG_TASKQ", 0x1130020, [(24, 0x200000), (4, 0x40000)], 4, 0x0, [⟨0, 3, .ro⟩, ⟨8, 1, .ro⟩, ⟨16, 6, .ro⟩]⟩,
  ⟨"ENG_TASKDONE", 0x1130024, [(24, 0x200000), (4, 0x40000)], 4, 0x0, [⟨0, 32, .ro⟩]⟩,
  ⟨"ENG_TASKLATE", 0x1130028, [(24, 0x200000), (4, 0x40000)], 4, 0x0, [⟨0, 32, .ro⟩]⟩,
  ⟨"ENG_TASKDISC", 0x113002c, [(24, 0x200000), (4, 0x40000)], 4, 0x0, [⟨0, 32, .ro⟩]⟩,
  ⟨"ENG_TASKREF", 0x1130030, [(24, 0x200000), (4, 0x40000)], 4, 0x0, [⟨0, 32, .ro⟩]⟩,
  ⟨"ENG_CNTCLR", 0x1130034, [(24, 0x200000), (4, 0x40000)], 4, 0x0, [⟨0, 1, .wo⟩, ⟨1, 1, .wo⟩]⟩,
  ⟨"ENG_NSTAT", 0x1130038, [(24, 0x200000), (4, 0x40000)], 4, 0x0, [⟨0, 16, .ro⟩, ⟨16, 4, .ro⟩]⟩,
  ⟨"ENG_BP", 0x1130040, [(24, 0x200000), (4, 0x40000), (2, 0x4)], 4, 0x0, [⟨0, 12, .rw⟩, ⟨12, 1, .rw⟩]⟩,
  ⟨"ENG_RETIRED", 0x1130048, [(24, 0x200000), (4, 0x40000)], 8, 0x0, [⟨0, 64, .ro⟩]⟩,
  ⟨"ENG_NDESC", 0x1130200, [(24, 0x200000), (4, 0x40000), (8, 0x10)], 4, 0x0, [⟨0, 6, .rw⟩, ⟨8, 2, .rw⟩]⟩,
  ⟨"ENG_NADDR", 0x1130208, [(24, 0x200000), (4, 0x40000), (8, 0x10)], 8, 0x0, [⟨0, 48, .rw⟩]⟩,
  ⟨"ENG_TASK", 0x1130400, [(24, 0x200000), (4, 0x40000), (64, 0x8)], 4, 0x0, [⟨0, 12, .rw⟩, ⟨16, 16, .rw⟩]⟩,
  ⟨"ENG_TASKARG", 0x1130404, [(24, 0x200000), (4, 0x40000), (64, 0x8)], 4, 0x0, [⟨0, 32, .rw⟩]⟩]

/-! ## 09_network.md -/

/-- 09_network.md: Table 9-7. -/
def NIP_CFG (r i : Nat) : Nat := 0x1000180 + 0x200000 * r + 0x8 * i
def NIP_CFG_TXMODE (r i : Nat) : Fld := ⟨NIP_CFG r i, 0, 2⟩
def NIP_CFG_RXMODE (r i : Nat) : Fld := ⟨NIP_CFG r i, 2, 2⟩
def NIP_CFG_ROUTE (r i : Nat) : Fld := ⟨NIP_CFG r i, 4, 6⟩
def NIP_CFG_PRI (r i : Nat) : Fld := ⟨NIP_CFG r i, 10, 2⟩
def NIP_CFG_CHAN (r i : Nat) : Fld := ⟨NIP_CFG r i, 12, 4⟩
def NIP_CFG_TXW (r i : Nat) : Fld := ⟨NIP_CFG r i, 16, 5⟩
def NIP_CFG_RXW (r i : Nat) : Fld := ⟨NIP_CFG r i, 21, 5⟩

/-- 09_network.md: Table 9-12. -/
def NIP_STAT (r i : Nat) : Nat := 0x1000184 + 0x200000 * r + 0x8 * i
def NIP_STAT_TX_DROP (r i : Nat) : Fld := ⟨NIP_STAT r i, 0, 1⟩
def NIP_STAT_RX_DROP (r i : Nat) : Fld := ⟨NIP_STAT r i, 1, 1⟩
def NIP_STAT_SAT (r i : Nat) : Fld := ⟨NIP_STAT r i, 2, 1⟩
def NIP_STAT_TXCNT (r i : Nat) : Fld := ⟨NIP_STAT r i, 16, 8⟩
def NIP_STAT_RXCNT (r i : Nat) : Fld := ⟨NIP_STAT r i, 24, 8⟩

/-- 09_network.md: Table 9-8. -/
def NET_SUM : Nat := 0x80000
def NET_SUM_SUM : Fld := ⟨NET_SUM, 0, 48⟩

/-- 09_network.md: Table 9-8. -/
def NET_ABS : Nat := 0x80008
def NET_ABS_ABS : Fld := ⟨NET_ABS, 0, 48⟩

/-- 09_network.md: Table 9-10. -/
def RTR_ID (n : Nat) : Nat := 0x90000 + 0x2000 * n
def RTR_ID_NODE (n : Nat) : Fld := ⟨RTR_ID n, 0, 6⟩
def RTR_ID_PORTS (n : Nat) : Fld := ⟨RTR_ID n, 8, 6⟩

/-- 09_network.md: Table 9-10. -/
def RTR_CTL (n : Nat) : Nat := 0x90004 + 0x2000 * n
def RTR_CTL_AGE_LIM (n : Nat) : Fld := ⟨RTR_CTL n, 0, 8⟩
def RTR_CTL_TMO_LIM (n : Nat) : Fld := ⟨RTR_CTL n, 8, 8⟩

/-- 09_network.md: Table 9-10. -/
def RTR_CMDSTAT (n : Nat) : Nat := 0x90008 + 0x2000 * n
def RTR_CMDSTAT_CODE (n : Nat) : Fld := ⟨RTR_CMDSTAT n, 0, 4⟩
def RTR_CMDSTAT_REQ (n : Nat) : Fld := ⟨RTR_CMDSTAT n, 8, 8⟩
def RTR_CMDSTAT_OFFSET (n : Nat) : Fld := ⟨RTR_CMDSTAT n, 16, 12⟩

/-- 09_network.md: Table 9-10. -/
def RTR_ERR (n : Nat) : Nat := 0x90010 + 0x2000 * n
def RTR_ERR_CRC_ERR (n : Nat) : Fld := ⟨RTR_ERR n, 0, 1⟩
def RTR_ERR_MALF (n : Nat) : Fld := ⟨RTR_ERR n, 1, 1⟩
def RTR_ERR_ROUTE_ERR (n : Nat) : Fld := ⟨RTR_ERR n, 2, 1⟩
def RTR_ERR_ABS_DROP (n : Nat) : Fld := ⟨RTR_ERR n, 3, 1⟩
def RTR_ERR_RST_DISC (n : Nat) : Fld := ⟨RTR_ERR n, 4, 1⟩
def RTR_ERR_ABS_TMO_EV (n : Nat) : Fld := ⟨RTR_ERR n, 5, 1⟩
def RTR_ERR_PEER_RST (n : Nat) : Fld := ⟨RTR_ERR n, 6, 1⟩
def RTR_ERR_CNT_SAT (n : Nat) : Fld := ⟨RTR_ERR n, 7, 1⟩

/-- 09_network.md: Table 9-10. -/
def RTR_ERRCTL (n : Nat) : Nat := 0x90014 + 0x2000 * n
def RTR_ERRCTL_MASK (n : Nat) : Fld := ⟨RTR_ERRCTL n, 0, 6⟩

/-- 09_network.md: Table 9-10. -/
def RTR_ERRLOC (n : Nat) : Nat := 0x90018 + 0x2000 * n
def RTR_ERRLOC_BIT (n : Nat) : Fld := ⟨RTR_ERRLOC n, 0, 4⟩
def RTR_ERRLOC_PORT (n : Nat) : Fld := ⟨RTR_ERRLOC n, 4, 3⟩
def RTR_ERRLOC_VC (n : Nat) : Fld := ⟨RTR_ERRLOC n, 8, 3⟩
def RTR_ERRLOC_RID (n : Nat) : Fld := ⟨RTR_ERRLOC n, 16, 8⟩

/-- 09_network.md: Table 9-10. -/
def RTR_CRCCNT (n : Nat) : Nat := 0x90020 + 0x2000 * n
def RTR_CRCCNT_COUNT (n : Nat) : Fld := ⟨RTR_CRCCNT n, 0, 32⟩

/-- 09_network.md: Table 9-10. -/
def RTR_MALFCNT (n : Nat) : Nat := 0x90024 + 0x2000 * n
def RTR_MALFCNT_COUNT (n : Nat) : Fld := ⟨RTR_MALFCNT n, 0, 32⟩

/-- 09_network.md: Table 9-10. -/
def RTR_ROUTECNT (n : Nat) : Nat := 0x90028 + 0x2000 * n
def RTR_ROUTECNT_COUNT (n : Nat) : Fld := ⟨RTR_ROUTECNT n, 0, 32⟩

/-- 09_network.md: Table 9-10. -/
def RTR_DISCCNT (n : Nat) : Nat := 0x9002c + 0x2000 * n
def RTR_DISCCNT_COUNT (n : Nat) : Fld := ⟨RTR_DISCCNT n, 0, 32⟩

/-- 09_network.md: Table 9-10. -/
def RTR_PSTAT (n p : Nat) : Nat := 0x90100 + 0x2000 * n + 0x10 * p
def RTR_PSTAT_STATE (n p : Nat) : Fld := ⟨RTR_PSTAT n p, 0, 2⟩
def RTR_PSTAT_PRESENT (n p : Nat) : Fld := ⟨RTR_PSTAT n p, 2, 1⟩
def RTR_PSTAT_BRIDGED (n p : Nat) : Fld := ⟨RTR_PSTAT n p, 3, 1⟩
def RTR_PSTAT_ABS_TMO (n p : Nat) : Fld := ⟨RTR_PSTAT n p, 4, 1⟩
def RTR_PSTAT_ABS_STATE (n p : Nat) : Fld := ⟨RTR_PSTAT n p, 5, 1⟩
def RTR_PSTAT_PEER_RESET (n p : Nat) : Fld := ⟨RTR_PSTAT n p, 6, 1⟩
def RTR_PSTAT_IN_RESET (n p : Nat) : Fld := ⟨RTR_PSTAT n p, 7, 1⟩
def RTR_PSTAT_TMOCNT (n p : Nat) : Fld := ⟨RTR_PSTAT n p, 8, 8⟩

/-- 09_network.md: Table 9-10. -/
def RTR_PCMD (n p : Nat) : Nat := 0x90104 + 0x2000 * n + 0x10 * p
def RTR_PCMD_RESTORE (n p : Nat) : Fld := ⟨RTR_PCMD n p, 0, 1⟩

/-- 09_network.md: Table 9-10. -/
def RTR_PFLITS (n p : Nat) : Nat := 0x90108 + 0x2000 * n + 0x10 * p
def RTR_PFLITS_COUNT (n p : Nat) : Fld := ⟨RTR_PFLITS n p, 0, 32⟩

/-- 09_network.md: Table 9-11. -/
def NI_CTL (n j : Nat) : Nat := 0x91000 + 0x2000 * n + 0x800 * j
def NI_CTL_TMO_US (n j : Nat) : Fld := ⟨NI_CTL n j, 0, 14⟩

/-- 09_network.md: Table 9-11. -/
def NI_STAT (n j : Nat) : Nat := 0x91004 + 0x2000 * n + 0x800 * j
def NI_STAT_OUTST (n j : Nat) : Fld := ⟨NI_STAT n j, 0, 11⟩
def NI_STAT_UP (n j : Nat) : Fld := ⟨NI_STAT n j, 16, 1⟩

/-- 09_network.md: Table 9-11. -/
def NI_ERR (n j : Nat) : Nat := 0x91008 + 0x2000 * n + 0x800 * j
def NI_ERR_TMO (n j : Nat) : Fld := ⟨NI_ERR n j, 0, 1⟩
def NI_ERR_LATE_RSP (n j : Nat) : Fld := ⟨NI_ERR n j, 1, 1⟩
def NI_ERR_MALF (n j : Nat) : Fld := ⟨NI_ERR n j, 2, 1⟩
def NI_ERR_POISON (n j : Nat) : Fld := ⟨NI_ERR n j, 3, 1⟩
def NI_ERR_RST (n j : Nat) : Fld := ⟨NI_ERR n j, 4, 1⟩
def NI_ERR_BAD_ROUTE (n j : Nat) : Fld := ⟨NI_ERR n j, 5, 1⟩
def NI_ERR_CNT_SAT (n j : Nat) : Fld := ⟨NI_ERR n j, 6, 1⟩

/-- 09_network.md: Table 9-11. -/
def NI_ERRCTL (n j : Nat) : Nat := 0x9100c + 0x2000 * n + 0x800 * j
def NI_ERRCTL_MASK (n j : Nat) : Fld := ⟨NI_ERRCTL n j, 0, 6⟩

/-- 09_network.md: Table 9-11. -/
def NI_TMOCNT (n j : Nat) : Nat := 0x91010 + 0x2000 * n + 0x800 * j
def NI_TMOCNT_COUNT (n j : Nat) : Fld := ⟨NI_TMOCNT n j, 0, 32⟩

/-- 09_network.md: Table 9-11. -/
def NI_LATECNT (n j : Nat) : Nat := 0x91014 + 0x2000 * n + 0x800 * j
def NI_LATECNT_COUNT (n j : Nat) : Fld := ⟨NI_LATECNT n j, 0, 32⟩

/-- 09_network.md: Table 9-11. -/
def NI_MALFCNT (n j : Nat) : Nat := 0x91018 + 0x2000 * n + 0x800 * j
def NI_MALFCNT_COUNT (n j : Nat) : Fld := ⟨NI_MALFCNT n j, 0, 32⟩

/-- 09_network.md: Table 9-11. -/
def NI_CMDSTAT (n j : Nat) : Nat := 0x9101c + 0x2000 * n + 0x800 * j
def NI_CMDSTAT_CODE (n j : Nat) : Fld := ⟨NI_CMDSTAT n j, 0, 4⟩
def NI_CMDSTAT_REQ (n j : Nat) : Fld := ⟨NI_CMDSTAT n j, 8, 8⟩
def NI_CMDSTAT_ENTRY (n j : Nat) : Fld := ⟨NI_CMDSTAT n j, 16, 6⟩

/-- 09_network.md: Table 9-11, R334. -/
def NI_RT (n j e : Nat) : Nat := 0x91400 + 0x2000 * n + 0x800 * j + 0x8 * e
def NI_RT_ROUTE (n j e : Nat) : Fld := ⟨NI_RT n j e, 0, 42⟩
def NI_RT_DST (n j e : Nat) : Fld := ⟨NI_RT n j e, 42, 6⟩
def NI_RT_VALID (n j e : Nat) : Fld := ⟨NI_RT n j e, 63, 1⟩

/-- The registers of 09_network.md, part 0. -/
def map_09_network_0 : List RegDesc := [
  ⟨"NIP_CFG", 0x1000180, [(24, 0x200000), (8, 0x8)], 4, 0x0, [⟨0, 2, .ro⟩, ⟨2, 2, .ro⟩, ⟨4, 6, .ro⟩, ⟨10, 2, .ro⟩, ⟨12, 4, .ro⟩, ⟨16, 5, .ro⟩, ⟨21, 5, .ro⟩]⟩,
  ⟨"NIP_STAT", 0x1000184, [(24, 0x200000), (8, 0x8)], 4, 0x0, [⟨0, 1, .w1c⟩, ⟨1, 1, .w1c⟩, ⟨2, 1, .w1c⟩, ⟨16, 8, .ro⟩, ⟨24, 8, .ro⟩]⟩,
  ⟨"NET_SUM", 0x80000, [], 8, 0x0, [⟨0, 48, .ro⟩]⟩,
  ⟨"NET_ABS", 0x80008, [], 8, 0x0, [⟨0, 48, .ro⟩]⟩,
  ⟨"RTR_ID", 0x90000, [(48, 0x2000)], 4, 0x0, [⟨0, 6, .ro⟩, ⟨8, 6, .ro⟩]⟩,
  ⟨"RTR_CTL", 0x90004, [(48, 0x2000)], 4, 0x410, [⟨0, 8, .rw⟩, ⟨8, 8, .rw⟩]⟩,
  ⟨"RTR_CMDSTAT", 0x90008, [(48, 0x2000)], 4, 0x0, [⟨0, 4, .ro⟩, ⟨8, 8, .ro⟩, ⟨16, 12, .ro⟩]⟩,
  ⟨"RTR_ERR", 0x90010, [(48, 0x2000)], 4, 0x0, [⟨0, 1, .w1c⟩, ⟨1, 1, .w1c⟩, ⟨2, 1, .w1c⟩, ⟨3, 1, .w1c⟩, ⟨4, 1, .w1c⟩, ⟨5, 1, .w1c⟩, ⟨6, 1, .w1c⟩, ⟨7, 1, .w1c⟩]⟩,
  ⟨"RTR_ERRCTL", 0x90014, [(48, 0x2000)], 4, 0x0, [⟨0, 6, .rw⟩]⟩,
  ⟨"RTR_ERRLOC", 0x90018, [(48, 0x2000)], 4, 0x0, [⟨0, 4, .ro⟩, ⟨4, 3, .ro⟩, ⟨8, 3, .ro⟩, ⟨16, 8, .ro⟩]⟩,
  ⟨"RTR_CRCCNT", 0x90020, [(48, 0x2000)], 4, 0x0, [⟨0, 32, .ro⟩]⟩,
  ⟨"RTR_MALFCNT", 0x90024, [(48, 0x2000)], 4, 0x0, [⟨0, 32, .ro⟩]⟩,
  ⟨"RTR_ROUTECNT", 0x90028, [(48, 0x2000)], 4, 0x0, [⟨0, 32, .ro⟩]⟩,
  ⟨"RTR_DISCCNT", 0x9002c, [(48, 0x2000)], 4, 0x0, [⟨0, 32, .ro⟩]⟩,
  ⟨"RTR_PSTAT", 0x90100, [(48, 0x2000), (6, 0x10)], 4, 0x0, [⟨0, 2, .ro⟩, ⟨2, 1, .ro⟩, ⟨3, 1, .ro⟩, ⟨4, 1, .ro⟩, ⟨5, 1, .ro⟩, ⟨6, 1, .w1c⟩, ⟨7, 1, .ro⟩, ⟨8, 8, .ro⟩]⟩,
  ⟨"RTR_PCMD", 0x90104, [(48, 0x2000), (6, 0x10)], 4, 0x0, [⟨0, 1, .wo⟩]⟩,
  ⟨"RTR_PFLITS", 0x90108, [(48, 0x2000), (6, 0x10)], 4, 0x0, [⟨0, 32, .ro⟩]⟩,
  ⟨"NI_CTL", 0x91000, [(48, 0x2000), (2, 0x800)], 4, 0x64, [⟨0, 14, .rw⟩]⟩,
  ⟨"NI_STAT", 0x91004, [(48, 0x2000), (2, 0x800)], 4, 0x0, [⟨0, 11, .ro⟩, ⟨16, 1, .ro⟩]⟩,
  ⟨"NI_ERR", 0x91008, [(48, 0x2000), (2, 0x800)], 4, 0x0, [⟨0, 1, .w1c⟩, ⟨1, 1, .w1c⟩, ⟨2, 1, .w1c⟩, ⟨3, 1, .w1c⟩, ⟨4, 1, .w1c⟩, ⟨5, 1, .w1c⟩, ⟨6, 1, .w1c⟩]⟩,
  ⟨"NI_ERRCTL", 0x9100c, [(48, 0x2000), (2, 0x800)], 4, 0x0, [⟨0, 6, .rw⟩]⟩,
  ⟨"NI_TMOCNT", 0x91010, [(48, 0x2000), (2, 0x800)], 4, 0x0, [⟨0, 32, .ro⟩]⟩,
  ⟨"NI_LATECNT", 0x91014, [(48, 0x2000), (2, 0x800)], 4, 0x0, [⟨0, 32, .ro⟩]⟩,
  ⟨"NI_MALFCNT", 0x91018, [(48, 0x2000), (2, 0x800)], 4, 0x0, [⟨0, 32, .ro⟩]⟩,
  ⟨"NI_CMDSTAT", 0x9101c, [(48, 0x2000), (2, 0x800)], 4, 0x0, [⟨0, 4, .ro⟩, ⟨8, 8, .ro⟩, ⟨16, 6, .ro⟩]⟩,
  ⟨"NI_RT", 0x91400, [(48, 0x2000), (2, 0x800), (64, 0x8)], 8, 0x0, [⟨0, 42, .rw⟩, ⟨42, 6, .rw⟩, ⟨63, 1, .rw⟩]⟩]

/-! ## 10_capture_queues.md -/

/-- 10_capture_queues.md: Table 10-17. -/
def CQP_CFG (r i : Nat) : Nat := 0x10001c0 + 0x200000 * r + 0x8 * i
def CQP_CFG_WMODE (r i : Nat) : Fld := ⟨CQP_CFG r i, 0, 2⟩
def CQP_CFG_RMODE (r i : Nat) : Fld := ⟨CQP_CFG r i, 2, 2⟩
def CQP_CFG_WQ (r i : Nat) : Fld := ⟨CQP_CFG r i, 4, 10⟩
def CQP_CFG_RQ (r i : Nat) : Fld := ⟨CQP_CFG r i, 14, 10⟩
def CQP_CFG_AUTOREL (r i : Nat) : Fld := ⟨CQP_CFG r i, 24, 1⟩

/-- 10_capture_queues.md: Table 10-17. -/
def CQP_STAT (r i : Nat) : Nat := 0x10001c4 + 0x200000 * r + 0x8 * i
def CQP_STAT_WDROP (r i : Nat) : Fld := ⟨CQP_STAT r i, 0, 1⟩
def CQP_STAT_RERR (r i : Nat) : Fld := ⟨CQP_STAT r i, 1, 1⟩
def CQP_STAT_SAT (r i : Nat) : Fld := ⟨CQP_STAT r i, 2, 1⟩
def CQP_STAT_WCNT (r i : Nat) : Fld := ⟨CQP_STAT r i, 16, 8⟩
def CQP_STAT_ECNT (r i : Nat) : Fld := ⟨CQP_STAT r i, 24, 8⟩

/-- 10_capture_queues.md: Table 10-22. -/
def QM_CTL (q : Nat) : Nat := 0x200000 + 0x40000 * q
def QM_CTL_NTHR (q : Nat) : Fld := ⟨QM_CTL q, 0, 13⟩
def QM_CTL_NEVT_EN (q : Nat) : Fld := ⟨QM_CTL q, 16, 1⟩

/-- 10_capture_queues.md: Table 10-22. -/
def QM_CMD (q : Nat) : Nat := 0x200004 + 0x40000 * q
def QM_CMD_CMD (q : Nat) : Fld := ⟨QM_CMD q, 0, 4⟩

/-- 10_capture_queues.md: Table 10-22. -/
def QM_CMDSTAT (q : Nat) : Nat := 0x200008 + 0x40000 * q
def QM_CMDSTAT_CODE (q : Nat) : Fld := ⟨QM_CMDSTAT q, 0, 4⟩
def QM_CMDSTAT_REQ (q : Nat) : Fld := ⟨QM_CMDSTAT q, 8, 8⟩
def QM_CMDSTAT_OFFSET (q : Nat) : Fld := ⟨QM_CMDSTAT q, 16, 12⟩

/-- 10_capture_queues.md: Table 10-22. -/
def QM_ERR (q : Nat) : Nat := 0x20000c + 0x40000 * q
def QM_ERR_SRC_BAD (q : Nat) : Fld := ⟨QM_ERR q, 0, 1⟩
def QM_ERR_EXHAUST (q : Nat) : Fld := ⟨QM_ERR q, 1, 1⟩
def QM_ERR_NOTE_LOST (q : Nat) : Fld := ⟨QM_ERR q, 2, 1⟩
def QM_ERR_STORE_ERR (q : Nat) : Fld := ⟨QM_ERR q, 3, 1⟩
def QM_ERR_MOD_DOWN (q : Nat) : Fld := ⟨QM_ERR q, 4, 1⟩
def QM_ERR_LINK_LOST (q : Nat) : Fld := ⟨QM_ERR q, 5, 1⟩
def QM_ERR_QBROKEN (q : Nat) : Fld := ⟨QM_ERR q, 6, 1⟩
def QM_ERR_CNT_SAT (q : Nat) : Fld := ⟨QM_ERR q, 7, 1⟩

/-- 10_capture_queues.md: Table 10-22. -/
def QM_ERRCTL (q : Nat) : Nat := 0x200010 + 0x40000 * q
def QM_ERRCTL_MASK (q : Nat) : Fld := ⟨QM_ERRCTL q, 0, 7⟩

/-- 10_capture_queues.md: Table 10-22. -/
def QM_POOL (q : Nat) : Nat := 0x200014 + 0x40000 * q
def QM_POOL_FREE (q : Nat) : Fld := ⟨QM_POOL q, 0, 17⟩
def QM_POOL_RECL_BUSY (q : Nat) : Fld := ⟨QM_POOL q, 17, 1⟩

/-- 10_capture_queues.md: Table 10-22. -/
def QM_STCTL (q : Nat) : Nat := 0x200018 + 0x40000 * q
def QM_STCTL_LIM (q : Nat) : Fld := ⟨QM_STCTL q, 0, 4⟩
def QM_STCTL_DELAY (q : Nat) : Fld := ⟨QM_STCTL q, 8, 8⟩

/-- 10_capture_queues.md: Table 10-22. -/
def QM_APCTL (q : Nat) : Nat := 0x20001c + 0x40000 * q
def QM_APCTL_BASE (q : Nat) : Fld := ⟨QM_APCTL q, 0, 10⟩
def QM_APCTL_EN (q : Nat) : Fld := ⟨QM_APCTL q, 16, 1⟩

/-- 10_capture_queues.md: Table 10-22. -/
def QM_PGBASE (q : Nat) : Nat := 0x200020 + 0x40000 * q
def QM_PGBASE_PAGE (q : Nat) : Fld := ⟨QM_PGBASE q, 0, 33⟩

/-- 10_capture_queues.md: Table 10-22. -/
def QM_PGCNT (q : Nat) : Nat := 0x200028 + 0x40000 * q
def QM_PGCNT_COUNT (q : Nat) : Fld := ⟨QM_PGCNT q, 0, 34⟩

/-- 10_capture_queues.md: Table 10-22. -/
def QM_PGNEXT (q : Nat) : Nat := 0x200030 + 0x40000 * q
def QM_PGNEXT_PAGE (q : Nat) : Fld := ⟨QM_PGNEXT q, 0, 34⟩

/-- 10_capture_queues.md: Table 10-22. -/
def QM_PGUSED (q : Nat) : Nat := 0x200038 + 0x40000 * q
def QM_PGUSED_COUNT (q : Nat) : Fld := ⟨QM_PGUSED q, 0, 34⟩

/-- 10_capture_queues.md: Table 10-22. -/
def QM_PGFREE (q : Nat) : Nat := 0x200040 + 0x40000 * q
def QM_PGFREE_COUNT (q : Nat) : Fld := ⟨QM_PGFREE q, 0, 34⟩

/-- 10_capture_queues.md: Table 10-22. -/
def QM_PGLOST (q : Nat) : Nat := 0x200048 + 0x40000 * q
def QM_PGLOST_COUNT (q : Nat) : Fld := ⟨QM_PGLOST q, 0, 34⟩

/-- 10_capture_queues.md: Table 10-22. -/
def QM_NPROD (q : Nat) : Nat := 0x200050 + 0x40000 * q
def QM_NPROD_COUNT (q : Nat) : Fld := ⟨QM_NPROD q, 0, 32⟩

/-- 10_capture_queues.md: Table 10-22. -/
def QM_NCONS (q : Nat) : Nat := 0x200054 + 0x40000 * q
def QM_NCONS_COUNT (q : Nat) : Fld := ⟨QM_NCONS q, 0, 32⟩

/-- 10_capture_queues.md: Table 10-22. -/
def QM_NLOST (q : Nat) : Nat := 0x200058 + 0x40000 * q
def QM_NLOST_COUNT (q : Nat) : Fld := ⟨QM_NLOST q, 0, 32⟩

/-- 10_capture_queues.md: Table 10-22. -/
def QM_SRCBAD (q : Nat) : Nat := 0x20005c + 0x40000 * q
def QM_SRCBAD_COUNT (q : Nat) : Fld := ⟨QM_SRCBAD q, 0, 32⟩

/-- 10_capture_queues.md: Table 10-22. -/
def QM_RSV (q : Nat) : Nat := 0x200060 + 0x40000 * q
def QM_RSV_RSV (q : Nat) : Fld := ⟨QM_RSV q, 0, 17⟩

/-- 10_capture_queues.md: Table 10-19. -/
def QM_STMAP (q m : Nat) : Nat := 0x201000 + 0x40000 * q + 0x4 * m
def QM_STMAP_HUB (q m : Nat) : Fld := ⟨QM_STMAP q m, 0, 4⟩
def QM_STMAP_PORT (q m : Nat) : Fld := ⟨QM_STMAP q m, 4, 3⟩
def QM_STMAP_EN (q m : Nat) : Fld := ⟨QM_STMAP q m, 7, 1⟩
def QM_STMAP_DOWN (q m : Nat) : Fld := ⟨QM_STMAP q m, 8, 1⟩

/-- 10_capture_queues.md: Table 10-3. -/
def QM_QDESC0 (q i : Nat) : Nat := 0x210000 + 0x40000 * q + 0x80 * i
def QM_QDESC0_POLICY (q i : Nat) : Fld := ⟨QM_QDESC0 q i, 0, 1⟩
def QM_QDESC0_SPILL_EN (q i : Nat) : Fld := ⟨QM_QDESC0 q i, 1, 1⟩
def QM_QDESC0_NOTE_EN (q i : Nat) : Fld := ⟨QM_QDESC0 q i, 2, 1⟩
def QM_QDESC0_CT_THR (q i : Nat) : Fld := ⟨QM_QDESC0 q i, 4, 11⟩
def QM_QDESC0_PROD (q i : Nat) : Fld := ⟨QM_QDESC0 q i, 16, 8⟩
def QM_QDESC0_CROUTE (q i : Nat) : Fld := ⟨QM_QDESC0 q i, 24, 6⟩

/-- 10_capture_queues.md: Table 10-3. -/
def QM_QDESC1 (q i : Nat) : Nat := 0x210004 + 0x40000 * q + 0x80 * i
def QM_QDESC1_MIN_CELLS (q i : Nat) : Fld := ⟨QM_QDESC1 q i, 0, 16⟩
def QM_QDESC1_MAX_CELLS (q i : Nat) : Fld := ⟨QM_QDESC1 q i, 16, 16⟩

/-- 10_capture_queues.md: Table 10-3. -/
def QM_QDESC2 (q i : Nat) : Nat := 0x210008 + 0x40000 * q + 0x80 * i
def QM_QDESC2_SPILL_THR (q i : Nat) : Fld := ⟨QM_QDESC2 q i, 0, 16⟩
def QM_QDESC2_PFG (q i : Nat) : Fld := ⟨QM_QDESC2 q i, 16, 3⟩
def QM_QDESC2_CWIN (q i : Nat) : Fld := ⟨QM_QDESC2 q i, 20, 12⟩

/-- 10_capture_queues.md: Table 10-3. -/
def QM_QDESC3 (q i : Nat) : Nat := 0x21000c + 0x40000 * q + 0x80 * i
def QM_QDESC3_MAXPG (q i : Nat) : Fld := ⟨QM_QDESC3 q i, 0, 32⟩

/-- 10_capture_queues.md: Table 10-5. -/
def QM_QCMD (q i : Nat) : Nat := 0x210010 + 0x40000 * q + 0x80 * i
def QM_QCMD_CMD (q i : Nat) : Fld := ⟨QM_QCMD q i, 0, 4⟩
def QM_QCMD_SEL (q i : Nat) : Fld := ⟨QM_QCMD q i, 8, 1⟩
def QM_QCMD_N (q i : Nat) : Fld := ⟨QM_QCMD q i, 16, 15⟩

/-- 10_capture_queues.md: Table 10-5. -/
def QM_QCMDSTAT (q i : Nat) : Nat := 0x210014 + 0x40000 * q + 0x80 * i
def QM_QCMDSTAT_CODE (q i : Nat) : Fld := ⟨QM_QCMDSTAT q i, 0, 4⟩
def QM_QCMDSTAT_CMD (q i : Nat) : Fld := ⟨QM_QCMDSTAT q i, 4, 4⟩
def QM_QCMDSTAT_REQ (q i : Nat) : Fld := ⟨QM_QCMDSTAT q i, 8, 8⟩

/-- 10_capture_queues.md: Table 10-5. -/
def QM_QSTAT (q i : Nat) : Nat := 0x210018 + 0x40000 * q + 0x80 * i
def QM_QSTAT_STATE (q i : Nat) : Fld := ⟨QM_QSTAT q i, 0, 2⟩
def QM_QSTAT_OPEN (q i : Nat) : Fld := ⟨QM_QSTAT q i, 2, 1⟩
def QM_QSTAT_MARKV (q i : Nat) : Fld := ⟨QM_QSTAT q i, 3, 1⟩
def QM_QSTAT_EXH (q i : Nat) : Fld := ⟨QM_QSTAT q i, 4, 1⟩
def QM_QSTAT_SPILLED (q i : Nat) : Fld := ⟨QM_QSTAT q i, 5, 1⟩
def QM_QSTAT_PGQ (q i : Nat) : Fld := ⟨QM_QSTAT q i, 6, 1⟩
def QM_QSTAT_TRUNC (q i : Nat) : Fld := ⟨QM_QSTAT q i, 7, 1⟩
def QM_QSTAT_LINK_UE (q i : Nat) : Fld := ⟨QM_QSTAT q i, 8, 1⟩
def QM_QSTAT_STORE_UE (q i : Nat) : Fld := ⟨QM_QSTAT q i, 9, 1⟩
def QM_QSTAT_SAT (q i : Nat) : Fld := ⟨QM_QSTAT q i, 10, 1⟩

/-- 10_capture_queues.md: Table 10-5. -/
def QM_QCELLS (q i : Nat) : Nat := 0x21001c + 0x40000 * q + 0x80 * i
def QM_QCELLS_HELD (q i : Nat) : Fld := ⟨QM_QCELLS q i, 0, 16⟩

/-- 10_capture_queues.md: Table 10-6. -/
def QM_QRP (q i : Nat) : Nat := 0x210020 + 0x40000 * q + 0x80 * i
def QM_QRP_POS (q i : Nat) : Fld := ⟨QM_QRP q i, 0, 64⟩

/-- 10_capture_queues.md: Table 10-6. -/
def QM_QMARK (q i : Nat) : Nat := 0x210028 + 0x40000 * q + 0x80 * i
def QM_QMARK_POS (q i : Nat) : Fld := ⟨QM_QMARK q i, 0, 64⟩

/-- 10_capture_queues.md: Table 10-6. -/
def QM_QREL (q i : Nat) : Nat := 0x210030 + 0x40000 * q + 0x80 * i
def QM_QREL_POS (q i : Nat) : Fld := ⟨QM_QREL q i, 0, 64⟩

/-- 10_capture_queues.md: Table 10-6. -/
def QM_QCOMMIT (q i : Nat) : Nat := 0x210038 + 0x40000 * q + 0x80 * i
def QM_QCOMMIT_POS (q i : Nat) : Fld := ⟨QM_QCOMMIT q i, 0, 64⟩

/-- 10_capture_queues.md: Table 10-6. -/
def QM_QRXCNT (q i : Nat) : Nat := 0x210040 + 0x40000 * q + 0x80 * i
def QM_QRXCNT_COUNT (q i : Nat) : Fld := ⟨QM_QRXCNT q i, 0, 64⟩

/-- 10_capture_queues.md: Table 10-6. -/
def QM_QLIMIT (q i : Nat) : Nat := 0x210048 + 0x40000 * q + 0x80 * i
def QM_QLIMIT_LIMIT (q i : Nat) : Fld := ⟨QM_QLIMIT q i, 0, 64⟩

/-- 10_capture_queues.md: Table 10-6. -/
def QM_QPAGES (q i : Nat) : Nat := 0x210050 + 0x40000 * q + 0x80 * i
def QM_QPAGES_COUNT (q i : Nat) : Fld := ⟨QM_QPAGES q i, 0, 64⟩

/-- 10_capture_queues.md: Table 10-6. -/
def QM_QPSEQ (q i : Nat) : Nat := 0x210058 + 0x40000 * q + 0x80 * i
def QM_QPSEQ_PSEQ (q i : Nat) : Fld := ⟨QM_QPSEQ q i, 0, 32⟩

/-- 10_capture_queues.md: Table 10-6. -/
def QM_QWAITCNT (q i : Nat) : Nat := 0x21005c + 0x40000 * q + 0x80 * i
def QM_QWAITCNT_COUNT (q i : Nat) : Fld := ⟨QM_QWAITCNT q i, 0, 32⟩

/-- 10_capture_queues.md: Table 10-6. -/
def QM_QEXHCNT (q i : Nat) : Nat := 0x210060 + 0x40000 * q + 0x80 * i
def QM_QEXHCNT_COUNT (q i : Nat) : Fld := ⟨QM_QEXHCNT q i, 0, 32⟩

/-- 10_capture_queues.md: Table 10-6. -/
def QM_QTRPKT (q i : Nat) : Nat := 0x210064 + 0x40000 * q + 0x80 * i
def QM_QTRPKT_COUNT (q i : Nat) : Fld := ⟨QM_QTRPKT q i, 0, 32⟩

/-- 10_capture_queues.md: Table 10-6. -/
def QM_QTRBYTE (q i : Nat) : Nat := 0x210068 + 0x40000 * q + 0x80 * i
def QM_QTRBYTE_COUNT (q i : Nat) : Fld := ⟨QM_QTRBYTE q i, 0, 64⟩

/-- 10_capture_queues.md: Table 10-6. -/
def QM_QDROP (q i : Nat) : Nat := 0x210070 + 0x40000 * q + 0x80 * i
def QM_QDROP_COUNT (q i : Nat) : Fld := ⟨QM_QDROP q i, 0, 32⟩

/-- The registers of 10_capture_queues.md, part 0. -/
def map_10_capture_queues_0 : List RegDesc := [
  ⟨"CQP_CFG", 0x10001c0, [(24, 0x200000), (8, 0x8)], 4, 0x0, [⟨0, 2, .ro⟩, ⟨2, 2, .ro⟩, ⟨4, 10, .ro⟩, ⟨14, 10, .ro⟩, ⟨24, 1, .ro⟩]⟩,
  ⟨"CQP_STAT", 0x10001c4, [(24, 0x200000), (8, 0x8)], 4, 0x0, [⟨0, 1, .w1c⟩, ⟨1, 1, .w1c⟩, ⟨2, 1, .w1c⟩, ⟨16, 8, .ro⟩, ⟨24, 8, .ro⟩]⟩,
  ⟨"QM_CTL", 0x200000, [(4, 0x40000)], 4, 0x1, [⟨0, 13, .rw⟩, ⟨16, 1, .rw⟩]⟩,
  ⟨"QM_CMD", 0x200004, [(4, 0x40000)], 4, 0x0, [⟨0, 4, .wo⟩]⟩,
  ⟨"QM_CMDSTAT", 0x200008, [(4, 0x40000)], 4, 0x0, [⟨0, 4, .ro⟩, ⟨8, 8, .ro⟩, ⟨16, 12, .ro⟩]⟩,
  ⟨"QM_ERR", 0x20000c, [(4, 0x40000)], 4, 0x0, [⟨0, 1, .w1c⟩, ⟨1, 1, .w1c⟩, ⟨2, 1, .w1c⟩, ⟨3, 1, .w1c⟩, ⟨4, 1, .w1c⟩, ⟨5, 1, .w1c⟩, ⟨6, 1, .w1c⟩, ⟨7, 1, .w1c⟩]⟩,
  ⟨"QM_ERRCTL", 0x200010, [(4, 0x40000)], 4, 0x0, [⟨0, 7, .rw⟩]⟩,
  ⟨"QM_POOL", 0x200014, [(4, 0x40000)], 4, 0x10000, [⟨0, 17, .ro⟩, ⟨17, 1, .ro⟩]⟩,
  ⟨"QM_STCTL", 0x200018, [(4, 0x40000)], 4, 0xa04, [⟨0, 4, .rw⟩, ⟨8, 8, .rw⟩]⟩,
  ⟨"QM_APCTL", 0x20001c, [(4, 0x40000)], 4, 0x0, [⟨0, 10, .rw⟩, ⟨16, 1, .rw⟩]⟩,
  ⟨"QM_PGBASE", 0x200020, [(4, 0x40000)], 8, 0x0, [⟨0, 33, .rw⟩]⟩,
  ⟨"QM_PGCNT", 0x200028, [(4, 0x40000)], 8, 0x0, [⟨0, 34, .rw⟩]⟩,
  ⟨"QM_PGNEXT", 0x200030, [(4, 0x40000)], 8, 0x0, [⟨0, 34, .ro⟩]⟩,
  ⟨"QM_PGUSED", 0x200038, [(4, 0x40000)], 8, 0x0, [⟨0, 34, .ro⟩]⟩,
  ⟨"QM_PGFREE", 0x200040, [(4, 0x40000)], 8, 0x0, [⟨0, 34, .ro⟩]⟩,
  ⟨"QM_PGLOST", 0x200048, [(4, 0x40000)], 8, 0x0, [⟨0, 34, .ro⟩]⟩,
  ⟨"QM_NPROD", 0x200050, [(4, 0x40000)], 4, 0x0, [⟨0, 32, .ro⟩]⟩,
  ⟨"QM_NCONS", 0x200054, [(4, 0x40000)], 4, 0x0, [⟨0, 32, .rw⟩]⟩,
  ⟨"QM_NLOST", 0x200058, [(4, 0x40000)], 4, 0x0, [⟨0, 32, .ro⟩]⟩,
  ⟨"QM_SRCBAD", 0x20005c, [(4, 0x40000)], 4, 0x0, [⟨0, 32, .ro⟩]⟩,
  ⟨"QM_RSV", 0x200060, [(4, 0x40000)], 4, 0x0, [⟨0, 17, .ro⟩]⟩,
  ⟨"QM_STMAP", 0x201000, [(4, 0x40000), (32, 0x4)], 4, 0x0, [⟨0, 4, .rw⟩, ⟨4, 3, .rw⟩, ⟨7, 1, .rw⟩, ⟨8, 1, .w1c⟩]⟩,
  ⟨"QM_QDESC0", 0x210000, [(4, 0x40000), (256, 0x80)], 4, 0x4, [⟨0, 1, .rw⟩, ⟨1, 1, .rw⟩, ⟨2, 1, .rw⟩, ⟨4, 11, .rw⟩, ⟨16, 8, .rw⟩, ⟨24, 6, .rw⟩]⟩,
  ⟨"QM_QDESC1", 0x210004, [(4, 0x40000), (256, 0x80)], 4, 0x0, [⟨0, 16, .rw⟩, ⟨16, 16, .rw⟩]⟩,
  ⟨"QM_QDESC2", 0x210008, [(4, 0x40000), (256, 0x80)], 4, 0x20000000, [⟨0, 16, .rw⟩, ⟨16, 3, .rw⟩, ⟨20, 12, .rw⟩]⟩,
  ⟨"QM_QDESC3", 0x21000c, [(4, 0x40000), (256, 0x80)], 4, 0x0, [⟨0, 32, .rw⟩]⟩,
  ⟨"QM_QCMD", 0x210010, [(4, 0x40000), (256, 0x80)], 4, 0x0, [⟨0, 4, .wo⟩, ⟨8, 1, .wo⟩, ⟨16, 15, .wo⟩]⟩,
  ⟨"QM_QCMDSTAT", 0x210014, [(4, 0x40000), (256, 0x80)], 4, 0x0, [⟨0, 4, .ro⟩, ⟨4, 4, .ro⟩, ⟨8, 8, .ro⟩]⟩,
  ⟨"QM_QSTAT", 0x210018, [(4, 0x40000), (256, 0x80)], 4, 0x0, [⟨0, 2, .ro⟩, ⟨2, 1, .ro⟩, ⟨3, 1, .ro⟩, ⟨4, 1, .ro⟩, ⟨5, 1, .ro⟩, ⟨6, 1, .ro⟩, ⟨7, 1, .w1c⟩, ⟨8, 1, .ro⟩, ⟨9, 1, .ro⟩, ⟨10, 1, .w1c⟩]⟩,
  ⟨"QM_QCELLS", 0x21001c, [(4, 0x40000), (256, 0x80)], 4, 0x0, [⟨0, 16, .ro⟩]⟩,
  ⟨"QM_QRP", 0x210020, [(4, 0x40000), (256, 0x80)], 8, 0x0, [⟨0, 64, .ro⟩]⟩,
  ⟨"QM_QMARK", 0x210028, [(4, 0x40000), (256, 0x80)], 8, 0x0, [⟨0, 64, .ro⟩]⟩,
  ⟨"QM_QREL", 0x210030, [(4, 0x40000), (256, 0x80)], 8, 0x0, [⟨0, 64, .ro⟩]⟩,
  ⟨"QM_QCOMMIT", 0x210038, [(4, 0x40000), (256, 0x80)], 8, 0x0, [⟨0, 64, .ro⟩]⟩,
  ⟨"QM_QRXCNT", 0x210040, [(4, 0x40000), (256, 0x80)], 8, 0x0, [⟨0, 64, .ro⟩]⟩,
  ⟨"QM_QLIMIT", 0x210048, [(4, 0x40000), (256, 0x80)], 8, 0x0, [⟨0, 64, .ro⟩]⟩,
  ⟨"QM_QPAGES", 0x210050, [(4, 0x40000), (256, 0x80)], 8, 0x0, [⟨0, 64, .ro⟩]⟩,
  ⟨"QM_QPSEQ", 0x210058, [(4, 0x40000), (256, 0x80)], 4, 0x0, [⟨0, 32, .ro⟩]⟩,
  ⟨"QM_QWAITCNT", 0x21005c, [(4, 0x40000), (256, 0x80)], 4, 0x0, [⟨0, 32, .ro⟩]⟩,
  ⟨"QM_QEXHCNT", 0x210060, [(4, 0x40000), (256, 0x80)], 4, 0x0, [⟨0, 32, .ro⟩]⟩]

/-- The registers of 10_capture_queues.md, part 1. -/
def map_10_capture_queues_1 : List RegDesc := [
  ⟨"QM_QTRPKT", 0x210064, [(4, 0x40000), (256, 0x80)], 4, 0x0, [⟨0, 32, .ro⟩]⟩,
  ⟨"QM_QTRBYTE", 0x210068, [(4, 0x40000), (256, 0x80)], 8, 0x0, [⟨0, 64, .ro⟩]⟩,
  ⟨"QM_QDROP", 0x210070, [(4, 0x40000), (256, 0x80)], 4, 0x0, [⟨0, 32, .ro⟩]⟩]

/-! ## 11_lanes.md -/

/-- 11_lanes.md: Table 11-14. -/
def LN_CTL (n : Nat) : Nat := 0x100000 + 0x2000 * n
def LN_CTL_EN (n : Nat) : Fld := ⟨LN_CTL n, 0, 1⟩
def LN_CTL_TXPOL (n : Nat) : Fld := ⟨LN_CTL n, 1, 1⟩
def LN_CTL_RXPOL (n : Nat) : Fld := ⟨LN_CTL n, 2, 1⟩
def LN_CTL_PRECODE (n : Nat) : Fld := ⟨LN_CTL n, 3, 1⟩
def LN_CTL_TRN_TMO (n : Nat) : Fld := ⟨LN_CTL n, 8, 8⟩

/-- 11_lanes.md: Table 11-14. -/
def LN_CMD (n : Nat) : Nat := 0x100004 + 0x2000 * n
def LN_CMD_CMD (n : Nat) : Fld := ⟨LN_CMD n, 0, 4⟩

/-- 11_lanes.md: Table 11-14. -/
def LN_CMDSTAT (n : Nat) : Nat := 0x100008 + 0x2000 * n
def LN_CMDSTAT_CODE (n : Nat) : Fld := ⟨LN_CMDSTAT n, 0, 4⟩
def LN_CMDSTAT_CMD (n : Nat) : Fld := ⟨LN_CMDSTAT n, 4, 4⟩
def LN_CMDSTAT_REQ (n : Nat) : Fld := ⟨LN_CMDSTAT n, 8, 8⟩

/-- 11_lanes.md: Table 11-14. -/
def LN_STATUS (n : Nat) : Nat := 0x10000c + 0x2000 * n
def LN_STATUS_STATE (n : Nat) : Fld := ⟨LN_STATUS n, 0, 3⟩
def LN_STATUS_SIGDET (n : Nat) : Fld := ⟨LN_STATUS n, 3, 1⟩
def LN_STATUS_PC_TX (n : Nat) : Fld := ⟨LN_STATUS n, 4, 1⟩
def LN_STATUS_PC_RX (n : Nat) : Fld := ⟨LN_STATUS n, 5, 1⟩
def LN_STATUS_ST_HOLD (n : Nat) : Fld := ⟨LN_STATUS n, 6, 1⟩
def LN_STATUS_PRBS_LOCK (n : Nat) : Fld := ⟨LN_STATUS n, 7, 1⟩
def LN_STATUS_SKEW (n : Nat) : Fld := ⟨LN_STATUS n, 8, 8⟩

/-- 11_lanes.md: Table 11-15. -/
def LN_ERR (n : Nat) : Nat := 0x100010 + 0x2000 * n
def LN_ERR_LINK_DOWN (n : Nat) : Fld := ⟨LN_ERR n, 0, 1⟩
def LN_ERR_TRN_FAIL (n : Nat) : Fld := ⟨LN_ERR n, 1, 1⟩
def LN_ERR_FEC_UE (n : Nat) : Fld := ⟨LN_ERR n, 2, 1⟩
def LN_ERR_FREQ (n : Nat) : Fld := ⟨LN_ERR n, 3, 1⟩
def LN_ERR_SKEW (n : Nat) : Fld := ⟨LN_ERR n, 4, 1⟩
def LN_ERR_CTL_BAD (n : Nat) : Fld := ⟨LN_ERR n, 5, 1⟩
def LN_ERR_CNT_SAT (n : Nat) : Fld := ⟨LN_ERR n, 6, 1⟩

/-- 11_lanes.md: Table 11-15. -/
def LN_ERRCTL (n : Nat) : Nat := 0x100014 + 0x2000 * n
def LN_ERRCTL_MASK (n : Nat) : Fld := ⟨LN_ERRCTL n, 0, 6⟩

/-- 11_lanes.md: Table 11-16. -/
def LN_TXEQ (n : Nat) : Nat := 0x100018 + 0x2000 * n
def LN_TXEQ_CM1 (n : Nat) : Fld := ⟨LN_TXEQ n, 0, 6⟩
def LN_TXEQ_C0 (n : Nat) : Fld := ⟨LN_TXEQ n, 8, 6⟩
def LN_TXEQ_C1 (n : Nat) : Fld := ⟨LN_TXEQ n, 16, 6⟩

/-- 11_lanes.md: Table 11-16. -/
def LN_RXEQ (n : Nat) : Nat := 0x10001c + 0x2000 * n
def LN_RXEQ_CTLE (n : Nat) : Fld := ⟨LN_RXEQ n, 0, 5⟩
def LN_RXEQ_DFE1 (n : Nat) : Fld := ⟨LN_RXEQ n, 8, 8⟩
def LN_RXEQ_VGA (n : Nat) : Fld := ⟨LN_RXEQ n, 16, 8⟩

/-- 11_lanes.md: Table 11-16. -/
def LN_EYECTL (n : Nat) : Nat := 0x100020 + 0x2000 * n
def LN_EYECTL_EYE (n : Nat) : Fld := ⟨LN_EYECTL n, 0, 2⟩
def LN_EYECTL_PHASE (n : Nat) : Fld := ⟨LN_EYECTL n, 4, 6⟩
def LN_EYECTL_VOFS (n : Nat) : Fld := ⟨LN_EYECTL n, 10, 8⟩
def LN_EYECTL_DWELL (n : Nat) : Fld := ⟨LN_EYECTL n, 18, 5⟩

/-- 11_lanes.md: Table 11-16. -/
def LN_EYESTAT (n : Nat) : Nat := 0x100024 + 0x2000 * n
def LN_EYESTAT_BUSY (n : Nat) : Fld := ⟨LN_EYESTAT n, 0, 1⟩
def LN_EYESTAT_DONE (n : Nat) : Fld := ⟨LN_EYESTAT n, 1, 1⟩
def LN_EYESTAT_ABORT (n : Nat) : Fld := ⟨LN_EYESTAT n, 2, 1⟩
def LN_EYESTAT_MISCNT (n : Nat) : Fld := ⟨LN_EYESTAT n, 8, 24⟩

/-- 11_lanes.md: Table 11-15. -/
def LN_CNTCLR (n : Nat) : Nat := 0x100028 + 0x2000 * n
def LN_CNTCLR_ALL (n : Nat) : Fld := ⟨LN_CNTCLR n, 0, 1⟩

/-- 11_lanes.md: Table 11-17. -/
def LN_FECCW (n : Nat) : Nat := 0x100030 + 0x2000 * n
def LN_FECCW_COUNT (n : Nat) : Fld := ⟨LN_FECCW n, 0, 64⟩

/-- 11_lanes.md: Table 11-17. -/
def LN_FECCE (n : Nat) : Nat := 0x100038 + 0x2000 * n
def LN_FECCE_COUNT (n : Nat) : Fld := ⟨LN_FECCE n, 0, 64⟩

/-- 11_lanes.md: Table 11-17. -/
def LN_FECSYM (n : Nat) : Nat := 0x100040 + 0x2000 * n
def LN_FECSYM_COUNT (n : Nat) : Fld := ⟨LN_FECSYM n, 0, 64⟩

/-- 11_lanes.md: Table 11-17. -/
def LN_FECUE (n : Nat) : Nat := 0x100048 + 0x2000 * n
def LN_FECUE_COUNT (n : Nat) : Fld := ⟨LN_FECUE n, 0, 32⟩

/-- 11_lanes.md: Table 11-17. -/
def LN_LINKDN (n : Nat) : Nat := 0x10004c + 0x2000 * n
def LN_LINKDN_COUNT (n : Nat) : Fld := ⟨LN_LINKDN n, 0, 32⟩

/-- 11_lanes.md: Table 11-17. -/
def LN_TRNFAIL (n : Nat) : Nat := 0x100050 + 0x2000 * n
def LN_TRNFAIL_COUNT (n : Nat) : Fld := ⟨LN_TRNFAIL n, 0, 32⟩

/-- 11_lanes.md: Table 11-17. -/
def LN_TXDISC (n : Nat) : Nat := 0x100054 + 0x2000 * n
def LN_TXDISC_COUNT (n : Nat) : Fld := ⟨LN_TXDISC n, 0, 32⟩

/-- 11_lanes.md: Table 11-17. -/
def LN_RXDISC (n : Nat) : Nat := 0x100058 + 0x2000 * n
def LN_RXDISC_COUNT (n : Nat) : Fld := ⟨LN_RXDISC n, 0, 32⟩

/-- 11_lanes.md: Table 11-17. -/
def LN_PRBSERR (n : Nat) : Nat := 0x10005c + 0x2000 * n
def LN_PRBSERR_COUNT (n : Nat) : Fld := ⟨LN_PRBSERR n, 0, 32⟩

/-- 11_lanes.md: Table 11-17. -/
def LN_CTLBAD (n : Nat) : Nat := 0x100060 + 0x2000 * n
def LN_CTLBAD_COUNT (n : Nat) : Fld := ⟨LN_CTLBAD n, 0, 32⟩

/-- 11_lanes.md: Table 11-17. -/
def LN_SYMHIST (n k : Nat) : Nat := 0x100080 + 0x2000 * n + 0x8 * k
def LN_SYMHIST_COUNT (n k : Nat) : Fld := ⟨LN_SYMHIST n k, 0, 64⟩

/-- 11_lanes.md: Table 11-18. -/
def LG_CFG (g : Nat) : Nat := 0x101000 + 0x10000 * g
def LG_CFG_RATE (g : Nat) : Fld := ⟨LG_CFG g, 0, 1⟩
def LG_CFG_PWR (g : Nat) : Fld := ⟨LG_CFG g, 1, 1⟩

/-- 11_lanes.md: Table 11-18. -/
def LG_ROLE (g : Nat) : Nat := 0x101004 + 0x10000 * g
def LG_ROLE_ROLE (g : Nat) : Fld := ⟨LG_ROLE g, 0, 16⟩

/-- 11_lanes.md: Table 11-18. -/
def LG_BOND (g : Nat) : Nat := 0x101008 + 0x10000 * g
def LG_BOND_WIDTH (g : Nat) : Fld := ⟨LG_BOND g, 0, 16⟩

/-- 11_lanes.md: Table 11-18. -/
def LG_PEER (g : Nat) : Nat := 0x10100c + 0x10000 * g
def LG_PEER_PP (g : Nat) : Fld := ⟨LG_PEER g, 0, 24⟩

/-- 11_lanes.md: Table 11-18. -/
def LG_DOFS (g : Nat) : Nat := 0x101010 + 0x10000 * g
def LG_DOFS_D (g : Nat) : Fld := ⟨LG_DOFS g, 0, 16⟩

/-- 11_lanes.md: Table 11-18. -/
def LG_STATUS (g : Nat) : Nat := 0x101014 + 0x10000 * g
def LG_STATUS_LSUM (g : Nat) : Fld := ⟨LG_STATUS g, 0, 8⟩
def LG_STATUS_UP (g : Nat) : Fld := ⟨LG_STATUS g, 8, 8⟩

/-- 11_lanes.md: Table 11-18. -/
def LG_CMDSTAT (g : Nat) : Nat := 0x101018 + 0x10000 * g
def LG_CMDSTAT_CODE (g : Nat) : Fld := ⟨LG_CMDSTAT g, 0, 4⟩
def LG_CMDSTAT_REQ (g : Nat) : Fld := ⟨LG_CMDSTAT g, 8, 8⟩
def LG_CMDSTAT_OFFSET (g : Nat) : Fld := ⟨LG_CMDSTAT g, 16, 8⟩

/-- The registers of 11_lanes.md, part 0. -/
def map_11_lanes_0 : List RegDesc := [
  ⟨"LN_CTL", 0x100000, [(128, 0x2000)], 4, 0x3200, [⟨0, 1, .rw⟩, ⟨1, 1, .rw⟩, ⟨2, 1, .rw⟩, ⟨3, 1, .rw⟩, ⟨8, 8, .rw⟩]⟩,
  ⟨"LN_CMD", 0x100004, [(128, 0x2000)], 4, 0x0, [⟨0, 4, .wo⟩]⟩,
  ⟨"LN_CMDSTAT", 0x100008, [(128, 0x2000)], 4, 0x0, [⟨0, 4, .ro⟩, ⟨4, 4, .ro⟩, ⟨8, 8, .ro⟩]⟩,
  ⟨"LN_STATUS", 0x10000c, [(128, 0x2000)], 4, 0x0, [⟨0, 3, .ro⟩, ⟨3, 1, .ro⟩, ⟨4, 1, .ro⟩, ⟨5, 1, .ro⟩, ⟨6, 1, .ro⟩, ⟨7, 1, .ro⟩, ⟨8, 8, .ro⟩]⟩,
  ⟨"LN_ERR", 0x100010, [(128, 0x2000)], 4, 0x0, [⟨0, 1, .w1c⟩, ⟨1, 1, .w1c⟩, ⟨2, 1, .w1c⟩, ⟨3, 1, .w1c⟩, ⟨4, 1, .w1c⟩, ⟨5, 1, .w1c⟩, ⟨6, 1, .w1c⟩]⟩,
  ⟨"LN_ERRCTL", 0x100014, [(128, 0x2000)], 4, 0x0, [⟨0, 6, .rw⟩]⟩,
  ⟨"LN_TXEQ", 0x100018, [(128, 0x2000)], 4, 0x0, [⟨0, 6, .ro⟩, ⟨8, 6, .ro⟩, ⟨16, 6, .ro⟩]⟩,
  ⟨"LN_RXEQ", 0x10001c, [(128, 0x2000)], 4, 0x0, [⟨0, 5, .ro⟩, ⟨8, 8, .ro⟩, ⟨16, 8, .ro⟩]⟩,
  ⟨"LN_EYECTL", 0x100020, [(128, 0x2000)], 4, 0x280001, [⟨0, 2, .rw⟩, ⟨4, 6, .rw⟩, ⟨10, 8, .rw⟩, ⟨18, 5, .rw⟩]⟩,
  ⟨"LN_EYESTAT", 0x100024, [(128, 0x2000)], 4, 0x0, [⟨0, 1, .ro⟩, ⟨1, 1, .w1c⟩, ⟨2, 1, .w1c⟩, ⟨8, 24, .ro⟩]⟩,
  ⟨"LN_CNTCLR", 0x100028, [(128, 0x2000)], 4, 0x0, [⟨0, 1, .wo⟩]⟩,
  ⟨"LN_FECCW", 0x100030, [(128, 0x2000)], 8, 0x0, [⟨0, 64, .ro⟩]⟩,
  ⟨"LN_FECCE", 0x100038, [(128, 0x2000)], 8, 0x0, [⟨0, 64, .ro⟩]⟩,
  ⟨"LN_FECSYM", 0x100040, [(128, 0x2000)], 8, 0x0, [⟨0, 64, .ro⟩]⟩,
  ⟨"LN_FECUE", 0x100048, [(128, 0x2000)], 4, 0x0, [⟨0, 32, .ro⟩]⟩,
  ⟨"LN_LINKDN", 0x10004c, [(128, 0x2000)], 4, 0x0, [⟨0, 32, .ro⟩]⟩,
  ⟨"LN_TRNFAIL", 0x100050, [(128, 0x2000)], 4, 0x0, [⟨0, 32, .ro⟩]⟩,
  ⟨"LN_TXDISC", 0x100054, [(128, 0x2000)], 4, 0x0, [⟨0, 32, .ro⟩]⟩,
  ⟨"LN_RXDISC", 0x100058, [(128, 0x2000)], 4, 0x0, [⟨0, 32, .ro⟩]⟩,
  ⟨"LN_PRBSERR", 0x10005c, [(128, 0x2000)], 4, 0x0, [⟨0, 32, .ro⟩]⟩,
  ⟨"LN_CTLBAD", 0x100060, [(128, 0x2000)], 4, 0x0, [⟨0, 32, .ro⟩]⟩,
  ⟨"LN_SYMHIST", 0x100080, [(128, 0x2000), (16, 0x8)], 8, 0x0, [⟨0, 64, .ro⟩]⟩,
  ⟨"LG_CFG", 0x101000, [(16, 0x10000)], 4, 0x0, [⟨0, 1, .rw⟩, ⟨1, 1, .ro⟩]⟩,
  ⟨"LG_ROLE", 0x101004, [(16, 0x10000)], 4, 0x0, [⟨0, 16, .rw⟩]⟩,
  ⟨"LG_BOND", 0x101008, [(16, 0x10000)], 4, 0x0, [⟨0, 16, .rw⟩]⟩,
  ⟨"LG_PEER", 0x10100c, [(16, 0x10000)], 4, 0xffffff, [⟨0, 24, .rw⟩]⟩,
  ⟨"LG_DOFS", 0x101010, [(16, 0x10000)], 4, 0x0, [⟨0, 16, .rw⟩]⟩,
  ⟨"LG_STATUS", 0x101014, [(16, 0x10000)], 4, 0x0, [⟨0, 8, .ro⟩, ⟨8, 8, .ro⟩]⟩,
  ⟨"LG_CMDSTAT", 0x101018, [(16, 0x10000)], 4, 0x0, [⟨0, 4, .ro⟩, ⟨8, 8, .ro⟩, ⟨16, 8, .ro⟩]⟩]

/-! ## 12_idlis_link.md -/

/-- 12_idlis_link.md: Table 12-12. -/
def LN_IDL_STAT (n : Nat) : Nat := 0x100200 + 0x2000 * n
def LN_IDL_STAT_SYNC (n : Nat) : Fld := ⟨LN_IDL_STAT n, 0, 1⟩
def LN_IDL_STAT_PCRED (n : Nat) : Fld := ⟨LN_IDL_STAT n, 1, 1⟩
def LN_IDL_STAT_SDEV (n : Nat) : Fld := ⟨LN_IDL_STAT n, 2, 3⟩
def LN_IDL_STAT_SDEV_V (n : Nat) : Fld := ⟨LN_IDL_STAT n, 5, 1⟩

/-- 12_idlis_link.md: Table 12-12. -/
def LN_IDL_ERR (n : Nat) : Nat := 0x100204 + 0x2000 * n
def LN_IDL_ERR_FEC_DISC (n : Nat) : Fld := ⟨LN_IDL_ERR n, 0, 1⟩
def LN_IDL_ERR_FRAME (n : Nat) : Fld := ⟨LN_IDL_ERR n, 1, 1⟩
def LN_IDL_ERR_HCRC (n : Nat) : Fld := ⟨LN_IDL_ERR n, 2, 1⟩
def LN_IDL_ERR_MALF (n : Nat) : Fld := ⟨LN_IDL_ERR n, 3, 1⟩
def LN_IDL_ERR_TYPE_BAD (n : Nat) : Fld := ⟨LN_IDL_ERR n, 4, 1⟩
def LN_IDL_ERR_CRED_OVF (n : Nat) : Fld := ⟨LN_IDL_ERR n, 5, 1⟩
def LN_IDL_ERR_CRC (n : Nat) : Fld := ⟨LN_IDL_ERR n, 6, 1⟩
def LN_IDL_ERR_LATE (n : Nat) : Fld := ⟨LN_IDL_ERR n, 7, 1⟩
def LN_IDL_ERR_NEST (n : Nat) : Fld := ⟨LN_IDL_ERR n, 8, 1⟩
def LN_IDL_ERR_STRAY (n : Nat) : Fld := ⟨LN_IDL_ERR n, 9, 1⟩
def LN_IDL_ERR_DRV_LATE (n : Nat) : Fld := ⟨LN_IDL_ERR n, 10, 1⟩
def LN_IDL_ERR_CAP_DROP (n : Nat) : Fld := ⟨LN_IDL_ERR n, 11, 1⟩
def LN_IDL_ERR_STO_TMO (n : Nat) : Fld := ⟨LN_IDL_ERR n, 12, 1⟩
def LN_IDL_ERR_STO_ISO_EV (n : Nat) : Fld := ⟨LN_IDL_ERR n, 13, 1⟩
def LN_IDL_ERR_LEAK_RT (n : Nat) : Fld := ⟨LN_IDL_ERR n, 14, 1⟩
def LN_IDL_ERR_CNT_SAT (n : Nat) : Fld := ⟨LN_IDL_ERR n, 15, 1⟩

/-- 12_idlis_link.md: Table 12-12. -/
def LN_IDL_ERRCTL (n : Nat) : Nat := 0x100208 + 0x2000 * n
def LN_IDL_ERRCTL_MASK (n : Nat) : Fld := ⟨LN_IDL_ERRCTL n, 0, 15⟩

/-- 12_idlis_link.md: Table 12-12. -/
def LN_IDL_CNTCLR (n : Nat) : Nat := 0x10020c + 0x2000 * n
def LN_IDL_CNTCLR_ALL (n : Nat) : Fld := ⟨LN_IDL_CNTCLR n, 0, 1⟩

/-- 12_idlis_link.md: Table 12-12. -/
def LN_CRED_GRANT (n : Nat) : Nat := 0x100210 + 0x2000 * n
def LN_CRED_GRANT_LIMIT (n : Nat) : Fld := ⟨LN_CRED_GRANT n, 0, 32⟩

/-- 12_idlis_link.md: Table 12-12. -/
def LN_CRED_PEER (n : Nat) : Nat := 0x100214 + 0x2000 * n
def LN_CRED_PEER_LIMIT (n : Nat) : Fld := ⟨LN_CRED_PEER n, 0, 32⟩

/-- 12_idlis_link.md: Table 12-12. -/
def LN_CRED_SENT (n : Nat) : Nat := 0x100218 + 0x2000 * n
def LN_CRED_SENT_SENT (n : Nat) : Fld := ⟨LN_CRED_SENT n, 0, 32⟩

/-- 12_idlis_link.md: Table 12-13. -/
def LN_IDLCNT (n k : Nat) : Nat := 0x100220 + 0x2000 * n + 0x4 * k
def LN_IDLCNT_COUNT (n k : Nat) : Fld := ⟨LN_IDLCNT n k, 0, 32⟩

/-- 12_idlis_link.md: Table 12-12. -/
def LN_PIN_CFG (n : Nat) : Nat := 0x100260 + 0x2000 * n
def LN_PIN_CFG_QUEUE (n : Nat) : Fld := ⟨LN_PIN_CFG n, 0, 10⟩
def LN_PIN_CFG_ROUTE (n : Nat) : Fld := ⟨LN_PIN_CFG n, 10, 6⟩
def LN_PIN_CFG_FLENM1 (n : Nat) : Fld := ⟨LN_PIN_CFG n, 16, 6⟩
def LN_PIN_CFG_AGGM1 (n : Nat) : Fld := ⟨LN_PIN_CFG n, 22, 6⟩
def LN_PIN_CFG_STEP (n : Nat) : Fld := ⟨LN_PIN_CFG n, 28, 2⟩
def LN_PIN_CFG_CAP_EN (n : Nat) : Fld := ⟨LN_PIN_CFG n, 30, 1⟩
def LN_PIN_CFG_DRV_EN (n : Nat) : Fld := ⟨LN_PIN_CFG n, 31, 1⟩

/-- 12_idlis_link.md: Table 12-12. -/
def LN_PIN_CFG2 (n : Nat) : Nat := 0x100264 + 0x2000 * n
def LN_PIN_CFG2_CWAIT (n : Nat) : Fld := ⟨LN_PIN_CFG2 n, 0, 16⟩
def LN_PIN_CFG2_FGAP (n : Nat) : Fld := ⟨LN_PIN_CFG2 n, 16, 8⟩

/-- 12_idlis_link.md: Table 12-12. -/
def LN_STO_CTL (n : Nat) : Nat := 0x100270 + 0x2000 * n
def LN_STO_CTL_TMO (n : Nat) : Fld := ⟨LN_STO_CTL n, 0, 10⟩
def LN_STO_CTL_LIM (n : Nat) : Fld := ⟨LN_STO_CTL n, 16, 4⟩

/-- 12_idlis_link.md: Table 12-12. -/
def LN_STO_STAT (n : Nat) : Nat := 0x100274 + 0x2000 * n
def LN_STO_STAT_OUTST (n : Nat) : Fld := ⟨LN_STO_STAT n, 0, 11⟩
def LN_STO_STAT_ISO (n : Nat) : Fld := ⟨LN_STO_STAT n, 16, 1⟩

/-- 12_idlis_link.md: Table 12-12. -/
def LN_STO_CMD (n : Nat) : Nat := 0x100278 + 0x2000 * n
def LN_STO_CMD_RESTORE (n : Nat) : Fld := ⟨LN_STO_CMD n, 0, 1⟩

/-- 12_idlis_link.md: Table 12-12. -/
def LN_PEER_CTL (n : Nat) : Nat := 0x100280 + 0x2000 * n
def LN_PEER_CTL_XTMO (n : Nat) : Fld := ⟨LN_PEER_CTL n, 0, 14⟩

/-- 12_idlis_link.md: Table 12-12. -/
def LN_PEER_STAT (n : Nat) : Nat := 0x100284 + 0x2000 * n
def LN_PEER_STAT_XOUT (n : Nat) : Fld := ⟨LN_PEER_STAT n, 0, 11⟩
def LN_PEER_STAT_ROUT (n : Nat) : Fld := ⟨LN_PEER_STAT n, 16, 9⟩

/-- 12_idlis_link.md: Table 12-12. -/
def LN_PTRIG (n : Nat) : Nat := 0x100288 + 0x2000 * n
def LN_PTRIG_SEL (n : Nat) : Fld := ⟨LN_PTRIG n, 0, 32⟩

/-- 12_idlis_link.md: Table 12-12. -/
def LN_TUN (n d : Nat) : Nat := 0x100300 + 0x2000 * n + 0x8 * d
def LN_TUN_BASE (n d : Nat) : Fld := ⟨LN_TUN n d, 0, 48⟩
def LN_TUN_ENTRY (n d : Nat) : Fld := ⟨LN_TUN n d, 48, 6⟩
def LN_TUN_VALID (n d : Nat) : Fld := ⟨LN_TUN n d, 63, 1⟩

/-- The registers of 12_idlis_link.md, part 0. -/
def map_12_idlis_link_0 : List RegDesc := [
  ⟨"LN_IDL_STAT", 0x100200, [(128, 0x2000)], 4, 0x0, [⟨0, 1, .ro⟩, ⟨1, 1, .ro⟩, ⟨2, 3, .ro⟩, ⟨5, 1, .ro⟩]⟩,
  ⟨"LN_IDL_ERR", 0x100204, [(128, 0x2000)], 4, 0x0, [⟨0, 1, .w1c⟩, ⟨1, 1, .w1c⟩, ⟨2, 1, .w1c⟩, ⟨3, 1, .w1c⟩, ⟨4, 1, .w1c⟩, ⟨5, 1, .w1c⟩, ⟨6, 1, .w1c⟩, ⟨7, 1, .w1c⟩, ⟨8, 1, .w1c⟩, ⟨9, 1, .w1c⟩, ⟨10, 1, .w1c⟩, ⟨11, 1, .w1c⟩, ⟨12, 1, .w1c⟩, ⟨13, 1, .w1c⟩, ⟨14, 1, .w1c⟩, ⟨15, 1, .w1c⟩]⟩,
  ⟨"LN_IDL_ERRCTL", 0x100208, [(128, 0x2000)], 4, 0x0, [⟨0, 15, .rw⟩]⟩,
  ⟨"LN_IDL_CNTCLR", 0x10020c, [(128, 0x2000)], 4, 0x0, [⟨0, 1, .wo⟩]⟩,
  ⟨"LN_CRED_GRANT", 0x100210, [(128, 0x2000)], 4, 0x0, [⟨0, 32, .ro⟩]⟩,
  ⟨"LN_CRED_PEER", 0x100214, [(128, 0x2000)], 4, 0x0, [⟨0, 32, .ro⟩]⟩,
  ⟨"LN_CRED_SENT", 0x100218, [(128, 0x2000)], 4, 0x0, [⟨0, 32, .ro⟩]⟩,
  ⟨"LN_IDLCNT", 0x100220, [(128, 0x2000), (16, 0x4)], 4, 0x0, [⟨0, 32, .ro⟩]⟩,
  ⟨"LN_PIN_CFG", 0x100260, [(128, 0x2000)], 4, 0x0, [⟨0, 10, .rw⟩, ⟨10, 6, .rw⟩, ⟨16, 6, .rw⟩, ⟨22, 6, .rw⟩, ⟨28, 2, .rw⟩, ⟨30, 1, .rw⟩, ⟨31, 1, .rw⟩]⟩,
  ⟨"LN_PIN_CFG2", 0x100264, [(128, 0x2000)], 4, 0x80000, [⟨0, 16, .rw⟩, ⟨16, 8, .rw⟩]⟩,
  ⟨"LN_STO_CTL", 0x100270, [(128, 0x2000)], 4, 0x80032, [⟨0, 10, .rw⟩, ⟨16, 4, .rw⟩]⟩,
  ⟨"LN_STO_STAT", 0x100274, [(128, 0x2000)], 4, 0x0, [⟨0, 11, .ro⟩, ⟨16, 1, .ro⟩]⟩,
  ⟨"LN_STO_CMD", 0x100278, [(128, 0x2000)], 4, 0x0, [⟨0, 1, .wo⟩]⟩,
  ⟨"LN_PEER_CTL", 0x100280, [(128, 0x2000)], 4, 0x3e8, [⟨0, 14, .rw⟩]⟩,
  ⟨"LN_PEER_STAT", 0x100284, [(128, 0x2000)], 4, 0x0, [⟨0, 11, .ro⟩, ⟨16, 9, .ro⟩]⟩,
  ⟨"LN_PTRIG", 0x100288, [(128, 0x2000)], 4, 0x0, [⟨0, 32, .rw⟩]⟩,
  ⟨"LN_TUN", 0x100300, [(128, 0x2000), (16, 0x8)], 8, 0x0, [⟨0, 48, .rw⟩, ⟨48, 6, .rw⟩, ⟨63, 1, .rw⟩]⟩]

/-! ## 13_host_ports.md -/

/-- 13_host_ports.md: Table 13-5. -/
def RSC_ID : Nat := 0x0
def RSC_ID_PART : Fld := ⟨RSC_ID, 0, 16⟩
def RSC_ID_STEP : Fld := ⟨RSC_ID, 16, 8⟩

/-- 13_host_ports.md: Table 13-5. -/
def RSC_PORT : Nat := 0x4
def RSC_PORT_PORT : Fld := ⟨RSC_PORT, 0, 1⟩

/-- 13_host_ports.md: Table 13-5. -/
def RSC_STRAPS : Nat := 0x8
def RSC_STRAPS_DEVID : Fld := ⟨RSC_STRAPS, 0, 3⟩
def RSC_STRAPS_BOOTSEL : Fld := ⟨RSC_STRAPS, 4, 2⟩
def RSC_STRAPS_LCSTATE : Fld := ⟨RSC_STRAPS, 8, 3⟩

/-- 13_host_ports.md: Table 13-5. -/
def RSC_STATUS : Nat := 0xc
def RSC_STATUS_ALARM : Fld := ⟨RSC_STATUS, 0, 1⟩
def RSC_STATUS_TICK_RUN : Fld := ⟨RSC_STATUS, 1, 1⟩
def RSC_STATUS_ABSORB : Fld := ⟨RSC_STATUS, 2, 1⟩
def RSC_STATUS_BOOT : Fld := ⟨RSC_STATUS, 4, 4⟩

/-- 13_host_ports.md: Table 13-5. -/
def RSC_TICK : Nat := 0x10
def RSC_TICK_COUNT : Fld := ⟨RSC_TICK, 0, 64⟩

/-- 13_host_ports.md: Table 13-5. -/
def RSC_REGSTATE (i : Nat) : Nat := 0x20 + 0x4 * i
def RSC_REGSTATE_STATES (i : Nat) : Fld := ⟨RSC_REGSTATE i, 0, 32⟩

/-- 13_host_ports.md: Table 13-5. -/
def RSC_CMD : Nat := 0x40
def RSC_CMD_CMD : Fld := ⟨RSC_CMD, 0, 4⟩
def RSC_CMD_ARG : Fld := ⟨RSC_CMD, 8, 8⟩
def RSC_CMD_KEY : Fld := ⟨RSC_CMD, 24, 8⟩

/-- 13_host_ports.md: Table 13-5. -/
def RSC_CMDSTAT : Nat := 0x44
def RSC_CMDSTAT_CODE : Fld := ⟨RSC_CMDSTAT, 0, 4⟩
def RSC_CMDSTAT_CMD : Fld := ⟨RSC_CMDSTAT, 4, 4⟩
def RSC_CMDSTAT_BUSY : Fld := ⟨RSC_CMDSTAT, 8, 1⟩
def RSC_CMDSTAT_REQ : Fld := ⟨RSC_CMDSTAT, 16, 8⟩

/-- 13_host_ports.md: Table 13-4, Table 18-6. -/
def RSC_PM (k : Nat) : Nat := 0x60 + 0x4 * k
def RSC_PM_WORD (k : Nat) : Fld := ⟨RSC_PM k, 0, 32⟩

/-- 13_host_ports.md: Table 13-5. -/
def RSC_SEMOWN (n : Nat) : Nat := 0x100 + 0x4 * n
def RSC_SEMOWN_OWNER (n : Nat) : Fld := ⟨RSC_SEMOWN n, 0, 8⟩

/-- 13_host_ports.md: Table 13-7, R495, R496. -/
def HSEM (n : Nat) : Nat := 0x10800 + 0x4 * n
def HSEM_OWNER (n : Nat) : Fld := ⟨HSEM n, 0, 8⟩
def HSEM_GRANTED (n : Nat) : Fld := ⟨HSEM n, 8, 1⟩
def HSEM_AGAIN (n : Nat) : Fld := ⟨HSEM n, 9, 1⟩

/-- 13_host_ports.md: Table 13-7. -/
def HSEM_VIEW (n : Nat) : Nat := 0x10900 + 0x4 * n
def HSEM_VIEW_OWNER (n : Nat) : Fld := ⟨HSEM_VIEW n, 0, 8⟩

/-- 13_host_ports.md: Table 13-7. -/
def HSEM_STAT : Nat := 0x10a00
def HSEM_STAT_CODE : Fld := ⟨HSEM_STAT, 0, 4⟩
def HSEM_STAT_SEM : Fld := ⟨HSEM_STAT, 8, 6⟩
def HSEM_STAT_REQ : Fld := ⟨HSEM_STAT, 16, 8⟩
def HSEM_STAT_ALT : Fld := ⟨HSEM_STAT, 24, 1⟩

/-- 13_host_ports.md: Table 13-10. -/
def HP_STATUS (p : Nat) : Nat := 0x300000 + 0x10000 * p
def HP_STATUS_LINK_UP (p : Nat) : Fld := ⟨HP_STATUS p, 0, 1⟩
def HP_STATUS_SPEED (p : Nat) : Fld := ⟨HP_STATUS p, 1, 3⟩
def HP_STATUS_WIDTH (p : Nat) : Fld := ⟨HP_STATUS p, 4, 4⟩
def HP_STATUS_D3HOT (p : Nat) : Fld := ⟨HP_STATUS p, 8, 1⟩
def HP_STATUS_BME (p : Nat) : Fld := ⟨HP_STATUS p, 9, 1⟩
def HP_STATUS_MSIX_EN (p : Nat) : Fld := ⟨HP_STATUS p, 10, 1⟩
def HP_STATUS_FMASK (p : Nat) : Fld := ⟨HP_STATUS p, 11, 1⟩

/-- 13_host_ports.md: Table 13-10. -/
def HP_ERR (p : Nat) : Nat := 0x300004 + 0x10000 * p
def HP_ERR_RD_ERR (p : Nat) : Fld := ⟨HP_ERR p, 0, 1⟩
def HP_ERR_WR_ERR (p : Nat) : Fld := ⟨HP_ERR p, 1, 1⟩
def HP_ERR_ECC (p : Nat) : Fld := ⟨HP_ERR p, 2, 1⟩
def HP_ERR_TMO (p : Nat) : Fld := ⟨HP_ERR p, 3, 1⟩
def HP_ERR_LINK_DOWN (p : Nat) : Fld := ⟨HP_ERR p, 4, 1⟩
def HP_ERR_FLR (p : Nat) : Fld := ⟨HP_ERR p, 5, 1⟩
def HP_ERR_HOT_RST (p : Nat) : Fld := ⟨HP_ERR p, 6, 1⟩
def HP_ERR_CNT_SAT (p : Nat) : Fld := ⟨HP_ERR p, 7, 1⟩

/-- 13_host_ports.md: Table 13-10. -/
def HP_ERRCTL (p : Nat) : Nat := 0x300008 + 0x10000 * p
def HP_ERRCTL_MASK (p : Nat) : Fld := ⟨HP_ERRCTL p, 0, 7⟩

/-- 13_host_ports.md: Table 13-10. -/
def HP_WSTAT (p : Nat) : Nat := 0x30000c + 0x10000 * p
def HP_WSTAT_CODE (p : Nat) : Fld := ⟨HP_WSTAT p, 0, 4⟩
def HP_WSTAT_WIN (p : Nat) : Fld := ⟨HP_WSTAT p, 4, 1⟩

/-- 13_host_ports.md: Table 13-10. -/
def HP_WADDR (p : Nat) : Nat := 0x300010 + 0x10000 * p
def HP_WADDR_OFFSET (p : Nat) : Fld := ⟨HP_WADDR p, 0, 36⟩

/-- 13_host_ports.md: Table 13-10. -/
def HP_RERRCNT (p : Nat) : Nat := 0x300018 + 0x10000 * p
def HP_RERRCNT_COUNT (p : Nat) : Fld := ⟨HP_RERRCNT p, 0, 32⟩

/-- 13_host_ports.md: Table 13-10. -/
def HP_WERRCNT (p : Nat) : Nat := 0x30001c + 0x10000 * p
def HP_WERRCNT_COUNT (p : Nat) : Fld := ⟨HP_WERRCNT p, 0, 32⟩

/-- 13_host_ports.md: Table 13-10, R503. -/
def HP_DBELL (p : Nat) : Nat := 0x300040 + 0x10000 * p
def HP_DBELL_DB (p : Nat) : Fld := ⟨HP_DBELL p, 0, 16⟩

/-- 13_host_ports.md: Table 13-10, R503. -/
def HP_DBSET (p : Nat) : Nat := 0x300044 + 0x10000 * p
def HP_DBSET_DB (p : Nat) : Fld := ⟨HP_DBSET p, 0, 16⟩

/-- 13_host_ports.md: Table 13-10. -/
def HP_SRCSTAT (p : Nat) : Nat := 0x300080 + 0x10000 * p
def HP_SRCSTAT_ACTIVE (p : Nat) : Fld := ⟨HP_SRCSTAT p, 0, 64⟩

/-- 13_host_ports.md: Table 13-10, R502. -/
def HP_VPEND (p : Nat) : Nat := 0x300088 + 0x10000 * p
def HP_VPEND_PEND (p : Nat) : Fld := ⟨HP_VPEND p, 0, 64⟩

/-- 13_host_ports.md: Table 13-10, R502. -/
def HP_VACK (p : Nat) : Nat := 0x300090 + 0x10000 * p
def HP_VACK_ACK (p : Nat) : Fld := ⟨HP_VACK p, 0, 64⟩

/-- 13_host_ports.md: Table 13-10, R501. -/
def HP_ROUTE (p s : Nat) : Nat := 0x300100 + 0x10000 * p + 0x4 * s
def HP_ROUTE_VEC (p s : Nat) : Fld := ⟨HP_ROUTE p s, 0, 6⟩
def HP_ROUTE_EN (p s : Nat) : Fld := ⟨HP_ROUTE p s, 8, 1⟩
def HP_ROUTE_PIN (p s : Nat) : Fld := ⟨HP_ROUTE p s, 9, 1⟩

/-- The registers of 13_host_ports.md, part 0. -/
def map_13_host_ports_0 : List RegDesc := [
  ⟨"RSC_ID", 0x0, [], 4, 0x9624, [⟨0, 16, .ro⟩, ⟨16, 8, .ro⟩]⟩,
  ⟨"RSC_PORT", 0x4, [], 4, 0x0, [⟨0, 1, .ro⟩]⟩,
  ⟨"RSC_STRAPS", 0x8, [], 4, 0x0, [⟨0, 3, .ro⟩, ⟨4, 2, .ro⟩, ⟨8, 3, .ro⟩]⟩,
  ⟨"RSC_STATUS", 0xc, [], 4, 0x0, [⟨0, 1, .ro⟩, ⟨1, 1, .ro⟩, ⟨2, 1, .ro⟩, ⟨4, 4, .ro⟩]⟩,
  ⟨"RSC_TICK", 0x10, [], 8, 0x0, [⟨0, 64, .ro⟩]⟩,
  ⟨"RSC_REGSTATE", 0x20, [(3, 0x4)], 4, 0x0, [⟨0, 32, .ro⟩]⟩,
  ⟨"RSC_CMD", 0x40, [], 4, 0x0, [⟨0, 4, .wo⟩, ⟨8, 8, .wo⟩, ⟨24, 8, .wo⟩]⟩,
  ⟨"RSC_CMDSTAT", 0x44, [], 4, 0x0, [⟨0, 4, .ro⟩, ⟨4, 4, .ro⟩, ⟨8, 1, .ro⟩, ⟨16, 8, .ro⟩]⟩,
  ⟨"RSC_PM", 0x60, [(8, 0x4)], 4, 0x0, [⟨0, 32, .ro⟩]⟩,
  ⟨"RSC_SEMOWN", 0x100, [(64, 0x4)], 4, 0x0, [⟨0, 8, .ro⟩]⟩,
  ⟨"HSEM", 0x10800, [(64, 0x4)], 4, 0x0, [⟨0, 8, .rw⟩, ⟨8, 1, .ro⟩, ⟨9, 1, .ro⟩]⟩,
  ⟨"HSEM_VIEW", 0x10900, [(64, 0x4)], 4, 0x0, [⟨0, 8, .ro⟩]⟩,
  ⟨"HSEM_STAT", 0x10a00, [], 4, 0x0, [⟨0, 4, .ro⟩, ⟨8, 6, .ro⟩, ⟨16, 8, .ro⟩, ⟨24, 1, .ro⟩]⟩,
  ⟨"HP_STATUS", 0x300000, [(2, 0x10000)], 4, 0x0, [⟨0, 1, .ro⟩, ⟨1, 3, .ro⟩, ⟨4, 4, .ro⟩, ⟨8, 1, .ro⟩, ⟨9, 1, .ro⟩, ⟨10, 1, .ro⟩, ⟨11, 1, .ro⟩]⟩,
  ⟨"HP_ERR", 0x300004, [(2, 0x10000)], 4, 0x0, [⟨0, 1, .w1c⟩, ⟨1, 1, .w1c⟩, ⟨2, 1, .w1c⟩, ⟨3, 1, .w1c⟩, ⟨4, 1, .w1c⟩, ⟨5, 1, .w1c⟩, ⟨6, 1, .w1c⟩, ⟨7, 1, .w1c⟩]⟩,
  ⟨"HP_ERRCTL", 0x300008, [(2, 0x10000)], 4, 0x0, [⟨0, 7, .rw⟩]⟩,
  ⟨"HP_WSTAT", 0x30000c, [(2, 0x10000)], 4, 0x0, [⟨0, 4, .ro⟩, ⟨4, 1, .ro⟩]⟩,
  ⟨"HP_WADDR", 0x300010, [(2, 0x10000)], 8, 0x0, [⟨0, 36, .ro⟩]⟩,
  ⟨"HP_RERRCNT", 0x300018, [(2, 0x10000)], 4, 0x0, [⟨0, 32, .ro⟩]⟩,
  ⟨"HP_WERRCNT", 0x30001c, [(2, 0x10000)], 4, 0x0, [⟨0, 32, .ro⟩]⟩,
  ⟨"HP_DBELL", 0x300040, [(2, 0x10000)], 4, 0x0, [⟨0, 16, .w1c⟩]⟩,
  ⟨"HP_DBSET", 0x300044, [(2, 0x10000)], 4, 0x0, [⟨0, 16, .w1s⟩]⟩,
  ⟨"HP_SRCSTAT", 0x300080, [(2, 0x10000)], 8, 0x0, [⟨0, 64, .ro⟩]⟩,
  ⟨"HP_VPEND", 0x300088, [(2, 0x10000)], 8, 0x0, [⟨0, 64, .ro⟩]⟩,
  ⟨"HP_VACK", 0x300090, [(2, 0x10000)], 8, 0x0, [⟨0, 64, .wo⟩]⟩,
  ⟨"HP_ROUTE", 0x300100, [(2, 0x10000), (64, 0x4)], 4, 0x0, [⟨0, 6, .rw⟩, ⟨8, 1, .rw⟩, ⟨9, 1, .rw⟩]⟩]

/-! ## 14_configuration.md -/

/-- 14_configuration.md: Table 14-15. -/
def CFG_CTL : Nat := 0x30000
def CFG_CTL_REQ_AUTH : Fld := ⟨CFG_CTL, 0, 1⟩
def CFG_CTL_RDBK_DIS : Fld := ⟨CFG_CTL, 1, 1⟩
def CFG_CTL_LOCK : Fld := ⟨CFG_CTL, 2, 1⟩
def CFG_CTL_EVT_EN : Fld := ⟨CFG_CTL, 8, 1⟩

/-- 14_configuration.md: Table 14-15. -/
def CFG_STAT : Nat := 0x30004
def CFG_STAT_SRC : Fld := ⟨CFG_STAT, 0, 2⟩
def CFG_STAT_SYNCED : Fld := ⟨CFG_STAT, 2, 1⟩
def CFG_STAT_FMODE : Fld := ⟨CFG_STAT, 3, 1⟩
def CFG_STAT_ENC : Fld := ⟨CFG_STAT, 4, 1⟩
def CFG_STAT_LISTEN : Fld := ⟨CFG_STAT, 5, 1⟩
def CFG_STAT_PARTIAL : Fld := ⟨CFG_STAT, 6, 1⟩
def CFG_STAT_SLOT : Fld := ⟨CFG_STAT, 8, 4⟩
def CFG_STAT_FREE : Fld := ⟨CFG_STAT, 16, 15⟩

/-- 14_configuration.md: Table 14-15. -/
def CFG_ERR : Nat := 0x30008
def CFG_ERR_CRC : Fld := ⟨CFG_ERR, 0, 1⟩
def CFG_ERR_SHORT : Fld := ⟨CFG_ERR, 1, 1⟩
def CFG_ERR_ADDR : Fld := ⟨CFG_ERR, 2, 1⟩
def CFG_ERR_AUTH : Fld := ⟨CFG_ERR, 3, 1⟩
def CFG_ERR_LOCK : Fld := ⟨CFG_ERR, 4, 1⟩
def CFG_ERR_SYNTAX : Fld := ⟨CFG_ERR, 5, 1⟩
def CFG_ERR_OPEN : Fld := ⟨CFG_ERR, 6, 1⟩
def CFG_ERR_LISTEN_OVF : Fld := ⟨CFG_ERR, 7, 1⟩
def CFG_ERR_CWR : Fld := ⟨CFG_ERR, 8, 1⟩
def CFG_ERR_TRUNC : Fld := ⟨CFG_ERR, 9, 1⟩
def CFG_ERR_CNT_SAT : Fld := ⟨CFG_ERR, 10, 1⟩

/-- 14_configuration.md: Table 14-15. -/
def CFG_ERRCTL : Nat := 0x3000c
def CFG_ERRCTL_MASK : Fld := ⟨CFG_ERRCTL, 0, 10⟩

/-- 14_configuration.md: Table 14-13, R518. -/
def CFG_FAR : Nat := 0x30010
def CFG_FAR_FAR : Fld := ⟨CFG_FAR, 0, 22⟩

/-- 14_configuration.md: Table 14-13, R511. -/
def CFG_IDMASK : Nat := 0x30014
def CFG_IDMASK_MASK : Fld := ⟨CFG_IDMASK, 0, 8⟩

/-- 14_configuration.md: Table 14-13, R529. -/
def CFG_KEYSEL : Nat := 0x30018
def CFG_KEYSEL_SEL : Fld := ⟨CFG_KEYSEL, 0, 32⟩

/-- 14_configuration.md: Table 14-15. -/
def CFG_KEYSTAT : Nat := 0x3001c
def CFG_KEYSTAT_READY : Fld := ⟨CFG_KEYSTAT, 0, 2⟩
def CFG_KEYSTAT_KILLED : Fld := ⟨CFG_KEYSTAT, 2, 2⟩

/-- 14_configuration.md: Table 14-15. -/
def CFG_HCMD : Nat := 0x30020
def CFG_HCMD_CMD : Fld := ⟨CFG_HCMD, 0, 4⟩
def CFG_HCMD_REGION : Fld := ⟨CFG_HCMD, 4, 5⟩
def CFG_HCMD_SLOT : Fld := ⟨CFG_HCMD, 12, 4⟩

/-- 14_configuration.md: Table 14-15. -/
def CFG_HCMDSTAT : Nat := 0x30024
def CFG_HCMDSTAT_CODE : Fld := ⟨CFG_HCMDSTAT, 0, 4⟩
def CFG_HCMDSTAT_CMD : Fld := ⟨CFG_HCMDSTAT, 4, 4⟩
def CFG_HCMDSTAT_REQ : Fld := ⟨CFG_HCMDSTAT, 8, 8⟩
def CFG_HCMDSTAT_PEND : Fld := ⟨CFG_HCMDSTAT, 16, 1⟩

/-- 14_configuration.md: Table 14-15. -/
def CFG_SCODE : Nat := 0x30028
def CFG_SCODE_CODE : Fld := ⟨CFG_SCODE, 0, 4⟩
def CFG_SCODE_PT : Fld := ⟨CFG_SCODE, 4, 4⟩
def CFG_SCODE_REG : Fld := ⟨CFG_SCODE, 8, 8⟩

/-- 14_configuration.md: Table 14-15. -/
def CFG_EVT : Nat := 0x3002c
def CFG_EVT_END : Fld := ⟨CFG_EVT, 0, 1⟩
def CFG_EVT_ABORT : Fld := ⟨CFG_EVT, 1, 1⟩
def CFG_EVT_COMMIT : Fld := ⟨CFG_EVT, 2, 1⟩

/-- 14_configuration.md: Table 14-15. -/
def CFG_SPOS : Nat := 0x30030
def CFG_SPOS_POS : Fld := ⟨CFG_SPOS, 0, 64⟩

/-- 14_configuration.md: Table 14-15. -/
def CFG_FERR : Nat := 0x30038
def CFG_FERR_FERR : Fld := ⟨CFG_FERR, 0, 24⟩

/-- 14_configuration.md: Table 14-15. -/
def CFG_FRAMES : Nat := 0x30040
def CFG_FRAMES_COUNT : Fld := ⟨CFG_FRAMES, 0, 32⟩

/-- 14_configuration.md: Table 14-15. -/
def CFG_CRCCNT : Nat := 0x30044
def CFG_CRCCNT_COUNT : Fld := ⟨CFG_CRCCNT, 0, 32⟩

/-- 14_configuration.md: Table 14-15. -/
def CFG_SKIPCNT : Nat := 0x30048
def CFG_SKIPCNT_COUNT : Fld := ⟨CFG_SKIPCNT, 0, 32⟩

/-- 14_configuration.md: Table 14-15. -/
def CFG_PRECNT : Nat := 0x3004c
def CFG_PRECNT_COUNT : Fld := ⟨CFG_PRECNT, 0, 32⟩

/-- 14_configuration.md: Table 14-15, R547. -/
def CFG_RBFAR : Nat := 0x30050
def CFG_RBFAR_FAR : Fld := ⟨CFG_RBFAR, 0, 22⟩

/-- 14_configuration.md: Table 14-15. -/
def CFG_RBSTAT : Nat := 0x30054
def CFG_RBSTAT_CODE : Fld := ⟨CFG_RBSTAT, 0, 4⟩
def CFG_RBSTAT_VALID : Fld := ⟨CFG_RBSTAT, 4, 1⟩
def CFG_RBSTAT_BUSY : Fld := ⟨CFG_RBSTAT, 5, 1⟩

/-- 14_configuration.md: Table 14-15, R535. -/
def CFG_REGMAP_W : Nat := 0x3007c
def CFG_REGMAP_W_MAP : Fld := ⟨CFG_REGMAP_W, 0, 17⟩

/-- 14_configuration.md: Table 14-15. -/
def CFG_REGMAP (l : Nat) : Nat := 0x30080 + 0x4 * l
def CFG_REGMAP_PHYSICAL (l : Nat) : Fld := ⟨CFG_REGMAP l, 0, 5⟩
def CFG_REGMAP_NONE (l : Nat) : Fld := ⟨CFG_REGMAP l, 16, 1⟩

/-- 14_configuration.md: Table 14-15. -/
def CFG_SLOT (s : Nat) : Nat := 0x30100 + 0x10 * s
def CFG_SLOT_VALID (s : Nat) : Fld := ⟨CFG_SLOT s, 0, 1⟩
def CFG_SLOT_SRC (s : Nat) : Fld := ⟨CFG_SLOT s, 1, 1⟩

/-- 14_configuration.md: Table 14-15. -/
def CFG_SLOTADDR (s : Nat) : Nat := 0x30104 + 0x10 * s
def CFG_SLOTADDR_ADDR (s : Nat) : Fld := ⟨CFG_SLOTADDR s, 0, 32⟩

/-- 14_configuration.md: Table 14-15. -/
def CFG_SLOTLEN (s : Nat) : Nat := 0x30108 + 0x10 * s
def CFG_SLOTLEN_LEN (s : Nat) : Fld := ⟨CFG_SLOTLEN s, 0, 32⟩

/-- 14_configuration.md: Table 14-15. -/
def CFG_RBDATA (w : Nat) : Nat := 0x32000 + 0x4 * w
def CFG_RBDATA_DATA (w : Nat) : Fld := ⟨CFG_RBDATA w, 0, 32⟩

/-- The registers of 14_configuration.md, part 0. -/
def map_14_configuration_0 : List RegDesc := [
  ⟨"CFG_CTL", 0x30000, [], 4, 0x0, [⟨0, 1, .rwl⟩, ⟨1, 1, .rwl⟩, ⟨2, 1, .w1s⟩, ⟨8, 1, .rw⟩]⟩,
  ⟨"CFG_STAT", 0x30004, [], 4, 0x40000000, [⟨0, 2, .ro⟩, ⟨2, 1, .ro⟩, ⟨3, 1, .ro⟩, ⟨4, 1, .ro⟩, ⟨5, 1, .ro⟩, ⟨6, 1, .ro⟩, ⟨8, 4, .ro⟩, ⟨16, 15, .ro⟩]⟩,
  ⟨"CFG_ERR", 0x30008, [], 4, 0x0, [⟨0, 1, .w1c⟩, ⟨1, 1, .w1c⟩, ⟨2, 1, .w1c⟩, ⟨3, 1, .w1c⟩, ⟨4, 1, .w1c⟩, ⟨5, 1, .w1c⟩, ⟨6, 1, .w1c⟩, ⟨7, 1, .w1c⟩, ⟨8, 1, .w1c⟩, ⟨9, 1, .w1c⟩, ⟨10, 1, .w1c⟩]⟩,
  ⟨"CFG_ERRCTL", 0x3000c, [], 4, 0x0, [⟨0, 10, .rw⟩]⟩,
  ⟨"CFG_FAR", 0x30010, [], 4, 0x0, [⟨0, 22, .ro⟩]⟩,
  ⟨"CFG_IDMASK", 0x30014, [], 4, 0x0, [⟨0, 8, .ro⟩]⟩,
  ⟨"CFG_KEYSEL", 0x30018, [], 4, 0x0, [⟨0, 32, .ro⟩]⟩,
  ⟨"CFG_KEYSTAT", 0x3001c, [], 4, 0x0, [⟨0, 2, .ro⟩, ⟨2, 2, .ro⟩]⟩,
  ⟨"CFG_HCMD", 0x30020, [], 4, 0x0, [⟨0, 4, .wo⟩, ⟨4, 5, .wo⟩, ⟨12, 4, .wo⟩]⟩,
  ⟨"CFG_HCMDSTAT", 0x30024, [], 4, 0x0, [⟨0, 4, .ro⟩, ⟨4, 4, .ro⟩, ⟨8, 8, .ro⟩, ⟨16, 1, .ro⟩]⟩,
  ⟨"CFG_SCODE", 0x30028, [], 4, 0x0, [⟨0, 4, .ro⟩, ⟨4, 4, .ro⟩, ⟨8, 8, .ro⟩]⟩,
  ⟨"CFG_EVT", 0x3002c, [], 4, 0x0, [⟨0, 1, .w1c⟩, ⟨1, 1, .w1c⟩, ⟨2, 1, .w1c⟩]⟩,
  ⟨"CFG_SPOS", 0x30030, [], 8, 0x0, [⟨0, 64, .ro⟩]⟩,
  ⟨"CFG_FERR", 0x30038, [], 4, 0x0, [⟨0, 24, .ro⟩]⟩,
  ⟨"CFG_FRAMES", 0x30040, [], 4, 0x0, [⟨0, 32, .ro⟩]⟩,
  ⟨"CFG_CRCCNT", 0x30044, [], 4, 0x0, [⟨0, 32, .ro⟩]⟩,
  ⟨"CFG_SKIPCNT", 0x30048, [], 4, 0x0, [⟨0, 32, .ro⟩]⟩,
  ⟨"CFG_PRECNT", 0x3004c, [], 4, 0x0, [⟨0, 32, .ro⟩]⟩,
  ⟨"CFG_RBFAR", 0x30050, [], 4, 0x0, [⟨0, 22, .rw⟩]⟩,
  ⟨"CFG_RBSTAT", 0x30054, [], 4, 0x0, [⟨0, 4, .ro⟩, ⟨4, 1, .ro⟩, ⟨5, 1, .ro⟩]⟩,
  ⟨"CFG_REGMAP_W", 0x3007c, [], 4, 0x0, [⟨0, 17, .wo⟩]⟩,
  ⟨"CFG_REGMAP", 0x30080, [(24, 0x4)], 4, 0x0, [⟨0, 5, .ro⟩, ⟨16, 1, .ro⟩]⟩,
  ⟨"CFG_SLOT", 0x30100, [(16, 0x10)], 4, 0x0, [⟨0, 1, .rwl⟩, ⟨1, 1, .rwl⟩]⟩,
  ⟨"CFG_SLOTADDR", 0x30104, [(16, 0x10)], 4, 0x0, [⟨0, 32, .rwl⟩]⟩,
  ⟨"CFG_SLOTLEN", 0x30108, [(16, 0x10)], 4, 0x0, [⟨0, 32, .rwl⟩]⟩,
  ⟨"CFG_RBDATA", 0x32000, [(65, 0x4)], 4, 0x0, [⟨0, 32, .ro⟩]⟩]

/-! ## 15_boot_and_persistence.md -/

/-- 15_boot_and_persistence.md: Table 15-11. -/
def HK_BOOTCTL : Nat := 0x10000
def HK_BOOTCTL_CMD : Fld := ⟨HK_BOOTCTL, 0, 4⟩

/-- 15_boot_and_persistence.md: Table 15-11. -/
def HK_BOOTSTAT : Nat := 0x10004
def HK_BOOTSTAT_CODE : Fld := ⟨HK_BOOTSTAT, 0, 4⟩
def HK_BOOTSTAT_STATE : Fld := ⟨HK_BOOTSTAT, 4, 4⟩
def HK_BOOTSTAT_SRC : Fld := ⟨HK_BOOTSTAT, 8, 2⟩
def HK_BOOTSTAT_FAILCODE : Fld := ⟨HK_BOOTSTAT, 12, 4⟩
def HK_BOOTSTAT_REQ : Fld := ⟨HK_BOOTSTAT, 24, 8⟩

/-- 15_boot_and_persistence.md: Table 15-11. -/
def HK_BOOTCNT : Nat := 0x10008
def HK_BOOTCNT_ATTEMPTS : Fld := ⟨HK_BOOTCNT, 0, 16⟩
def HK_BOOTCNT_SAT : Fld := ⟨HK_BOOTCNT, 16, 1⟩

/-- 15_boot_and_persistence.md: Table 15-11. -/
def HK_HOLDCFG : Nat := 0x10010
def HK_HOLDCFG_EREC : Fld := ⟨HK_HOLDCFG, 0, 12⟩
def HK_HOLDCFG_RETRY_MS : Fld := ⟨HK_HOLDCFG, 12, 8⟩
def HK_HOLDCFG_TRIES : Fld := ⟨HK_HOLDCFG, 20, 4⟩

/-- 15_boot_and_persistence.md: Table 15-11. -/
def HK_HOLDSTAT : Nat := 0x10014
def HK_HOLDSTAT_EAVAIL : Fld := ⟨HK_HOLDSTAT, 0, 16⟩
def HK_HOLDSTAT_PASS : Fld := ⟨HK_HOLDSTAT, 16, 1⟩
def HK_HOLDSTAT_BUSY : Fld := ⟨HK_HOLDSTAT, 17, 1⟩

/-- 15_boot_and_persistence.md: Table 15-11. -/
def HK_HOLDMEAS : Nat := 0x10018
def HK_HOLDMEAS_V1 : Fld := ⟨HK_HOLDMEAS, 0, 16⟩
def HK_HOLDMEAS_V2 : Fld := ⟨HK_HOLDMEAS, 16, 16⟩

/-- 15_boot_and_persistence.md: Table 15-11. -/
def HK_HOLDFAIL : Nat := 0x1001c
def HK_HOLDFAIL_COUNT : Fld := ⟨HK_HOLDFAIL, 0, 32⟩

/-- 15_boot_and_persistence.md: Table 15-11. -/
def HK_JCMD : Nat := 0x10020
def HK_JCMD_CMD : Fld := ⟨HK_JCMD, 0, 4⟩
def HK_JCMD_TYPE : Fld := ⟨HK_JCMD, 4, 8⟩
def HK_JCMD_DEVID : Fld := ⟨HK_JCMD, 12, 3⟩
def HK_JCMD_PART : Fld := ⟨HK_JCMD, 16, 3⟩

/-- 15_boot_and_persistence.md: Table 15-11. -/
def HK_JSTAT : Nat := 0x10024
def HK_JSTAT_CODE : Fld := ⟨HK_JSTAT, 0, 4⟩
def HK_JSTAT_CMD : Fld := ⟨HK_JSTAT, 4, 4⟩
def HK_JSTAT_BUSY : Fld := ⟨HK_JSTAT, 8, 1⟩
def HK_JSTAT_ACTIVE : Fld := ⟨HK_JSTAT, 9, 1⟩
def HK_JSTAT_FREE : Fld := ⟨HK_JSTAT, 10, 9⟩
def HK_JSTAT_OUTBOX : Fld := ⟨HK_JSTAT, 19, 1⟩
def HK_JSTAT_OUTLOST : Fld := ⟨HK_JSTAT, 20, 1⟩
def HK_JSTAT_REQ : Fld := ⟨HK_JSTAT, 24, 8⟩

/-- 15_boot_and_persistence.md: Table 15-11. -/
def HK_NORCMD : Nat := 0x10028
def HK_NORCMD_CMD : Fld := ⟨HK_NORCMD, 0, 4⟩
def HK_NORCMD_FORCE : Fld := ⟨HK_NORCMD, 4, 1⟩

/-- 15_boot_and_persistence.md: Table 15-11. -/
def HK_NORSTAT : Nat := 0x1002c
def HK_NORSTAT_CODE : Fld := ⟨HK_NORSTAT, 0, 4⟩
def HK_NORSTAT_CMD : Fld := ⟨HK_NORSTAT, 4, 4⟩
def HK_NORSTAT_BUSY : Fld := ⟨HK_NORSTAT, 8, 1⟩
def HK_NORSTAT_RAW_LOCK : Fld := ⟨HK_NORSTAT, 9, 1⟩
def HK_NORSTAT_BLANK : Fld := ⟨HK_NORSTAT, 10, 1⟩
def HK_NORSTAT_REQ : Fld := ⟨HK_NORSTAT, 24, 8⟩

/-- 15_boot_and_persistence.md: Table 15-11. -/
def HK_NORADDR : Nat := 0x10030
def HK_NORADDR_ADDR : Fld := ⟨HK_NORADDR, 0, 32⟩

/-- 15_boot_and_persistence.md: Table 15-11. -/
def HK_EVT : Nat := 0x10034
def HK_EVT_BOOTED : Fld := ⟨HK_EVT, 0, 1⟩
def HK_EVT_ROUND_FAIL : Fld := ⟨HK_EVT, 1, 1⟩
def HK_EVT_STORE_DONE : Fld := ⟨HK_EVT, 2, 1⟩
def HK_EVT_STORE_FAIL : Fld := ⟨HK_EVT, 3, 1⟩
def HK_EVT_OUTBOX : Fld := ⟨HK_EVT, 4, 1⟩

/-- 15_boot_and_persistence.md: Table 15-11. -/
def HK_EVTEN : Nat := 0x10038
def HK_EVTEN_EN : Fld := ⟨HK_EVTEN, 0, 5⟩

/-- The registers of 15_boot_and_persistence.md, part 0. -/
def map_15_boot_and_persistence_0 : List RegDesc := [
  ⟨"HK_BOOTCTL", 0x10000, [], 4, 0x0, [⟨0, 4, .wo⟩]⟩,
  ⟨"HK_BOOTSTAT", 0x10004, [], 4, 0x0, [⟨0, 4, .ro⟩, ⟨4, 4, .ro⟩, ⟨8, 2, .ro⟩, ⟨12, 4, .ro⟩, ⟨24, 8, .ro⟩]⟩,
  ⟨"HK_BOOTCNT", 0x10008, [], 4, 0x0, [⟨0, 16, .ro⟩, ⟨16, 1, .w1c⟩]⟩,
  ⟨"HK_HOLDCFG", 0x10010, [], 4, 0x8140b4, [⟨0, 12, .rw⟩, ⟨12, 8, .rw⟩, ⟨20, 4, .rw⟩]⟩,
  ⟨"HK_HOLDSTAT", 0x10014, [], 4, 0x0, [⟨0, 16, .ro⟩, ⟨16, 1, .ro⟩, ⟨17, 1, .ro⟩]⟩,
  ⟨"HK_HOLDMEAS", 0x10018, [], 4, 0x0, [⟨0, 16, .ro⟩, ⟨16, 16, .ro⟩]⟩,
  ⟨"HK_HOLDFAIL", 0x1001c, [], 4, 0x0, [⟨0, 32, .ro⟩]⟩,
  ⟨"HK_JCMD", 0x10020, [], 4, 0x0, [⟨0, 4, .wo⟩, ⟨4, 8, .wo⟩, ⟨12, 3, .wo⟩, ⟨16, 3, .wo⟩]⟩,
  ⟨"HK_JSTAT", 0x10024, [], 4, 0x0, [⟨0, 4, .ro⟩, ⟨4, 4, .ro⟩, ⟨8, 1, .ro⟩, ⟨9, 1, .ro⟩, ⟨10, 9, .ro⟩, ⟨19, 1, .ro⟩, ⟨20, 1, .w1c⟩, ⟨24, 8, .ro⟩]⟩,
  ⟨"HK_NORCMD", 0x10028, [], 4, 0x0, [⟨0, 4, .wo⟩, ⟨4, 1, .wo⟩]⟩,
  ⟨"HK_NORSTAT", 0x1002c, [], 4, 0x0, [⟨0, 4, .ro⟩, ⟨4, 4, .ro⟩, ⟨8, 1, .ro⟩, ⟨9, 1, .w1s⟩, ⟨10, 1, .ro⟩, ⟨24, 8, .ro⟩]⟩,
  ⟨"HK_NORADDR", 0x10030, [], 4, 0x0, [⟨0, 32, .rw⟩]⟩,
  ⟨"HK_EVT", 0x10034, [], 4, 0x0, [⟨0, 1, .w1c⟩, ⟨1, 1, .w1c⟩, ⟨2, 1, .w1c⟩, ⟨3, 1, .w1c⟩, ⟨4, 1, .w1c⟩]⟩,
  ⟨"HK_EVTEN", 0x10038, [], 4, 0x0, [⟨0, 5, .rw⟩]⟩]

/-! ## 16_selftest_and_lifecycle.md -/

/-- 16_selftest_and_lifecycle.md: Table 16-13. -/
def ST_CTL : Nat := 0x40000
def ST_CTL_EN : Fld := ⟨ST_CTL, 0, 1⟩
def ST_CTL_PARM1 : Fld := ⟨ST_CTL, 1, 3⟩
def ST_CTL_GAP : Fld := ⟨ST_CTL, 4, 12⟩
def ST_CTL_AUTOFM : Fld := ⟨ST_CTL, 16, 1⟩
def ST_CTL_ANALOG : Fld := ⟨ST_CTL, 17, 1⟩
def ST_CTL_LANECHK : Fld := ⟨ST_CTL, 18, 1⟩
def ST_CTL_ENG_WAIT : Fld := ⟨ST_CTL, 24, 8⟩

/-- 16_selftest_and_lifecycle.md: Table 16-13. -/
def ST_STAT : Nat := 0x40004
def ST_STAT_ACTIVE : Fld := ⟨ST_STAT, 0, 4⟩
def ST_STAT_SWEEP : Fld := ⟨ST_STAT, 4, 1⟩
def ST_STAT_AN_BUSY : Fld := ⟨ST_STAT, 5, 1⟩
def ST_STAT_RT_BUSY : Fld := ⟨ST_STAT, 6, 1⟩
def ST_STAT_FMAP_PEND : Fld := ⟨ST_STAT, 7, 1⟩

/-- 16_selftest_and_lifecycle.md: Table 16-13. -/
def ST_CMD : Nat := 0x40008
def ST_CMD_CMD : Fld := ⟨ST_CMD, 0, 4⟩
def ST_CMD_REGION : Fld := ⟨ST_CMD, 4, 5⟩
def ST_CMD_KIND : Fld := ⟨ST_CMD, 9, 2⟩
def ST_CMD_ALL : Fld := ⟨ST_CMD, 11, 1⟩
def ST_CMD_INDEX : Fld := ⟨ST_CMD, 16, 9⟩

/-- 16_selftest_and_lifecycle.md: Table 16-13. -/
def ST_CMDSTAT : Nat := 0x4000c
def ST_CMDSTAT_CODE : Fld := ⟨ST_CMDSTAT, 0, 4⟩
def ST_CMDSTAT_CMD : Fld := ⟨ST_CMDSTAT, 4, 4⟩
def ST_CMDSTAT_REQ : Fld := ⟨ST_CMDSTAT, 8, 8⟩

/-- 16_selftest_and_lifecycle.md: Table 16-13. -/
def ST_ERR : Nat := 0x40010
def ST_ERR_FAIL_EV : Fld := ⟨ST_ERR, 0, 1⟩
def ST_ERR_TRANSIENT : Fld := ⟨ST_ERR, 1, 1⟩
def ST_ERR_NOSPARE : Fld := ⟨ST_ERR, 2, 1⟩
def ST_ERR_COPY_FAULT : Fld := ⟨ST_ERR, 3, 1⟩
def ST_ERR_AN_FAIL : Fld := ⟨ST_ERR, 4, 1⟩
def ST_ERR_LANE_FAIL : Fld := ⟨ST_ERR, 5, 1⟩
def ST_ERR_FMAP_STORE : Fld := ⟨ST_ERR, 6, 1⟩
def ST_ERR_SKIP : Fld := ⟨ST_ERR, 7, 1⟩
def ST_ERR_CNT_SAT : Fld := ⟨ST_ERR, 8, 1⟩

/-- 16_selftest_and_lifecycle.md: Table 16-13. -/
def ST_ERRCTL : Nat := 0x40014
def ST_ERRCTL_MASK : Fld := ⟨ST_ERRCTL, 0, 8⟩

/-- 16_selftest_and_lifecycle.md: Table 16-13. -/
def ST_EVT : Nat := 0x40018
def ST_EVT_SWEEP : Fld := ⟨ST_EVT, 0, 1⟩
def ST_EVT_FAIL : Fld := ⟨ST_EVT, 1, 1⟩
def ST_EVT_ANALOG : Fld := ⟨ST_EVT, 2, 1⟩
def ST_EVT_RTEST : Fld := ⟨ST_EVT, 3, 1⟩

/-- 16_selftest_and_lifecycle.md: Table 16-13. -/
def ST_EVTEN : Nat := 0x4001c
def ST_EVTEN_EN : Fld := ⟨ST_EVTEN, 0, 4⟩

/-- 16_selftest_and_lifecycle.md: Table 16-13. -/
def ST_SWEEPS : Nat := 0x40020
def ST_SWEEPS_COUNT : Fld := ⟨ST_SWEEPS, 0, 32⟩

/-- 16_selftest_and_lifecycle.md: Table 16-13. -/
def ST_SLICES : Nat := 0x40024
def ST_SLICES_COUNT : Fld := ⟨ST_SLICES, 0, 32⟩

/-- 16_selftest_and_lifecycle.md: Table 16-13. -/
def ST_FAILS : Nat := 0x40028
def ST_FAILS_COUNT : Fld := ⟨ST_FAILS, 0, 32⟩

/-- 16_selftest_and_lifecycle.md: Table 16-13. -/
def ST_TRANS : Nat := 0x4002c
def ST_TRANS_COUNT : Fld := ⟨ST_TRANS, 0, 32⟩

/-- 16_selftest_and_lifecycle.md: Table 16-13. -/
def ST_SKIPS : Nat := 0x40030
def ST_SKIPS_COUNT : Fld := ⟨ST_SKIPS, 0, 32⟩

/-- 16_selftest_and_lifecycle.md: Table 16-13. -/
def ST_LAST : Nat := 0x40040
def ST_LAST_REGION : Fld := ⟨ST_LAST, 0, 5⟩
def ST_LAST_KIND : Fld := ⟨ST_LAST, 5, 2⟩
def ST_LAST_INDEX : Fld := ⟨ST_LAST, 8, 9⟩
def ST_LAST_SPARE : Fld := ⟨ST_LAST, 17, 4⟩
def ST_LAST_OUTCOME : Fld := ⟨ST_LAST, 24, 4⟩
def ST_LAST_DUR : Fld := ⟨ST_LAST, 32, 32⟩

/-- 16_selftest_and_lifecycle.md: Table 16-13. -/
def ST_SLICE (r : Nat) : Nat := 0x40100 + 0x4 * r
def ST_SLICE_PHASE (r : Nat) : Fld := ⟨ST_SLICE r, 0, 3⟩
def ST_SLICE_KIND (r : Nat) : Fld := ⟨ST_SLICE r, 3, 2⟩
def ST_SLICE_INDEX (r : Nat) : Fld := ⟨ST_SLICE r, 8, 9⟩
def ST_SLICE_SPARE (r : Nat) : Fld := ⟨ST_SLICE r, 17, 4⟩
def ST_SLICE_TARGETED (r : Nat) : Fld := ⟨ST_SLICE r, 21, 1⟩
def ST_SLICE_FLOWBLK (r : Nat) : Fld := ⟨ST_SLICE r, 22, 1⟩

/-- 16_selftest_and_lifecycle.md: Table 16-13. -/
def ST_SUB (r j : Nat) : Nat := 0x40200 + 0x40 * r + 0x4 * j
def ST_SUB_POS (r j : Nat) : Fld := ⟨ST_SUB r j, 0, 9⟩
def ST_SUB_USED (r j : Nat) : Fld := ⟨ST_SUB r j, 9, 1⟩
def ST_SUB_PERM (r j : Nat) : Fld := ⟨ST_SUB r j, 10, 1⟩
def ST_SUB_RETIRED (r j : Nat) : Fld := ⟨ST_SUB r j, 11, 1⟩

/-- 16_selftest_and_lifecycle.md: Table 16-13. -/
def ST_ACTL : Nat := 0x40800
def ST_ACTL_DIODE_EN : Fld := ⟨ST_ACTL, 0, 1⟩
def ST_ACTL_EYE_WMIN : Fld := ⟨ST_ACTL, 8, 6⟩
def ST_ACTL_EYE_HMIN : Fld := ⟨ST_ACTL, 16, 8⟩

/-- 16_selftest_and_lifecycle.md: Table 16-13. -/
def ST_ASTAT : Nat := 0x40804
def ST_ASTAT_BG : Fld := ⟨ST_ASTAT, 0, 1⟩
def ST_ASTAT_TS : Fld := ⟨ST_ASTAT, 1, 1⟩
def ST_ASTAT_DIODE : Fld := ⟨ST_ASTAT, 2, 1⟩
def ST_ASTAT_SUP : Fld := ⟨ST_ASTAT, 3, 1⟩
def ST_ASTAT_VCORE : Fld := ⟨ST_ASTAT, 4, 1⟩
def ST_ASTAT_HOLD : Fld := ⟨ST_ASTAT, 5, 1⟩
def ST_ASTAT_BG_MAJ : Fld := ⟨ST_ASTAT, 8, 1⟩

/-- 16_selftest_and_lifecycle.md: Table 16-13. -/
def ST_TSMASK : Nat := 0x40808
def ST_TSMASK_TS : Fld := ⟨ST_TSMASK, 0, 32⟩

/-- 16_selftest_and_lifecycle.md: Table 16-13. -/
def ST_SUPMASK : Nat := 0x4080c
def ST_SUPMASK_SUP : Fld := ⟨ST_SUPMASK, 0, 20⟩

/-- 16_selftest_and_lifecycle.md: Table 16-13. -/
def LC_STATE : Nat := 0x40c00
def LC_STATE_STATE : Fld := ⟨LC_STATE, 0, 3⟩
def LC_STATE_SCAN : Fld := ⟨LC_STATE, 3, 1⟩

/-- 16_selftest_and_lifecycle.md: Table 16-13. -/
def LC_CMD : Nat := 0x40c04
def LC_CMD_CMD : Fld := ⟨LC_CMD, 0, 4⟩
def LC_CMD_TARGET : Fld := ⟨LC_CMD, 4, 3⟩
def LC_CMD_SLOT : Fld := ⟨LC_CMD, 8, 1⟩
def LC_CMD_KEY : Fld := ⟨LC_CMD, 24, 8⟩

/-- 16_selftest_and_lifecycle.md: Table 16-13. -/
def LC_CMDSTAT : Nat := 0x40c08
def LC_CMDSTAT_CODE : Fld := ⟨LC_CMDSTAT, 0, 4⟩
def LC_CMDSTAT_CMD : Fld := ⟨LC_CMDSTAT, 4, 4⟩
def LC_CMDSTAT_BUSY : Fld := ⟨LC_CMDSTAT, 8, 1⟩
def LC_CMDSTAT_REQ : Fld := ⟨LC_CMDSTAT, 16, 8⟩

/-- 16_selftest_and_lifecycle.md: Table 16-13. -/
def LC_KEYBUF (k : Nat) : Nat := 0x40c20 + 0x4 * k
def LC_KEYBUF_KEY (k : Nat) : Fld := ⟨LC_KEYBUF k, 0, 32⟩

/-- 16_selftest_and_lifecycle.md: Table 16-15. -/
def LN_STEYE (n : Nat) : Nat := 0x100100 + 0x2000 * n
def LN_STEYE_VALID (n : Nat) : Fld := ⟨LN_STEYE n, 0, 1⟩
def LN_STEYE_PASS (n : Nat) : Fld := ⟨LN_STEYE n, 1, 1⟩
def LN_STEYE_PTFAIL (n : Nat) : Fld := ⟨LN_STEYE n, 2, 4⟩
def LN_STEYE_WORST (n : Nat) : Fld := ⟨LN_STEYE n, 8, 24⟩

/-- 16_selftest_and_lifecycle.md: Table 16-15. -/
def LN_STLOOP (n : Nat) : Nat := 0x100104 + 0x2000 * n
def LN_STLOOP_VALID (n : Nat) : Fld := ⟨LN_STLOOP n, 0, 1⟩
def LN_STLOOP_PASS (n : Nat) : Fld := ⟨LN_STLOOP n, 1, 1⟩
def LN_STLOOP_ERRS (n : Nat) : Fld := ⟨LN_STLOOP n, 8, 24⟩

/-- The registers of 16_selftest_and_lifecycle.md, part 0. -/
def map_16_selftest_and_lifecycle_0 : List RegDesc := [
  ⟨"ST_CTL", 0x40000, [], 4, 0xa070640, [⟨0, 1, .rw⟩, ⟨1, 3, .rw⟩, ⟨4, 12, .rw⟩, ⟨16, 1, .rw⟩, ⟨17, 1, .rw⟩, ⟨18, 1, .rw⟩, ⟨24, 8, .rw⟩]⟩,
  ⟨"ST_STAT", 0x40004, [], 4, 0x0, [⟨0, 4, .ro⟩, ⟨4, 1, .ro⟩, ⟨5, 1, .ro⟩, ⟨6, 1, .ro⟩, ⟨7, 1, .ro⟩]⟩,
  ⟨"ST_CMD", 0x40008, [], 4, 0x0, [⟨0, 4, .wo⟩, ⟨4, 5, .wo⟩, ⟨9, 2, .wo⟩, ⟨11, 1, .wo⟩, ⟨16, 9, .wo⟩]⟩,
  ⟨"ST_CMDSTAT", 0x4000c, [], 4, 0x0, [⟨0, 4, .ro⟩, ⟨4, 4, .ro⟩, ⟨8, 8, .ro⟩]⟩,
  ⟨"ST_ERR", 0x40010, [], 4, 0x0, [⟨0, 1, .w1c⟩, ⟨1, 1, .w1c⟩, ⟨2, 1, .w1c⟩, ⟨3, 1, .w1c⟩, ⟨4, 1, .w1c⟩, ⟨5, 1, .w1c⟩, ⟨6, 1, .w1c⟩, ⟨7, 1, .w1c⟩, ⟨8, 1, .w1c⟩]⟩,
  ⟨"ST_ERRCTL", 0x40014, [], 4, 0x0, [⟨0, 8, .rw⟩]⟩,
  ⟨"ST_EVT", 0x40018, [], 4, 0x0, [⟨0, 1, .w1c⟩, ⟨1, 1, .w1c⟩, ⟨2, 1, .w1c⟩, ⟨3, 1, .w1c⟩]⟩,
  ⟨"ST_EVTEN", 0x4001c, [], 4, 0x0, [⟨0, 4, .rw⟩]⟩,
  ⟨"ST_SWEEPS", 0x40020, [], 4, 0x0, [⟨0, 32, .ro⟩]⟩,
  ⟨"ST_SLICES", 0x40024, [], 4, 0x0, [⟨0, 32, .ro⟩]⟩,
  ⟨"ST_FAILS", 0x40028, [], 4, 0x0, [⟨0, 32, .ro⟩]⟩,
  ⟨"ST_TRANS", 0x4002c, [], 4, 0x0, [⟨0, 32, .ro⟩]⟩,
  ⟨"ST_SKIPS", 0x40030, [], 4, 0x0, [⟨0, 32, .ro⟩]⟩,
  ⟨"ST_LAST", 0x40040, [], 8, 0x0, [⟨0, 5, .ro⟩, ⟨5, 2, .ro⟩, ⟨8, 9, .ro⟩, ⟨17, 4, .ro⟩, ⟨24, 4, .ro⟩, ⟨32, 32, .ro⟩]⟩,
  ⟨"ST_SLICE", 0x40100, [(24, 0x4)], 4, 0x0, [⟨0, 3, .ro⟩, ⟨3, 2, .ro⟩, ⟨8, 9, .ro⟩, ⟨17, 4, .ro⟩, ⟨21, 1, .ro⟩, ⟨22, 1, .ro⟩]⟩,
  ⟨"ST_SUB", 0x40200, [(24, 0x40), (11, 0x4)], 4, 0x0, [⟨0, 9, .ro⟩, ⟨9, 1, .ro⟩, ⟨10, 1, .ro⟩, ⟨11, 1, .ro⟩]⟩,
  ⟨"ST_ACTL", 0x40800, [], 4, 0xa0d00, [⟨0, 1, .rw⟩, ⟨8, 6, .rw⟩, ⟨16, 8, .rw⟩]⟩,
  ⟨"ST_ASTAT", 0x40804, [], 4, 0x0, [⟨0, 1, .w1c⟩, ⟨1, 1, .w1c⟩, ⟨2, 1, .w1c⟩, ⟨3, 1, .w1c⟩, ⟨4, 1, .w1c⟩, ⟨5, 1, .w1c⟩, ⟨8, 1, .ro⟩]⟩,
  ⟨"ST_TSMASK", 0x40808, [], 4, 0x0, [⟨0, 32, .ro⟩]⟩,
  ⟨"ST_SUPMASK", 0x4080c, [], 4, 0x0, [⟨0, 20, .ro⟩]⟩,
  ⟨"LC_STATE", 0x40c00, [], 4, 0x0, [⟨0, 3, .ro⟩, ⟨3, 1, .ro⟩]⟩,
  ⟨"LC_CMD", 0x40c04, [], 4, 0x0, [⟨0, 4, .wo⟩, ⟨4, 3, .wo⟩, ⟨8, 1, .wo⟩, ⟨24, 8, .wo⟩]⟩,
  ⟨"LC_CMDSTAT", 0x40c08, [], 4, 0x0, [⟨0, 4, .ro⟩, ⟨4, 4, .ro⟩, ⟨8, 1, .ro⟩, ⟨16, 8, .ro⟩]⟩,
  ⟨"LC_KEYBUF", 0x40c20, [(8, 0x4)], 4, 0x0, [⟨0, 32, .wo⟩]⟩,
  ⟨"LN_STEYE", 0x100100, [(128, 0x2000)], 4, 0x0, [⟨0, 1, .ro⟩, ⟨1, 1, .ro⟩, ⟨2, 4, .ro⟩, ⟨8, 24, .ro⟩]⟩,
  ⟨"LN_STLOOP", 0x100104, [(128, 0x2000)], 4, 0x0, [⟨0, 1, .ro⟩, ⟨1, 1, .ro⟩, ⟨8, 24, .ro⟩]⟩]

/-! ## 17_io_banks_and_control_pins.md -/

/-- 17_io_banks_and_control_pins.md: Table 17-2. -/
def IO_CFG (r p : Nat) : Nat := 0x1002000 + 0x200000 * r + 0x4 * p
def IO_CFG_HOLD (r p : Nat) : Fld := ⟨IO_CFG r p, 0, 2⟩
def IO_CFG_STD (r p : Nat) : Fld := ⟨IO_CFG r p, 2, 2⟩
def IO_CFG_DIR (r p : Nat) : Fld := ⟨IO_CFG r p, 4, 2⟩
def IO_CFG_MODE (r p : Nat) : Fld := ⟨IO_CFG r p, 6, 2⟩
def IO_CFG_DRIVE (r p : Nat) : Fld := ⟨IO_CFG r p, 8, 2⟩
def IO_CFG_SLEW (r p : Nat) : Fld := ⟨IO_CFG r p, 10, 1⟩
def IO_CFG_PULL (r p : Nat) : Fld := ⟨IO_CFG r p, 11, 2⟩
def IO_CFG_RESETVAL (r p : Nat) : Fld := ⟨IO_CFG r p, 13, 1⟩
def IO_CFG_OERST (r p : Nat) : Fld := ⟨IO_CFG r p, 14, 1⟩
def IO_CFG_ILIM (r p : Nat) : Fld := ⟨IO_CFG r p, 15, 3⟩
def IO_CFG_TERM (r p : Nat) : Fld := ⟨IO_CFG r p, 18, 1⟩
def IO_CFG_GDIV (r p : Nat) : Fld := ⟨IO_CFG r p, 19, 2⟩
def IO_CFG_RXPH (r p : Nat) : Fld := ⟨IO_CFG r p, 21, 4⟩

/-- 17_io_banks_and_control_pins.md: Table 17-1. -/
def IOB_SET (r : Nat) : Nat := 0x10020c0 + 0x200000 * r
def IOB_SET_VCCIO (r : Nat) : Fld := ⟨IOB_SET r, 0, 2⟩
def IOB_SET_EN (r : Nat) : Fld := ⟨IOB_SET r, 2, 1⟩
def IOB_SET_QSCOPE (r : Nat) : Fld := ⟨IOB_SET r, 3, 1⟩
def IOB_SET_QFATAL (r : Nat) : Fld := ⟨IOB_SET r, 4, 1⟩

/-- 17_io_banks_and_control_pins.md: Table 17-11, Table 17-7. -/
def CP_CFG (n : Nat) : Nat := 0x11000 + 0x4 * n
def CP_CFG_THR (n : Nat) : Fld := ⟨CP_CFG n, 0, 1⟩
def CP_CFG_HYST (n : Nat) : Fld := ⟨CP_CFG n, 1, 1⟩
def CP_CFG_FILT (n : Nat) : Fld := ⟨CP_CFG n, 2, 2⟩
def CP_CFG_FLEN (n : Nat) : Fld := ⟨CP_CFG n, 4, 8⟩
def CP_CFG_PULL (n : Nat) : Fld := ⟨CP_CFG n, 12, 2⟩
def CP_CFG_ANA (n : Nat) : Fld := ⟨CP_CFG n, 14, 1⟩
def CP_CFG_DRV (n : Nat) : Fld := ⟨CP_CFG n, 16, 2⟩

/-- 17_io_banks_and_control_pins.md: R636. -/
def CP_RAW : Nat := 0x11100
def CP_RAW_LEVEL : Fld := ⟨CP_RAW, 0, 52⟩

/-- 17_io_banks_and_control_pins.md: R636. -/
def CP_FILT : Nat := 0x11108
def CP_FILT_LEVEL : Fld := ⟨CP_FILT, 0, 52⟩

/-- 17_io_banks_and_control_pins.md: Table 17-11. -/
def CP_CMDSTAT : Nat := 0x11110
def CP_CMDSTAT_CODE : Fld := ⟨CP_CMDSTAT, 0, 4⟩
def CP_CMDSTAT_REQ : Fld := ⟨CP_CMDSTAT, 8, 8⟩
def CP_CMDSTAT_OFFSET : Fld := ⟨CP_CMDSTAT, 16, 12⟩

/-- 17_io_banks_and_control_pins.md: Table 17-11, R637. -/
def TL_MAP (s : Nat) : Nat := 0x11400 + 0x4 * s
def TL_MAP_LINE (s : Nat) : Fld := ⟨TL_MAP s, 0, 3⟩
def TL_MAP_EN (s : Nat) : Fld := ⟨TL_MAP s, 3, 1⟩
def TL_MAP_INV (s : Nat) : Fld := ⟨TL_MAP s, 4, 1⟩

/-- 17_io_banks_and_control_pins.md: Table 17-11. -/
def TL_STAT : Nat := 0x11500
def TL_STAT_LEVEL : Fld := ⟨TL_STAT, 0, 8⟩
def TL_STAT_CONF : Fld := ⟨TL_STAT, 8, 8⟩

/-- 17_io_banks_and_control_pins.md: Table 17-11. -/
def TL_ERR : Nat := 0x11504
def TL_ERR_TRIG_CONFLICT : Fld := ⟨TL_ERR, 0, 8⟩

/-- 17_io_banks_and_control_pins.md: Table 17-11. -/
def TL_ERRCTL : Nat := 0x11508
def TL_ERRCTL_MASK : Fld := ⟨TL_ERRCTL, 0, 8⟩

/-- 17_io_banks_and_control_pins.md: Table 17-11, R638. -/
def FLAG_CTL : Nat := 0x11510
def FLAG_CTL_FOLLOW : Fld := ⟨FLAG_CTL, 0, 16⟩

/-- 17_io_banks_and_control_pins.md: Table 17-12. -/
def IOB_CTL (b : Nat) : Nat := 0x12000 + 0x40 * b
def IOB_CTL_QUENCH (b : Nat) : Fld := ⟨IOB_CTL b, 0, 1⟩
def IOB_CTL_QCLR (b : Nat) : Fld := ⟨IOB_CTL b, 1, 1⟩
def IOB_CTL_BITSLIP (b : Nat) : Fld := ⟨IOB_CTL b, 2, 1⟩
def IOB_CTL_PAIR (b : Nat) : Fld := ⟨IOB_CTL b, 8, 5⟩

/-- 17_io_banks_and_control_pins.md: Table 17-12. -/
def IOB_CMDSTAT (b : Nat) : Nat := 0x12004 + 0x40 * b
def IOB_CMDSTAT_CODE (b : Nat) : Fld := ⟨IOB_CMDSTAT b, 0, 4⟩
def IOB_CMDSTAT_REQ (b : Nat) : Fld := ⟨IOB_CMDSTAT b, 8, 8⟩

/-- 17_io_banks_and_control_pins.md: Table 17-12. -/
def IOB_STAT (b : Nat) : Nat := 0x12008 + 0x40 * b
def IOB_STAT_VOK (b : Nat) : Fld := ⟨IOB_STAT b, 0, 1⟩
def IOB_STAT_STALE (b : Nat) : Fld := ⟨IOB_STAT b, 1, 1⟩
def IOB_STAT_QUENCHED (b : Nat) : Fld := ⟨IOB_STAT b, 2, 1⟩
def IOB_STAT_LIM_EV (b : Nat) : Fld := ⟨IOB_STAT b, 3, 1⟩
def IOB_STAT_COLLAPSE (b : Nat) : Fld := ⟨IOB_STAT b, 4, 1⟩
def IOB_STAT_CMDQ (b : Nat) : Fld := ⟨IOB_STAT b, 5, 1⟩
def IOB_STAT_FATALQ (b : Nat) : Fld := ⟨IOB_STAT b, 6, 1⟩
def IOB_STAT_CFG_BAD (b : Nat) : Fld := ⟨IOB_STAT b, 7, 1⟩
def IOB_STAT_VRANGE_EV (b : Nat) : Fld := ⟨IOB_STAT b, 8, 1⟩
def IOB_STAT_UNDERRUN (b : Nat) : Fld := ⟨IOB_STAT b, 9, 1⟩
def IOB_STAT_OVERRUN (b : Nat) : Fld := ⟨IOB_STAT b, 10, 1⟩
def IOB_STAT_CNT_SAT (b : Nat) : Fld := ⟨IOB_STAT b, 11, 1⟩
def IOB_STAT_GUARDED (b : Nat) : Fld := ⟨IOB_STAT b, 12, 1⟩

/-- 17_io_banks_and_control_pins.md: Table 17-12. -/
def IOB_QPIN (b : Nat) : Nat := 0x12010 + 0x40 * b
def IOB_QPIN_PIN (b : Nat) : Fld := ⟨IOB_QPIN b, 0, 48⟩

/-- 17_io_banks_and_control_pins.md: Table 17-12. -/
def IOB_QCNT (b : Nat) : Nat := 0x12018 + 0x40 * b
def IOB_QCNT_COUNT (b : Nat) : Fld := ⟨IOB_QCNT b, 0, 32⟩

/-- 17_io_banks_and_control_pins.md: Table 17-12. -/
def IOB_ERRCTL (b : Nat) : Nat := 0x1201c + 0x40 * b
def IOB_ERRCTL_MASK (b : Nat) : Fld := ⟨IOB_ERRCTL b, 3, 8⟩

/-- 17_io_banks_and_control_pins.md: Table 17-12. -/
def IOB_VMON (b : Nat) : Nat := 0x12020 + 0x40 * b
def IOB_VMON_MV (b : Nat) : Fld := ⟨IOB_VMON b, 0, 12⟩

/-- The registers of 17_io_banks_and_control_pins.md, part 0. -/
def map_17_io_banks_and_control_pins_0 : List RegDesc := [
  ⟨"IO_CFG", 0x1002000, [(24, 0x200000), (48, 0x4)], 4, 0x0, [⟨0, 2, .ro⟩, ⟨2, 2, .ro⟩, ⟨4, 2, .ro⟩, ⟨6, 2, .ro⟩, ⟨8, 2, .ro⟩, ⟨10, 1, .ro⟩, ⟨11, 2, .ro⟩, ⟨13, 1, .ro⟩, ⟨14, 1, .ro⟩, ⟨15, 3, .ro⟩, ⟨18, 1, .ro⟩, ⟨19, 2, .ro⟩, ⟨21, 4, .ro⟩]⟩,
  ⟨"IOB_SET", 0x10020c0, [(24, 0x200000)], 4, 0x0, [⟨0, 2, .ro⟩, ⟨2, 1, .ro⟩, ⟨3, 1, .ro⟩, ⟨4, 1, .ro⟩]⟩,
  ⟨"CP_CFG", 0x11000, [(52, 0x4)], 4, 0x10002, [⟨0, 1, .rw⟩, ⟨1, 1, .rw⟩, ⟨2, 2, .rw⟩, ⟨4, 8, .rw⟩, ⟨12, 2, .rw⟩, ⟨14, 1, .rw⟩, ⟨16, 2, .rw⟩]⟩,
  ⟨"CP_RAW", 0x11100, [], 8, 0x0, [⟨0, 52, .ro⟩]⟩,
  ⟨"CP_FILT", 0x11108, [], 8, 0x0, [⟨0, 52, .ro⟩]⟩,
  ⟨"CP_CMDSTAT", 0x11110, [], 4, 0x0, [⟨0, 4, .ro⟩, ⟨8, 8, .ro⟩, ⟨16, 12, .ro⟩]⟩,
  ⟨"TL_MAP", 0x11400, [(64, 0x4)], 4, 0x0, [⟨0, 3, .rw⟩, ⟨3, 1, .rw⟩, ⟨4, 1, .rw⟩]⟩,
  ⟨"TL_STAT", 0x11500, [], 4, 0x0, [⟨0, 8, .ro⟩, ⟨8, 8, .ro⟩]⟩,
  ⟨"TL_ERR", 0x11504, [], 4, 0x0, [⟨0, 8, .w1c⟩]⟩,
  ⟨"TL_ERRCTL", 0x11508, [], 4, 0x0, [⟨0, 8, .rw⟩]⟩,
  ⟨"FLAG_CTL", 0x11510, [], 4, 0x0, [⟨0, 16, .rw⟩]⟩,
  ⟨"IOB_CTL", 0x12000, [(12, 0x40)], 4, 0x0, [⟨0, 1, .wo⟩, ⟨1, 1, .wo⟩, ⟨2, 1, .wo⟩, ⟨8, 5, .wo⟩]⟩,
  ⟨"IOB_CMDSTAT", 0x12004, [(12, 0x40)], 4, 0x0, [⟨0, 4, .ro⟩, ⟨8, 8, .ro⟩]⟩,
  ⟨"IOB_STAT", 0x12008, [(12, 0x40)], 4, 0x0, [⟨0, 1, .ro⟩, ⟨1, 1, .w1c⟩, ⟨2, 1, .ro⟩, ⟨3, 1, .w1c⟩, ⟨4, 1, .w1c⟩, ⟨5, 1, .w1c⟩, ⟨6, 1, .w1c⟩, ⟨7, 1, .w1c⟩, ⟨8, 1, .w1c⟩, ⟨9, 1, .w1c⟩, ⟨10, 1, .w1c⟩, ⟨11, 1, .w1c⟩, ⟨12, 1, .ro⟩]⟩,
  ⟨"IOB_QPIN", 0x12010, [(12, 0x40)], 8, 0x0, [⟨0, 48, .ro⟩]⟩,
  ⟨"IOB_QCNT", 0x12018, [(12, 0x40)], 4, 0x0, [⟨0, 32, .ro⟩]⟩,
  ⟨"IOB_ERRCTL", 0x1201c, [(12, 0x40)], 4, 0x0, [⟨3, 8, .rw⟩]⟩,
  ⟨"IOB_VMON", 0x12020, [(12, 0x40)], 4, 0x0, [⟨0, 12, .ro⟩]⟩]

/-! ## 18_incidents.md -/

/-- 18_incidents.md: Table 18-9. -/
def IL_CTL : Nat := 0x13000
def IL_CTL_MINSEV : Fld := ⟨IL_CTL, 0, 3⟩
def IL_CTL_ALMSEV : Fld := ⟨IL_CTL, 4, 3⟩
def IL_CTL_EVTSEV : Fld := ⟨IL_CTL, 8, 3⟩
def IL_CTL_EVT_EN : Fld := ⟨IL_CTL, 12, 1⟩
def IL_CTL_FREEZE : Fld := ⟨IL_CTL, 13, 1⟩
def IL_CTL_CWIN : Fld := ⟨IL_CTL, 16, 8⟩
def IL_CTL_SUMGAP : Fld := ⟨IL_CTL, 24, 8⟩

/-- 18_incidents.md: Table 18-9. -/
def IL_RATE : Nat := 0x13004
def IL_RATE_BURST : Fld := ⟨IL_RATE, 0, 8⟩
def IL_RATE_REFILL : Fld := ⟨IL_RATE, 16, 16⟩

/-- 18_incidents.md: Table 18-9. -/
def IL_CMD : Nat := 0x13008
def IL_CMD_CMD : Fld := ⟨IL_CMD, 0, 4⟩

/-- 18_incidents.md: Table 18-9. -/
def IL_CMDSTAT : Nat := 0x1300c
def IL_CMDSTAT_CODE : Fld := ⟨IL_CMDSTAT, 0, 4⟩
def IL_CMDSTAT_CMD : Fld := ⟨IL_CMDSTAT, 4, 4⟩
def IL_CMDSTAT_REQ : Fld := ⟨IL_CMDSTAT, 8, 8⟩

/-- 18_incidents.md: Table 18-9. -/
def IL_STAT : Nat := 0x13010
def IL_STAT_WPTR : Fld := ⟨IL_STAT, 0, 12⟩
def IL_STAT_LAP : Fld := ⟨IL_STAT, 12, 1⟩
def IL_STAT_WRAPPED : Fld := ⟨IL_STAT, 13, 1⟩
def IL_STAT_FRZ_ACT : Fld := ⟨IL_STAT, 14, 1⟩
def IL_STAT_ALARM : Fld := ⟨IL_STAT, 15, 1⟩
def IL_STAT_PM_HELD : Fld := ⟨IL_STAT, 16, 1⟩
def IL_STAT_SUM_PEND : Fld := ⟨IL_STAT, 17, 1⟩
def IL_STAT_CNT_SAT : Fld := ⟨IL_STAT, 18, 1⟩

/-- 18_incidents.md: Table 18-9. -/
def IL_PEND : Nat := 0x13014
def IL_PEND_COUNT : Fld := ⟨IL_PEND, 0, 13⟩

/-- 18_incidents.md: Table 18-9. -/
def IL_LOST : Nat := 0x13018
def IL_LOST_COUNT : Fld := ⟨IL_LOST, 0, 32⟩

/-- 18_incidents.md: Table 18-9. -/
def IL_COALCNT : Nat := 0x1301c
def IL_COALCNT_COUNT : Fld := ⟨IL_COALCNT, 0, 32⟩

/-- 18_incidents.md: Table 18-9. -/
def IL_BELOW : Nat := 0x13020
def IL_BELOW_COUNT : Fld := ⟨IL_BELOW, 0, 32⟩

/-- 18_incidents.md: Table 18-9. -/
def IL_TOTAL : Nat := 0x13028
def IL_TOTAL_COUNT : Fld := ⟨IL_TOTAL, 0, 64⟩

/-- 18_incidents.md: Table 18-9. -/
def IL_LOSTSRC : Nat := 0x13030
def IL_LOSTSRC_SRC : Fld := ⟨IL_LOSTSRC, 0, 10⟩
def IL_LOSTSRC_VALID : Fld := ⟨IL_LOSTSRC, 16, 1⟩

/-- The registers of 18_incidents.md, part 0. -/
def map_18_incidents_0 : List RegDesc := [
  ⟨"IL_CTL", 0x13000, [], 4, 0xa642441, [⟨0, 3, .rw⟩, ⟨4, 3, .rw⟩, ⟨8, 3, .rw⟩, ⟨12, 1, .rw⟩, ⟨13, 1, .rw⟩, ⟨16, 8, .rw⟩, ⟨24, 8, .rw⟩]⟩,
  ⟨"IL_RATE", 0x13004, [], 4, 0x3e80010, [⟨0, 8, .rw⟩, ⟨16, 16, .rw⟩]⟩,
  ⟨"IL_CMD", 0x13008, [], 4, 0x0, [⟨0, 4, .wo⟩]⟩,
  ⟨"IL_CMDSTAT", 0x1300c, [], 4, 0x0, [⟨0, 4, .ro⟩, ⟨4, 4, .ro⟩, ⟨8, 8, .ro⟩]⟩,
  ⟨"IL_STAT", 0x13010, [], 4, 0x5000, [⟨0, 12, .ro⟩, ⟨12, 1, .ro⟩, ⟨13, 1, .ro⟩, ⟨14, 1, .ro⟩, ⟨15, 1, .ro⟩, ⟨16, 1, .ro⟩, ⟨17, 1, .ro⟩, ⟨18, 1, .ro⟩]⟩,
  ⟨"IL_PEND", 0x13014, [], 4, 0x0, [⟨0, 13, .ro⟩]⟩,
  ⟨"IL_LOST", 0x13018, [], 4, 0x0, [⟨0, 32, .ro⟩]⟩,
  ⟨"IL_COALCNT", 0x1301c, [], 4, 0x0, [⟨0, 32, .ro⟩]⟩,
  ⟨"IL_BELOW", 0x13020, [], 4, 0x0, [⟨0, 32, .ro⟩]⟩,
  ⟨"IL_TOTAL", 0x13028, [], 8, 0x0, [⟨0, 64, .ro⟩]⟩,
  ⟨"IL_LOSTSRC", 0x13030, [], 4, 0x0, [⟨0, 10, .ro⟩, ⟨16, 1, .ro⟩]⟩]

/-! ## 19_electrical_and_package.md -/

/-- 19_electrical_and_package.md: Table 19-11. -/
def PWR_CTL : Nat := 0x14000
def PWR_CTL_TWARN : Fld := ⟨PWR_CTL, 0, 8⟩

/-- 19_electrical_and_package.md: Table 19-11. -/
def PWR_STAT : Nat := 0x14004
def PWR_STAT_TWARN_ACT : Fld := ⟨PWR_STAT, 0, 1⟩
def PWR_STAT_TWARN_EV : Fld := ⟨PWR_STAT, 1, 1⟩
def PWR_STAT_RAIL_EV : Fld := ⟨PWR_STAT, 2, 1⟩
def PWR_STAT_HOLD_LOW : Fld := ⟨PWR_STAT, 3, 1⟩
def PWR_STAT_TRIP_PREV : Fld := ⟨PWR_STAT, 4, 1⟩

/-- 19_electrical_and_package.md: Table 19-11. -/
def PWR_CMDSTAT : Nat := 0x14008
def PWR_CMDSTAT_CODE : Fld := ⟨PWR_CMDSTAT, 0, 4⟩
def PWR_CMDSTAT_REQ : Fld := ⟨PWR_CMDSTAT, 8, 8⟩

/-- 19_electrical_and_package.md: Table 19-11. -/
def LV_STAT : Nat := 0x1400c
def LV_STAT_WAKE : Fld := ⟨LV_STAT, 0, 1⟩
def LV_STAT_WAKE_SEEN : Fld := ⟨LV_STAT, 1, 1⟩
def LV_STAT_STBY_PREV : Fld := ⟨LV_STAT, 2, 1⟩
def LV_STAT_STBY_CNT : Fld := ⟨LV_STAT, 16, 16⟩

/-- 19_electrical_and_package.md: Table 19-11. -/
def PWR_TMAX : Nat := 0x14010
def PWR_TMAX_TEMP : Fld := ⟨PWR_TMAX, 0, 16⟩
def PWR_TMAX_SENSOR : Fld := ⟨PWR_TMAX, 16, 5⟩

/-- 19_electrical_and_package.md: Table 19-11. -/
def PWR_DIODE : Nat := 0x14014
def PWR_DIODE_TEMP : Fld := ⟨PWR_DIODE, 0, 16⟩
def PWR_DIODE_VALID : Fld := ⟨PWR_DIODE, 16, 1⟩

/-- 19_electrical_and_package.md: Table 19-11. -/
def PWR_RAIL (n : Nat) : Nat := 0x14040 + 0x4 * n
def PWR_RAIL_MV (n : Nat) : Fld := ⟨PWR_RAIL n, 0, 16⟩
def PWR_RAIL_LOW (n : Nat) : Fld := ⟨PWR_RAIL n, 16, 1⟩
def PWR_RAIL_HIGH (n : Nat) : Fld := ⟨PWR_RAIL n, 17, 1⟩
def PWR_RAIL_OOR (n : Nat) : Fld := ⟨PWR_RAIL n, 18, 1⟩

/-- 19_electrical_and_package.md: Table 19-11. -/
def PWR_TS (k : Nat) : Nat := 0x14100 + 0x4 * k
def PWR_TS_TEMP (k : Nat) : Fld := ⟨PWR_TS k, 0, 16⟩

/-- The registers of 19_electrical_and_package.md, part 0. -/
def map_19_electrical_and_package_0 : List RegDesc := [
  ⟨"PWR_CTL", 0x14000, [], 4, 0x64, [⟨0, 8, .rw⟩]⟩,
  ⟨"PWR_STAT", 0x14004, [], 4, 0x0, [⟨0, 1, .ro⟩, ⟨1, 1, .w1c⟩, ⟨2, 1, .w1c⟩, ⟨3, 1, .w1c⟩, ⟨4, 1, .ro⟩]⟩,
  ⟨"PWR_CMDSTAT", 0x14008, [], 4, 0x0, [⟨0, 4, .ro⟩, ⟨8, 8, .ro⟩]⟩,
  ⟨"LV_STAT", 0x1400c, [], 4, 0x0, [⟨0, 1, .ro⟩, ⟨1, 1, .w1c⟩, ⟨2, 1, .ro⟩, ⟨16, 16, .ro⟩]⟩,
  ⟨"PWR_TMAX", 0x14010, [], 4, 0x0, [⟨0, 16, .ro⟩, ⟨16, 5, .ro⟩]⟩,
  ⟨"PWR_DIODE", 0x14014, [], 4, 0x0, [⟨0, 16, .ro⟩, ⟨16, 1, .ro⟩]⟩,
  ⟨"PWR_RAIL", 0x14040, [(20, 0x4)], 4, 0x0, [⟨0, 16, .ro⟩, ⟨16, 1, .ro⟩, ⟨17, 1, .ro⟩, ⟨18, 1, .w1c⟩]⟩,
  ⟨"PWR_TS", 0x14100, [(32, 0x4)], 4, 0x0, [⟨0, 16, .ro⟩]⟩]

/-- Every register of the map. -/
def all : List RegDesc :=
  map_02_tick_0 ++
  map_03_macrocells_0 ++
  map_04_crossbars_and_regions_0 ++
  map_05_block_memories_0 ++
  map_06_memory_protection_0 ++
  map_07_engines_0 ++
  map_09_network_0 ++
  map_10_capture_queues_0 ++
  map_10_capture_queues_1 ++
  map_11_lanes_0 ++
  map_12_idlis_link_0 ++
  map_13_host_ports_0 ++
  map_14_configuration_0 ++
  map_15_boot_and_persistence_0 ++
  map_16_selftest_and_lifecycle_0 ++
  map_17_io_banks_and_control_pins_0 ++
  map_18_incidents_0 ++
  map_19_electrical_and_package_0

/-- The registers whose reset value is not 0, part 0: base, instances, value. -/
def resets_0 : List (Nat × List (Nat × Nat) × Nat) := [
  (0x12148, [], 0x1000),
  (0x12108, [], 0x1000),
  (0x120c8, [], 0x1000),
  (0x12088, [], 0x1000),
  (0x12048, [], 0x1000),
  (0x12008, [], 0x1000),
  (0x110cc, [], 0x14002),
  (0x110c8, [], 0x14002),
  (0x110c0, [], 0x14002),
  (0x110bc, [], 0x12002),
  (0x110b8, [], 0x11002),
  (0x110b0, [], 0x11002),
  (0x110ac, [], 0x11002),
  (0x1105c, [], 0x12002),
  (0x11058, [], 0x12002),
  (0x11054, [], 0x12002),
  (0x11050, [], 0x12002),
  (0x1104c, [], 0x12002),
  (0x20008, [], 0x7),
  (0x20024, [], 0x410),
  (0x20028, [], 0xa),
  (0x2002c, [], 0x30000),
  (0x20030, [], 0x1e),
  (0x20044, [], 0x2ee),
  (0x20048, [], 0x3520258),
  (0x2004c, [], 0x2ee),
  (0x20050, [], 0x4080a2),
  (0x20060, [], 0x10000),
  (0x2100c, [(24, 0x100)], 0x640000),
  (0x21010, [(24, 0x100)], 0xffffff),
  (0x21014, [(24, 0x100)], 0xffffff),
  (0x21018, [(24, 0x100)], 0xffffff),
  (0x2101c, [(24, 0x100)], 0xffffff),
  (0x100000c, [(24, 0x200000)], 0x80000000),
  (0x1000040, [(24, 0x200000)], 0xe10),
  (0x1000c00, [(24, 0x200000)], 0x1001),
  (0x1000c04, [(24, 0x200000)], 0x400),
  (0x23f000, [(4, 0x40000)], 0x1000001),
  (0x113001c, [(24, 0x200000), (4, 0x40000)], 0x1),
  (0x90004, [(48, 0x2000)], 0x410)]

/-- The registers whose reset value is not 0, part 1: base, instances, value. -/
def resets_1 : List (Nat × List (Nat × Nat) × Nat) := [
  (0x91000, [(48, 0x2000), (2, 0x800)], 0x64),
  (0x200000, [(4, 0x40000)], 0x1),
  (0x200014, [(4, 0x40000)], 0x10000),
  (0x200018, [(4, 0x40000)], 0xa04),
  (0x210000, [(4, 0x40000), (256, 0x80)], 0x4),
  (0x210008, [(4, 0x40000), (256, 0x80)], 0x20000000),
  (0x100000, [(128, 0x2000)], 0x3200),
  (0x100020, [(128, 0x2000)], 0x280001),
  (0x10100c, [(16, 0x10000)], 0xffffff),
  (0x100264, [(128, 0x2000)], 0x80000),
  (0x100270, [(128, 0x2000)], 0x80032),
  (0x100280, [(128, 0x2000)], 0x3e8),
  (0x0, [], 0x9624),
  (0x30004, [], 0x40000000),
  (0x10010, [], 0x8140b4),
  (0x40000, [], 0xa070640),
  (0x40800, [], 0xa0d00),
  (0x11000, [(52, 0x4)], 0x10002),
  (0x13000, [], 0xa642441),
  (0x13004, [], 0x3e80010),
  (0x13010, [], 0x5000),
  (0x14000, [], 0x64)]

/-- The registers whose reset value is not 0. -/
def resets : List (Nat × List (Nat × Nat) × Nat) :=
  resets_0 ++ resets_1

end Sys2Proof.Machine.Reg
end

