-- ==== Sys2Proof/Machine/Mesh.lean ====
section
/-! DEFINITION. The mesh of the packet network: positions, ports, bridged links and default routes (Table 1-8, R313, R314,
R334). -/

namespace Sys2Proof.Machine

/-- The mesh column and row of node `n` (Table 1-8: node ID = 8y + x). -/
def nodeX (n : Nat) : Nat := n % 8
def nodeY (n : Nat) : Nat := n / 8

/-- Is node `n` a region router (Table 1-8)? -/
def isRegionNode (n : Nat) : Bool :=
  decide (1 ≤ nodeX n) && decide (nodeX n ≤ 6) && decide (1 ≤ nodeY n) && decide (nodeY n ≤ 4)

/-- The node of region `r` (Table 1-8). -/
def regionNode (r : Nat) : Nat := 8 * (1 + r / 6) + 1 + r % 6

/-- The region of a region router. -/
def nodeRegion (n : Nat) : Nat := (nodeY n - 1) * 6 + (nodeX n - 1)

/-- The node of lane hub `g` (Table 1-8). -/
def hubNode (g : Nat) : Nat :=
  if g < 6 then 1 + g else if g < 12 then 35 + g else if g = 12 then 16 else if g = 13 then 24 else if g = 14 then 23 else 31

/-- The node of shard `q` (Table 1-8). -/
def shardNode (q : Nat) : Nat :=
  if q = 0 then 8 else if q = 1 then 32 else if q = 2 then 15 else 39

/-- The node of host port `p` (Table 1-8). -/
def hostNode (p : Nat) : Nat := if p = 0 then 0 else 7

/-- The configuration controller's node, and housekeeping's (Table 1-8). -/
def cfgNode : Nat := 40
def hkNode : Nat := 47

/-- Port numbers of a router (Table 9-1): N 0, E 1, S 2, W 3, L0 4, L1 5. Does port `p` of node `n` exist (R313)? -/
def portExists (n p : Nat) : Bool :=
  match p with
  | 0 => decide (nodeY n < 5)
  | 1 => decide (nodeX n < 7)
  | 2 => decide (0 < nodeY n)
  | 3 => decide (0 < nodeX n)
  | 4 => true
  | 5 => n == 40
  | _ => false

/-- The node that port `p` of node `n` faces (Table 9-1); the node itself for a local port. -/
def facing (n p : Nat) : Nat :=
  match p with
  | 0 => n + 8
  | 1 => n + 1
  | 2 => n - 8
  | 3 => n - 1
  | _ => n

/-- The port of the facing router that faces back. -/
def backPort (p : Nat) : Nat :=
  match p with
  | 0 => 2
  | 1 => 3
  | 2 => 0
  | 3 => 1
  | p => p

/-- The link at port `p` of node `n` passes an asynchronous bridge (R314). -/
def portBridged (n p : Nat) : Bool :=
  portExists n p && decide (p < 4) && (isRegionNode n || isRegionNode (facing n p))

/-- The mask of the ports that exist (RTR_ID.PORTS). -/
def portMask (n : Nat) : Nat :=
  ((List.range 6).map (fun p => if portExists n p then 2 ^ p else 0)).sum

/-- `k` route codes of value `c`, from code position `i` on (R316, Table 9-2). -/
def routeRun (c : Nat) : Nat → Nat → Nat
  | _, 0 => 0
  | i, k + 1 => c * 2 ^ (3 * i) + routeRun c (i + 1) k

/-- The default route from node `a` to node `b`: all x hops first, then all y hops, then `eject` (R334). Codes: N 1, E 2,
S 3, W 4. -/
def defaultRoute (a b eject : Nat) : Nat :=
  let (hx, cx) := if nodeX a ≤ nodeX b then (nodeX b - nodeX a, 2) else (nodeX a - nodeX b, 4)
  let (hy, cy) := if nodeY a ≤ nodeY b then (nodeY b - nodeY a, 1) else (nodeY a - nodeY b, 3)
  routeRun cx 0 hx + routeRun cy hx hy + eject * 2 ^ (3 * (hx + hy))

/-- The default entry `e` of an interface at node `a` (R334): VALID in bit 63, DST in bits 47–42, ROUTE in bits 41–0. -/
def defaultEntry (a e : Nat) : Nat :=
  if e < 48 then 2 ^ 63 + e * 2 ^ 42 + defaultRoute a e 0
  else if e = 48 then 2 ^ 63 + 40 * 2 ^ 42 + defaultRoute a 40 5
  else 0

end Sys2Proof.Machine
end

