-- ==== Sys2Proof/Config.lean ====
section
/-! DEFINITION. What an implementation fixes and what the spec leaves open. A free value is an opaque constant: nothing
in Lean can evaluate it, so a claim holds whatever it is. -/

namespace Sys2Proof.Config

/-- The free value number `n`, `w` bits wide. The model's own counter `State.freeCount` supplies `n`, a fresh number for
each value the spec leaves open (assumption 2). -/
opaque freeBits (w : Nat) : Nat → BitVec w

/-- The free truth value number `n`: a choice the spec leaves open (assumption 2). -/
opaque freeBool : Nat → Bool

/-- A value that an implementation fixes once and the spec does not state, by number (assumption 2). -/
opaque implBits (w : Nat) : Nat → BitVec w

end Sys2Proof.Config
end

