-- ==== Sys2Proof/Machine/State.lean ====
section
/-! DEFINITION. The state of the block: plain data. Registers are held in one sparse file by C-window address; what the
spec gives the machine beyond its registers is held unit by unit below. -/

namespace Sys2Proof.Machine

/-- Why the machine would stop. Nothing the spec describes stops this block; the one fault says that a decoded command
cannot be what the table lists. -/
inductive Fault where
  /-- Raised by no meaning: kept so that the type has a name to fault with. Safe: it allows nothing. -/
  | impossible
  deriving DecidableEq, Repr

/-- Why a command has no effect in the model. -/
inductive Refusal where
  /-- Raised by the dispatch for a command that has no meaning yet. Safe: nothing can be proved of it. -/
  | notModelled (mnemonic : String)
  deriving DecidableEq, Repr

/-- The shared status codes of Table 0-3 (R11). -/
inductive Code where
  | ok | eState | eArg | eLate | eBusy | eNotBlank | eEcc | eTmo | eIso | eRst | eAuth | eCrc | eLock | eHold | eNoSpace
  | eUnsup
  deriving DecidableEq, Repr

/-- The severities of incidents, in rising order (chapter 18, Table 18-1). -/
inductive Sev where
  | info | notice | degraded | fault | fatal
  deriving DecidableEq, Repr

/-- An incident on its way from a unit to the log (R641, R642). -/
structure Incident where
  sev : Sev
  src : Nat
  code : Nat
  arg : Word64
  tick : Word
  deriving DecidableEq, Repr

/-- One unit's port of the incident bus: the incidents held, oldest first, and the drops not yet delivered (R641). -/
structure BusPort where
  slots : List Incident
  drops : Nat
  deriving DecidableEq, Repr

/-- What the block sends to its surroundings, recorded by the model as it is sent. -/
inductive Output where
  /-- The response to a register write: requester, C-window address, outcome (R687). -/
  | response (req addr : Nat) (code : Code)
  /-- The data of a completed read: requester, address, its bytes as a little-endian number. -/
  | readData (req addr : Nat) (value : Nat)
  /-- An AVSBus voltage write, in mV (R69). -/
  | avsWrite (mv : Nat)
  /-- An Idlis packet sent on the link of a head lane: its length in bytes, and its bytes (R440). -/
  | linkSend (lane len v : Nat)
  /-- A codeword leaves lane `n`: the levels on the line, the first in the low bits (R416, R418). -/
  | laneSend (n levels : Nat)
  /-- The MSI-X message of a vector: port, vector, address, data (R502). -/
  | msix (port vec addr data : Nat)
  /-- A host read that ends in Completer Abort, or a configuration request: port, address, Retry Status rather than an answer
  (R484, R488). -/
  | abort (port addr : Nat)
  | config (port : Nat) (retry : Bool) (value : Nat)
  /-- An AER Uncorrectable Internal Error (R213). -/
  | aer (port : Nat)
  /-- A host request answered with Unsupported Request (R485). -/
  | unsupported (port addr : Nat)
  deriving DecidableEq, Repr

/-- Where a region's evaluation wave stands (Table 2-6). -/
inductive WavePhase where
  | idle | nullWave | evaluating | done
  deriving DecidableEq, Repr

/-- The commands of a region that wait for a region tick (R168, R170). -/
inductive TickCmd where
  | start | stop | resume
  deriving DecidableEq, Repr

/-- A tick-aligned command that waits: its kind, the tick at which it arrived, its requester. -/
structure PendCmd where
  kind : TickCmd
  arrival : Nat
  req : Nat
  /-- Its place in the order of arrival of tick-aligned commands and PR_STARTs (R172). -/
  seq : Nat
  deriving DecidableEq, Repr

/-- What the voltage loop has gathered of a region in the present interval (R65, R66, R68). -/
structure AvsGather where
  any : Bool
  overran : Bool
  minSlack : Int
  maxTec : Nat
  deriving DecidableEq, Repr

/-- Nothing gathered. -/
def AvsGather.none : AvsGather := ⟨false, false, 0, 0⟩

/-- The state of a FLOW word, kept at its controller: a plain stage, a SAMPLE or an OFFER port (R114–R121). -/
structure FlowSt where
  /-- A plain stage or an OFFER port holds a token; a SAMPLE port holds none. -/
  full : Bool
  /-- The word of the token, data cell 0 in bit 0. -/
  word : Nat
  /-- The acknowledge to the producer is raised (plain stage, SAMPLE). -/
  acko : Bool
  /-- An OFFER port's token has been acknowledged, and ACKIN has not returned to NULL yet. -/
  acked : Bool
  /-- The data inputs that were valid when the controller last looked at them, and their values (R117). -/
  seen : Nat
  seenWord : Nat
  deriving DecidableEq, Repr

/-- Who holds the grant of an ARB pair, and which of the other side's requests waits (R124–R126). -/
inductive ArbGrant where
  | none | a | b
  deriving DecidableEq, Repr

/-- What froze a region at an escalation: a cell error of a block (R132), a spine error (R177), a frame fault in a
block's frames or elsewhere (R228). -/
inductive EscCause where
  | block (b : Nat) | spine | frame (b : Nat) | frameOther
  deriving DecidableEq, Repr

/-- A request in the region arbiter: block, channel, target, priority, payload words, tag, and how many grants at higher
priorities have passed it over (R161, R162). -/
structure ArbReq where
  blk : Nat
  chan : Nat
  tgt : Nat
  pri : Nat
  words : Nat
  tag : Nat
  passed : Nat
  deriving DecidableEq, Repr

/-- A grant that holds a target: the request, the payload words driven so far, and those that the port has taken, which the
arbiter has returned to NULL (R163). -/
structure ArbHold where
  req : ArbReq
  payload : List Nat
  taken : Nat
  deriving DecidableEq, Repr

/-- A block's request port (R157–R161): the channel last taken, the channels with a request outstanding, the acknowledges
raised to the channels, the payload words of refused requests still to come by channel, the response words waiting with the
channel plus 1 of a header (the first of them is presented), and whether that first word has been acknowledged. -/
structure ReqPort where
  last : Nat
  busy : Nat
  acks : Nat
  drain : Tbl Nat
  resp : List (Nat × Nat)
  taken : Bool
  deriving DecidableEq, Repr

/-- A request port with nothing in progress. -/
def ReqPort.reset : ReqPort := ⟨3, 0, 0, [], [], false⟩

/-- The fabric of a region. -/
structure FabricSt where
  /-- The stored bits that differ from their reset value or have been written, by cell 64 × block + macrocell. -/
  cells : Tbl Bool
  /-- FLOW words by controller cell. -/
  flow : Tbl FlowSt
  /-- ARB pairs by their even cell. -/
  arb : Tbl ArbGrant
  /-- Spine registers by 256 × edge + signal (R148). -/
  spineOut : Tbl Bool
  /-- Spine inputs as presented to the wave in progress, by 258 × edge + signal, with RVT 256 and RVF 257 (R149). -/
  spineIn : Tbl Bool
  /-- Elements whose ILLEGAL events were counted in this region tick (R130). -/
  counted : List Nat
  /-- The escalation that makes the next region tick STALE (R132, R177, R228). -/
  esc : Option EscCause
  /-- Block request ports by block. -/
  ports : Tbl ReqPort
  /-- Pending requests of the region arbiter, in order of arrival. -/
  reqs : List ArbReq
  /-- Targets held, by target. -/
  holds : Tbl (Option ArbHold)
  /-- The block last granted at a target and priority, plus 1, by 4 × target + priority. -/
  lastBlk : Tbl Nat
  deriving DecidableEq, Repr

/-- An empty fabric: cells at their reset values, flow stages as R116 sets them, ARB pairs free. -/
def FabricSt.reset : FabricSt :=
  { cells := [], flow := [], arb := [], spineOut := [], spineIn := [], counted := [],
    esc := none, ports := [], reqs := [], holds := [], lastBlk := [] }

/-- What the fabric elements of a region remember of their signals. -/
structure ElemSt where
  /-- Elements whose detector presents logic 0 for ILLEGAL rails (R95): 1 while the healthy code has been NULL since the
  detection, 2 once it has been valid. Its return to NULL then ends the fault. -/
  illegal : Tbl Nat
  /-- Elements whose undetected pulse leaves what their readers see open: the number of the first free value for it, plus 1,
  and whether the code has been valid since (R94). -/
  open_ : Tbl (Nat × Bool)
  /-- The valid codes that elements of several inputs present, by `heldKey`: held until all their inputs are NULL (R93). -/
  hold : Tbl (Option Bool)
  deriving DecidableEq, Repr

/-- Elements that show NULL, without a fault. -/
def ElemSt.reset : ElemSt := ⟨[], [], []⟩

/-- What the spec gives a region beyond its registers. -/
structure RegionSt where
  /-- Phase of the wave in progress. -/
  phase : WavePhase
  /-- When DONE came, after the latest region tick, in 5 ps units; negative if it came before that tick. -/
  doneAt : Int
  /-- Time from the region's latest region tick to the latest tick boundary, in 5 ps units. -/
  elapsed : Nat
  /-- The tick of the latest region tick, if it overran and its slack is not recorded yet (R53). -/
  ovrOpen : Option Nat
  /-- The blocks that had not reported DONE at the present region tick, which waits for a RESUME (R62, R131). -/
  late : List Nat
  /-- The wave in progress carried a fault that froze the region: the tick registers never capture it (R132). -/
  discard : Bool
  /-- The tick at which the wave in progress began. -/
  waveTick : Option Nat
  /-- FAILMAP, as applied at the latest start, marks the region failed (R169, R604). -/
  failed : Bool
  /-- Histogram settings in force (R55). -/
  histBase : Nat
  histShift : Nat
  /-- The tick at which the slack window last ended (R54). -/
  winEnd : Option Nat
  avs : AvsGather
  /-- The Tarantella level drawn now (R73). -/
  tarLevel : Nat
  /-- The tick-aligned command that waits (R170). -/
  pend : Option PendCmd
  /-- The commands that wait for the next tick boundary, in order of arrival: command and requester (R168). -/
  boundary : List (Nat × Nat)
  /-- A tick boundary has come for the commands of `boundary`, and an event that R172 puts before them is due at it. -/
  held : Bool
  /-- Region ticks counted since the last Pavane stage (R541). -/
  pavane : Nat
  fab : FabricSt
  deriving DecidableEq, Repr

/-- A region after chip reset. -/
def RegionSt.reset : RegionSt :=
  { phase := .idle, doneAt := 0, elapsed := 0, ovrOpen := none, late := [], discard := false, waveTick := none,
    failed := false, histBase := 0, histShift := 3, winEnd := none,
    avs := .none, tarLevel := 0, pend := none, boundary := [], held := false, pavane := 0, fab := .reset }

/-- Work on an action entry that is ARMED or ISSUED (R78, R683). -/
structure ActWork where
  /-- The entry is performed late, as if its target were `due` (R78). -/
  late : Bool
  due : Nat
  /-- The regions of its mask that have not acted yet. -/
  remaining : Nat
  /-- The earliest refusal of a region, if any. -/
  refused : Option Code
  deriving DecidableEq, Repr

/-- The voltage loop and its AVSBus frame (R65–R72). -/
structure AvsSt where
  /-- The voltage commanded, in mV. -/
  volts : Nat
  /-- Repeats of the frame in progress. -/
  tries : Nat
  /-- The frame in progress carries this voltage. -/
  frame : Nat
  /-- Commanding has stopped after failed repeats (R70). -/
  stopped : Bool
  highRun : Nat
  sinceRaise : Nat
  /-- A clipped raise of the present episode has been logged (R71). -/
  clipLogged : Bool
  deriving DecidableEq, Repr

/-- A FLAG pulse that is high: entry, FLAG mask, width in ticks, tick of its rise (R82). -/
structure FlagPulse where
  entry : Nat
  mask : Nat
  width : Nat
  rise : Nat
  deriving DecidableEq, Repr

/-- What the spec gives the tick unit beyond its registers. -/
structure TickSt where
  /-- A first tick boundary is scheduled (R38). -/
  starting : Bool
  /-- An accepted stop waits for its boundary (R42). -/
  stopPending : Bool
  /-- RUN = 1 was written after the accepted stop (R682). -/
  restart : Bool
  /-- A TICK_SYNC edge has scheduled the load (R85). -/
  syncLoad : Bool
  avs : AvsSt
  act : Tbl ActWork
  flags : List FlagPulse
  /-- TICK_MARK is high (R89). -/
  markHigh : Bool
  /-- The tick of the last beacon of a peer port, plus 1; 0 before the first (R88). -/
  lastBeacon : Tbl Nat
  /-- Tick-aligned commands and PR_STARTs accepted so far (R172). -/
  aligned : Nat
  deriving DecidableEq, Repr

/-- The tick unit after chip reset. The spec gives the run of high intervals and the time since a raise no first value, and does not say
that a write of EN changes them: 0, and it does not, DESIGN CHOICE (log entry 49). -/
def TickSt.reset : TickSt :=
  { starting := false, stopPending := false, restart := false, syncLoad := false,
    avs := { volts := 750, tries := 0, frame := 750, stopped := false, highRun := 0, sinceRaise := 0,
             clipLogged := false },
    act := [], flags := [], markHigh := false, lastBeacon := [], aligned := 0 }

/-- The states of Lovage (Table 19-7). -/
inductive LvState where
  | off | stby | run | holdup
  deriving DecidableEq, Repr

/-- The always-on domain on VSTBY (chapters 18 and 19). -/
structure LovageSt where
  st : LvState
  /-- The alarm latch (R651). -/
  alarm : Bool
  /-- The post-mortem word, byte 0 lowest (Table 18-6). -/
  pm : Nat
  /-- WAKE_SEEN, STBY_PREV and STBY_CNT of LV_STAT (Table 19-11). -/
  wakeSeen : Bool
  stbyPrev : Bool
  stbyCnt : Nat
  /-- The last chip reset was a thermal trip: its sensor, and the temperature in 0.1 °C as 16 bits (R672). -/
  trip : Option (Nat × Nat)
  /-- The trip holds the chip in reset (R672). -/
  tripHold : Bool
  deriving DecidableEq, Repr

/-- Lovage when VSTBY has risen (R662). -/
def LovageSt.reset : LovageSt := ⟨.stby, false, 0, false, false, 0, none, false⟩

/-- A row of a block memory as it stood: data, valid bit, and the flipped-bit marks of its two code words (R206, R208). -/
structure RowImage where
  data : Nat
  valid : Bool
  mark0 : Nat
  mark1 : Nat
  deriving DecidableEq, Repr

/-- The access a block-memory port took last: its row, whether it wrote, and the row before it (R194). -/
structure BmTake where
  row : Nat
  write : Bool
  before : RowImage
  deriving DecidableEq, Repr

/-- A block-memory port (R187): a request taken whose slots are not NULL yet, the response presented (data, ERR, COL), an
acknowledge of the response that has not fallen yet, the access taken last. -/
structure BmPort where
  reqack : Bool
  resp : Option (Nat × Bool × Bool)
  racked : Bool
  last : Option BmTake
  seen : Nat
  seenWord : Nat
  deriving DecidableEq, Repr

/-- A port with no access in progress. -/
def BmPort.reset : BmPort := ⟨false, none, false, none, 0, 0⟩

/-- A block memory: the valid bits (row i at bit i), its ports, and the corrected errors found in this sweep (R182,
R187, Table 6-4). -/
structure BmSt where
  valid : Nat
  portA : BmPort
  portB : BmPort
  deriving DecidableEq, Repr

/-- A block memory with no valid row and idle ports. -/
def BmSt.reset : BmSt := ⟨0, .reset, .reset⟩

/-- A region's scrubber (R219–R226): the step it takes next, the corrected errors of this sweep by status register, and
the corrected frames that wait for a region tick (column, minor). -/
structure ScrubSt where
  step : Nat
  sweepCe : Tbl Nat
  writeback : List (Nat × Nat)
  deriving DecidableEq, Repr

/-- The scrubber at the beginning of a sweep. -/
def ScrubSt.reset : ScrubSt := ⟨0, [], []⟩

/-- A flit: the header fields of Table 9-2, the payload and the check field (R316). STATUS / CHAN is `stat`, TAG / STAMP is `tag`. -/
structure Flit where
  route : Nat
  hops : Nat
  vn : Nat
  pri : Nat
  nfl : Nat
  fidx : Nat
  opc : Nat
  stat : Nat
  rid : Nat
  tag : Nat
  dst : Nat
  stale : Bool
  poison : Bool
  blen : Nat
  payload : Nat
  check : Nat
  deriving DecidableEq, Repr

/-- Where the packet in progress on an input channel goes: out of a port, or nowhere. -/
inductive VcPath where
  | out (p : Nat) | sink
  deriving DecidableEq, Repr

/-- An input channel of an endpoint (R326): its queue, the path of the packet in progress, its header and how many of its
flits have left, whether the head flit at the front has been handled, the consecutive choices lost (R325), the credits owed to the
sender, and how many flits at the front the router itself has made, for which it owes none (R341). -/
structure VcIn where
  q : List Flit
  path : Option VcPath
  hdr : Option Flit
  gone : Nat
  headDone : Bool
  lost : Nat
  owed : Nat
  made : Nat
  deriving DecidableEq, Repr

/-- An empty input channel. -/
def VcIn.reset : VcIn := ⟨[], none, none, 0, false, 0, 0, 0⟩

/-- An endpoint of a link. A router's ports are 0–5, its interfaces' sides 6 and 7, and 8 is the source of the responses
that the router itself makes. `credits` counts what the far side has granted, by channel; `holder` is the input port, plus
1, whose packet holds an output channel (R323); `lastAged` and `lastNorm` are the round-robin places of R325, the latter by priority;
`sent` are the packets sent whose credits have not all returned (R340). `signalled`: INIT has been signalled and seen (R327). `live`:
the link has come up, and no reset of the far side has been met since (R338). -/
structure EndSt where
  inq : Tbl VcIn
  credits : Tbl Nat
  holder : Tbl Nat
  lastAged : Nat
  lastNorm : Tbl Nat
  sent : List (Nat × Flit × Nat)
  signalled : Bool
  live : Bool
  deriving DecidableEq, Repr

/-- An endpoint after reset. -/
def EndSt.reset : EndSt := ⟨[], [], [], 0, [], [], false, false⟩

/-- A transaction of an interface (R342): its requester and the requester's own reference, the header of its request, how
many responses are to come (R318), the status gathered, the data, and whether its tag is in quarantine. -/
structure NiTx where
  ref : Nat
  head : Flit
  parts : Nat
  code : Code
  quarantine : Bool
  deriving DecidableEq, Repr

/-- A completed transaction that waits for its requester: requester ID, its reference, status and data bytes as a number. -/
structure NetDone where
  node : Nat
  rid : Nat
  ref : Nat
  code : Code
  data : Nat
  deriving DecidableEq, Repr

/-- A network interface: flits waiting to be sent, by channel, the transactions by tag, and the lower words of route
entries written since (R333). -/
structure NiSt where
  txq : Tbl (List Flit)
  open_ : Tbl (Option NiTx)
  lower : Tbl (Option Word)
  deriving DecidableEq, Repr

/-- An interface after reset. -/
def NiSt.reset : NiSt := ⟨[], [], []⟩

/-- A word that a fabric port is to send: its data, its STAMP and its STALE (R347). -/
structure NipWord where
  data : Nat
  stamp : Nat
  stale : Bool
  deriving DecidableEq, Repr

/-- A network-interface fabric port (R347–R350): the transmit buffer; TXACK; the data and enable held from the latest
capture; TXREADY; the receive buffer; what the receive half presents (data, STALE, flag); whether a FLOW token is
presented, and whether its acknowledge is still up. -/
structure NipSt where
  tx : List NipWord
  txack : Bool
  heldD : Nat
  heldEn : Bool
  ready : Bool
  rx : List (Nat × Bool)
  rxd : Nat
  rxstale : Bool
  rxflag : Bool
  token : Bool
  rxacked : Bool
  deriving DecidableEq, Repr

/-- A fabric port with empty buffers. -/
def NipSt.reset : NipSt := ⟨[], false, 0, false, false, [], 0, false, false, false, false⟩

/-- The packet network (chapter 9). -/
structure NetSt where
  /-- Endpoints by 16 × node + port. -/
  ends : Tbl EndSt
  /-- Interfaces by 2 × node + interface. -/
  nis : Tbl NiSt
  done : List NetDone
  /-- Fabric ports by 8 × region + port. -/
  nips : Tbl NipSt
  /-- RESTORE commands in progress by 16 × node + port: the requester, plus 1 (R346). -/
  restores : Tbl Nat
  deriving DecidableEq, Repr

/-- The network after chip reset. -/
def NetSt.reset : NetSt := ⟨[], [], [], [], []⟩

/-- The states of an engine (Table 7-12). -/
inductive EngState where
  | idle | run | stall | halt | fault
  deriving DecidableEq, Repr

/-- An active hardware loop: body start, end, the LC it saved, and the window step (R255, R256). -/
structure EngLoop where
  start : Nat
  stop : Nat
  saved : Nat
  step : Nat
  deriving DecidableEq, Repr

/-- A stream input (R246): its register, the acknowledge to the producer, and the data slots that were valid when the input
last looked at them, with their values (R249). -/
structure EngIn where
  data : Nat
  full : Bool
  acko : Bool
  seen : Nat
  seenWord : Nat
  deriving DecidableEq, Repr

/-- A stream output (R247): its register, which counts full until the consumer's acknowledge has fallen; the acknowledge
has been seen. -/
structure EngOut where
  data : Nat
  full : Bool
  acked : Bool
  deriving DecidableEq, Repr

/-- An outstanding task (R260–R263): its descriptor's index and copy, the tick number from which its window ends at the
next region tick, and whether the window has ended. -/
structure EngTask where
  idx : Nat
  entry : Nat
  arg : Nat
  due : Nat
  ended : Bool
  deriving DecidableEq, Repr

/-- A network tag that is busy (R251): the opcode of its request, and the local buffer and its length in bytes. -/
structure EngTag where
  opc : Nat
  buf : Nat
  len : Nat
  deriving DecidableEq, Repr

/-- An engine (chapter 7). -/
structure EngSt where
  st : EngState
  /-- The 16-bit registers by code of Table 8-4; D registers are physical ones. -/
  regs : Tbl Word16
  acc : Tbl Acc40
  pc : Nat
  /-- Active loops, innermost first. -/
  loops : List EngLoop
  /-- Return addresses, latest first. -/
  calls : List Nat
  /-- A REP block is in progress; LC counts its repetitions (R254). -/
  rep : Bool
  si0 : EngIn
  si1 : EngIn
  so0 : EngOut
  so1 : EngOut
  /-- Outstanding tasks in order; the first is current if `cur`. -/
  tasks : List EngTask
  cur : Bool
  /-- The stall causes of ENG_STATUS.WAIT. -/
  wait : Nat
  bank : Nat
  haltPend : Bool
  /-- A pending swap: WHEN and ENTRY (R267). -/
  swapPend : Option (Bool × Nat)
  bpRaised : Bool
  stepping : Bool
  /-- Releases accepted from ENG_CTL that wait for their tick: descriptor, tick, requester (R260). -/
  sched : List (Nat × Nat × Nat)
  tags : Tbl (Option EngTag)
  /-- Posted writes whose last flit may not have left: tag, channel, packets; in order of issue (R251). -/
  posted : List (Nat × Nat × Nat)
  deriving DecidableEq, Repr

/-- An engine after chip reset (R237, R281). -/
def EngSt.reset : EngSt :=
  { st := .idle, regs := [], acc := [], pc := 0, loops := [], calls := [], rep := false, si0 := ⟨0, false, false, 0, 0⟩,
    si1 := ⟨0, false, false, 0, 0⟩, so0 := ⟨0, false, false⟩, so1 := ⟨0, false, false⟩, tasks := [], cur := false, wait := 0,
    bank := 0, haltPend := false, swapPend := none, bpRaised := false, stepping := false, sched := [], tags := [],
    posted := [] }

/-- A cell that a queue holds: its number within the shard, and the tags of its four wide words (Table 10-10). -/
structure QCell where
  num : Nat
  tags : List Nat
  deriving DecidableEq, Repr

/-- The open packet of a queue: position of its first wide word, bytes stored, stamp tick, STALE, and its sequence number
once its first wide word is stored (R370–R373). -/
structure QPkt where
  start : Nat
  bytes : Nat
  stamp : Nat
  stale : Bool
  seq : Option Nat
  deriving DecidableEq, Repr

/-- What arrives for a queue: data of a segment or append (SOP, EOP, STALE, stamp tick, number of bytes, the bytes), or a
marker (R364, R369). -/
inductive QIn where
  | data (sop eop stale : Bool) (stamp d v : Nat)
  | marker (code tick : Nat)
  deriving DecidableEq, Repr

/-- A notice that is not posted yet (Table 10-12): its words, GAP apart. -/
structure Notice where
  w0 : Nat
  w1 : Nat
  w2 : Nat
  w3 : Nat
  deriving DecidableEq, Repr

/-- A page of a queue's chain: its number, and the cell index (position div 4) of its first cell. -/
structure QPage where
  page : Nat
  first : Nat
  /-- Its wide words that were uncorrectable when it was written: they stay so (R217). -/
  bad : List Nat
  deriving DecidableEq, Repr

/-- A page being written or read: its number, the index of its first cell, the store transactions that have completed
(0 page, 1 and 2 the halves of the link record) with what they read. -/
structure QJob where
  page : Nat
  first : Nat
  done : Tbl (Option Nat)
  deriving DecidableEq, Repr

/-- A capture queue beyond its registers (chapter 10). Cells are listed by index: position div 4. -/
structure QueueSt where
  cells : Tbl QCell
  /-- The position after the last closed packet. -/
  tail : Nat
  pkt : Option QPkt
  /-- The latest append did not end its packet (R368). -/
  appMid : Bool
  /-- Credited data that waits for a cell (R406). -/
  wait : List QIn
  pages : List QPage
  /-- The successor chosen for the last page of the chain (R401). -/
  succ : Option Nat
  /-- Pages the queue has written (Table 10-18). -/
  serial : Nat
  spill : Option QJob
  refill : Option QJob
  /-- Markers that wait for an append: code and target tick (R369). -/
  marks : List (Nat × Nat)
  notes : List Notice
  deriving DecidableEq, Repr

/-- A queue after chip reset. -/
def QueueSt.reset : QueueSt := ⟨[], 0, none, false, [], [], none, 0, none, none, [], []⟩

/-- A read of a read port that waits for a page (R385): its requester or the header of its packet, the queue, the read
point when it arrived, the offset and the bytes. -/
structure ParkedRead where
  req : Nat
  hdr : Option Flit
  q : Nat
  rp : Nat
  off : Nat
  n : Nat
  deriving DecidableEq, Repr

/-- A shard beyond its registers and queues. -/
structure ShardSt where
  /-- Cells that no chain reaches (R409, R410). -/
  leaked : List Nat
  /-- The cells that the RECLAIM in progress returns. -/
  reclaim : Option (List Nat)
  freePages : List Nat
  /-- Notices were lost since the last one posted (R378). -/
  gap : Bool
  /-- Consecutive failures by module (R403). -/
  fails : Tbl Nat
  parked : List ParkedRead
  /-- The cell that the pool scrubber takes next (R234). -/
  scrub : Nat
  deriving DecidableEq, Repr

/-- A shard after chip reset. -/
def ShardSt.reset : ShardSt := ⟨[], none, [], false, [], [], 0⟩

/-- The requests of a store link (R463). -/
inductive StoreOp where
  | rd64 | rdpg | wr64 | wrpg
  deriving DecidableEq, Repr

/-- What a store transaction is for: a part of a page written or read for a queue, the link record of a freed page, a
read of the aperture (requester, address, bytes, the bytes got so far and their value, and the host port's own reference if it is a
part of a Q-window read);
`none` once its purpose has gone. -/
inductive StoreJob where
  | none
  | spill (q part : Nat)
  | refill (q part : Nat)
  | free
  | aperture (req addr n got acc : Nat) (ref : Option Nat)
  deriving DecidableEq, Repr

/-- Where a store transaction stands: not sent, sent under a tag, waiting to be retried (R403). -/
inductive StoreStage where
  | waiting | sent (tag : Nat) | delay
  deriving DecidableEq, Repr

/-- A store transaction of a shard (R396, R463). -/
structure StoreTx where
  id : Nat
  shard : Nat
  job : StoreJob
  page : Nat
  op : StoreOp
  addr : Nat
  data : Nat
  /-- The head lane of the module's port. -/
  lane : Nat
  stage : StoreStage
  deriving DecidableEq, Repr

/-- What a producer knows of a queue's credit (R367): SENT, the last LIMIT, and whether SENT must be restored. -/
structure CapCredit where
  sent : Nat
  limit : Nat
  resync : Bool
  deriving DecidableEq, Repr

/-- Nothing sent. -/
def CapCredit.reset : CapCredit := ⟨0, 0, false⟩

/-- What waits in a producer's buffer: a narrow word (whether it starts or ends its packet, STALE, stamp, valid bytes, data)
or a marker (R369, R388). -/
inductive CapItem where
  | word (sop eop stale : Bool) (stamp bytes v : Nat)
  | marker (code tick : Nat)
  deriving DecidableEq, Repr

/-- The pair of reads that a read half has outstanding (R393): the tag record and the wide word as they have arrived (the
word with its error mark), and whether a REWIND has made it void. -/
structure CqpPair where
  tag : Option Nat
  word : Option (Nat × Bool)
  void : Bool
  deriving DecidableEq, Repr

/-- A fabric capture port (R387–R394). -/
structure CqpSt where
  wbuf : List CapItem
  /-- The next word starts a packet. -/
  wstart : Bool
  wack : Bool
  heldV : Nat
  heldEn : Bool
  /-- A word was written since the latest region tick (R390). -/
  wrote : Bool
  /-- How many of the items held may go because a region tick passed at which none was written while they were held (R390). -/
  idle : Nat
  wready : Bool
  rbuf : List (Nat × Nat × Bool)
  pair : Option CqpPair
  /-- What the read half presents: wide word, tag, error; RFLAG and RAVAIL. -/
  rd : Nat × Nat × Bool
  rflag : Bool
  ravail : Bool
  /-- A FLOW token is presented; its acknowledge is still up. -/
  token : Bool
  racked : Bool
  /-- Commands for the queue that have not entered the interface yet. -/
  cmds : List Nat
  deriving DecidableEq, Repr

/-- A capture port with empty buffers. -/
def CqpSt.reset : CqpSt :=
  { wbuf := [], wstart := true, wack := false, heldV := 0, heldEn := false, wrote := false, idle := 0, wready := false,
    rbuf := [], pair := none, rd := (0, 0, false), rflag := false, ravail := false, token := false, racked := false, cmds := [] }

/-- How a user I/O pin drives its ball: not at all, a keeper only, or a level (Table 14-11). -/
inductive PinDrive where
  | off | keeper | level (v : Bool)
  deriving DecidableEq, Repr

/-- A user I/O pin. `hold` is the hold state it stands in, none where it has its function (R544). For a FLOW output: the
level and enable of its last token, and OACK. For a FLOW input: the sample presented as a token, and whether its
acknowledge has not fallen yet (R623, R624). -/
structure PinSt where
  hold : Option PinDrive
  lvl : Bool
  oe : Bool
  oack : Bool
  tok : Option Bool
  iack : Bool
  deriving DecidableEq, Repr

/-- A pin after chip reset: HIGHZ (R544, R616). -/
def PinSt.reset : PinSt := ⟨some .off, false, false, false, none, false⟩

/-- A GEARED pair (R625): the output FIFO, the word sent last and the acknowledge to the producer; the input FIFO, whether
its oldest word is presented, an acknowledge that has not fallen yet, the bits received of the next word, and how many bits
BITSLIP leaves out. -/
structure GearSt where
  outq : List Nat
  last : Nat
  oack : Bool
  inq : List Nat
  tok : Bool
  iack : Bool
  bits : List Bool
  slip : Nat
  deriving DecidableEq, Repr

/-- A pair with empty FIFOs. -/
def GearSt.reset : GearSt := ⟨[], 0, false, [], false, false, [], 0⟩

/-- A user I/O bank (chapter 17): the bank word and the pin words in force (R616), its pins and pairs, the pins that an
accepted QCLR releases at the next tick boundary (R631), and whether its drivers wait for a tick boundary after VOK has
returned (R627). -/
structure BankSt where
  set : Nat
  cfg : Tbl Nat
  pins : Tbl PinSt
  gears : Tbl GearSt
  releasing : Nat
  returning : Bool
  deriving DecidableEq, Repr

/-- A bank after chip reset. -/
def BankSt.reset : BankSt := ⟨0, [], [], [], 0, false⟩

/-- The control pins (chapter 17) and the balls of the user I/O: the levels that the board drives (a user I/O ball that
nothing drives has none) and the level last seen at a user I/O ball; the voltage that the board supplies to each bank, in mV, 0 where
none is known; the filters' outputs, where they differ from the ball,
and the DEBOUNCE windows that are open; the peer-trigger bits by peer port (R476). -/
structure PinsSt where
  balls : Tbl Bool
  filt : Tbl (Option Bool)
  window : Tbl Bool
  io : Tbl (Option Bool)
  ioLast : Tbl Bool
  supply : Tbl Nat
  peer : Tbl Nat
  deriving DecidableEq, Repr

/-- The pins when the device powers up. -/
def PinsSt.reset : PinsSt := ⟨[], [], [], [], [], [], []⟩

/-- A block that the decoder passes to the hub (R415, R417): 32 bytes of the stream, a control block, or one marked errored. -/
inductive RxBlock where
  | data (bytes : Nat)
  | control
  | errored
  deriving DecidableEq, Repr

/-- A block of a link's byte stream as the hub holds it; `room`: the elastic buffer had room for it when it came (R454). -/
structure RxUnit where
  block : RxBlock
  room : Bool
  deriving DecidableEq, Repr

/-- A serial lane beyond its registers (chapter 11): the state a lane in LOOP came from; consecutive uncorrectable codewords;
consecutive good codewords in LOCK; TXPOL, RXPOL and PRECODE as in force, in bits 0–2 (R431); a write to EN that waits for
the end of a slice (R435). -/
structure LaneSt where
  loop : Option Nat
  fails : Nat
  good : Nat
  inForce : Nat
  enPend : Option Bool
  /-- The blocks that the transmitter has gathered for its next codeword, and the last precoded level sent (R416, R418). -/
  txBlocks : List Nat
  txLevel : Nat
  /-- The last level received (R418). -/
  rxLevel : Nat
  /-- The number of the codeword last received, by the ALIGN counters (R425, R427). -/
  cw : Option Nat
  /-- Blocks that wait for those of the port's other lanes (R425). -/
  rxBlocks : List RxBlock
  deriving DecidableEq, Repr

/-- A lane after chip reset. -/
def LaneSt.reset : LaneSt :=
  { loop := none, fails := 0, good := 0, inForce := 0, enPend := none, txBlocks := [], txLevel := 0, rxLevel := 0, cw := none,
    rxBlocks := [] }

/-- An Idlis packet: its length in bytes, and its bytes as a little-endian number (R442, R443). -/
structure LinkPkt where
  len : Nat
  v : Nat
  deriving DecidableEq, Repr

/-- An open DRIVE packet (R457): the tick of its first frame, the tick of its last one, STALE, the frames. -/
structure DriveOpen where
  first : Nat
  last : Nat
  stale : Bool
  frames : List Nat
  deriving DecidableEq, Repr

/-- What has been delivered on a link and waits to act, in stream order: a packet with its delivery tick, or a marker for the
queue that the lane feeds with its target tick (R447, R462). -/
inductive RxItem where
  | pkt (tick : Nat) (p : LinkPkt)
  | marker (tick code : Nat)
  deriving DecidableEq, Repr

/-- A tunnel tag in use (R472, R474): the request that it stands for; it is in quarantine. -/
structure XTag where
  head : Flit
  quarantine : Bool
  deriving DecidableEq, Repr

/-- An Idlis link, by the head lane of its port (chapter 12). -/
structure LinkSt where
  /-- The transmit buffer; how many bytes of the current data block are filled, and those bytes; the blocks sent since data mode
  began (R425). -/
  txq : List LinkPkt
  txPos : Nat
  txPart : Nat
  txCount : Nat
  /-- What has been received and not been parsed yet, and how many bytes of its first block have been (R439–R441). -/
  rx : List RxUnit
  rxPos : Nat
  drive : Option DriveOpen
  /-- Data blocks received since UP (R of R452), the LIMIT granted, and the one in the last CREDIT sent since UP. -/
  recv : Nat
  limit : Nat
  credited : Option Nat
  lastStamp : Option Nat
  /-- Stamped packets held, with their delivery ticks, in stream order. -/
  held : List (Nat × LinkPkt)
  ready : List RxItem
  /-- What is left of the capture packet whose first segment has gone (R460). -/
  cap : List CapItem
  /-- Uncorrectable codewords since UP (R455). -/
  ue : Nat
  /-- Consecutive store timeouts (R467), and the store tags in quarantine (R466). -/
  stoFails : Nat
  stoQuar : List Nat
  xtags : Tbl (Option XTag)
  /-- Tunnelled transactions of the remote side: XTAG, opcode plus 16 × BLEN, and whether the link has gone down since (R473, R474). -/
  remote : List (Nat × Nat × Bool)
  /-- The levels of the last TRIG formed since UP, and its tick (R475). -/
  trig : Nat
  trigTick : Option Nat
  deriving DecidableEq, Repr

/-- A link after chip reset. -/
def LinkSt.reset : LinkSt :=
  { txq := [], txPos := 0, txPart := 0, txCount := 0, rx := [], rxPos := 0, drive := none, recv := 0, limit := 0, credited := none, lastStamp := none, held := [], ready := [],
    cap := [], ue := 0, stoFails := 0, stoQuar := [], xtags := [], remote := [], trig := 0, trigTick := none }

/-- The self-test controller beyond its registers (chapter 16). Masks are by region. -/
structure SelfTestSt where
  /-- The tick at which a region's latest copy, test or restore ended. -/
  ready : Tbl Nat
  /-- The element under test has failed once; the slice is a MARK_FAILED; ABORT has come; a REGION_TEST runs. -/
  once : Nat
  marking : Nat
  aborting : Nat
  testing : Nat
  /-- By 4 × region + kind: the spare, plus 1, that held the position before its slice moved the work to another one. -/
  origin : Tbl Nat
  /-- By region: a block slice that waits in WAIT_BACK while the sweep goes on, as its ST_SLICE, with bit 32 for an element that
  has failed once, and the tick at which its RESTORE ended; 0 for none (R594). -/
  behind : Tbl (Nat × Nat)
  /-- The retired positions, as the FAILMAP entries name them: region, kind, index (R568, R599–R604). -/
  map : List (Nat × Nat × Nat)
  /-- A FAILMAP store has failed, and waits to be queued again (R599). -/
  restore : Bool
  /-- The next element of the sweep by region; the next lane; the analogue part has run (R586). -/
  pos : Tbl Nat
  lanes : Nat
  analog : Bool
  /-- The target of a life-cycle transition that waits for the journal stores to end (R612). -/
  lc : Option Nat
  deriving DecidableEq, Repr

/-- The self-test controller after chip reset. -/
def SelfTestSt.reset : SelfTestSt :=
  { ready := [], once := 0, marking := 0, aborting := 0, testing := 0, origin := [], behind := [], map := [],
    restore := false, pos := [], lanes := 0, analog := false, lc := none }

/-- What a journal store holds (R559, R572, R603, R653): a boot count after a success or a failed round; a FAILMAP part; a summary,
with the entry of the FATAL incident that asked for it, or none where a host port's NOR_SUMMARY did; the record of a JOURNAL_WRITE. -/
inductive StoreWhat where
  | bootCount (booted : Bool)
  | failmap (part : Nat)
  | summary (fatal : Option Nat)
  | record (v : Nat)
  | compaction
  deriving DecidableEq, Repr

/-- A journal store: what it holds, hold-up checks and pages that have failed, its outcome once it is known (R570, R575). -/
structure HkStore where
  what : StoreWhat
  tries : Nat
  bad : Nat
  outcome : Option Code
  deriving DecidableEq, Repr

/-- A raw NOR operation in progress (R581, R582). -/
inductive RawOp where
  | program (page data : Nat)
  | erase (page : Nat)
  deriving DecidableEq, Repr

/-- Housekeeping's boot and journal managers beyond their registers (chapter 15). -/
structure HkSt where
  /-- Out of chip reset, with the straps latched. REFCLK is present. -/
  up : Bool
  refclk : Bool
  /-- What NOR_INIT has found: a NOR that meets R553, and its size in bytes. -/
  norOk : Bool
  norSize : Nat
  /-- A clean state has been asked for, and waits for the tick boundary (R165, R557). -/
  cleaning : Bool
  /-- The journal has been read; the ports still answer with Retry Status (R484). -/
  journal : Bool
  retry : Bool
  /-- Settings in force (Table 15-8). -/
  ssvid : Nat
  ssid : Nat
  regpwr : Nat
  preferB : Bool
  /-- Galliard: the round, the step of it (0 and 1 images, 2 host wait, 3 back-off), and the image or host attempt whose
  stream runs: 0 none, 1 A, 2 B, 3 host (R558). -/
  round : Nat
  step : Nat
  attempt : Nat
  /-- A listener: the journal bytes it has heard, by page; the address at which its stream goes on; an image header has been
  seen (R563, R564). -/
  heard : Tbl Nat
  expect : Nat
  seen : Bool
  /-- The store that runs, the internal stores that wait, whether the running one waits for RETRY_MS, HOLD_EN (R572–R575). -/
  cur : Option HkStore
  queue : List HkStore
  waiting : Bool
  holdEn : Bool
  /-- The page of the active sector for the next store, once one has been made since chip reset (R569). -/
  next : Option Nat
  /-- The records of a listener that await relay (R565). -/
  outbox : List Nat
  raw : Option RawOp
  /-- A summary store that was queued automatically has started within the last SUMGAP s; the entry that waits for the gap's
  end (R653). -/
  sumRecent : Bool
  sumWaits : Option Nat
  /-- HK_JBUF and HK_NORBUF, byte 0 lowest. -/
  jbuf : Nat
  norbuf : Nat
  deriving DecidableEq, Repr

/-- Housekeeping after chip reset, with the defaults of R568. -/
def HkSt.reset : HkSt :=
  { up := false, refclk := false, norOk := false, norSize := 0, cleaning := false, journal := false, retry := true, ssvid := 0x1C7B, ssid := 0x9624,
    regpwr := 0xFFFFFF, preferB := false, round := 0, step := 0, attempt := 0, heard := [], expect := 0, seen := false,
    cur := none, queue := [], waiting := false, holdEn := false, next := none, outbox := [], raw := none, sumRecent := false,
    sumWaits := none, jbuf := 0, norbuf := 0 }

/-- The incident log beyond its registers (chapter 18): entries by index, the summary word below the detail word; by source, the
index plus 1 of its newest entry; by source, the tokens plus 1 of a bucket that is not full; the pending GAP mark. -/
structure LogSt where
  entries : Tbl Nat
  newest : Tbl Nat
  tokens : Tbl Nat
  gap : Bool
  deriving DecidableEq, Repr

/-- An empty log with full buckets (R650). -/
def LogSt.reset : LogSt := ⟨[], [], [], false⟩

/-- The packet whose words are being taken from a bit-stream: its type, the words or frames to come, whether it has effect. -/
structure CfgPkt where
  pt : Nat
  left : Nat
  applies : Bool
  deriving DecidableEq, Repr

/-- A PR_START of the host that waits for its tick (R536). -/
structure PrPend where
  region : Nat
  slot : Nat
  arrival : Nat
  req : Nat
  /-- Its place in the order of arrival of tick-aligned commands and PR_STARTs (R172). -/
  seq : Nat
  deriving DecidableEq, Repr

/-- The configuration controller beyond its registers (chapter 14). -/
structure CfgSt where
  /-- The input FIFO (R510). -/
  fifo : List Word
  /-- NOR address of the next word to be read, and how many bytes the stream may still read (R539, R555). -/
  addr : Nat
  room : Nat
  /-- Plaintext that has been authenticated and not parsed yet; the words of the chunk that is being taken in. -/
  plain : List Word
  chunk : List Word
  /-- The encrypted section: key slot, next SEQ, SID of chunk 0, LAST seen. -/
  slot : Nat
  seq : Nat
  sid : Nat
  last : Bool
  /-- The partial frame (R516). -/
  frame : List Word
  pkt : Option CfgPkt
  /-- Regions that this stream brought into CONFIGURING and has not committed, as a mask (R508). -/
  brought : Nat
  pr : Option PrPend
  /-- How the latest stream ended: OK by END with no region left open (R527, R556). -/
  done : Option Code
  /-- The volatile keys of the key slots (R614). -/
  keys : Tbl (Option Nat)
  /-- The CWR in the network that the parser waits for, by its reference, and the reference of the next one (R514). -/
  cwr : Option Nat
  cwrNext : Nat
  deriving DecidableEq, Repr

/-- The configuration controller after chip reset. -/
def CfgSt.reset : CfgSt :=
  { fifo := [], addr := 0, room := 0, plain := [], chunk := [], slot := 0, seq := 0, sid := 0, last := false, frame := [],
    pkt := none, brought := 0, pr := none, done := none, keys := [], cwr := none, cwrNext := 0 }

/-- The fuses: the life-cycle states whose fuse is blown, the kill fuses, the programmed keys (R611, R614). A key is held here as
KEY_PROG took it; the form in which the fuses wrap it is not visible. -/
structure FuseSt where
  states : Nat
  kill : Nat
  keys : Tbl (Option Nat)
  deriving DecidableEq, Repr

/-- Fuses as manufactured: state RAW, no key (R610). -/
def FuseSt.reset : FuseSt := ⟨0, 0, []⟩

/-- A request of a host port (R486–R489): the port; a read or a write; the C-window or the Q-window, and the offset in it; its bytes;
whether it has entered the network; the responses to come; its status and data so far. -/
structure HostTx where
  id : Nat
  port : Nat
  write : Bool
  qwin : Bool
  addr : Nat
  n : Nat
  data : Nat
  issued : Nat
  left : Nat
  code : Code
  deriving DecidableEq, Repr

/-- What the spec gives the host ports beyond their registers (chapter 13). -/
structure HostSt where
  /-- Vectors active at the latest change, by port (R502). -/
  vecActive : Tbl Nat
  /-- Requests in order of arrival, and the number of the next. -/
  txs : List HostTx
  nextId : Nat
  /-- MSI-X table entries by 64 × port + vector: address, data and mask as 128 bits, the mask in bit 96 (Table 13-2). -/
  msix : Tbl Nat
  /-- A rescue CHIP_RESET has been accepted and acts within 1 µs (R494). -/
  resetDue : Bool
  /-- The rescue command that runs and its port ID, while RSC_CMDSTAT.BUSY is 1 (R493). -/
  rescue : Option (Nat × Nat)
  deriving DecidableEq, Repr

/-- The vector-control word of an MSI-X entry after reset: masked (PCI Express). -/
def msixReset : Nat := 2 ^ 96

/-- The host ports after chip reset. -/
def HostSt.reset : HostSt := { vecActive := [], txs := [], nextId := 0, msix := [], resetDue := false, rescue := none }

/-- The state of the block. -/
structure State where
  /-- The commands that wait, first in, first out. -/
  pending : List Instr
  /-- The model's own counter of free values taken so far. -/
  freeCount : Nat
  /-- What the block has sent, newest first; the model's own record. -/
  out : List Output
  /-- The registers by C-window address, where they differ from their reset value. -/
  regs : Tbl Word64
  /-- The upper-word latches: requester, register, upper word (R5, R35). -/
  latches : List (Nat × Nat × Word)
  /-- The memories by C-window address. -/
  mem : List Host.Cell
  /-- The frame words of the regions' configuration, by `frameKey`; 0 where none is listed (R516);
  a frame's stored CRC is held as its difference from that of a frame of zeros. -/
  frames : Tbl Word
  /-- Flipped bits held in protected memories, by the C-window address of the code word (1 correctable, 2 uncorrectable;
  R208, R215); 1 at a row's address plus 1 says that a copy of its valid bit disagrees (R211). -/
  marks : Tbl Nat
  /-- The flipped bits of the words of configuration frames, by `frameKey`: data bits 31–0, check bits 38–32 (R208, R226). -/
  frameMarks : Tbl Nat
  /-- Block memories by 96 × region + memory. -/
  bms : Tbl BmSt
  /-- Scrubbers by region. -/
  scrub : Tbl ScrubSt
  /-- Engines by number. -/
  engs : Tbl EngSt
  net : NetSt
  /-- Capture queues by number. -/
  queues : Tbl QueueSt
  shards : Tbl ShardSt
  /-- Store transactions, oldest first, and the number of the next one. -/
  store : List StoreTx
  storeNext : Nat
  /-- Producers' credit by queue. -/
  credit : Tbl CapCredit
  /-- Capture ports by 8 × region + port. -/
  cqps : Tbl CqpSt
  /-- User I/O banks. -/
  banks : Tbl BankSt
  pins : PinsSt
  lanes : Tbl LaneSt
  /-- Links by head lane. -/
  links : Tbl LinkSt
  selfTest : SelfTestSt
  cfg : CfgSt
  fuses : FuseSt
  /-- The NOR flash by 256-byte page, as a little-endian number; a page that is not listed is erased (R553). -/
  nor : Tbl Nat
  hk : HkSt
  log : LogSt
  /-- The JTAG instruction register (Table 16-9). -/
  jtag : Nat
  bus : Tbl BusPort
  /-- Error bits, by 64 × address + bit, whose first unmasked occurrence since the bit was last clear has raised its
  incident; read only while the bit is 1. -/
  raised : Tbl Bool
  lovage : LovageSt
  host : HostSt
  tick : TickSt
  regions : Tbl RegionSt
  /-- What the fabric elements of the regions remember, by region. -/
  elems : Tbl ElemSt
  deriving DecidableEq, Repr

/-- The machine after chip reset. -/
def State.reset : State :=
  { pending := [], freeCount := 0, out := [], regs := [], latches := [], mem := [], frames := [], marks := [], frameMarks := [],
    bms := [], scrub := [], engs := [], net := .reset, queues := [], shards := [], store := [], storeNext := 0, credit := [], cqps := [],
    banks := [], pins := .reset, lanes := [], links := [], selfTest := .reset,
    cfg := .reset, fuses := .reset, nor := [], hk := .reset, log := .reset, jtag := 1, bus := [], raised := [],
    lovage := { LovageSt.reset with st := .run }, host := .reset,
    tick := .reset, regions := [], elems := [] }

end Sys2Proof.Machine
end

