-- ==== Sys2Proof/Machine/Ops.lean ====
section
/-! DEFINITION. The named operations over registers, free values, responses and incidents that every family uses. -/

namespace Sys2Proof.Machine

/-- The 4-bit code of a status (Table 0-3). -/
def Code.num : Code → Nat
  | .ok => 0 | .eState => 1 | .eArg => 2 | .eLate => 3 | .eBusy => 4 | .eNotBlank => 5 | .eEcc => 6 | .eTmo => 7
  | .eIso => 8 | .eRst => 9 | .eAuth => 10 | .eCrc => 11 | .eLock => 12 | .eHold => 13 | .eNoSpace => 14 | .eUnsup => 15

/-- The status of a 4-bit code (Table 0-3). -/
def Code.ofNum : Nat → Code
  | 0 => .ok | 1 => .eState | 2 => .eArg | 3 => .eLate | 4 => .eBusy | 5 => .eNotBlank | 6 => .eEcc | 7 => .eTmo
  | 8 => .eIso | 9 => .eRst | 10 => .eAuth | 11 => .eCrc | 12 => .eLock | 13 => .eHold | 14 => .eNoSpace | _ => .eUnsup

/-- The number of a severity (Table 18-1). -/
def Sev.num : Sev → Nat
  | .info => 1 | .notice => 2 | .degraded => 3 | .fault => 4 | .fatal => 5

/-- The bit of a truth value. -/
def bit (b : Bool) : Nat := if b then 1 else 0

/-- Bits `[lo + w - 1 : lo]` of a number. -/
def bitsOf (x lo w : Nat) : Nat := (x >>> lo) % 2 ^ w

/-- Is bit `i` of a number 1? -/
def hasBit (x i : Nat) : Bool := x.testBit i

/-- The number with bit `i` set. -/
def withBit (x i : Nat) : Nat := x ||| 2 ^ i

/-- The number with bit `i` cleared. -/
def withoutBit (x i : Nat) : Nat := if x.testBit i then x - 2 ^ i else x

/-! ## Registers -/

/-- The reset value listed for address `a`, 0 where none is. -/
def listedReset : List (Nat × List (Nat × Nat) × Nat) → Nat → Nat
  | [], _ => 0
  | (base, dims, v) :: t, a =>
    match instOffset base dims 1 a with
    | some _ => v
    | none => listedReset t a

/-- Reset values that depend on the instance: REG_LMAP.LOGICAL is the region's number (Table 4-21), RTR_ID and RTR_PSTAT
show the position (Table 9-10), NI_RT holds the default routes (R334), HP_ROUTE s names vector s, enabled for s = 0
(Table 13-10), CFG_REGMAP maps each logical region to itself (Table 14-15). -/
def instanceReset (a : Nat) : Option Nat :=
  if Reg.REG_LMAP 0 ≤ a then
    match instOffset (Reg.REG_LMAP 0) [(24, 0x200000)] 1 a with
    | some _ => some (0x80000000 + (a - Reg.REG_LMAP 0) / 0x200000)
    | none => none
  else if Reg.RTR_ID 0 ≤ a ∧ a < Reg.RTR_ID 48 then
    let n := (a - Reg.RTR_ID 0) / 0x2000
    let o := (a - Reg.RTR_ID 0) % 0x2000
    if o = 0 then some (n + portMask n * 2 ^ 8)
    else if 0x100 ≤ o ∧ o < 0x160 ∧ o % 0x10 = 0 then
      let p := (o - 0x100) / 0x10
      some (bit (portExists n p) * 4 + bit (portBridged n p) * 8)
    else if o % 0x800 ≥ 0x400 ∧ o % 0x800 < 0x600 ∧ 0x1000 ≤ o ∧ o % 8 = 0 ∧ (o < 0x1800 ∨ n = 40) then
      some (defaultEntry n (o % 0x800 / 8 - 0x80))
    else none
  else if Reg.CFG_REGMAP 0 ≤ a ∧ a < Reg.CFG_REGMAP 24 ∧ a % 4 = 0 then some ((a - Reg.CFG_REGMAP 0) / 4)
  else if Reg.HP_ROUTE 0 0 ≤ a then
    match instOffset (Reg.HP_ROUTE 0 0) [(2, 0x10000), (64, 4)] 1 a with
    | some _ => let s := (a - Reg.HP_ROUTE 0 0) % 0x10000 / 4; some (s + if s = 0 then 2 ^ 8 else 0)
    | none => none
  else none

/-- The value a register holds after chip reset: the Reset column of its map. -/
def resetOf (a : Nat) : Word64 := BitVec.ofNat 64 ((instanceReset a).getD (listedReset Reg.resets a))

/-- The value of the register at address `a`. -/
def State.rd (s : State) (a : Nat) : Word64 := Tbl.get (resetOf a) s.regs a

/-- The state with the register at address `a` set to `v`. -/
def State.wr (s : State) (a : Nat) (v : Word64) : State := { s with regs := Tbl.put (resetOf a) s.regs a v }

/-- The value of a register field. -/
def State.fld (s : State) (f : Fld) : Nat := f.get (s.rd f.addr)

/-- The state with a register field set to `x`. -/
def State.setFld (s : State) (f : Fld) (x : Nat) : State := s.wr f.addr (f.set x (s.rd f.addr))

/-- Is the one-bit field 1? -/
def State.on (s : State) (f : Fld) : Bool := s.fld f != 0

/-- The state with a one-bit field set to a truth value. -/
def State.setBit (s : State) (f : Fld) (b : Bool) : State := s.setFld f (bit b)

/-- The state with bit `i` of a field set. -/
def State.setBitOf (s : State) (f : Fld) (i : Nat) : State := s.setFld f (withBit (s.fld f) i)

/-- The state with bit `i` of a field cleared. -/
def State.clrBitOf (s : State) (f : Fld) (i : Nat) : State := s.setFld f (withoutBit (s.fld f) i)

/-- One event counted in a saturating counter: at its largest value it stays, and its SAT bit is set (R10). -/
def State.count (s : State) (f sat : Fld) : State :=
  if s.fld f + 1 < 2 ^ f.width then s.setFld f (s.fld f + 1) else s.setBit sat true

/-- `n` events counted in a saturating counter (R10). -/
def State.countN (s : State) (f sat : Fld) : Nat → State
  | 0 => s
  | n + 1 => (s.count f sat).countN f sat n

/-- `n` events counted in a saturating counter at once (R10). -/
def State.countBy (s : State) (f sat : Fld) (n : Nat) : State :=
  if s.fld f + n < 2 ^ f.width then s.setFld f (s.fld f + n) else (s.setFld f (2 ^ f.width - 1)).setBit sat true

/-! ## Free values -/

/-- The next free value, `w` bits wide. -/
def State.freeBits (s : State) (w : Nat) : BitVec w := Config.freeBits w s.freeCount

/-- The next free truth value. -/
def State.freeBool (s : State) : Bool := Config.freeBool s.freeCount

/-- The state after a free value has been taken. -/
def State.tookFree (s : State) : State := { s with freeCount := s.freeCount + 1 }

/-! ## Accesses of part of a register (R4, R5, R35) -/

/-- The number `v` with `w` bits from `lo` on replaced by `x`. -/
def putBits (v lo w x : Nat) : Nat := v - bitsOf v lo w * 2 ^ lo + x % 2 ^ w * 2 ^ lo

/-- The access fits a register of this width (R4): aligned, of the register's own width or a half of 64 bits. -/
def widthOk (bytes off n : Nat) : Bool := (n == bytes && off == 0) || (bytes == 8 && n == 4 && off % 4 == 0)

/-- The upper word latched for a requester and a register, if one is. -/
def State.latch? (s : State) (req a : Nat) : Option Word :=
  (s.latches.find? (fun l => l.1 == req && l.2.1 == a)).map (·.2.2)

/-- The upper word latched for a requester and a register. -/
def State.setLatch (s : State) (req a : Nat) (w : Word) : State :=
  { s with latches := (req, a, w) :: s.latches.filter (fun l => !(l.1 == req && l.2.1 == a)) }

/-- A read of `n` bytes at byte `off` of a register at `a`, `w` bytes wide, that shows `v`: the whole of it, or a half of 64 bits: the
lower word latches the upper one, the upper word is the one latched (R5). -/
def State.readHalf (s : State) (req a w off n v : Nat) : State × Nat :=
  if w = 8 ∧ n = 4 then
    if off = 0 then (s.setLatch req a (BitVec.ofNat 32 (v / 2 ^ 32)), v % 2 ^ 32)
    else (s, match s.latch? req a with
      | some w => w.toNat
      | none => v / 2 ^ 32)
  else (s, v)

/-! ## Regions, ticks -/

/-- What the spec gives region `r` beyond its registers. -/
def State.rgn (s : State) (r : Nat) : RegionSt := Tbl.get .reset s.regions r

/-- The state with region `r` changed. -/
def State.setRgn (s : State) (r : Nat) (x : RegionSt) : State := { s with regions := Tbl.put .reset s.regions r x }

/-- The present tick number. -/
def State.now (s : State) : Nat := s.fld Reg.TICK_COUNT_COUNT

/-- The tick period in slots (R37). -/
def State.slots (s : State) : Nat := s.fld Reg.TICK_PERIOD_KM1 + 1

/-- Ticks are being generated. -/
def State.ticking (s : State) : Bool := s.on Reg.TICK_STATUS_RUNNING

/-- The states of a region (Table 4-13). -/
inductive RegionState where
  | off | blank | configuring | held | running | frozen | isolated | failed
  deriving DecidableEq, Repr

/-- The code of a region state in REG_STATUS.STATE (Table 4-17). -/
def RegionState.num : RegionState → Nat
  | .off => 0 | .blank => 1 | .configuring => 2 | .held => 3 | .running => 4 | .frozen => 5 | .isolated => 6 | .failed => 7

/-- The region state of a code (Table 4-17). -/
def RegionState.ofNum : Nat → RegionState
  | 0 => .off | 1 => .blank | 2 => .configuring | 3 => .held | 4 => .running | 5 => .frozen | 6 => .isolated | _ => .failed

/-- The state of region `r` (R165). -/
def State.rstate (s : State) (r : Nat) : RegionState := .ofNum (s.fld (Reg.REG_STATUS_STATE r))

/-- The divisor of region `r` (R44). -/
def State.tdiv (s : State) (r : Nat) : Nat := 2 ^ s.fld (Reg.TR_CTL_TDIV r)

/-- Does region `r` have a region tick at tick `n` (R44)? -/
def State.regionTickAt (s : State) (r n : Nat) : Bool := n % s.tdiv r == s.fld (Reg.TR_CTL_PHASE r)

/-- The next region tick of region `r` after the present tick (R44). -/
def State.nextRegionTick (s : State) (r : Nat) : Nat :=
  let d := s.tdiv r
  (s.now + d - (s.now + d - s.fld (Reg.TR_CTL_PHASE r)) % d) % 2 ^ 64

/-- Tick `n` has been reached when the present tick is `m`: the counter wraps (R39). -/
def reached (n m : Nat) : Bool := decide ((m + 2 ^ 64 - n) % 2 ^ 64 < 2 ^ 63)

/-- DEVID as latched (R549). -/
def State.devid (s : State) : Nat := s.fld Reg.RSC_STRAPS_DEVID

/-- Region `r` exists (R26). -/
def validRegion (r : Nat) : Bool := decide (r < 24)

/-- The role of lane `n` (Table 11-18). -/
def State.laneRole (s : State) (n : Nat) : Nat := bitsOf (s.fld (Reg.LG_ROLE_ROLE (n / 8))) (2 * (n % 8)) 2

/-- The lane group and lane that head peer port `p` (Table 11-18, R422), if a PEER lane is given that number. -/
def State.peerHead (s : State) (p : Nat) : Option Nat :=
  (List.range 128).find? (fun n =>
    s.laneRole n == 3 && bitsOf (s.fld (Reg.LG_PEER_PP (n / 8))) (3 * (n % 8)) 3 == p)

/-! ## Incidents and responses -/

/-- The SRC numbers of the sources (Table 18-2): CLASS in bits 9–7, INDEX in bits 6–0. -/
def srcTick : Nat := 0
def srcHk : Nat := 1
def srcCfg : Nat := 2
def srcSelfTest : Nat := 3
def srcHost (p : Nat) : Nat := 4 + p
def srcPins : Nat := 6
def srcLog : Nat := 7
def srcRegion (r : Nat) : Nat := 128 + r
def srcEngine (e : Nat) : Nat := 256 + e
def srcNode (n : Nat) : Nat := 384 + n
def srcLane (n : Nat) : Nat := 512 + n
def srcShard (q : Nat) : Nat := 640 + q
def srcBank (b : Nat) : Nat := 768 + b

/-- The bus port of source `src`. -/
def State.busPort (s : State) (src : Nat) : BusPort := Tbl.get ⟨[], 0⟩ s.bus src

/-- The state with a bus port changed. -/
def State.setBusPort (s : State) (src : Nat) (p : BusPort) : State := { s with bus := Tbl.put ⟨[], 0⟩ s.bus src p }

/-- The state with the alarm latch set (R651). -/
def State.setAlarm (s : State) : State := { s with lovage := { s.lovage with alarm := true } }

/-- Remove the oldest incident that is not FATAL. -/
def dropOldestNonFatal : List Incident → List Incident
  | [] => []
  | i :: t => if i.sev = .fatal then i :: dropOldestNonFatal t else t

/-- A unit delivers an incident to its bus port (R641): five slots, at most four of them held by incidents below FATAL;
a FATAL that finds the port full replaces the oldest other one. A drop at or above ALMSEV, or of a FATAL, sets the alarm
latch. -/
def State.deliver (s : State) (i : Incident) : State :=
  let p := s.busPort i.src
  let low := (p.slots.filter (fun j => j.sev != .fatal)).length
  if i.sev = .fatal then
    if p.slots.length < 5 then s.setBusPort i.src { p with slots := p.slots ++ [i] }
    else if low = 0 then (s.setBusPort i.src { p with drops := p.drops + 1 }).setAlarm
    else
      let gone := (p.slots.find? (fun j => j.sev != .fatal)).elim 0 (fun j => j.sev.num)
      let s := s.setBusPort i.src { slots := dropOldestNonFatal p.slots ++ [i], drops := p.drops + 1 }
      if gone ≥ s.fld Reg.IL_CTL_ALMSEV then s.setAlarm else s
  else if low ≥ 4 ∨ p.slots.length ≥ 5 then
    let s := s.setBusPort i.src { p with drops := p.drops + 1 }
    if i.sev.num ≥ s.fld Reg.IL_CTL_ALMSEV then s.setAlarm else s
  else s.setBusPort i.src { p with slots := p.slots ++ [i] }

/-- A unit raises an incident: source, severity, code, argument; the tick is the present one (R642). -/
def State.raise (s : State) (src : Nat) (sev : Sev) (code : Nat) (arg : Nat) : State :=
  s.deliver { sev, src, code, arg := BitVec.ofNat 64 arg, tick := BitVec.ofNat 32 s.now }

/-- An error bit occurs: it is set, and its first unmasked occurrence since it was last clear raises one incident (R131,
R175, R280, R352, R411, R438, R479, R505, R548, R615, R640). -/
def State.errBit (s : State) (f : Fld) (masked : Bool) (src : Nat) (sev : Sev) (code : Nat) (arg : State → Nat) : State :=
  let k := 64 * f.addr + f.lo
  let was := s.on f && Tbl.get false s.raised k
  let s := s.setBit f true
  let s := { s with raised := Tbl.put false s.raised k (was || !masked) }
  if was || masked then s else s.raise src sev code (arg s)

/-- A unit's command refused with E_STATE raises STATE_REFUSE at NOTICE; any other outcome raises nothing (R13, Table
18-4). `off` is the offset of the write in the unit's window. -/
def State.noteRefusal (s : State) (src off req : Nat) (c : Code) : State :=
  if c = .eState then s.raise src .notice 0x60 (off % 2 ^ 32 + req % 256 * 2 ^ 32) else s

/-- The outcome of a rescue command enters RSC_CMDSTAT (R493, Table 13-5). -/
def State.rescueCode (s : State) (cmd id : Nat) (c : Code) : State :=
  ((s.setFld Reg.RSC_CMDSTAT_CODE c.num).setFld Reg.RSC_CMDSTAT_CMD cmd).setFld Reg.RSC_CMDSTAT_REQ id

/-- The rescue command that runs, if one does, has ended (R493). -/
def State.rescueOver (s : State) (c : Code) : State :=
  match s.host.rescue with
  | some (cmd, id) =>
    ({ s with host := { s.host with rescue := none } }.setBit Reg.RSC_CMDSTAT_BUSY false).rescueCode cmd id c
  | none => s

/-- The block sends something to its surroundings. -/
def State.emit (s : State) (o : Output) : State := { s with out := o :: s.out }

/-- The response to a register write (R687). -/
def State.respond (s : State) (req addr : Nat) (c : Code) : State := s.emit (.response req addr c)

/-- A write at `addr` is answered with `c` outright; an E_STATE is logged (R13). `base` is where the unit's window starts. -/
def State.refuse (s : State) (src base req addr : Nat) (c : Code) : State :=
  (s.noteRefusal src (addr - base) req c).respond req addr c

/-- A write in the window of region `r`, or of node `n`, is answered with `c` outright. -/
def State.windowRefuse (s : State) (req r addr : Nat) (c : Code) : State := s.refuse (srcRegion r) (Reg.REG_CMD r) req addr c
def State.nodeRefuse (s : State) (req n addr : Nat) (c : Code) : State := s.refuse (srcNode n) (Reg.RTR_ID n) req addr c

/-- Is this output the response to requester `req`? -/
def isResponse (req : Nat) : Output → Option Code
  | .response r _ c => if r = req then some c else none
  | _ => none

/-- The output without the newest response to `req`. -/
def dropResponse (req : Nat) : List Output → List Output
  | [] => []
  | o :: t => if (isResponse req o).isSome then t else o :: dropResponse req t

/-- What a unit does with a write of requester `req`, with its response taken rather than sent. -/
def State.capture (s : State) (req : Nat) (act : State → State) : State × Code :=
  let t := act { s with out := [] }
  ({ t with out := dropResponse req t.out ++ s.out }, (t.out.findSome? (isResponse req)).getD .ok)

/-- The stepping, as the Revision ID shows it; the spec names no stepping of the device (R483). -/
def stepping : Nat := (Config.implBits 8 1).toNat

end Sys2Proof.Machine
end

