-- ==== Sys2Proof/Machine/Levels.lean ====
section
/-! DEFINITION. The summaries and event levels that are derived from error and event registers (R14, R131, R176, R204,
R232, R279, R353, R379, R411, R438), and the interrupt sources and vectors made of them (R501, R502). -/

namespace Sys2Proof.Machine

/-- Some listed instance of the register at `base` (`n` of them, `stride` apart) satisfies `p`. A register at its reset
value 0 is not listed and satisfies nothing. -/
def State.anyReg (s : State) (base n stride : Nat) (p : Nat → Word64 → Bool) : Bool :=
  s.regs.any (fun e => decide (base ≤ e.1) && (e.1 - base) % stride == 0 && decide ((e.1 - base) / stride < n) &&
    p ((e.1 - base) / stride) e.2)

/-- The unmasked bits among the low `n` bits of an error register. -/
def unmasked (v : Word64) (n mask : Nat) : Nat := v.toNat % 2 ^ n &&& (2 ^ n - 1 - mask % 2 ^ n)

/-- The summary of block `b` (R131). -/
def State.blkSum (s : State) (r b : Nat) : Bool :=
  unmasked (s.rd (Reg.BLK_ERR r b)) 7 (s.fld (Reg.BLK_ERRCTL_MASK r b)) != 0

/-- The summary of block memory `m` (R204, R232). -/
def State.bmSum (s : State) (r m : Nat) : Bool :=
  s.on (Reg.BM_STAT_PROT r m) || s.on (Reg.BM_STAT_PORT_ILL r m) || s.on (Reg.BM_STAT_CFG_BAD r m) ||
    s.on (Reg.BM_ECCSTAT_UE r m) || s.on (Reg.BM_ECCSTAT_CFG_CHK r m)

/-- The summary of the engine that answers to slot `k` (R279, R232). -/
def State.engSum (s : State) (r k : Nat) : Bool :=
  unmasked (s.rd (Reg.ENG_ERR r k)) 4 (s.fld (Reg.ENG_ERRCTL_MASK r k)) != 0 ||
    s.on (Reg.ENG_ECCSTAT_UE r k) || s.on (Reg.ENG_ECCSTAT_CFG_CHK r k)

/-- The error summary of node `n` (R353). -/
def State.nodeSum (s : State) (n : Nat) : Bool :=
  let e := unmasked (s.rd (Reg.RTR_ERR n)) 6 (s.fld (Reg.RTR_ERRCTL_MASK n))
  e % 8 != 0 || hasBit e 5 ||
    unmasked (s.rd (Reg.NI_ERR n 0)) 6 (s.fld (Reg.NI_ERRCTL_MASK n 0)) != 0 ||
    (n == cfgNode && unmasked (s.rd (Reg.NI_ERR n 1)) 6 (s.fld (Reg.NI_ERRCTL_MASK n 1)) != 0)

/-- Some block of region `r` has its summary set. -/
def State.anyBlk (s : State) (r : Nat) : Bool := s.anyReg (Reg.BLK_ERR r 0) 256 0x10 (fun b _ => s.blkSum r b)

/-- Some block memory of region `r` has its summary set. -/
def State.anyBm (s : State) (r : Nat) : Bool :=
  s.anyReg (Reg.BM_STAT r 0) 96 0x10 (fun m _ => s.bmSum r m) ||
    s.anyReg (Reg.BM_ECCSTAT r 0) 96 8 (fun m _ => s.bmSum r m)

/-- Some engine slot of region `r` has its summary set. -/
def State.anyEng (s : State) (r : Nat) : Bool := (List.range 4).any (fun k => s.engSum r k)

/-- REG_ERR.RTR of region `r` (R353, chapter 10): its node's summary, and the drops of its ports. -/
def State.rtrSum (s : State) (r : Nat) : Bool :=
  s.nodeSum (regionNode r) ||
    (List.range 8).any (fun i => s.on (Reg.NIP_STAT_TX_DROP r i) || s.on (Reg.NIP_STAT_RX_DROP r i) ||
      s.on (Reg.CQP_STAT_WDROP r i) || s.on (Reg.CQP_STAT_RERR r i))

/-- REG_ERR as a read shows it: bits 3–0 are the summaries of the level below (Table 4-18, R14). -/
def State.regErr (s : State) (r : Nat) : Nat :=
  (s.rd (Reg.REG_ERR r)).toNat / 16 * 16 + bit (s.anyBlk r) + 2 * bit (s.anyBm r) + 4 * bit (s.anyEng r) +
    8 * bit (s.rtrSum r)

/-- The summary bit of region `r` (R176). -/
def State.regionSum (s : State) (r : Nat) : Bool :=
  unmasked (BitVec.ofNat 64 (s.regErr r)) 10 (s.fld (Reg.REG_ERRCTL_MASK r)) != 0

/-- The summary of lane `n` (R438). -/
def State.laneSum (s : State) (n : Nat) : Bool :=
  unmasked (s.rd (Reg.LN_ERR n)) 6 (s.fld (Reg.LN_ERRCTL_MASK n)) != 0

/-- The notice event of shard `q` (R379). -/
def State.noteEvent (s : State) (q : Nat) : Bool :=
  s.on (Reg.QM_CTL_NEVT_EN q) &&
    decide (s.fld (Reg.QM_CTL_NTHR q) ≤
      (s.fld (Reg.QM_NPROD_COUNT q) + 2 ^ 32 - s.fld (Reg.QM_NCONS_COUNT q)) % 2 ^ 32)

/-- The error summary of shard `q` (R411). -/
def State.shardSum (s : State) (q : Nat) : Bool :=
  unmasked (s.rd (Reg.QM_ERR q)) 7 (s.fld (Reg.QM_ERRCTL_MASK q)) != 0 ||
    s.on (Reg.QM_ECCSTAT_UE q) || s.on (Reg.QM_ECCSTAT_LINK_UE q)

/-- NET_SUM (Table 9-8): the error summaries of the nodes. -/
def State.netSum (s : State) : Nat :=
  ((List.range 48).map (fun n => if s.nodeSum n then 2 ^ n else 0)).sum

/-- Interrupt source `k` of port `p` is active (Table 13-8). -/
def State.srcActive (s : State) (p k : Nat) : Bool :=
  if k = 0 then s.lovage.alarm
  else if k = 1 then s.fld Reg.IL_PEND_COUNT != 0 && s.on Reg.IL_CTL_EVT_EN
  else if k = 2 then
    (List.range 64).any (fun i => hasBit (s.fld Reg.ACT_DONE_DONE) i && s.on (Reg.ACT_CTL_EVT i))
  else if k = 3 then s.rd Reg.CFG_EVT != 0 && s.on Reg.CFG_CTL_EVT_EN
  else if k = 4 then s.rd Reg.ST_EVT &&& s.rd Reg.ST_EVTEN != 0
  else if k = 5 then s.rd Reg.HK_EVT &&& s.rd Reg.HK_EVTEN != 0
  else if k = 6 then (List.range 48).any (fun n => s.nodeSum n)
  else if k = 7 then s.anyReg (Reg.LN_ERR 0) 128 0x2000 (fun n _ => s.laneSum n)
  else if k < 8 then false
  else if k < 12 then s.noteEvent (k - 8)
  else if k < 16 then s.shardSum (k - 12)
  else if k < 40 then s.regionSum (k - 16)
  else if k < 48 then false
  else hasBit (s.fld (Reg.HP_DBELL_DB p)) (k - 48)

/-- The sources whose route of port `p` satisfies `f`: those listed in the register file, and source 0 if it is at its
reset route (Table 13-10). -/
def State.routed (s : State) (p : Nat) (f : Nat → Bool) : List Nat :=
  (List.range 64).filter (fun k => (k == 0 || (Tbl.find? s.regs (Reg.HP_ROUTE p k)).isSome) && f k)

/-- Vector `v` of port `p` is active (R501). -/
def State.vecOn (s : State) (p v : Nat) : Bool :=
  (s.routed p (fun k => s.on (Reg.HP_ROUTE_EN p k) && s.fld (Reg.HP_ROUTE_VEC p k) == v)).any (fun k => s.srcActive p k)

/-- The active vectors of port `p`. -/
def State.vecMask (s : State) (p : Nat) : Nat :=
  ((s.routed p (fun k => s.on (Reg.HP_ROUTE_EN p k))).filter (fun k => s.srcActive p k)).foldl
    (fun m k => withBit m (s.fld (Reg.HP_ROUTE_VEC p k))) 0

/-- The interrupt pin of port `p` is pulled low (R501). -/
def State.irqPin (s : State) (p : Nat) : Bool :=
  (s.routed p (fun k => s.on (Reg.HP_ROUTE_PIN p k))).any (fun k => s.srcActive p k)

/-- Port `p` follows its vectors: a vector that becomes active sets its pending bit (R502). -/
def State.settlePort (s : State) (p : Nat) : State :=
  let now := s.vecMask p
  let was := Tbl.get 0 s.host.vecActive p
  let s := s.setFld (Reg.HP_VPEND_PEND p) (s.fld (Reg.HP_VPEND_PEND p) ||| (now &&& (2 ^ 64 - 1 - was)))
  { s with host := { s.host with vecActive := Tbl.put 0 s.host.vecActive p now } }

end Sys2Proof.Machine
end

