-- ==== Sys2Proof/Machine/BmOps.lean ====
section
/-! DEFINITION. The shared operations of memories with check codes (chapter 6) and of block memories (chapter 5): bytes of
memory windows, error events, row accesses, port accesses and collisions. -/

namespace Sys2Proof.Machine

/-! ## Bytes -/

/-- The canonical form of the memories: addresses strictly rising, and no entry equal to what an unlisted address reads as, 0. -/
def Memory.wf (m : List Host.Cell) : Bool := Tbl.wf (fun _ => (0 : Byte)) m

/-- The byte at C-window address `a` of a memory window. -/
def State.byte (s : State) (a : Nat) : Nat := (Tbl.get (0 : Byte) s.mem a).toNat

/-- The state with the byte at `a` set. -/
def State.setByte (s : State) (a v : Nat) : State := { s with mem := Tbl.put 0 s.mem a (BitVec.ofNat 8 v) }

/-- The `n` bytes from address `a` on as one little-endian number. -/
def State.bytes (s : State) (a : Nat) : Nat → Nat
  | 0 => 0
  | n + 1 => s.byte a + 256 * s.bytes (a + 1) n

/-- The state with the `n` bytes from `a` on set from a little-endian number. -/
def State.setBytes (s : State) (a v : Nat) : Nat → State
  | 0 => s
  | n + 1 => (s.setByte a (v % 256)).setBytes (a + 1) (v / 256) n

/-! ## Flipped bits -/

/-- The mark of the code word at address `a`. -/
def State.mark (s : State) (a : Nat) : Nat := Tbl.get 0 s.marks a

/-- The state with the mark of the code word at `a` set. -/
def State.setMark (s : State) (a v : Nat) : State := { s with marks := Tbl.put 0 s.marks a v }

/-! ## Error events -/

/-- What an error event is recorded against: the status register (BM_ECCSTAT or ENG_ECCSTAT), the region, the register
number k of Table 18-2, and the element's number. -/
structure EccPlace where
  stat : Nat
  region : Nat
  k : Nat
  elem : Nat
  deriving DecidableEq, Repr

/-- Block memory `m` of region `r`. -/
def bmPlace (r m : Nat) : EccPlace := ⟨Reg.BM_ECCSTAT r m, r, 3, m⟩

/-- Engine slot `k` of region `r`. -/
def engPlace (r k : Nat) : EccPlace := ⟨Reg.ENG_ECCSTAT r k, r, 5, k⟩

/-- The scrubber of region `r`. -/
def State.scr (s : State) (r : Nat) : ScrubSt := Tbl.get .reset s.scrub r

/-- The state with the scrubber of region `r` changed. -/
def State.setScr (s : State) (r : Nat) (x : ScrubSt) : State := { s with scrub := Tbl.put .reset s.scrub r x }

/-- A bit of an error status register occurs (R233): its first occurrence raises an incident with the address register. -/
def State.eccBit (s : State) (p : EccPlace) (i : Nat) (sev : Sev) : State :=
  s.errBit ⟨p.stat, i, 1⟩ false (srcRegion p.region) sev (16 * p.k + i)
    (fun s => (s.rd (p.stat + 4)).toNat + p.elem * 2 ^ 32)

/-- One read finds a corrected or an uncorrectable code word (R230, R231, Table 6-5). `addr` is the content of the
address register beside KIND. -/
def State.eccEvent (s : State) (p : EccPlace) (addr : Nat) (ue : Bool) : State :=
  let ce0 := s.on ⟨p.stat, 0, 1⟩
  let ue0 := s.on ⟨p.stat, 1, 1⟩
  let s := if !ue0 && (ue || !ce0) then s.wr (p.stat + 4) (BitVec.ofNat 64 (addr + bit ue * 2 ^ 21)) else s
  let sat : Fld := ⟨p.stat, 4, 1⟩
  if ue then (s.count ⟨p.stat, 8, 8⟩ sat).eccBit p 1 .fault
  else
    let s := (s.count ⟨p.stat, 16, 16⟩ sat).eccBit p 0 .info
    let n := Tbl.get 0 (s.scr p.region).sweepCe p.stat + 1
    let s := s.setScr p.region { s.scr p.region with sweepCe := Tbl.put 0 (s.scr p.region).sweepCe p.stat n }
    let lim := s.fld (Reg.SCR_CTL_CE_LIM p.region)
    if lim != 0 && decide (lim < n) then s.eccBit p 3 .degraded else s

/-! ## Rows of block memories -/

/-- Block memory `m` of region `r`. -/
def State.bm (s : State) (r m : Nat) : BmSt := Tbl.get .reset s.bms (96 * r + m)

/-- The state with a block memory changed. -/
def State.setBm (s : State) (r m : Nat) (x : BmSt) : State := { s with bms := Tbl.put .reset s.bms (96 * r + m) x }

/-- The window address of row `row` of memory `m` (R201). -/
def bmRow (r m row : Nat) : Nat := 0x1010000 + 0x200000 * r + 0x1000 * m + 8 * row

/-- The ECC mode of a memory: 0 NONE, 1 ECC32, 2 ECC64 (Table 5-2). -/
def State.bmEcc (s : State) (r m : Nat) : Nat := s.fld (Reg.BM_CFG_ECC r m)

/-- The row is valid (R182). -/
def State.rowValid (s : State) (r m row : Nat) : Bool := hasBit (s.bm r m).valid row

/-- The row as it stands. -/
def State.rowImage (s : State) (r m row : Nat) : RowImage :=
  let a := bmRow r m row
  ⟨s.bytes a 8, s.rowValid r m row, s.mark a, s.mark (a + 4)⟩

/-- The row put back to an image of it. -/
def State.setRow (s : State) (r m row : Nat) (x : RowImage) : State :=
  let a := bmRow r m row
  let b := s.bm r m
  let s := s.setBm r m { b with valid := if x.valid then withBit b.valid row else withoutBit b.valid row }
  ((s.setBytes a x.data 8).setMark a x.mark0).setMark (a + 4) x.mark1

/-! ## Flipped bits in code words -/

/-- The bytes of the code word at address `a` (Table 6-1); 0 where none is protected there. -/
def State.codeBytes (s : State) (a : Nat) : Nat :=
  if 0x40000000 ≤ a then 8
  else if a < 0x1000000 ∨ 0x4000000 ≤ a then 0
  else
    let r := (a - 0x1000000) / 0x200000
    let o := (a - 0x1000000) % 0x200000
    if o < 0x10000 then 0
    else if o < 0x70000 then
      match s.bmEcc r ((o - 0x10000) / 0x1000) with
      | 1 => 4
      | 2 => 8
      | _ => 0
    else if o < 0x100000 then 0
    else if (o - 0x100000) % 0x40000 < 0x10000 then 4 else 2

/-- Address `a` stands for the valid bit of a block-memory row: the row and its memory. -/
def validBitAt (a : Nat) : Option (Nat × Nat × Nat) :=
  let r := (a - 0x1000000) / 0x200000
  let o := (a - 0x1000000) % 0x200000
  if 0x1000000 ≤ a ∧ r < 24 ∧ 0x10000 ≤ o ∧ o < 0x70000 ∧ a % 8 = 1 then
    some (r, (o - 0x10000) / 0x1000, (o - 0x10000) % 0x1000 / 8)
  else none

/-- A row's valid bit shows the other value. -/
def State.flipValid (s : State) (r m row : Nat) : State :=
  let b := s.bm r m
  s.setBm r m { b with valid := if hasBit b.valid row then withoutBit b.valid row else withBit b.valid row }

/-- `n` of the three copies of a valid bit flip; the majority decides (R211). Which ones flip where one disagrees already is open. -/
def State.upsetValid (s : State) (r m row n : Nat) : State :=
  let a := bmRow r m row + 1
  if n = 0 then s
  else if s.mark a = 0 then
    let s := if n = 1 then s else s.flipValid r m row
    s.setMark a (bit (n < 3))
  else if 3 ≤ n then s.flipValid r m row
  else if s.freeBool then
    -- the copy that disagrees is among them
    s.tookFree.setMark a (n - 1)
  else (s.tookFree.flipValid r m row).setMark a (2 - n)

/-- Bits flip in protected memories: each entry names a code word by its C-window address and the number of its bits that
flip. One flipped bit is correctable; two are not. Three or more may be reported as uncorrectable, corrected wrongly or
pass undetected (R208): free choices, and in the latter two the word holds a free value. -/
def State.upset (s : State) : List (Nat × Nat) → State
  | [] => s
  | (a, n) :: t =>
    let s :=
      match validBitAt a with
      | some (r, m, row) => s.upsetValid r m row n
      | none =>
        let w := s.codeBytes a
        if n = 0 ∨ w = 0 then s
        else if n ≤ 2 ∧ s.mark a + n ≤ 2 then s.setMark a (s.mark a + n)
        else if s.freeBool then s.tookFree.setMark a 2
        else
          let s := s.tookFree
          let s := (s.setBytes a (s.freeBits (8 * w)).toNat w).tookFree
          let corrected := s.freeBool
          s.tookFree.setMark a (bit corrected)
    s.upset t

/-- The halves of a row (as a mask of 1 and 2) that the bits of `mask` lie in. -/
def halvesOf (mask : Nat) : Nat := bit (mask % 2 ^ 32 != 0) + 2 * bit (mask / 2 ^ 32 != 0)

/-- The code words of a row that cover the halves `hs` under ECC mode `ecc`: their offsets and PART codes. -/
def codeWords (ecc hs : Nat) : List (Nat × Nat) :=
  match ecc with
  | 1 => (if hasBit hs 0 then [(0, 0)] else []) ++ (if hasBit hs 1 then [(4, 1)] else [])
  | 2 => [(0, 0)]
  | _ => []

/-- The finders of Table 6-6. -/
def finderHost : Nat := 2
def finderScrub : Nat := 3

/-- A read checks the valid bit and the code words of halves `hs` of a row (R197, R210, R211, R231); `before` gives the
marks. Answers whether one is uncorrectable. -/
def State.checkRow (s : State) (r m row hs finder : Nat) (x : RowImage) : State × Bool :=
  let p := bmPlace r m
  let s := if s.mark (bmRow r m row + 1) != 0 then s.eccEvent p (row + 2 * 2 ^ 14 + finder * 2 ^ 18) false else s
  if !x.valid then (s, false)
  else
    let ws := codeWords (s.bmEcc r m) hs
    let markOf := fun (w : Nat × Nat) => if w.1 = 0 then x.mark0 else x.mark1
    let s := ws.foldl (fun s w =>
      if markOf w = 0 then s else s.eccEvent p (row + w.2 * 2 ^ 14 + finder * 2 ^ 18) (decide (2 ≤ markOf w))) s
    (s, ws.any (fun w => decide (2 ≤ markOf w)))

/-- A read of the bits `mask` of a row as `x` holds it: the row's 64 bits (0 where the row is not valid), and whether a
code word is uncorrectable (R197, R213). -/
def State.readRow (s : State) (r m row mask finder : Nat) (x : RowImage) : State × Nat × Bool :=
  let (s, ue) := s.checkRow r m row (halvesOf mask) finder x
  (s, if ue || !x.valid then 0 else x.data, ue)

/-- A write of the bits `mask` of a row (R198, R203, R209): a row that was not valid is zeroed first. A code word that the
write covers in part is read first, and an uncorrectable error then leaves the row unchanged. Answers whether the row was
written. -/
def State.writeRow (s : State) (r m row mask value finder : Nat) : State × Bool :=
  let x := s.rowImage r m row
  let ecc := s.bmEcc r m
  let part := fun (lo w : Nat) => let f := bitsOf mask lo w; f != 0 && f != 2 ^ w - 1
  let hs := if !x.valid then 0
    else match ecc with
      | 1 => bit (part 0 32) + 2 * bit (part 32 32)
      | 2 => if part 0 64 then 3 else 0
      | _ => 0
  let (s, ue) := if hs = 0 then (s, false) else s.checkRow r m row hs finder x
  if ue then (s, false)
  else
    let old := if x.valid then x.data else 0
    let data := (old &&& (2 ^ 64 - 1 - mask)) ||| (value &&& mask)
    let m0 := if !x.valid || (mask != 0 && (ecc == 2 || mask % 2 ^ 32 != 0)) then 0 else x.mark0
    let m1 := if !x.valid || mask / 2 ^ 32 != 0 then 0 else x.mark1
    ((s.setRow r m row ⟨data, true, m0, m1⟩).setMark (bmRow r m row + 1) 0, true)

/-! ## Ports -/

/-- The width in bits of a WIDTH code (Table 5-1). -/
def widthOf (code : Nat) : Nat := 2 ^ code

/-- A BM_CFG word is consistent (R185). -/
def bmCfgOk (w : Nat) : Bool :=
  let wa := bitsOf w 0 3; let ma := bitsOf w 3 2; let ba := hasBit w 5
  let wb := bitsOf w 8 3; let mb := bitsOf w 11 2; let bb := hasBit w 13
  let ecc := bitsOf w 16 2
  let okWidth := fun (c : Nat) => c != 7 && (ecc == 0 || (ecc == 1 && decide (5 ≤ c)) || (ecc == 2 && c == 6))
  let okBe := fun (b : Bool) (c mode : Nat) => !b || (decide (4 ≤ c) && mode != 3 && ecc == 0)
  ecc != 3 && okWidth wa && okWidth wb && okBe ba wa ma && okBe bb wb mb

/-- The mode of port `p` (0 A, 1 B): OFF 0, READ_WRITE 1, WRITE_POSTED 2, READ_ONLY 3; OFF under a bad BM_CFG (R185). -/
def State.bmMode (s : State) (r m p : Nat) : Nat :=
  if !bmCfgOk (s.rd (Reg.BM_CFG r m)).toNat then 0
  else if p = 0 then s.fld (Reg.BM_CFG_MODEA r m) else s.fld (Reg.BM_CFG_MODEB r m)

/-- The width code of port `p`. -/
def State.bmWidth (s : State) (r m p : Nat) : Nat :=
  if p = 0 then s.fld (Reg.BM_CFG_WIDTHA r m) else s.fld (Reg.BM_CFG_WIDTHB r m)

/-- Port `p` uses byte enables. -/
def State.bmBe (s : State) (r m p : Nat) : Bool :=
  if p = 0 then s.on (Reg.BM_CFG_BEA r m) else s.on (Reg.BM_CFG_BEB r m)

/-- Port `p` of a memory. -/
def BmSt.port (b : BmSt) (p : Nat) : BmPort := if p = 0 then b.portA else b.portB

/-- A memory with port `p` changed. -/
def BmSt.setPort (b : BmSt) (p : Nat) (x : BmPort) : BmSt := if p = 0 then { b with portA := x } else { b with portB := x }

/-- The state with port `p` of a memory changed. -/
def State.setBmPort (s : State) (r m p : Nat) (x : BmPort) : State := s.setBm r m ((s.bm r m).setPort p x)

/-- The port has no access in progress (R188). -/
def BmPort.idle (x : BmPort) : Bool := !x.reqack && x.resp.isNone && !x.racked

/-- A request as a port takes it. -/
structure BmRequest where
  write : Bool
  addr : Nat
  wdata : Nat
  be : Nat
  deriving DecidableEq, Repr

/-- A request's word of a row: the row, and the lowest of its bits (R183). -/
def wordPlace (wcode addr : Nat) : Nat × Nat :=
  let per := 64 / widthOf wcode
  let w := addr % (512 * per)
  (w / per, w % per * widthOf wcode)

/-- The bits of a row that a write changes: its word, or the enabled bytes of it (R190). -/
def writeMask (wcode lo : Nat) (useBe : Bool) (be : Nat) : Nat :=
  let w := widthOf wcode
  if useBe then
    ((List.range (w / 8)).map (fun k => if hasBit be k then 0xFF * 2 ^ (lo + 8 * k) else 0)).sum
  else (2 ^ w - 1) * 2 ^ lo

/-- A write/write collision is recorded (R195). -/
def State.countCollision (s : State) (r m : Nat) : State :=
  (s.count (Reg.BM_COLLCNT_COUNT r m) (Reg.BM_STAT_COLL_SAT r m)).setBit (Reg.BM_STAT_COLL r m) true

/-- Port `p` takes the request `q` (R187–R190). `collides` says that the other port's latest access, on the same row, is so
close that the two collide (R194, Table 5-6). -/
def State.bmTake (s : State) (r m p : Nat) (q : BmRequest) (collides : Bool) : State :=
  let wc := s.bmWidth r m p
  let (row, lo) := wordPlace wc q.addr
  let other := ((s.bm r m).port (1 - p)).last
  let before := s.rowImage r m row
  let posted := s.bmMode r m p == 2
  let hit := if collides then other.filter (fun t => t.row == row) else none
  let put := fun (s : State) (before : RowImage) (resp : Nat × Bool × Bool) =>
    s.setBmPort r m p { (s.bm r m).port p with
      reqack := true, resp := if posted then none else some resp, racked := false, last := some ⟨row, q.write, before⟩ }
  if !q.write then
    let mask := (2 ^ widthOf wc - 1) * 2 ^ lo
    let seen := match hit with
      | some t => if t.write then t.before else before
      | none => before
    let (s, data, ue) := s.readRow r m row mask p seen
    put s before (if ue then 0 else data / 2 ^ lo % 2 ^ widthOf wc, ue, false)
  else
    let mask := writeMask wc lo (s.bmBe r m p) q.be
    let value := q.wdata % 2 ^ widthOf wc * 2 ^ lo
    match hit with
    | some t =>
      if t.write then
        let s := s.countCollision r m
        if p = 1 then put s before (0, false, true)
        else
          -- port B took its write first: it has no effect, and its response carries COL
          let s := s.setRow r m row t.before
          let s := (s.writeRow r m row mask value p).1
          let b := (s.bm r m).portB
          let s := s.setBmPort r m 1 { b with resp := b.resp.map (fun x => (x.1, x.2.1, true)) }
          put s t.before (0, false, false)
      else put (s.writeRow r m row mask value p).1 before (0, false, false)
    | none => put (s.writeRow r m row mask value p).1 before (0, false, false)

/-- Both ports of a memory as region reset leaves them. -/
def State.resetBmPorts (s : State) (r m : Nat) : State :=
  s.setBm r m { s.bm r m with portA := .reset, portB := .reset }

/-- A maintenance access: neither port's latest access can collide with the next one any more (R196). -/
def State.maintained (s : State) (r m : Nat) : State :=
  let b := s.bm r m
  s.setBm r m { b with portA := { b.portA with last := none }, portB := { b.portB with last := none } }

/-- BM_CLEAR: every valid bit cleared, in one maintenance access (R199, R200). -/
def State.clearValid (s : State) (r m : Nat) : State :=
  let s := { s with marks := s.marks.filter (fun e => !(decide (bmRow r m 0 ≤ e.1) && decide (e.1 < bmRow r m 512) && e.1 % 8 == 1)) }
  (s.setBm r m { s.bm r m with valid := 0 }).maintained r m

/-! ## The maintenance path -/

/-- Split bytes from offset `off` of a window into row pieces: (row, first byte, number of bytes), ascending (R202). -/
def rowPieces (off : Nat) : Nat → Nat → List (Nat × Nat × Nat)
  | _, 0 => []
  | 0, _ => []
  | n, fuel + 1 =>
    let k := min n (8 - off % 8)
    (off / 8, off % 8, k) :: rowPieces (off + k) (n - k) fuel

/-- A maintenance read of `n` bytes at byte `off` of a memory's window: the bytes as a number, and OK or E_ECC; no partial
data (R202, R212, R214). -/
def State.maintRead (s : State) (r m off n finder : Nat) : State × Nat × Code :=
  let step := fun (acc : State × Nat × Bool × Nat) (c : Nat × Nat × Nat) =>
    let (s, v, bad, at_) := acc
    let mask := (2 ^ (8 * c.2.2) - 1) * 2 ^ (8 * c.2.1)
    let (s, data, ue) := s.readRow r m c.1 mask finder (s.rowImage r m c.1)
    (s, v + data / 2 ^ (8 * c.2.1) % 2 ^ (8 * c.2.2) * 2 ^ (8 * at_), bad || ue, at_ + c.2.2)
  let (s, v, bad, _) := (rowPieces off n n).foldl step (s.maintained r m, 0, false, 0)
  if bad then (s, 0, .eEcc) else (s, v, .ok)

/-- A maintenance write of `n` bytes with byte enables: rows in ascending order until one is uncorrectable (R202, R203,
R214). -/
def State.maintWrite (s : State) (r m off n value be finder : Nat) : State × Code :=
  let step := fun (acc : State × Bool × Nat) (c : Nat × Nat × Nat) =>
    let (s, bad, at_) := acc
    if bad then acc
    else
      let k := c.2.2
      let en := be / 2 ^ at_ % 2 ^ k
      let mask := ((List.range k).map (fun j => if hasBit en j then 0xFF * 2 ^ (8 * (c.2.1 + j)) else 0)).sum
      let v := value / 2 ^ (8 * at_) % 2 ^ (8 * k) * 2 ^ (8 * c.2.1)
      if mask = 0 then (s, false, at_ + k)
      else
        let (s, done) := s.writeRow r m c.1 mask v finder
        (s, !done, at_ + k)
  let (s, bad, _) := (rowPieces off n n).foldl step (s.maintained r m, false, 0)
  (s, if bad then .eEcc else .ok)

end Sys2Proof.Machine
end

