-- ==== Sys2Proof/Machine/RegErr.lean ====
section
/-! DEFINITION. Error records of blocks (R128–R134) and of regions (R175–R178). -/

namespace Sys2Proof.Machine

/-- The severities of block errors (Table 3-12) by bit of BLK_ERR. -/
def blkSev (i : Nat) : Sev :=
  match i with
  | 0 | 1 | 2 => .degraded
  | 4 => .notice
  | _ => .fault

/-- The ARG of a BLK_ERR incident (Table 18-5). -/
def blkArg (r b : Nat) (s : State) : Nat := (s.rd (Reg.BLK_ERR r b)).toNat + b * 2 ^ 32

/-- The state with the fabric of region `r` changed. -/
def State.setFab (s : State) (r : Nat) (f : FabricSt) : State := s.setRgn r { s.rgn r with fab := f }

/-- Region `r` is RUNNING or FROZEN, where the fault of a wave can escalate (R132, R177, R228). -/
def State.wavesRun (s : State) (r : Nat) : Bool := s.rstate r == .running || s.rstate r == .frozen

/-- The cause of an escalation, if none stands yet (R132). -/
def State.setEsc (s : State) (r : Nat) (c : EscCause) : State :=
  let f := (s.rgn r).fab
  s.setFab r { f with esc := f.esc.or (some c) }

/-- Error bit `i` (0–6) of block `b` occurs at element `idx` (R129–R132, R134). `counts`: the event is one that BLK_ERRCNT
counts (R130). -/
def State.blkError (s : State) (r b i idx : Nat) (counts : Bool) : State :=
  let first := s.fld (Reg.BLK_ERR r b |> fun a => ⟨a, 0, 7⟩) == 0
  let s := if first then
      ((s.setFld (Reg.BLK_ERR_FIRST_IDX r b) (if i < 5 then idx else 0)).setFld (Reg.BLK_ERR_FIRST_BIT r b) i).setFld
        (Reg.BLK_ERRTICK_TICK r b) s.now
    else s
  let s := if counts then s.count (Reg.BLK_ERRCNT_COUNT r b) (Reg.BLK_ERR_CNT_SAT r b) else s
  let masked := hasBit (s.fld (Reg.BLK_ERRCTL_MASK r b)) i
  let s := s.errBit ⟨Reg.BLK_ERR r b, i, 1⟩ masked (srcRegion r) (blkSev i) (16 + i) (blkArg r b)
  if i < 4 && !masked && s.on (Reg.BLK_ERRCTL_ESC r b) && s.wavesRun r then s.setEsc r (.block b) else s

/-- The severities of region errors (Table 4-20) by bit of REG_ERR. -/
def regSev (i : Nat) : Sev :=
  match i with
  | 4 => .degraded
  | 8 | 9 => .notice
  | _ => .fault

/-- The ARG of a REG_ERR incident (Table 18-5). -/
def regArg (r : Nat) (s : State) : Nat := (s.rd (Reg.REG_ERRLOC r)).toNat + (s.rd (Reg.REG_ERRTICK r)).toNat * 2 ^ 32

/-- Error bit `i` (4–9) of region `r` occurs at `unit`, signal `sig` (R175, R177, R178, Table 4-19). -/
def State.regError (s : State) (r i unit sig : Nat) (counts : Bool) : State :=
  let first := s.fld ⟨Reg.REG_ERR r, 4, 6⟩ == 0
  let s := if first then
      (((s.setFld (Reg.REG_ERRLOC_BIT r) i).setFld (Reg.REG_ERRLOC_UNIT r) unit).setFld (Reg.REG_ERRLOC_SIG r) sig).setFld
        (Reg.REG_ERRTICK_TICK r) s.now
    else s
  let s := if counts then s.count (Reg.REG_ERRCNT_COUNT r) (Reg.REG_ERR_CNT_SAT r) else s
  let masked := hasBit (s.fld (Reg.REG_ERRCTL_MASK r)) i
  let s := s.errBit ⟨Reg.REG_ERR r, i, 1⟩ masked (srcRegion r) (regSev i) i (regArg r)
  if i = 4 && !masked && s.on (Reg.REG_ERRCTL_ESC r) && s.wavesRun r then s.setEsc r .spine else s

/-- Memory error bit `i` of BM_STAT (PROT 7, PORT_ILL 8, CFG_BAD 9) of memory `m` occurs (R191, R185, R204). -/
def State.bmError (s : State) (r m i : Nat) : State :=
  s.errBit ⟨Reg.BM_STAT r m, i, 1⟩ false (srcRegion r) (if i = 8 then .degraded else .fault) (32 + i)
    (fun s => (s.rd (Reg.BM_STAT r m)).toNat + m * 2 ^ 32)

/-- Region `r`'s scrubber records a frame fault outside blocks, memories and engines, or its freeze (R227, R228). -/
def State.scrError (s : State) (r i : Nat) : State :=
  s.errBit ⟨Reg.SCR_STAT r, i, 1⟩ false (srcRegion r) .fault (64 + i) (fun s => (s.rd (Reg.SCR_POS r)).toNat)

/-- The key of word `w` of a frame: region, column, minor address, word 0–63, or 64 for the stored CRC (R224). -/
def frameKey (r col minor w : Nat) : Nat := ((r * 42 + col) * 640 + minor) * 65 + w

/-- Word `w` of a frame of region `r` (R516, R524); 0 in a BLANK region. -/
def State.frame (s : State) (r col minor w : Nat) : Nat :=
  (Tbl.get (0 : Word) s.frames (frameKey r col minor w)).toNat ^^^ Tbl.get 0 s.frameMarks (frameKey r col minor w) % 2 ^ 32

/-- Word `w` of frame `f` of block `b` (Table 14-5). -/
def State.blkFrame (s : State) (r b f w : Nat) : Nat := s.frame r (b / 8) (40 * (b % 8) + f) w

end Sys2Proof.Machine
end

