-- ==== Sys2Proof/Machine/BankOps.lean ====
section
/-! DEFINITION. The shared operations of the user I/O banks, the control pins and the trigger lines (chapter 17). -/

namespace Sys2Proof.Machine

/-- Bank `b`. -/
def State.bank (s : State) (b : Nat) : BankSt := Tbl.get .reset s.banks b

/-- The state with bank `b` changed. -/
def State.setBank (s : State) (b : Nat) (x : BankSt) : State := { s with banks := Tbl.put .reset s.banks b x }

/-- Bank `b` exists. -/
def validBank (b : Nat) : Bool := decide (b < 12)

/-- Bank `b` is guarded (chapter 17). -/
def guarded (b : Nat) : Bool := decide (b < 6)

/-- The region that bank `b` is attached to, and the edge of it (Table 4-5). -/
def bankRegion (b : Nat) : Nat := if b < 6 then b else b + 12
def bankEdge (b : Nat) : Nat := if b < 6 then 2 else 0

/-- The bank at edge `e` of region `r`, if there is one (Table 4-5). -/
def bankAt (r e : Nat) : Option Nat :=
  if r < 6 ∧ e = 2 then some r else if 18 ≤ r ∧ r < 24 ∧ e = 0 then some (r - 12) else none

/-- The bank attached to region `r`. -/
def regionBank (r : Nat) : Option Nat := (bankAt r 2).or (bankAt r 0)

/-! ## Pin words -/

/-- The fields of a pin word (Table 17-2). -/
def ioHold (w : Nat) : Nat := bitsOf w 0 2
def ioStd (w : Nat) : Nat := bitsOf w 2 2
def ioDir (w : Nat) : Nat := bitsOf w 4 2
def ioMode (w : Nat) : Nat := bitsOf w 6 2

/-- The word names LVDS. -/
def isLvds (w : Nat) : Bool := ioStd w == 2

/-- A pin word passes the checks that concern it alone (R618), in a bank with nominal supply code `vccio`. -/
def pinWordOk (guard : Bool) (vccio w : Nat) : Bool :=
  let dir := ioDir w
  let mode := ioMode w
  let std := ioStd w
  let drive := bitsOf w 8 2
  let menu := match std with
    | 0 => true
    | 1 => vccio == 1 || vccio == 2
    | 2 => !guard && vccio == 3
    | _ => false
  let ordinaryOut := !guard && std == 0 && (dir == 2 || dir == 3)
  let lvdsIn := std == 2 && dir == 1
  w / 2 ^ 25 == 0 && menu && mode != 3 && !(dir == 3 && std == 2) &&
    !(mode == 2 && (std != 2 || !(dir == 1 || dir == 2))) &&
    (drive == 0 || ordinaryOut) && (guard || bitsOf w 15 3 == 0) &&
    (lvdsIn || (!hasBit w 18 && bitsOf w 21 4 == 0)) && (mode == 2 || bitsOf w 19 2 == 0)

/-- Pin `p` of the words `word` passes the checks of R618: those of its word, and those of the pair. -/
def pinOk (guard : Bool) (vccio : Nat) (word : Nat → Nat) (p : Nat) : Bool :=
  let w := word p
  pinWordOk guard vccio w &&
    (if p % 2 = 0 then true
     else
       let w0 := word (p - 1)
       if isLvds w0 then w / 4 == w0 / 4 else !isLvds w)

/-- The bank word passes its checks (R618). -/
def bankWordOk (guard : Bool) (w : Nat) : Bool := w / 2 ^ 5 == 0 && (guard || bitsOf w 3 2 == 0)

/-- A pin word as the bank uses it: an error leaves its HOLD only (R618). -/
def pinEffective (guard : Bool) (vccio : Nat) (word : Nat → Nat) (p : Nat) : Nat :=
  if pinOk guard vccio word p then word p else ioHold (word p)

/-! ## The settings in force -/

/-- The pin word in force. -/
def BankSt.word (x : BankSt) (p : Nat) : Nat := Tbl.get 0 x.cfg p

/-- The bank is enabled (Table 17-1). -/
def BankSt.en (x : BankSt) : Bool := hasBit x.set 2

/-- The pin whose word and hold govern pin `p`: that of pin 2q for an LVDS pair (Table 17-2). -/
def BankSt.lead (x : BankSt) (p : Nat) : Nat := if p % 2 = 1 && isLvds (x.word (p - 1)) then p - 1 else p

/-- Pin `p`, and pair `q`. -/
def BankSt.pin (x : BankSt) (p : Nat) : PinSt := Tbl.get .reset x.pins p
def BankSt.gear (x : BankSt) (q : Nat) : GearSt := Tbl.get .reset x.gears q

/-- A bank with a pin or a pair changed. -/
def BankSt.setPin (x : BankSt) (p : Nat) (y : PinSt) : BankSt := { x with pins := Tbl.put .reset x.pins p y }
def BankSt.setGear (x : BankSt) (q : Nat) (y : GearSt) : BankSt := { x with gears := Tbl.put .reset x.gears q y }

/-- Pin `p` of bank `b` is quenched (R629). -/
def State.pinQuenched (s : State) (b p : Nat) : Bool := hasBit (s.fld (Reg.IOB_QPIN_PIN b)) p

/-- The bank's supply is in range, it is enabled, and its pins have come back (R627). -/
def State.bankLive (s : State) (b : Nat) : Bool :=
  s.on (Reg.IOB_STAT_VOK b) && (s.bank b).en && !(s.bank b).returning

/-- RVT and RVF of a bank edge (R154, R627). -/
def State.bankValid (s : State) (b : Nat) : Bool := s.on (Reg.IOB_STAT_VOK b) && (s.bank b).en

/-- A spine register of the attached region, by signal (R148). -/
def State.spineReg (s : State) (b sig : Nat) : Bool :=
  Tbl.get false (s.rgn (bankRegion b)).fab.spineOut (256 * bankEdge b + sig)

/-- What the function of lead pin `p` drives (R621, R623, R625). A bidirectional pin drives while OE is 1. -/
def State.pinFunction (s : State) (b p : Nat) : PinDrive :=
  let x := s.bank b
  let w := x.word p
  let dir := ioDir w
  if dir < 2 then .off
  else match ioMode w with
    | 0 => if dir = 3 && !s.spineReg b (5 * p + 1) then .off else .level (s.spineReg b (5 * p))
    | 1 => if dir = 3 && !(x.pin p).oe then .off else .level (x.pin p).lvl
    | _ => .level (hasBit (x.gear (p / 2)).last 7)

/-- What pin `p` of bank `b` drives: nothing while the bank's supply is bad or the pin is quenched, else its hold state or
its function (R544–R546, R627, R629). The second pin of an LVDS pair drives the complement of the first. -/
def State.pinDrive (s : State) (b p : Nat) : PinDrive :=
  let x := s.bank b
  let l := x.lead p
  if !s.bankLive b || s.pinQuenched b p then .off
  else
    let d := (x.pin l).hold.getD (s.pinFunction b l)
    match d with
    | .level v => .level (v != (l != p))
    | d => d

/-- The level at ball `p` of bank `b` and the free value it may need: what the board drives, else what the pin drives, else
what its pull or keeper holds; else logic 0 or 1, undefined (R620). -/
def State.ballLevel (s : State) (b p : Nat) : State × Bool :=
  let k := 48 * b + p
  let w := (s.bank b).word p
  let known : Option Bool := match Tbl.get none s.pins.io k with
    | some v => some v
    | none => match s.pinDrive b p with
      | .level v => some v
      | .keeper => some (Tbl.get false s.pins.ioLast k)
      | .off =>
        if s.pinQuenched b p || !s.bankLive b then none
        else match bitsOf w 11 2 with
          | 1 => some true
          | 2 => some false
          | 3 => some (Tbl.get false s.pins.ioLast k)
          | _ => none
  let (s, v) := match known with
    | some v => (s, v)
    | none => (s.tookFree, s.freeBool)
  ({ s with pins := { s.pins with ioLast := Tbl.put false s.pins.ioLast k v } }, v)

/-- The board drives user I/O balls anew. -/
def State.setBalls (s : State) (bs : List (Nat × Option Bool)) : State :=
  { s with pins := { s.pins with io := bs.foldl (fun t b => if b.1 < 576 then Tbl.put none t b.1 b.2 else t) s.pins.io } }

/-! ## Events of a bank -/

/-- The severities of bank events (Table 17-13) by bit of IOB_STAT. -/
def bankSev (i : Nat) : Sev :=
  match i with
  | 5 | 9 | 10 => .notice
  | 6 => .info
  | 8 => .degraded
  | _ => .fault

/-- The lowest bit set among the low `n` bits, 0 if there is none. -/
def lowestBit (x n : Nat) : Nat := ((List.range n).find? (hasBit x)).getD 0

/-- Bit `i` (3–10) of IOB_STAT occurs (R640). -/
def State.bankEvent (s : State) (b i : Nat) : State :=
  s.errBit ⟨Reg.IOB_STAT b, i, 1⟩ (hasBit (s.rd (Reg.IOB_ERRCTL b)).toNat i) (srcBank b) (bankSev i) i
    (fun s => (s.rd (Reg.IOB_STAT b)).toNat + lowestBit (s.fld (Reg.IOB_QPIN_PIN b)) 48 * 2 ^ 32)

/-- The pins of `mask` are quenched for cause `i`, a bit of IOB_STAT; `counts`: the cause is no part of an event counted
already (R629, R630). A release that waits does not touch them. -/
def State.quench (s : State) (b mask i : Nat) (counts : Bool) : State :=
  let s := s.setFld (Reg.IOB_QPIN_PIN b) (s.fld (Reg.IOB_QPIN_PIN b) ||| mask)
  let s := s.setBit (Reg.IOB_STAT_QUENCHED b) true
  let x := s.bank b
  let s := s.setBank b { x with releasing := x.releasing &&& (2 ^ 48 - 1 - mask) }
  (if counts then s.count (Reg.IOB_QCNT_COUNT b) (Reg.IOB_STAT_CNT_SAT b) else s).bankEvent b i

/-- Every pin of a bank. -/
def allPins : Nat := 2 ^ 48 - 1

/-- A FATAL incident quenches the guarded banks with QFATAL = 1 (R630). -/
def State.fatalQuench (s : State) : State :=
  (List.range 6).foldl (fun s b => if hasBit (s.bank b).set 4 then s.quench b allPins 6 true else s) s

/-- The pins whose release an accepted QCLR holds are released (R631). -/
def State.releasePins (s : State) (b : Nat) : State :=
  let x := s.bank b
  let left := s.fld (Reg.IOB_QPIN_PIN b) &&& (2 ^ 48 - 1 - x.releasing)
  let s := (s.setFld (Reg.IOB_QPIN_PIN b) left).setBit (Reg.IOB_STAT_QUENCHED b) (left != 0)
  s.setBank b { x with releasing := 0 }

/-- What waits in the banks for a tick boundary (R627, R631). -/
def State.bankBoundary (s : State) : State :=
  (List.range 12).foldl (fun s b =>
    let x := s.bank b
    let s := if x.returning then s.setBank b { x with returning := false } else s
    if (s.bank b).releasing != 0 then s.releasePins b else s) s

/-- What a bank does about waiting work while the tick is stopped: it happens at once, within the 1 µs that R627 and R631
allow. -/
def State.bankNow (s : State) : State := if s.ticking then s else s.bankBoundary

/-- The nominal VCCIO of a code, in mV (Table 17-1). -/
def nominalMv (code : Nat) : Nat := [1000, 1200, 1500, 1800].getD code 1800

/-- The bank's supply has the value `mv`: VOK follows R626, a departure sets VRANGE_EV, a return of an unquenched bank's
pins waits for the boundary (R627). -/
def State.bankSupply (s : State) (b mv : Nat) : State :=
  let nom := nominalMv (bitsOf (s.bank b).set 0 2)
  let ok := decide (nom * 90 ≤ mv * 100) && decide (mv * 100 ≤ nom * 110)
  let was := s.on (Reg.IOB_STAT_VOK b)
  let s := (s.setFld (Reg.IOB_VMON_MV b) mv).setBit (Reg.IOB_STAT_VOK b) ok
  if was && !ok then s.bankEvent b 8
  else if !was && ok then (s.setBank b { s.bank b with returning := true }).bankNow
  else s

/-- The board supplies a bank with `mv`: its monitor sees that while the device is powered and out of reset (R23, R626). -/
def State.supplyChange (s : State) (b mv : Nat) : State :=
  let s := { s with pins := { s.pins with supply := Tbl.put 0 s.pins.supply b mv } }
  if s.hk.up then s.bankSupply b mv else s

/-! ## Holds and functions -/

/-- Words of a bank's frame: minor 1 of column 41 of the attached region (Table 14-8). -/
def State.bankFrame (s : State) (b w : Nat) : Nat := s.frame (bankRegion b) 41 1 w

/-- The hold state that HOLD `h` gives pin `p` of bank `b` (Table 14-11). -/
def State.holdOf (s : State) (b p h : Nat) : PinDrive :=
  match h with
  | 0 => .off
  | 1 => match s.pinDrive b p with
    | .level v => .level v
    | _ => .keeper
  | 2 => .level false
  | _ => .level true

/-- Every pin of bank `b` moves to its hold state in one step (R544). -/
def State.bankHold (s : State) (b : Nat) : State :=
  let x := s.bank b
  let s0 := s
  s.setBank b ((List.range 48).foldl (fun y p =>
    y.setPin p { PinSt.reset with hold := some (s0.holdOf b (x.lead p) (ioHold (s0.bankFrame b (x.lead p)))) }) x)

/-- The spine registers of the bank's TICK-mode outputs load RESETVAL and OERST (R622). -/
def State.bankRegs (s : State) (b : Nat) : State :=
  let x := s.bank b
  let r := bankRegion b
  let f := (s.rgn r).fab
  let base := 256 * bankEdge b
  let out := (List.range 48).foldl (fun t p =>
    let w := x.word p
    if decide (2 ≤ ioDir w) && ioMode w == 0 then
      Tbl.put false (Tbl.put false t (base + 5 * p) (hasBit w 13)) (base + 5 * p + 1) (hasBit w 14)
    else t) f.spineOut
  s.setFab r { f with spineOut := out }

/-- The first value of a FLOW or GEARED output at P1, which the spec does not state, is free (R545). -/
def State.firstValues (s : State) (b : Nat) : State :=
  (List.range 48).foldl (fun s p =>
    let x := s.bank b
    let w := x.word p
    if ioDir w < 2 ∨ ioMode w = 0 ∨ x.lead p ≠ p then s
    else if ioMode w = 1 then
      let s1 := s.tookFree
      (s.setBank b (x.setPin p { x.pin p with lvl := s.freeBool, oe := s1.freeBool })).tookFree.tookFree
    else (s.setBank b (x.setGear (p / 2) { x.gear (p / 2) with last := (s.freeBits 8).toNat })).tookFree) s

/-- At P1 the new settings apply and each pin moves from its hold state to its function (R545, R622). -/
def State.bankStart (s : State) (b : Nat) : State :=
  let g := guarded b
  let set := s.bankFrame b 48
  let set' := if bankWordOk g set then set else withoutBit (set % 4) 2
  let word := fun p => s.bankFrame b p
  let cfg := (List.range 48).foldl (fun t p => Tbl.put 0 t p (pinEffective g (bitsOf set 0 2) word p)) []
  let pins := (List.range 48).foldl (fun t p => Tbl.put .reset t p { PinSt.reset with hold := none }) []
  let x := s.bank b
  let s := s.setBank b { x with set := set', cfg, pins, gears := [] }
  ((s.bankRegs b).firstValues b).bankSupply b (s.fld (Reg.IOB_VMON_MV b))

/-- The checks of a bank's frame as it is accepted (R618): any error sets IOB_STAT.CFG_BAD. -/
def State.bankCheck (s : State) (b : Nat) : State :=
  let g := guarded b
  let set := s.bankFrame b 48
  let word := fun p => s.bankFrame b p
  if bankWordOk g set && (List.range 48).all (fun p => pinOk g (bitsOf set 0 2) word p) then s else s.bankEvent b 7

/-- Bank `b` has an enabled TICK-mode output (R621). -/
def State.hasTickOut (s : State) (b : Nat) : Bool :=
  let x := s.bank b
  x.en && (List.range 48).any (fun p => decide (2 ≤ ioDir (x.word p)) && ioMode (x.word p) == 0)

/-! ## Writes of IOB_CTL -/

/-- Pair `q` of bank `b` is a GEARED input. -/
def State.gearedIn (s : State) (b q : Nat) : Bool :=
  let w := (s.bank b).word (2 * q)
  decide (q < 24) && isLvds w && ioMode w == 2 && ioDir w == 1

/-- The outcome of a write of IOB_CTL (R625, R631): `recent` says that less than 1 ms has passed since the latest quench. -/
def State.bankCtlCode (s : State) (b value : Nat) (recent : Bool) : Code :=
  let quench := hasBit value 0
  let qclr := hasBit value 1 && !quench
  if (quench || qclr) && !guarded b then .eUnsup
  else if hasBit value 2 && !s.gearedIn b (bitsOf value 8 5) then .eArg
  else if qclr && !s.on (Reg.IOB_STAT_VOK b) then .eState
  else if qclr && recent then .eBusy
  else .ok

/-- A write of IOB_CTL (R625, R630, R631). `counts`: a quench of it counts an event of its own. -/
def State.bankCtlWrite (s : State) (req b value : Nat) (recent counts : Bool) : State :=
  let a := Reg.IOB_CTL b
  let c := s.bankCtlCode b value recent
  let s :=
    if c ≠ .ok then s
    else
      let s := if hasBit value 0 then s.quench b allPins 5 counts
        else if hasBit value 1 then
          (s.setBank b { s.bank b with releasing := s.fld (Reg.IOB_QPIN_PIN b) }).bankNow
        else s
      if hasBit value 2 then
        let q := bitsOf value 8 5
        let x := s.bank b
        s.setBank b (x.setGear q { x.gear q with slip := (x.gear q).slip + 1 })
      else s
  let s := (s.setFld (Reg.IOB_CMDSTAT_CODE b) c.num).setFld (Reg.IOB_CMDSTAT_REQ b) req
  (s.noteRefusal (srcBank b) (a - 0x10000) req c).respond req a c

/-! ## Control pins -/

/-- Control pins that the device pulls high when nothing drives them: pull-ups, and open-drain lines (Table 17-7). -/
def pinRestsHigh (n : Nat) : Bool := [0, 1, 16, 17, 18, 39, 40, 41, 43, 44, 46].contains n

/-- The level that the board drives at the ball of control pin `n`. -/
def State.cpBall (s : State) (n : Nat) : Bool := Tbl.get (pinRestsHigh n) s.pins.balls n

/-- Control pin `n` offers filters: TRIG0–TRIG7 (Table 17-7). -/
def hasFilter (n : Nat) : Bool := decide (4 ≤ n) && decide (n ≤ 11)

/-- The output of the filter of control pin `n` (R635). -/
def State.filtOut (s : State) (n : Nat) : Bool := (Tbl.get none s.pins.filt n).getD (s.cpBall n)

/-- The state with a filter output set. -/
def State.setFilt (s : State) (n : Nat) (v : Bool) : State :=
  { s with pins := { s.pins with filt := Tbl.put none s.pins.filt n (some v) } }

/-- The state with a DEBOUNCE window opened or closed. -/
def State.setWindow (s : State) (n : Nat) (v : Bool) : State :=
  { s with pins := { s.pins with window := Tbl.put false s.pins.window n v } }

/-- The filter of pin `n` sees the level `v` (Table 17-9): without a filter the output follows; DEBOUNCE takes a new level at
once and ignores the input for a time; GLITCH waits. -/
def State.filterInput (s : State) (n : Nat) (v : Bool) : State :=
  match s.fld (Reg.CP_CFG_FILT n) with
  | 0 => s.setFilt n v
  | 2 =>
    if Tbl.get false s.pins.window n || v == s.filtOut n then s
    else (s.setFilt n v).setWindow n true
  | _ => s

/-- The GLITCH count or the DEBOUNCE window of pin `n` expires (Table 17-9). -/
def State.filterSettle (s : State) (n : Nat) : State :=
  match s.fld (Reg.CP_CFG_FILT n) with
  | 1 => s.setFilt n (s.cpBall n)
  | 2 =>
    if Tbl.get false s.pins.window n then (s.setWindow n false).filterInput n (s.cpBall n) else s
  | _ => s

/-- The level at ball `n` changes; nothing follows it in a device that is in reset or not powered (R23). -/
def State.setCpBall (s : State) (n : Nat) (v : Bool) : State :=
  let live := hasFilter n && s.hk.up
  let s := if live then s.setFilt n (s.filtOut n) else s
  let s := { s with pins := { s.pins with balls := Tbl.put (pinRestsHigh n) s.pins.balls n v } }
  if live then s.filterInput n v else s

/-- Options that a control pin offers (Table 17-7): threshold and hysteresis, pull, analogue mode, drive. -/
def offersThr (n : Nat) : Bool :=
  n == 2 || hasFilter n || (decide (19 ≤ n) && decide (n ≤ 23)) || n == 38 || n == 47
def offersPull (n : Nat) : Bool := (decide (19 ≤ n) && decide (n ≤ 23)) || [43, 44, 46, 47].contains n
def offersAna (n : Nat) : Bool := [48, 50, 51].contains n
def offersDrv (n : Nat) : Bool :=
  [3, 12, 13, 14, 15, 24, 25, 35, 36, 37, 45, 49].contains n || (decide (26 ≤ n) && decide (n ≤ 33))

/-- The bits of CP_CFG that pin `n` offers. -/
def cpMask (n : Nat) : Nat :=
  (if offersThr n then 0x3 else 0) + (if hasFilter n then 0xFFC else 0) + (if offersPull n then 0x3000 else 0) +
    (if offersAna n then 0x4000 else 0) + (if offersDrv n then 0x30000 else 0)

/-- A write of CP_CFG, TL_MAP or FLAG_CTL is recorded (Table 17-11). OFFSET has 12 bits: those of the housekeeping offset. -/
def State.cpRecord (s : State) (req addr : Nat) (c : Code) : State :=
  (((s.setFld Reg.CP_CMDSTAT_CODE c.num).setFld Reg.CP_CMDSTAT_REQ req).setFld
    Reg.CP_CMDSTAT_OFFSET ((addr - 0x10000) % 0x1000)).respond req addr c

/-- A write of CP_CFG n (R635, R639): the filter keeps its present output, and its count or window begins anew. -/
def State.cpCfgWrite (s : State) (req n value : Nat) : State :=
  let a := Reg.CP_CFG n
  let all := 0x37FFF
  let v := value &&& all
  let m := cpMask n
  let fixed := (resetOf a).toNat &&& (all - m)
  let c : Code := if v &&& (all - m) ≠ fixed ∨ bitsOf v 2 2 = 3 then .eUnsup else .ok
  let s :=
    if c ≠ .ok then s
    else
      let changes := bitsOf v 2 10 != bitsOf (s.rd a).toNat 2 10
      let s := if changes && hasFilter n then (s.setFilt n (s.filtOut n)).setWindow n false else s
      s.wr a (BitVec.ofNat 64 v)
  s.cpRecord req a c

/-! ## Trigger lines -/

/-- The level of trigger source `k` (chapter 17): a TRIG pin after its filter, or a peer-trigger bit. -/
def State.trigSource (s : State) (k : Nat) : Bool :=
  if k < 8 then s.filtOut (4 + k)
  else hasBit (Tbl.get 0 s.pins.peer ((k - 8) / 8)) ((k - 8) % 8)

/-- The enabled sources that name line `l` (R637). -/
def State.lineSources (s : State) (l : Nat) : List Nat :=
  (List.range 64).filter (fun k => s.on (Reg.TL_MAP_EN k) && s.fld (Reg.TL_MAP_LINE k) == l)

/-- Line `l` is in conflict (R637). -/
def State.lineConflict (s : State) (l : Nat) : Bool := decide (2 ≤ (s.lineSources l).length)

/-- The level of line `l` (R637). -/
def State.lineLevel (s : State) (l : Nat) : Bool :=
  match s.lineSources l with
  | [k] => s.trigSource k != s.on (Reg.TL_MAP_INV k)
  | _ => false

/-- TL_STAT as a read shows it (Table 17-11). -/
def State.tlStat (s : State) : Nat :=
  ((List.range 8).map (fun l => bit (s.lineLevel l) * 2 ^ l + bit (s.lineConflict l) * 2 ^ (8 + l))).sum

/-- A write of TL_MAP (R637, R639): a conflict that it creates is recorded (R640). -/
def State.tlMapWrite (s : State) (req k value : Nat) : State :=
  let a := Reg.TL_MAP k
  let c : Code := if hasBit value 4 ∧ 8 ≤ k then .eArg else .ok
  let s :=
    if c ≠ .ok then s
    else
      let s0 := s
      let s := s.wr a (BitVec.ofNat 64 (value % 32))
      (List.range 8).foldl (fun s l =>
        if s.lineConflict l && !s0.lineConflict l then
          s.errBit ⟨Reg.TL_ERR, l, 1⟩ (hasBit (s.fld Reg.TL_ERRCTL_MASK) l) srcPins .notice l (fun s => s.tlStat)
        else s) s
  s.cpRecord req a c

/-- FLAG pin `f` is high (R638). -/
def State.flagLevel (s : State) (f : Nat) : Bool :=
  s.tick.flags.any (fun p => hasBit p.mask f) ||
    (hasBit (s.fld Reg.FLAG_CTL_FOLLOW) (4 * f + 3) && s.lineLevel (bitsOf (s.fld Reg.FLAG_CTL_FOLLOW) (4 * f) 3))

end Sys2Proof.Machine
end

