-- ==== Sys2Proof/Machine/Crc.lean ====
section
/-! DEFINITION. The CRC-32C of R443: polynomial 0x1EDC_6F41, input and output reflected, initial value and final XOR
0xFFFF_FFFF. -/

namespace Sys2Proof.Machine

/-- `n` shifts of the reflected CRC register. -/
def crcShift : Nat → Nat → Nat
  | 0, c => c
  | n + 1, c => crcShift n (if c % 2 = 1 then (c / 2) ^^^ 0x82F63B78 else c / 2)

/-- One byte enters the CRC register. -/
def crcByte (c b : Nat) : Nat := crcShift 8 (c ^^^ (b % 256))

/-- `n` bytes of the little-endian number `v` enter the CRC register. -/
def crcBytes (c v : Nat) : Nat → Nat
  | 0 => c
  | n + 1 => crcBytes (crcByte c (v % 256)) (v / 256) n

/-- The CRC-32C of the `n` bytes of the little-endian number `v` (R443). -/
def crc32c (v n : Nat) : Nat := crcBytes 0xFFFFFFFF v n ^^^ 0xFFFFFFFF

end Sys2Proof.Machine
end

