-- ==== Sys2Proof/Machine/NetOps.lean ====
section
/-! DEFINITION. The shared operations of the packet network (chapter 9): endpoints and links, packets, routes, the router's
handling of flits, interfaces and their transactions, resets, and the error records. -/

namespace Sys2Proof.Machine

/-! ## Accessors -/

/-- The endpoint at port `p` of node `n`. -/
def State.end_ (s : State) (n p : Nat) : EndSt := Tbl.get .reset s.net.ends (16 * n + p)

/-- The state with an endpoint changed. -/
def State.setEnd (s : State) (n p : Nat) (x : EndSt) : State :=
  { s with net := { s.net with ends := Tbl.put .reset s.net.ends (16 * n + p) x } }

/-- Input channel `vc` of an endpoint. -/
def EndSt.vcIn (e : EndSt) (vc : Nat) : VcIn := Tbl.get .reset e.inq vc

/-- An endpoint with input channel `vc` changed. -/
def EndSt.setVc (e : EndSt) (vc : Nat) (v : VcIn) : EndSt := { e with inq := Tbl.put .reset e.inq vc v }

/-- Input channel `vc` at port `p` of node `n`. -/
def State.vcIn (s : State) (n p vc : Nat) : VcIn := (s.end_ n p).vcIn vc

/-- The state with an input channel changed. -/
def State.setVc (s : State) (n p vc : Nat) (v : VcIn) : State := s.setEnd n p ((s.end_ n p).setVc vc v)

/-- Credits held for channel `vc` at an endpoint. -/
def EndSt.credit (e : EndSt) (vc : Nat) : Nat := Tbl.get 0 e.credits vc

/-- An endpoint with the credits of a channel changed. -/
def EndSt.setCredit (e : EndSt) (vc k : Nat) : EndSt := { e with credits := Tbl.put 0 e.credits vc k }

/-- Interface `j` of node `n`. -/
def State.ni (s : State) (n j : Nat) : NiSt := Tbl.get .reset s.net.nis (2 * n + j)

/-- The state with an interface changed. -/
def State.setNi (s : State) (n j : Nat) (x : NiSt) : State :=
  { s with net := { s.net with nis := Tbl.put .reset s.net.nis (2 * n + j) x } }

/-- The interface `j` of node `n` exists (Table 9-8). -/
def niExists (n j : Nat) : Bool := decide (n < 48) && (j == 0 || (j == 1 && n == cfgNode))

/-- The endpoint at the other side of a link (Table 9-1). -/
def linkPeer (n p : Nat) : Nat × Nat :=
  if p < 4 then (facing n p, backPort p)
  else if p = 4 then (n, 6) else if p = 5 then (n, 7) else if p = 6 then (n, 4) else (n, 5)

/-- The port states of RTR_PSTAT.STATE (R327). -/
def psDown : Nat := 0
def psInit : Nat := 1
def psUp : Nat := 2
def psAbsorb : Nat := 3

/-- The channel of a packet (R322). -/
def channelOf (vn pri : Nat) : Nat := 2 * vn + pri / 2

/-! ## Error records -/

/-- The severity of a router error bit (Table 9-13); none for those that are only counted. -/
def rtrSev (i : Nat) : Option Sev :=
  match i with
  | 0 | 1 => some .degraded
  | 2 | 5 => some .fault
  | 6 => some .info
  | _ => none

/-- Router error bit `i` occurs at input port `p`, channel `vc`; `rid` where the header passed its check (R354, Table
9-10). -/
def State.rtrError (s : State) (n i p vc rid : Nat) : State :=
  let s := if s.fld ⟨Reg.RTR_ERR n, 0, 6⟩ == 0 then
      (((s.setFld (Reg.RTR_ERRLOC_BIT n) i).setFld (Reg.RTR_ERRLOC_PORT n) p).setFld (Reg.RTR_ERRLOC_VC n) vc).setFld
        (Reg.RTR_ERRLOC_RID n) rid
    else s
  match rtrSev i with
  | some sev => s.errBit ⟨Reg.RTR_ERR n, i, 1⟩ (decide (i < 6) && hasBit (s.fld (Reg.RTR_ERRCTL_MASK n)) i) (srcNode n) sev i
      (fun s => (s.rd (Reg.RTR_ERRLOC n)).toNat)
  | none => s.setBit ⟨Reg.RTR_ERR n, i, 1⟩ true

/-- Interface error bit `i` occurs (R354, Table 9-13). -/
def State.niError (s : State) (n j i : Nat) : State :=
  let sev : Sev := match i with
    | 2 => .degraded
    | 5 => .fault
    | _ => .notice
  s.errBit ⟨Reg.NI_ERR n j, i, 1⟩ (hasBit (s.fld (Reg.NI_ERRCTL_MASK n j)) i) (srcNode n) sev (16 * (1 + j) + i)
    (fun s => (s.rd (Reg.NI_ERR n j)).toNat)

/-- The interface counts in NI_MALFCNT. -/
def State.niMalf (s : State) (n j : Nat) : State := s.count (Reg.NI_MALFCNT_COUNT n j) (Reg.NI_ERR_CNT_SAT n j)

/-- Drop bit `i` of fabric port `k` of region `r` occurs (R348, R350, R354). -/
def State.nipDrop (s : State) (r k i : Nat) : State :=
  let s := if i = 0 then s.count (Reg.NIP_STAT_TXCNT r k) (Reg.NIP_STAT_SAT r k)
    else s.count (Reg.NIP_STAT_RXCNT r k) (Reg.NIP_STAT_SAT r k)
  s.errBit ⟨Reg.NIP_STAT r k, i, 1⟩ false (srcNode (regionNode r)) .notice (48 + i)
    (fun s => (s.rd (Reg.NIP_STAT r k)).toNat + k * 2 ^ 32)

/-- A write that reached a router register is recorded (Table 9-10). -/
def State.rtrRecord (s : State) (req n addr : Nat) (c : Code) : State :=
  let off := addr - Reg.RTR_ID n
  let s := ((s.setFld (Reg.RTR_CMDSTAT_CODE n) c.num).setFld (Reg.RTR_CMDSTAT_REQ n) req).setFld (Reg.RTR_CMDSTAT_OFFSET n) off
  (s.noteRefusal (srcNode n) off req c).respond req addr c

/-! ## Routes -/

/-- Code `i` of a route string (R316). -/
def routeCode (route i : Nat) : Nat := route / 8 ^ i % 8

/-- The code that a router puts in for the port a packet arrived on (R329); port 8 is the router's own source. -/
def arrivalCode (p : Nat) : Nat :=
  match p with
  | 0 => 1
  | 1 => 2
  | 2 => 3
  | 3 => 4
  | 5 => 5
  | _ => 0

/-- The return route of a header: its top HOPS codes in reverse order (R331). -/
def returnRoute (route hops : Nat) : Nat :=
  ((List.range hops).map (fun i => routeCode route (13 - i) * 8 ^ i)).sum

/-- Where a hop code leads from node `n`, if the port exists (Table 9-5). -/
def hopTo (n c : Nat) : Option Nat :=
  if c = 0 ∨ 4 < c then none else if portExists n (c - 1) then some (facing n (c - 1)) else none

/-- The node and terminal code at which a route from node `n` ends; none if it leaves the mesh or has no end. -/
def routeEnd : Nat → Nat → Nat → Option (Nat × Nat)
  | 0, _, _ => none
  | k + 1, n, route =>
    let c := route % 8
    if c = 0 ∨ c = 5 ∨ c = 6 then some (n, c)
    else match hopTo n c with
      | some m => routeEnd k m (route / 8)
      | none => none

/-- The hops of a route before its terminal code. -/
def routeHops : Nat → Nat → List Nat
  | 0, _ => []
  | k + 1, route => let c := route % 8; if c = 0 ∨ c = 5 ∨ c = 6 then [] else c :: routeHops k (route / 8)

/-- The opposite direction of a hop code. -/
def oppositeHop (c : Nat) : Nat := if c = 1 then 3 else if c = 3 then 1 else if c = 2 then 4 else 2

/-- The hops obey the west-first rule and none reverses the hop before it (R333). -/
def hopsOk : List Nat → Bool
  | [] => true
  | [_] => true
  | a :: b :: t => (b != 4 || a == 4) && b != oppositeHop a && hopsOk (b :: t)

/-- A route entry is accepted (R333). -/
def routeEntryOk (n route dst : Nat) : Bool :=
  let hops := routeHops 14 route
  match routeEnd 14 n route with
  | some (m, c) =>
    m == dst && hopsOk hops && !hops.contains 7 && (c != 5 || dst == cfgNode) && decide (route / 8 ^ (hops.length + 1) = 0)
  | none => false

/-! ## Flits (R316) -/

/-- Bits 607–0 of a flit: the header of Table 9-2 and the payload. -/
def Flit.bits (f : Flit) : Nat :=
  f.route % 2 ^ 42 + f.hops % 2 ^ 4 * 2 ^ 42 + f.vn % 2 ^ 2 * 2 ^ 46 + f.pri % 2 ^ 2 * 2 ^ 48 + f.nfl % 2 ^ 2 * 2 ^ 50 +
    f.fidx % 2 ^ 2 * 2 ^ 52 + f.opc % 2 ^ 4 * 2 ^ 54 + f.stat % 2 ^ 4 * 2 ^ 58 + f.rid % 2 ^ 8 * 2 ^ 62 +
    f.tag % 2 ^ 10 * 2 ^ 70 + f.dst % 2 ^ 6 * 2 ^ 80 + bit f.stale * 2 ^ 86 + bit f.poison * 2 ^ 87 + f.blen % 2 ^ 8 * 2 ^ 88 +
    f.payload % 2 ^ 512 * 2 ^ 96

/-- The 640 bits of a flit. -/
def Flit.word (f : Flit) : Nat := f.bits + f.check % 2 ^ 32 * 2 ^ 608

/-- The flit of 640 bits. -/
def Flit.ofWord (w : Nat) : Flit :=
  { route := bitsOf w 0 42, hops := bitsOf w 42 4, vn := bitsOf w 46 2, pri := bitsOf w 48 2, nfl := bitsOf w 50 2,
    fidx := bitsOf w 52 2, opc := bitsOf w 54 4, stat := bitsOf w 58 4, rid := bitsOf w 62 8, tag := bitsOf w 70 10,
    dst := bitsOf w 80 6, stale := hasBit w 86, poison := hasBit w 87, blen := bitsOf w 88 8, payload := bitsOf w 96 512,
    check := bitsOf w 608 32 }

/-- The check field that belongs to a flit's bits: their CRC-32C. -/
def Flit.crc (f : Flit) : Nat := crc32c f.bits 76

/-- The flit with its check field made. -/
def Flit.seal (f : Flit) : Flit := { f with check := f.crc }

/-- A flit fails its check (R218). -/
def Flit.bad (f : Flit) : Bool := f.check != f.crc

/-- A link turns the bits of `mask` of a flit over. -/
def Flit.spoil (f : Flit) (mask : Nat) : Flit := if mask = 0 then f else .ofWord (f.word ^^^ mask % 2 ^ 640)

/-! ## Packets -/

/-- The opcodes of Table 9-3. -/
def opRd : Nat := 1
def opWr : Nat := 2
def opRsp : Nat := 3
def opRspd : Nat := 4
def opWrp : Nat := 5
def opStrm : Nat := 6
def opCap : Nat := 7
def opEvt : Nat := 8
def opTmo : Nat := 9

/-- The virtual network of an opcode (Table 9-3); none if it is reserved. -/
def opVn (opc : Nat) : Option Nat :=
  match opc with
  | 1 | 2 => some 0
  | 3 | 4 => some 1
  | 5 | 6 | 7 => some 2
  | 8 | 9 => some 3
  | _ => none

/-- The number of flits of a packet less one (R317). -/
def flitsM1 (opc blen : Nat) : Nat :=
  if opc = opRd ∨ opc = opTmo ∨ opc = opRsp then 0
  else ((if opc = opWr ∨ opc = opWrp then 8 else 0) + blen + 64) / 64 - 1

/-- The flits of a packet with header `h` and payload bytes `body` as one number (R316, R317). -/
def packetFlits (h : Flit) (body : Nat) : List Flit :=
  (List.range (h.nfl + 1)).map (fun i =>
    { h with fidx := i, payload := body / 2 ^ (512 * i) % 2 ^ 512,
             route := if i = 0 then h.route else 0, hops := 0 }.seal)

/-- The response to a request's header `q`, by the return route (R319, R331). -/
def responseFlits (n : Nat) (q : Flit) (c : Code) (data : Nat) : List Flit :=
  let rd := q.opc == opRd && c == .ok
  let route := returnRoute q.route q.hops
  let dst := ((routeEnd 14 n route).map (·.1)).getD 0
  let opc := if rd then opRspd else opRsp
  let blen := if rd then q.blen else 0
  packetFlits { route, hops := 0, vn := 1, pri := q.pri, nfl := flitsM1 opc blen, fidx := 0, opc, stat := c.num, rid := q.rid,
                tag := q.tag, dst, stale := false, poison := false, blen, payload := 0, check := 0 }
    (if rd then data % 2 ^ (8 * (q.blen + 1)) else 0)

/-- Flits join the sending queue of an interface. -/
def State.niSend (s : State) (n j : Nat) (fs : List Flit) : State :=
  match fs with
  | [] => s
  | h :: _ =>
    let vc := channelOf h.vn h.pri
    let x := s.ni n j
    s.setNi n j { x with txq := Tbl.put [] x.txq vc (Tbl.get [] x.txq vc ++ fs) }

/-- The router itself answers a RD or WR whose header it holds (R330, R340, R345). -/
def State.routerAnswer (s : State) (n : Nat) (q : Flit) (c : Code) (data : Nat) : State :=
  let fs := responseFlits n q c data
  let vc := channelOf 1 q.pri
  let v := s.vcIn n 8 vc
  s.setVc n 8 vc { v with q := v.q ++ fs }

/-- Is the header that of a request, which ends in a response (R319)? -/
def Flit.isRequest (f : Flit) : Bool := f.opc == opRd || f.opc == opWr

/-! ## Transactions of an interface -/

/-- The lowest free tag. -/
def freeTag (open_ : Tbl (Option NiTx)) : Option Nat := (List.range 1024).find? (fun t => (Tbl.get none open_ t).isNone)

/-- A transaction ends: its requester gets the status and, for a read that is OK, the data (R319, R342). -/
def State.niFinish (s : State) (n j tag : Nat) (x : NiTx) (c : Code) (data : Nat) (keep : Option NiTx) : State :=
  let i := s.ni n j
  let s := s.setNi n j { i with open_ := Tbl.put none i.open_ tag keep }
  let s := s.setFld (Reg.NI_STAT_OUTST n j) (s.fld (Reg.NI_STAT_OUTST n j) - 1)
  let s := if c = .eRst then s.niError n j 4 else s
  { s with net := { s.net with done := s.net.done ++ [⟨n, x.head.rid, x.ref, c, if c = .ok then data else 0⟩] } }

/-- A response reaches interface `j` of node `n` (R318, R342): it ends its transaction when it is the last of it. One for a
tag in quarantine is counted and discarded; one for no transaction is discarded. -/
def State.niResponse (s : State) (n j tag : Nat) (c : Code) (data : Nat) : State :=
  match Tbl.get none (s.ni n j).open_ tag with
  | none => s
  | some x =>
    if x.quarantine then
      (s.count (Reg.NI_LATECNT_COUNT n j) (Reg.NI_ERR_CNT_SAT n j)).niError n j 1
    else
      let code := if x.code = .ok then c else x.code
      if x.parts ≤ 1 then s.niFinish n j tag x code data none
      else
        let i := s.ni n j
        s.setNi n j { i with open_ := Tbl.put none i.open_ tag (some { x with parts := x.parts - 1, code }) }

/-- The header of a packet sent by route entry `e` (R336): none where the entry is not usable. `toRtr` replaces the
terminal code by RTR (R335). -/
def State.entryHead (s : State) (n j e : Nat) (toRtr : Bool) (opc pri rid tag blen : Nat) : Option Flit :=
  if !s.on (Reg.NI_RT_VALID n j e) then none
  else
    let route := s.fld (Reg.NI_RT_ROUTE n j e)
    let k := (routeHops 14 route).length
    let route := if toRtr then route - routeCode route k * 8 ^ k + 6 * 8 ^ k else route
    some { route, hops := 0, vn := (opVn opc).getD 0, pri, nfl := flitsM1 opc blen, fidx := 0, opc, stat := 0, rid, tag,
           dst := s.fld (Reg.NI_RT_DST n j e), stale := false, poison := false, blen, payload := 0, check := 0 }

/-- A request that an initiator hands to its interface. -/
structure NetRequest where
  rid : Nat
  ref : Nat
  /-- 1 RD, 2 WR, 5 WRP. -/
  opc : Nat
  entry : Nat
  toRtr : Bool
  pri : Nat
  addr : Nat
  /-- Bytes to read or write, 1–256. -/
  len : Nat
  data : Nat
  deriving DecidableEq, Repr

/-- The body of a request: the address, then the data from byte 8 (Table 9-3). -/
def requestBody (addr data : Nat) : Nat := addr % 2 ^ 48 + data * 2 ^ 64

/-- An interface takes a request (R318, R324, R336): a RD or WR takes a free tag, a write of more than 248 bytes goes as two
packets, and a request against an entry that is not usable ends at once with E_ARG. Answers whether the request has
entered. -/
def State.niIssue (s : State) (n j : Nat) (q : NetRequest) : State × Bool :=
  let parts := if q.opc ≠ opRd ∧ 248 < q.len then 2 else 1
  let l1 := if parts = 2 then 248 else q.len
  match s.entryHead n j q.entry q.toRtr q.opc q.pri q.rid 0 (l1 - 1) with
  | none =>
    if q.opc = opWrp then (s.niMalf n j, true)
    else
      let s := s.niError n j 5
      ({ s with net := { s.net with done := s.net.done ++ [⟨n, q.rid, q.ref, .eArg, 0⟩] } }, true)
  | some h =>
    let send := fun (s : State) (h : Flit) =>
      let body := if q.opc = opRd then q.addr % 2 ^ 48 else requestBody q.addr (q.data % 2 ^ (8 * l1))
      let s := s.niSend n j (packetFlits h body)
      if parts = 2 then
        let l2 := q.len - 248
        s.niSend n j (packetFlits { h with blen := l2 - 1, nfl := flitsM1 q.opc (l2 - 1) }
          (requestBody (q.addr + 248) (q.data / 2 ^ (8 * 248) % 2 ^ (8 * l2))))
      else s
    if q.opc = opWrp then (send s h, true)
    else match freeTag (s.ni n j).open_ with
      | none => (s, false)
      | some t =>
        let h := { h with tag := t }
        let i := s.ni n j
        let s := s.setNi n j { i with open_ := Tbl.put none i.open_ t (some ⟨q.ref, h, parts, .ok, false⟩) }
        let s := s.setFld (Reg.NI_STAT_OUTST n j) (s.fld (Reg.NI_STAT_OUTST n j) + 1)
        (send s h, true)

/-- An interface sends a posted packet by route entry `e`: discarded and counted where the entry is not usable (R336). -/
def State.niPost (s : State) (n j e opc pri rid stat tag : Nat) (stale : Bool) (blen body : Nat) : State :=
  match s.entryHead n j e false opc pri rid tag blen with
  | none => s.niMalf n j
  | some h => s.niSend n j (packetFlits { h with stat, stale } body)

/-- NI_REQUEST_TIMEOUT's effect (R342): E_TMO, a TMO_NOTE by the request's route, and the tag in quarantine. -/
def State.niTimeout (s : State) (n j tag : Nat) : State :=
  match Tbl.get none (s.ni n j).open_ tag with
  | none => s
  | some x =>
    if x.quarantine then s
    else
      let s := s.niFinish n j tag x .eTmo 0 (some { x with quarantine := true })
      let s := (s.count (Reg.NI_TMOCNT_COUNT n j) (Reg.NI_ERR_CNT_SAT n j)).niError n j 0
      s.niSend n j (packetFlits { x.head with vn := 3, opc := opTmo, nfl := 0, tag := 0, stat := 0, blen := 0 } 0)

/-! ## Routers -/

/-- The front flit leaves an input channel, and its credit is owed unless the router has made the flit (R326, R341). -/
def VcIn.pop (v : VcIn) : VcIn :=
  { v with q := v.q.tail, owed := v.owed + bit (v.made == 0), made := v.made - 1, headDone := false, lost := 0 }

/-- The flit leaves as part of its packet: the packet in progress ends with its last flit (R323). -/
def VcIn.advance (v : VcIn) (f : Flit) : VcIn :=
  if f.fidx = f.nfl then { v.pop with path := none, hdr := none, gone := 0 }
  else { v.pop with gone := v.gone + 1, hdr := if f.fidx = 0 then some f else v.hdr }

/-- The output channel that a packet of input port `p` held is free again. -/
def State.freeHolder (s : State) (n p vc : Nat) (path : Option VcPath) : State :=
  match path with
  | some (.out o) =>
    let e := s.end_ n o
    if Tbl.get 0 e.holder vc = p + 1 then s.setEnd n o { e with holder := Tbl.put 0 e.holder vc 0 } else s
  | _ => s

/-- The front flit of channel `vc` is discarded and the rest of its packet will be (R218, R330, R340, R345). A flit that fails its
check does not show whether it is the last one. -/
def State.sinkFront (s : State) (n p vc : Nat) : State :=
  let v := s.vcIn n p vc
  match v.q with
  | [] => s
  | f :: _ =>
    let s := s.freeHolder n p vc v.path
    let last := f.fidx = f.nfl && !f.bad
    s.setVc n p vc { v.pop with path := if last then none else some .sink, hdr := none, gone := 0 }

/-- Port `p` of node `n` is in ABSORB (R345, R346). -/
def State.absorbing (s : State) (n p : Nat) : Bool := s.on (Reg.RTR_PSTAT_ABS_TMO n p) || s.on (Reg.RTR_PSTAT_ABS_STATE n p)

/-- A packet of input port `p` headed out of port `o`, which is in ABSORB or whose far side is in reset, is answered or counted (R340,
R345). -/
def State.refuseOut (s : State) (n o p vc : Nat) (f : Flit) : State :=
  let abs := s.absorbing n o
  let s := if f.isRequest then s.routerAnswer n f (if abs then .eIso else .eRst) 0 else s
  if abs && f.isRequest then s
  else
    let s := s.count (Reg.RTR_DISCCNT_COUNT n) (Reg.RTR_ERR_CNT_SAT n)
    s.rtrError n (if abs then 3 else 4) p vc f.rid

/-- The input ports of a router, its own source 8 among them. -/
def routerInputs : List Nat := [0, 1, 2, 3, 4, 5, 8]

/-- The packets that have been routed out of port `o` do not leave any more (R340, R345): one whose head has not left is refused, and
of one that has left in part the rest is discarded. The head of the latter stands in `sent` and is answered from there at a crossing
in reset; in ABSORB it is answered here. -/
def State.dropRouted (s : State) (n o : Nat) : State :=
  (routerInputs.flatMap (fun p => (List.range 8).map (fun vc => (p, vc)))).foldl (fun s x =>
    let v := s.vcIn n x.1 x.2
    if v.path ≠ some (.out o) then s
    else
      let s := if v.gone = 0 then s.sinkFront n x.1 x.2
        else (s.freeHolder n x.1 x.2 v.path).setVc n x.1 x.2 { v with path := some .sink, hdr := none, gone := 0 }
      match v.hdr with
      | some h =>
        if 0 < v.gone ∧ !s.absorbing n o then s.refuseOut n o x.1 x.2 { h with opc := opStrm }
        else
          let e := s.end_ n o
          (s.setEnd n o { e with sent := e.sent.filter (fun y => y.2.1 != h) }).refuseOut n o x.1 x.2 h
      | none => s) s

/-- The flits that a packet cut by a reset still lacks, poisoned (R341). -/
def poisonRest (v : VcIn) : List Flit :=
  match (match v.q.reverse.find? (fun f => f.fidx == 0) with
    | some h => some h
    | none => v.hdr) with
  | none => []
  | some h =>
    let lastIdx := match v.q.getLast? with
      | some f => f.fidx
      | none => v.gone - 1
    (List.range (h.nfl - lastIdx)).map (fun i =>
      { h with route := 0, hops := 0, fidx := lastIdx + 1 + i, poison := true, payload := 0 }.seal)

/-- Nothing more arrives at port `p` of node `n` of the packets that were arriving there: what they lack is made (R341), so that none
keeps a path; one that is being discarded ends. -/
def State.cutArriving (s : State) (n p : Nat) : State :=
  let e := s.end_ n p
  s.setEnd n p { e with
    inq := e.inq.map (fun x =>
      let v := x.2
      if v.path == some .sink && v.q.isEmpty then (x.1, { v with path := none })
      else (x.1, { v with q := v.q ++ poisonRest v })) }

/-- Port `p` of router `n` enters ABSORB (R345): nothing leaves by it and nothing arrives by it any more. -/
def State.absorbEnter (s : State) (n p : Nat) : State :=
  ((s.setFld (Reg.RTR_PSTAT_STATE n p) psAbsorb).cutArriving n p).dropRouted n p

/-- The port at which a terminal code delivers. -/
def ejectPort (c : Nat) : Nat := if c = 5 then 5 else 4

/-- A router enters ABSORB on port `p` by timeouts when TMOCNT reaches TMO_LIM (R344); the note came by port `src`. -/
def State.tmoNote (s : State) (n p src vc rid : Nat) : State :=
  let k := min 255 (s.fld (Reg.RTR_PSTAT_TMOCNT n p) + 1)
  let s := s.setFld (Reg.RTR_PSTAT_TMOCNT n p) k
  let lim := s.fld (Reg.RTR_CTL_TMO_LIM n)
  if lim != 0 && decide (lim ≤ k) && !s.on (Reg.RTR_PSTAT_ABS_TMO n p) then
    let was := s.absorbing n p
    let s := s.setBit (Reg.RTR_PSTAT_ABS_TMO n p) true
    (if was then s else s.absorbEnter n p).rtrError n 5 src vc rid
  else s

/-- What a router does with the front flit of input channel `vc` at port `p` (R218, R329, R330, R340, R344, R345). Answers
the packet for the router's own register block, if the flit is its head (code RTR). -/
def State.routeFront (s : State) (n p vc : Nat) : State × Option Flit :=
  let v := s.vcIn n p vc
  match v.q with
  | [] => (s, none)
  | f :: _ =>
    if f.bad then
      if v.path = some .sink && f.fidx ≠ 0 then (s.sinkFront n p vc, none)
      else
        let s := s.sinkFront n p vc
        let s := s.count (Reg.RTR_CRCCNT_COUNT n) (Reg.RTR_ERR_CNT_SAT n)
        (s.rtrError n 0 p vc 0, none)
    else if f.fidx ≠ 0 then
      match v.path with
      | some .sink => (s.sinkFront n p vc, none)
      | some (.out _) => (s, none)
      | none =>
        let s := s.setVc n p vc v.pop
        let s := s.count (Reg.RTR_MALFCNT_COUNT n) (Reg.RTR_ERR_CNT_SAT n)
        (s.rtrError n 1 p vc f.rid, none)
    else if v.headDone then (s, none)
    else
      let s := s.freeHolder n p vc v.path
      let c := f.route % 8
      let f' := { f with route := f.route / 8 + arrivalCode p * 2 ^ 39, hops := f.hops + 1 }.seal
      let s := if (f.opc = opRsp ∨ f.opc = opRspd) ∧ (p = 4 ∨ p = 5) then s.setFld (Reg.RTR_PSTAT_TMOCNT n p) 0 else s
      let terminal := c == 0 || c == 5 || c == 6
      let o := if terminal then ejectPort c else c - 1
      if c = 7 ∨ (c ≠ 6 ∧ !portExists n o) ∨ 14 < f.hops + 1 ∨ (terminal ∧ f.dst ≠ n) then
        let s := s.setVc n p vc { s.vcIn n p vc with path := none }
        let s := s.sinkFront n p vc
        let s := s.count (Reg.RTR_ROUTECNT_COUNT n) (Reg.RTR_ERR_CNT_SAT n)
        let s := s.rtrError n 2 p vc f.rid
        (if f.isRequest then s.routerAnswer n f' .eArg 0 else s, none)
      else if terminal ∧ f.opc = opTmo then
        let s := (s.setVc n p vc { s.vcIn n p vc with path := none }).sinkFront n p vc
        (if c = 6 then s else s.tmoNote n o p vc f.rid, none)
      else if c = 6 then
        ((s.setVc n p vc { s.vcIn n p vc with path := none }).sinkFront n p vc, some f')
      else if s.absorbing n o || s.on (Reg.RTR_PSTAT_IN_RESET n o) then
        let s := (s.setVc n p vc { s.vcIn n p vc with path := none }).sinkFront n p vc
        (s.refuseOut n o p vc f', none)
      else
        let v := s.vcIn n p vc
        (s.setVc n p vc { v with q := f' :: v.q.tail, path := some (.out o), headDone := true, hdr := some f', gone := 0 }, none)

/-- The flit at the front of an input channel may leave by output port `o` now (R323, R325). -/
def State.mayLeave (s : State) (n p vc o : Nat) : Bool :=
  let v := s.vcIn n p vc
  let e := s.end_ n o
  let h := Tbl.get 0 e.holder vc
  match v.q with
  | [] => false
  | f :: _ => v.path == some (.out o) && !f.bad && (f.fidx != 0 || v.headDone) && decide (0 < e.credit vc) &&
      (h == p + 1 || (h == 0 && f.fidx == 0))

/-- The first element of a list at or after index `k` in round-robin order of `idx`. -/
def pickNext (k : Nat) (xs : List (Nat × Nat × Nat)) : Option (Nat × Nat × Nat) :=
  match xs.filter (fun x => decide (k ≤ x.1)) with
  | [] => xs.head?
  | x :: _ => some x

/-- The choice of output port `o` (R325): (round-robin index, input port, channel), and whether it is an aged flit. -/
def State.arbitrate (s : State) (n o : Nat) : Option (Bool × Nat × Nat × Nat) :=
  let cand := (routerInputs.flatMap (fun p => (List.range 8).map (fun vc => (p, vc)))).filter (fun x => s.mayLeave n x.1 x.2 o)
  let lim := s.fld (Reg.RTR_CTL_AGE_LIM n)
  let aged := cand.filter (fun x => decide (lim ≤ (s.vcIn n x.1 x.2).lost))
  match pickNext (s.end_ n o).lastAged (aged.map (fun x => (8 * x.1 + x.2, x.1, x.2))) with
  | some x => some (true, x)
  | none =>
    let pri := fun (x : Nat × Nat) => ((s.vcIn n x.1 x.2).q.head?.map (·.pri)).getD 0
    let top := cand.foldl (fun m x => max m (pri x)) 0
    (pickNext (Tbl.get 0 (s.end_ n o).lastNorm top) ((cand.filter (fun x => pri x == top)).map (fun x => (4 * x.1 + x.2 / 2, x.1, x.2)))).map
      (fun x => (false, x))

/-- The endpoint of a link is up: the router's port by its state, an interface by NI_STAT.UP. -/
def State.linkUp (s : State) (n p : Nat) : Bool :=
  if p < 6 then s.fld (Reg.RTR_PSTAT_STATE n p) == psUp else s.on (Reg.NI_STAT_UP n (p - 6))

/-- A flit crosses a link to the far side's input queue; the link turns the bits of `corrupt` over. A far side in ABSORB, or in
reset, takes nothing and returns no credit (R340, R345). -/
def State.crossLink (s : State) (n p vc : Nat) (f : Flit) (corrupt : Nat) : State :=
  let (m, k) := linkPeer n p
  if s.linkUp m k then
    let v := s.vcIn m k vc
    s.setVc m k vc { v with q := v.q ++ [f.spoil corrupt] }
  else s

/-- The packets sent over a crossing whose credits have not all returned, with one more flit (R340). -/
def noteSent (l : List (Nat × Flit × Nat)) (vc : Nat) (f : Flit) : List (Nat × Flit × Nat) :=
  if f.fidx = 0 then l ++ [(vc, f, f.nfl + 1)] else l

/-- A credit of channel `vc` has returned: the oldest packet sent on it needs one fewer (R340). -/
def creditSent : List (Nat × Flit × Nat) → Nat → List (Nat × Flit × Nat)
  | [], _ => []
  | (v, f, k) :: t, vc => if v = vc then if k ≤ 1 then t else (v, f, k - 1) :: t else (v, f, k) :: creditSent t vc

/-- An endpoint sends a flit: a credit used, the output channel held until the packet's last flit (R323, R326). -/
def State.sendFlit (s : State) (n o p vc : Nat) (f : Flit) (corrupt : Nat) : State :=
  let e := s.end_ n o
  let e := { e.setCredit vc (e.credit vc - 1) with
    holder := Tbl.put 0 e.holder vc (if f.fidx = f.nfl then 0 else p + 1), sent := noteSent e.sent vc f }
  (s.setEnd n o e).crossLink n o vc f corrupt

/-- One network cycle of output port `o` of router `n` (R323, R325). -/
def State.outputCycle (s : State) (n o : Nat) (corrupt : Nat) : State :=
  match s.arbitrate n o with
  | none => s
  | some (aged, idx, p, vc) =>
    match (s.vcIn n p vc).q with
    | [] => s
    | f :: _ =>
      let losers := (routerInputs.flatMap (fun p => (List.range 8).map (fun vc => (p, vc)))).filter
        (fun x => x != (p, vc) && s.mayLeave n x.1 x.2 o)
      let s := losers.foldl (fun s x => let v := s.vcIn n x.1 x.2; s.setVc n x.1 x.2 { v with lost := v.lost + 1 }) s
      let v := s.vcIn n p vc
      let s := s.setVc n p vc ((v.advance f))
      let s := if p = 8 then s.setVc n p vc { s.vcIn n p vc with owed := 0 } else s
      let e := s.end_ n o
      let s := s.setEnd n o (if aged then { e with lastAged := idx + 1 }
        else { e with lastNorm := Tbl.put 0 e.lastNorm f.pri (idx + 1) })
      let s := s.count (Reg.RTR_PFLITS_COUNT n o) (Reg.RTR_ERR_CNT_SAT n)
      s.sendFlit n o p vc f corrupt

/-- An interface sends the first flit waiting on channel `vc` (R326). -/
def State.niCycle (s : State) (n j vc : Nat) (corrupt : Nat) : State :=
  let x := s.ni n j
  match Tbl.get [] x.txq vc with
  | [] => s
  | f :: t =>
    if (s.end_ n (6 + j)).credit vc = 0 then s
    else (s.setNi n j { x with txq := Tbl.put [] x.txq vc t }).sendFlit n (6 + j) (6 + j) vc f corrupt

/-- One credit of input channel `vc` returns to the sender (R326). -/
def State.creditBack (s : State) (n p vc : Nat) : State :=
  let v := s.vcIn n p vc
  if v.owed = 0 then s
  else
    let s := s.setVc n p vc { v with owed := v.owed - 1 }
    let (m, k) := linkPeer n p
    let e := s.end_ m k
    s.setEnd m k { e.setCredit vc (min 4 (e.credit vc + 1)) with sent := creditSent e.sent vc }

/-! ## Links coming up, resets -/

/-- An input channel as INIT leaves it (R327, R341): empty, but for the rest of a packet that has left in part, of which the router
makes what it lacks. -/
def VcIn.init (v : VcIn) : VcIn :=
  match v.path with
  | some (.out _) =>
    if v.gone = 0 then .reset
    else
      let q := v.q ++ poisonRest v
      let rest := q.takeWhile (fun f => f.fidx != f.nfl)
      let q := rest ++ (q.drop rest.length).take 1
      { v with q := q, owed := 0, made := q.length }
  | _ => .reset

/-- An endpoint signals INIT and sees the far side's (R327): eight credit counters at 4, eight empty input queues. -/
def State.endInit (s : State) (n p : Nat) : State :=
  let e := s.end_ n p
  let s := s.setEnd n p { EndSt.reset with
    credits := (List.range 8).map (fun vc => (vc, 4)), lastAged := e.lastAged, lastNorm := e.lastNorm
    inq := e.inq.map (fun x => (x.1, x.2.init)), signalled := true }
  if p < 6 then s.setFld (Reg.RTR_PSTAT_STATE n p) psInit else s

/-- An endpoint is up after the credit handshake (R327). -/
def State.endUp (s : State) (n p : Nat) : State :=
  let s := s.setEnd n p { s.end_ n p with signalled := false, live := true }
  if p < 6 then
    (s.setFld (Reg.RTR_PSTAT_STATE n p) psUp).setBit (Reg.RTR_PSTAT_IN_RESET n p) false
  else s.setBit (Reg.NI_STAT_UP n (p - 6)) true

/-- The region of a region router is OFF: the router is unpowered (R22). -/
def State.nodeOff (s : State) (n : Nat) : Bool := isRegionNode n && s.rstate (nodeRegion n) == .off

/-- An endpoint may take part in a credit handshake: it is out of reset, and not in ABSORB (R327, R345). -/
def State.endReady (s : State) (n p : Nat) : Bool := !s.nodeOff n && !(decide (p < 6) && s.absorbing n p)

/-- The credit handshake of a link goes on (R327): both sides signal INIT; once both have seen it, the link is up. -/
def State.handshake (s : State) (n p : Nat) : State :=
  let (m, k) := linkPeer n p
  if s.linkUp n p || s.linkUp m k || !s.endReady n p || !s.endReady m k then s
  else if (s.end_ n p).signalled && (s.end_ m k).signalled then (s.endUp n p).endUp m k
  else (s.endInit n p).endInit m k

/-- An endpoint goes down: queues, credits and packets are cleared. -/
def State.endDown (s : State) (n p : Nat) : State :=
  let s := s.setEnd n p .reset
  if p < 6 then
    if s.absorbing n p then s else s.setFld (Reg.RTR_PSTAT_STATE n p) psDown
  else s.setBit (Reg.NI_STAT_UP n (p - 6)) false

/-- The live side of a crossing whose far side resets (R340, R341): RD and WR whose credits have not returned are answered
with E_RST, packets headed for the far side are refused, and packets that were arriving are completed with poisoned flits. -/
def State.peerReset (s : State) (n p : Nat) : State :=
  let s := ((s.setBit (Reg.RTR_PSTAT_PEER_RESET n p) true).setBit (Reg.RTR_PSTAT_IN_RESET n p) true)
  let s := if s.absorbing n p then s else s.setFld (Reg.RTR_PSTAT_STATE n p) psDown
  let waiting := (s.end_ n p).sent.filter (fun x => x.2.1.isRequest)
  let s := (s.dropRouted n p).cutArriving n p
  let e := s.end_ n p
  let s := s.setEnd n p { e with credits := [], sent := [], holder := [], signalled := false, live := false }
  let s := waiting.foldl (fun s x => s.routerAnswer n x.2.1 .eRst 0) s
  s.rtrError n 6 p 0 0

/-- A response leaves node `n`, whose router goes out of service after it: it has crossed its first link, and goes on from the router
there. One by a link that is not up is lost. -/
def State.sendAhead (s : State) (n : Nat) (up : Bool) (fs : List Flit) : State :=
  match fs with
  | [] => s
  | h :: t =>
    match hopTo n (h.route % 8) with
    | none => s
    | some m =>
      if !up then s
      else
        let vc := channelOf h.vn h.pri
        let v := s.vcIn m 8 vc
        s.setVc m 8 vc { v with q := v.q ++ { h with route := h.route / 8, hops := h.hops + 1 }.seal :: t }

/-- The link by which a response leaves node `n` is up. -/
def State.leadUp (s : State) (n : Nat) (fs : List Flit) : Bool :=
  match fs with
  | [] => false
  | h :: _ => s.linkUp n (h.route % 8 - 1)

/-- Requests that an interface has accepted and not answered end with E_RST, by their return routes (R339): those in its input
queues, and those whose responses have not left it. -/
def State.niRefuseAccepted (s : State) (n j : Nat) : State :=
  let taken := (s.end_ n (6 + j)).inq.flatMap (fun x => (x.2.q.filter (fun f => f.fidx == 0 && f.isRequest)).map (fun f =>
    responseFlits n f .eRst 0))
  let served := (s.ni n j).txq.flatMap (fun x => (x.2.filter (fun f => f.fidx == 0 && (f.opc == opRsp || f.opc == opRspd))).map
    (fun f => packetFlits { f with opc := opRsp, stat := Code.eRst.num, nfl := 0, blen := 0 } 0))
  (taken ++ served).foldl (fun t fs => t.sendAhead n (s.leadUp n fs) fs) s

/-- Every outstanding request of an interface's own initiators ends with E_RST and frees its tag (R24, R339). -/
def State.niAbortAll (s : State) (n j : Nat) : State :=
  let s := (s.ni n j).open_.foldl (fun s x =>
    match x.2 with
    | some t => if t.quarantine then s else s.niFinish n j x.1 t .eRst 0 none
    | none => s) s
  s.setNi n j { NiSt.reset with lower := (s.ni n j).lower }

/-- Fabric ports of region `r` empty their buffers (R339, R537). -/
def State.nipReset (s : State) (r : Nat) : State :=
  { s with net := { s.net with nips := s.net.nips.filter (fun e => e.1 / 8 != r) } }

/-- The credits that an endpoint's input channels owe return (R326). -/
def State.creditsBack (s : State) (n p : Nat) : State :=
  (List.range 8).foldl (fun s vc =>
    (List.range (s.vcIn n p vc).owed).foldl (fun s _ => s.creditBack n p vc) s) s

/-- Interface `j` of node `n` resets (R24, R338): its own requests end with E_RST, its queues and credits are cleared. The credits of
flits that have left its input queues have returned by then. -/
def State.niReset (s : State) (n j : Nat) : State := ((s.niAbortAll n j).creditsBack n (6 + j)).endDown n (6 + j)

/-- The region router of region `r` and its interface go through the reset of R339. The credits of flits that have left an input
queue have returned by then. -/
def State.netRegionReset (s : State) (r : Nat) : State :=
  let n := regionNode r
  let s := (s.niRefuseAccepted n 0).niAbortAll n 0
  let s := [0, 1, 2, 3, 4, 6].foldl (fun s p => s.creditsBack n p) s
  let s := [0, 1, 2, 3, 4, 6].foldl (fun s p => s.endDown n p) s
  (s.setEnd n 8 .reset).nipReset r

/-- The registers of node `n` take their reset values, route entries among them (R334, R339). -/
def State.nodeRegsReset (s : State) (n : Nat) : State :=
  { s with regs := s.regs.filter (fun e => !(decide (Reg.RTR_ID n ≤ e.1) && decide (e.1 < Reg.RTR_ID (n + 1)))) }

/-- Housekeeping sets or clears ABS_STATE on the neighbours' ports that face region `r` (R166, R346). -/
def State.setAbsorb (s : State) (r : Nat) (b : Bool) : State :=
  let n := regionNode r
  [0, 1, 2, 3].foldl (fun s p =>
    let m := facing n p
    let k := backPort p
    let was := s.absorbing m k
    let s := s.setBit (Reg.RTR_PSTAT_ABS_STATE m k) b
    if b then (if was then s else s.absorbEnter m k)
    else if s.on (Reg.RTR_PSTAT_ABS_TMO m k) then s else s.setFld (Reg.RTR_PSTAT_STATE m k) psDown) s

/-! ## Receiving at an interface -/

/-- What an interface finds at the front of its input channel. -/
inductive NiFront where
  /-- Nothing complete yet. -/
  | waiting
  /-- A malformed packet: how many flits it takes up, and its head if it has one (R321). -/
  | malformed (k : Nat) (head : Option Flit)
  /-- A whole packet: its flits. -/
  | packet (fs : List Flit)
  deriving DecidableEq, Repr

/-- How many flits at the front follow on in order from index `i` up to `nfl`. -/
def bodyRun : List Flit → Nat → Nat → Nat
  | [], _, _ => 0
  | f :: t, i, nfl => if f.fidx = i ∧ i ≤ nfl then 1 + bodyRun t (i + 1) nfl else 0

/-- The check of an arriving packet (R321). -/
def niFront (n : Nat) (q : List Flit) : NiFront :=
  match q with
  | [] => .waiting
  | f :: t =>
    if f.fidx ≠ 0 then .malformed 1 none
    else
      let k := bodyRun t 1 f.nfl
      if k = f.nfl then
        if opVn f.opc = some f.vn ∧ f.nfl = flitsM1 f.opc f.blen ∧ f.dst = n ∧ !(f.opc == opStrm && hasBit f.stat 3) then
          .packet (f :: t.take k)
        else .malformed (k + 1) (some f)
      else if k < t.length then .malformed (k + 1) (some f)
      else .waiting

/-- `k` flits leave an interface's input channel, each owing its credit. -/
def State.niPop (s : State) (n j vc k : Nat) : State :=
  let v := s.vcIn n (6 + j) vc
  s.setVc n (6 + j) vc { v with q := v.q.drop k, owed := v.owed + k }

/-- The body of a packet as one number. -/
def packetBody : List Flit → Nat
  | [] => 0
  | f :: t => f.payload + 2 ^ 512 * packetBody t

/-- The interface discards a malformed packet (R321). -/
def State.niMalformed (s : State) (n j vc k : Nat) (head : Option Flit) : State :=
  let s := ((s.niPop n j vc k).niMalf n j).niError n j 2
  match head with
  | some h => if h.isRequest then s.niSend n j (responseFlits n h .eArg 0) else s
  | none => s

/-- The interface discards a packet with a poisoned flit (R341). -/
def State.niPoisoned (s : State) (n j vc k : Nat) (h : Flit) : State :=
  let s := (s.niPop n j vc k).niError n j 3
  if h.isRequest then s.niSend n j (responseFlits n h .eRst 0)
  else if h.opc = opRsp ∨ h.opc = opRspd then s.niResponse n j h.tag .eRst 0
  else s.niMalf n j

end Sys2Proof.Machine
end

