-- ==== Sys2Proof/Machine/NipOps.lean ====
section
/-! DEFINITION. The network's fabric ports (chapter 9), and the endpoints that its commands name. -/

namespace Sys2Proof.Machine

/-- Node `n` and port `p` of its router exist. -/
def validPort (n p : Nat) : Bool := decide (n < 48) && portExists n p

/-- What an access to the node block of node `n` is answered with (R33, R352). -/
def State.nodeAccess (s : State) (n : Nat) : Code :=
  if !isRegionNode n then .ok
  else match s.rstate (nodeRegion n) with
    | .off => .eState
    | .isolated | .failed => .eIso
    | _ => .ok

/-- Fabric port `i` of region `r`. -/
def State.nip (s : State) (r i : Nat) : NipSt := Tbl.get .reset s.net.nips (8 * r + i)

/-- The state with a fabric port changed. -/
def State.setNip (s : State) (r i : Nat) (x : NipSt) : State :=
  { s with net := { s.net with nips := Tbl.put .reset s.net.nips (8 * r + i) x } }

/-- The modes of a half: OFF 0, TICK 1, FLOW 2; a reserved code acts as OFF (Table 9-7). -/
def halfMode (code : Nat) : Nat := if code = 3 then 0 else code

/-- The mode of a fabric port's transmit half, and of its receive half. -/
def State.nipTxMode (s : State) (r i : Nat) : Nat := halfMode (s.fld (Reg.NIP_CFG_TXMODE r i))
def State.nipRxMode (s : State) (r i : Nat) : Nat := halfMode (s.fld (Reg.NIP_CFG_RXMODE r i))

/-- The STRM flit that port `i` of region `r` injects for a word of its buffer, by its route entry as it stands then; none where that
is not usable (R336, R347). -/
def State.nipFlit (s : State) (r i : Nat) (w : NipWord) : Option Flit :=
  (s.entryHead (regionNode r) 0 (s.fld (Reg.NIP_CFG_ROUTE r i)) false opStrm (s.fld (Reg.NIP_CFG_PRI r i)) (0x20 + r)
    w.stamp 63).map (fun h => { h with stat := s.fld (Reg.NIP_CFG_CHAN r i), stale := w.stale, payload := w.data }.seal)

/-- A transmit half puts a word into its buffer (R347–R349): `stamp` is the tick. -/
def State.nipSend (s : State) (r i data stamp : Nat) (stale : Bool) : State :=
  let words := s.fld (Reg.NIP_CFG_TXW r i) + 1
  let x := s.nip r i
  s.setNip r i { x with tx := x.tx ++ [⟨data % 2 ^ (16 * words), stamp % 1024, stale⟩] }

/-- A fabric port hands the first word of its transmit buffer to its interface, which sends it if it is not within a
packet on that channel and has a credit (R323, R326, R347). An entry that is not usable discards it (R336). -/
def State.nipCycle (s : State) (r i : Nat) (corrupt : Nat) : State :=
  let n := regionNode r
  let x := s.nip r i
  match x.tx with
  | [] => s
  | w :: t =>
    match s.nipFlit r i w with
    | none => (s.setNip r i { x with tx := t }).niMalf n 0
    | some f =>
      let vc := channelOf f.vn f.pri
      let mid := (Tbl.get [] (s.ni n 0).txq vc).head?.elim false (fun g => g.fidx != 0)
      if mid || (s.end_ n 6).credit vc == 0 then s
      else (s.setNip r i { x with tx := t }).sendFlit n 6 6 vc f corrupt

/-- An endpoint exists: a router's port, or an interface's side. -/
def validEnd (n p : Nat) : Bool := decide (n < 48) && (portExists n p || p == 6 || (p == 7 && n == cfgNode))

/-- In FLOW mode the oldest flit of a receive buffer is presented as a token once the one before has run out (R350). -/
def State.nipPresent (s : State) (r i : Nat) : State :=
  let x := s.nip r i
  if s.nipRxMode r i ≠ 2 ∨ x.token ∨ x.rxacked then s
  else match x.rx with
    | [] => s
    | w :: _ => s.setNip r i { x with token := true, rxd := w.1, rxstale := w.2 }

end Sys2Proof.Machine
end

