-- ==== Sys2Proof/Machine/QueueOps.lean ====
section
/-! DEFINITION. The shared operations of capture queues (chapter 10): the cell pool, packets and their closing, notices,
positions, reads, pages and the store, broken queues. A queue is named by its number; `q / 256` is its shard and `q % 256`
its local index (R355). -/

namespace Sys2Proof.Machine

/-! ## Accessors -/

/-- Queue `q`. -/
def State.queue (s : State) (q : Nat) : QueueSt := Tbl.get .reset s.queues q

/-- The state with a queue changed. -/
def State.setQueue (s : State) (q : Nat) (x : QueueSt) : State := { s with queues := Tbl.put .reset s.queues q x }

/-- Shard `h`. -/
def State.shard (s : State) (h : Nat) : ShardSt := Tbl.get .reset s.shards h

/-- The state with a shard changed. -/
def State.setShard (s : State) (h : Nat) (x : ShardSt) : State := { s with shards := Tbl.put .reset s.shards h x }

/-- What the producer of queue `q` knows of its credit. -/
def State.capCredit (s : State) (q : Nat) : CapCredit := Tbl.get .reset s.credit q

/-- The state with a producer's credit changed. -/
def State.setCapCredit (s : State) (q : Nat) (x : CapCredit) : State := { s with credit := Tbl.put .reset s.credit q x }

/-- Fields of a queue's registers, by queue number. -/
def State.qfld (s : State) (q : Nat) (f : Nat → Nat → Fld) : Nat := s.fld (f (q / 256) (q % 256))
def State.setQfld (s : State) (q : Nat) (f : Nat → Nat → Fld) (v : Nat) : State := s.setFld (f (q / 256) (q % 256)) v
def State.qon (s : State) (q : Nat) (f : Nat → Nat → Fld) : Bool := s.on (f (q / 256) (q % 256))
def State.setQbit (s : State) (q : Nat) (f : Nat → Nat → Fld) (b : Bool) : State := s.setBit (f (q / 256) (q % 256)) b

/-- One event in a queue's counter (Table 10-6). -/
def State.qcount (s : State) (q : Nat) (f : Nat → Nat → Fld) : State :=
  s.count (f (q / 256) (q % 256)) (Reg.QM_QSTAT_SAT (q / 256) (q % 256))

/-- `n` events in a queue's counter: it stops at its largest value (R10). -/
def State.qcountN (s : State) (q : Nat) (f : Nat → Nat → Fld) (n : Nat) : State :=
  let fl := f (q / 256) (q % 256)
  let v := s.fld fl + n
  if v < 2 ^ fl.width then s.setFld fl v
  else (s.setFld fl (2 ^ fl.width - 1)).setQbit q Reg.QM_QSTAT_SAT true

/-- The queue states (R361). -/
def qDisabled : Nat := 0
def qActive : Nat := 1
def qBroken : Nat := 2

/-- The state of queue `q`. -/
def State.qstate (s : State) (q : Nat) : Nat := s.qfld q Reg.QM_QSTAT_STATE

/-- The severities of Table 10-23. -/
def qmSev (i : Nat) : Sev :=
  match i with
  | 0 | 3 => .degraded
  | 1 | 2 => .notice
  | _ => .fault

/-- Error bit `i` of shard `h` occurs, concerning queue `q` if one is given (R411). -/
def State.qmErr (s : State) (h i : Nat) (q : Option Nat) : State :=
  s.errBit ⟨Reg.QM_ERR h, i, 1⟩ (hasBit (s.fld (Reg.QM_ERRCTL_MASK h)) i) (srcShard h) (qmSev i) i
    (fun s => (s.rd (Reg.QM_ERR h)).toNat + (q.elim 0 (fun q => q + 2 ^ 10)) * 2 ^ 32)

/-! ## The cell pool -/

/-- The key of byte 0 of cell `c` of shard `h`: the pool lies above the C-window in the model's memory (assumption 41). -/
def poolCell (h c : Nat) : Nat := 2 ^ 36 + h * 2 ^ 24 + c * 256

/-- The key of the link word of a cell. -/
def poolLink (h c : Nat) : Nat := 2 ^ 37 + h * 2 ^ 20 + c * 8

/-- Cells of shard `h` that are not free. -/
def State.usedCells (s : State) (h : Nat) : List Nat :=
  ((s.queues.filter (fun e => e.1 / 256 == h)).flatMap (fun e => e.2.cells.map (fun c => c.2.num))) ++
    (s.shard h).leaked ++ ((s.shard h).reclaim.getD [])

/-- QM_POOL.FREE (Table 10-22). -/
def State.freeCells (s : State) (h : Nat) : Nat := 65536 - (s.usedCells h).length

/-- QM_QCELLS.HELD: on-chip cells of the queue. -/
def State.held (s : State) (q : Nat) : Nat := (s.queue q).cells.length

/-- Cells of a queue's reservation that it does not hold (R360). -/
def State.reserve (s : State) (q : Nat) : Nat := s.qfld q Reg.QM_QDESC1_MIN_CELLS - s.held q

/-- QM_RSV (R360, R374): over the queues of shard `h` that are not DISABLED. -/
def State.rsv (s : State) (h : Nat) : Nat :=
  ((List.range 256).map (fun i => if s.qstate (256 * h + i) = qDisabled then 0 else s.reserve (256 * h + i))).sum

/-- The queue is granted a cell now (R374). -/
def State.grants (s : State) (q : Nat) : Bool :=
  let h := q / 256
  decide (0 < s.freeCells h) &&
    (decide (s.held q < s.qfld q Reg.QM_QDESC1_MIN_CELLS) ||
      (decide (s.held q < s.qfld q Reg.QM_QDESC1_MAX_CELLS) && decide (s.rsv h < s.freeCells h)))

/-- The first free cell of shard `h` at or after a free number: which one is taken the spec does not say. -/
def State.someCell (s : State) (h : Nat) : Nat :=
  let used := s.usedCells h
  let start := (s.freeBits 16).toNat
  ((List.range 65536).find? (fun i => !used.contains ((start + i) % 65536))).elim start (fun i => (start + i) % 65536)

/-- The queue takes a cell for index `k`. -/
def State.takeCell (s : State) (q k : Nat) : State :=
  let h := q / 256
  let c := s.someCell h
  let x := s.queue q
  ((s.tookFree.setQueue q { x with cells := Tbl.insert x.cells k ⟨c, [0, 0, 0, 0]⟩ }).setMark (poolLink h c) 0)

/-- The cell of index `k` of a queue, if it is on chip. -/
def QueueSt.cell (x : QueueSt) (k : Nat) : Option QCell := Tbl.find? x.cells k

/-- The key of a wide word that is on chip. -/
def State.wordKey (s : State) (q pos : Nat) : Option Nat :=
  ((s.queue q).cell (pos / 4)).map (fun c => poolCell (q / 256) c.num + pos % 4 * 64)

/-- The tag of the wide word at `pos`, if it is on chip. -/
def State.wordTag (s : State) (q pos : Nat) : Option Nat :=
  ((s.queue q).cell (pos / 4)).map (fun c => c.tags.getD (pos % 4) 0)

/-- The tag of the wide word at `pos` set. -/
def State.setTag (s : State) (q pos tag : Nat) : State :=
  let x := s.queue q
  match x.cell (pos / 4) with
  | some c => s.setQueue q { x with cells := Tbl.insert x.cells (pos / 4) { c with tags := c.tags.set (pos % 4) tag } }
  | none => s

/-- Marks of the code words of a memory range cleared by a write of them (R215). -/
def State.clearMarks (s : State) (a n : Nat) : State :=
  { s with marks := s.marks.filter (fun e => !(decide (a ≤ e.1) && decide (e.1 < a + n))) }

/-! ## The check codes of the pool -/

/-- An event of the pool's check codes (R230, R231, R234, Tables 6-5 and 6-8): 0 corrected, 1 uncorrectable data word,
2 uncorrectable link word. Which WORD a link word counts as the spec does not say. -/
def State.poolEcc (s : State) (h cell word kind : Nat) : State :=
  let ce0 := s.on (Reg.QM_ECCSTAT_CE h)
  let ue0 := s.on (Reg.QM_ECCSTAT_UE h) || s.on (Reg.QM_ECCSTAT_LINK_UE h)
  let word := if word < 32 then word else (s.freeBits 5).toNat
  let s := s.tookFree
  let s := if !ue0 && (kind != 0 || !ce0) then
      s.wr (Reg.QM_ECCADDR h) (BitVec.ofNat 64 (cell + word * 2 ^ 16 + bit (kind != 0) * 2 ^ 21))
    else s
  let s := if kind = 0 then s.count (Reg.QM_CECNT_COUNT h) (Reg.QM_ECCSTAT_CNT_SAT h)
    else s.count (Reg.QM_UECNT_COUNT h) (Reg.QM_ECCSTAT_CNT_SAT h)
  s.errBit ⟨Reg.QM_ECCSTAT h, kind, 1⟩ false (srcShard h) (if kind = 0 then .info else .fault) (16 + kind)
    (fun s => (s.rd (Reg.QM_ECCADDR h)).toNat)

/-- The code words of a cell, by data word 0–31 or 32 for the link word. -/
def cellCode (h c w : Nat) : Nat := if w < 32 then poolCell h c + 8 * w else poolLink h c

/-- A code word of a cell is read: answers whether it is uncorrectable. -/
def State.checkCell (s : State) (h c w : Nat) : State × Bool :=
  let v := s.mark (cellCode h c w)
  if v = 0 then (s, false)
  else (s.poolEcc h c w (if v = 1 then 0 else if w < 32 then 1 else 2), decide (2 ≤ v))

/-! ## The external store -/

/-- Pages on a module. -/
def modulePages : Nat := 2 ^ 28

/-- The module of a page is usable by shard `h` (R397). -/
def State.pageUsable (s : State) (h page : Nat) : Bool :=
  let m := page / modulePages
  decide (m < 32) && s.on (Reg.QM_STMAP_EN h m) && !s.on (Reg.QM_STMAP_DOWN h m)

/-- The head lane of the store port of a page's module (R397). -/
def State.pageLane (s : State) (h page : Nat) : Nat :=
  let m := page / modulePages
  8 * s.fld (Reg.QM_STMAP_HUB h m) + s.fld (Reg.QM_STMAP_PORT h m)

/-- The module address of a page's data, and of half `i` of its link record (R396). -/
def pageAddr (page : Nat) : Nat := page % modulePages * 0x1000
def recordAddr (page i : Nat) : Nat := 0x800000000000 + page % modulePages * 0x80 + 64 * i

/-- A shard hands a store transaction to the lane hub of the page's module (R463). -/
def State.storeIssue (s : State) (h : Nat) (job : StoreJob) (page : Nat) (op : StoreOp) (addr data : Nat) : State :=
  { s with store := s.store ++ [⟨s.storeNext, h, job, page, op, addr, data, s.pageLane h page, .waiting⟩]
           storeNext := s.storeNext + 1 }

/-- A link record with its CRC (Table 10-18): `body` gives its bytes 0–123. -/
def linkRecord (body : Nat) : Nat := body + crc32c body 124 * 2 ^ 992

/-- The CRC of a link record holds (R402). -/
def recordOk (r : Nat) : Bool := r / 2 ^ 992 == crc32c (r % 2 ^ 992) 124

/-- Both halves of a link record are written. -/
def State.writeRecord (s : State) (h : Nat) (job : Nat → StoreJob) (page record : Nat) : State :=
  (s.storeIssue h (job 1) page .wr64 (recordAddr page 0) (record % 2 ^ 512)).storeIssue h (job 2) page .wr64
    (recordAddr page 1) (record / 2 ^ 512)

/-- A page returns to the free list (R382, R398): its record names the old head. What else the record holds, and NEXT where
the list was empty, the spec does not say. A module out of use takes no record: the page is dropped once it is found at the
head of the list. -/
def State.freePage (s : State) (h page : Nat) : State :=
  let x := s.shard h
  let s := s.setShard h { x with freePages := page :: x.freePages }
  if !s.pageUsable h page then s else
  let next := x.freePages.head?.getD (s.freeBits 33).toNat
  let other := (s.tookFree.freeBits 928).toNat
  s.tookFree.tookFree.writeRecord h (fun _ => .free) page (linkRecord (next + other * 2 ^ 64))

/-- A page from the free list `l`, whose part `kept` has been passed over (R397, R398). A head on a module that is DOWN, or whose
record fails its CRC, is dropped and counted; one on a module with EN = 0 is passed over and stays. `bad` says, for the records
read one after the other, whether each fails. Answers the page, if there is one, and what is left of `bad`. -/
def State.takeFree (s : State) (h : Nat) (kept : List Nat) : List Nat → List Bool → State × Option Nat × List Bool
  | [], bad => (s, none, bad)
  | p :: t, bad =>
    let down := s.on (Reg.QM_STMAP_DOWN h (p / modulePages))
    if !down && !s.pageUsable h p then s.takeFree h (kept ++ [p]) t bad
    else
      let s := s.setShard h { s.shard h with freePages := kept ++ t }
      if down then (s.count (Reg.QM_PGLOST_COUNT h) (Reg.QM_ERR_CNT_SAT h)).takeFree h kept t bad
      else if bad.headD false then (s.count (Reg.QM_PGLOST_COUNT h) (Reg.QM_ERR_CNT_SAT h)).takeFree h kept t bad.tail
      else (s, some p, bad.tail)

/-- The first never-used page from `p` on that is below `stop` and usable. -/
def State.nextPage (s : State) (h stop : Nat) : Nat → Nat → Option Nat
  | 0, _ => none
  | fuel + 1, p =>
    if stop ≤ p then none
    else if s.pageUsable h p then some p
    else s.nextPage h stop fuel ((p / modulePages + 1) * modulePages)

/-- A page is allocated from the shard's range (R398): from its free list, else the next page never used. -/
def State.allocPage (s : State) (h : Nat) (bad : List Bool) : State × Option Nat × List Bool :=
  match s.takeFree h [] (s.shard h).freePages bad with
  | (s, some p, bad) => (s, some p, bad)
  | (s, none, bad) =>
    let base := s.fld (Reg.QM_PGBASE_PAGE h)
    match s.nextPage h (base + s.fld (Reg.QM_PGCNT_COUNT h)) 40 (s.fld (Reg.QM_PGNEXT_PAGE h)) with
    | some p => (s.setFld (Reg.QM_PGNEXT_PAGE h) (p + 1), some p, bad)
    | none => (s, none, bad)

/-- Pages in a queue's chain: QM_QPAGES. -/
def State.qpages (s : State) (q : Nat) : Nat := (s.queue q).pages.length

/-- QM_PGUSED of shard `h`: pages in chains, and those being written. -/
def State.pagesUsed (s : State) (h : Nat) : Nat :=
  ((s.queues.filter (fun e => e.1 / 256 == h)).map (fun e => e.2.pages.length + bit e.2.spill.isSome)).sum

/-- A page may be allocated for the queue: its quota, and the shard's range (R400). -/
def State.pageAvailable (s : State) (q : Nat) : Bool :=
  let h := q / 256
  let quota := s.qfld q Reg.QM_QDESC3_MAXPG
  (quota == 0 || decide (s.qpages q < quota)) &&
    ((s.queue q).succ.any (s.pageUsable h) || ((s.shard h).freePages.any (s.pageUsable h)) ||
      (s.nextPage h (s.fld (Reg.QM_PGBASE_PAGE h) + s.fld (Reg.QM_PGCNT_COUNT h)) 40 (s.fld (Reg.QM_PGNEXT_PAGE h))).isSome)

/-! ## Broken queues -/

/-- Bytes discarded by a truncation are counted (R407). -/
def State.discardBytes (s : State) (q n : Nat) : State :=
  (s.qcountN q Reg.QM_QTRBYTE_COUNT n).setQbit q Reg.QM_QSTAT_TRUNC true

/-- A marker notice (R369, Table 10-12). -/
def State.markerNotice (s : State) (q code tick : Nat) : State :=
  let x := s.queue q
  let next := s.qfld q Reg.QM_QPSEQ_PSEQ
  let (seq, off) := match x.pkt with
    | some p => (p.seq.getD next, p.bytes)
    | none => (next, 0)
  s.setQueue q { x with notes := x.notes ++ [⟨seq, q + 2 ^ 13 + code % 2 ^ 16 * 2 ^ 16, off, tick % 2 ^ 32⟩] }

/-- A job writes a page of queue `q`; it reads one. -/
def StoreJob.spills (q : Nat) : StoreJob → Bool
  | .spill p _ => p == q
  | _ => false
def StoreJob.refills (q : Nat) : StoreJob → Bool
  | .refill p _ => p == q
  | _ => false

/-- Store transactions whose job has ended lose their purpose: those not sent yet do not go, the others are only awaited. -/
def dropJobs (ended : StoreJob → Bool) (l : List StoreTx) : List StoreTx :=
  l.filterMap (fun t => if !ended t.job then some t else match t.stage with
    | .sent _ => some { t with job := .none }
    | _ => none)

/-- Every job of queue `q` ends. -/
def State.dropQueueJobs (s : State) (q : Nat) : State :=
  { s with store := dropJobs (fun j => j.spills q || j.refills q) s.store }

/-- Reads that are answered leave: to the network or to the requester (R383, R385, R386). -/
def State.answerRead (s : State) (req : Nat) (hdr : Option Flit) (h addr : Nat) (c : Code) (data : Nat) : State :=
  match hdr with
  | some f => s.niSend (shardNode h) 0 (responseFlits (shardNode h) f c data)
  | none => if c = .ok then s.emit (.readData req addr data) else s.respond req addr c

/-- The network address of a queue's read port within its shard, by queue (Table 10-1). -/
def readPortAddr (q off : Nat) : Nat := q * 0x100000 + off

/-- What waits in a queue is discarded (R217, R362): data with its packets (R407), while its markers are posted. -/
def State.discardWait (s : State) (q : Nat) : State :=
  let l := (s.queue q).wait
  l.foldl (fun s w => match w with
    | .data sop _ _ _ d _ =>
      let s := s.discardBytes q d
      if sop then s.qcount q Reg.QM_QTRPKT_COUNT else s
    | .marker code tick => s.markerNotice q code tick) (s.setQueue q { s.queue q with wait := [] })

/-- A queue becomes BROKEN (R217, R408). Its open packet is lost: it counts as truncated, with every byte that has arrived. A page
that was being written is given back. -/
def State.breakQueue (s : State) (q : Nat) (link : Bool) : State :=
  let h := q / 256
  let s := s.setQfld q Reg.QM_QSTAT_STATE qBroken
  let s := if link then s.setQbit q Reg.QM_QSTAT_LINK_UE true else s.setQbit q Reg.QM_QSTAT_STORE_UE true
  let s := (s.setQbit q Reg.QM_QSTAT_OPEN false).setQbit q Reg.QM_QSTAT_EXH false
  let x := s.queue q
  let s := s.setQueue q { x with pkt := none, spill := none, refill := none }
  let s := match x.pkt with
    | some p => (s.discardBytes q p.bytes).qcount q Reg.QM_QTRPKT_COUNT
    | none => s
  let s := (s.discardWait q).dropQueueJobs q
  let s := x.spill.elim s (fun j => s.freePage h j.page)
  let mine := (s.shard h).parked.filter (fun p => p.q == q)
  let s := s.setShard h { s.shard h with parked := (s.shard h).parked.filter (fun p => p.q != q) }
  let s := mine.foldl (fun s p => s.answerRead p.req p.hdr h (readPortAddr q p.off) .eEcc 0) s
  s.qmErr h 6 (some q)

/-- A link word of queue `q` is read at position `pos`: an uncorrectable one breaks the queue (R217). -/
def State.readLink (s : State) (q pos : Nat) : State × Bool :=
  match (s.queue q).cell (pos / 4) with
  | none => (s, false)
  | some c =>
    let (s, ue) := s.checkCell (q / 256) c.num 32
    (if ue then s.breakQueue q true else s, ue)

/-- The link words of the cells of these indexes are read in order, until one is uncorrectable, which breaks the queue (R217,
R408): answers whether one was. -/
def State.checkLinks (s : State) (q : Nat) : List Nat → State × Bool
  | [] => (s, false)
  | k :: t =>
    let (s, ue) := s.readLink q (4 * k)
    if ue then (s, true) else s.checkLinks q t

/-- The tag of the wide word at `pos` is written into its link word, which is read first (R217, R408): answers whether that word
was uncorrectable. -/
def State.tagLink (s : State) (q pos tag : Nat) : State × Bool :=
  let (s, ue) := s.readLink q pos
  if ue then (s, true)
  else
    let s := s.setTag q pos tag
    (match (s.queue q).cell (pos / 4) with
      | some c => s.setMark (poolLink (q / 256) c.num) 0
      | none => s, false)

/-! ## Exhaustion -/

/-- The queue needs a cell for writing and is granted none (R405). -/
def State.exhaust (s : State) (q : Nat) : State :=
  if s.qon q Reg.QM_QSTAT_EXH then s
  else
    let s := (s.setQbit q Reg.QM_QSTAT_EXH true).qcount q Reg.QM_QEXHCNT_COUNT
    if s.on (Reg.QM_ERR_EXHAUST (q / 256)) then s else s.qmErr (q / 256) 1 (some q)

/-! ## Packets -/

/-- The open packet's first wide word is stored: it takes its sequence number (R372). -/
def State.numberPacket (s : State) (q : Nat) : State :=
  let x := s.queue q
  match x.pkt with
  | some p =>
    if p.seq.isSome then s
    else
      let n := s.qfld q Reg.QM_QPSEQ_PSEQ
      (s.setQueue q { x with pkt := some { p with seq := some n } }).setQfld q Reg.QM_QPSEQ_PSEQ ((n + 1) % 2 ^ 32)
  | none => s

/-- The open packet closes (R370–R372, R375, R376, R407): its last tag, its words readable, its notice. -/
def State.closePacket (s : State) (q : Nat) (trunc : Bool) : State :=
  match (s.queue q).pkt with
  | none => s
  | some p0 =>
    let s := s.setQbit q Reg.QM_QSTAT_OPEN false
    if p0.bytes = 0 then
      -- discarded whole
      let s := s.setQueue q { s.queue q with pkt := none }
      (s.qcount q Reg.QM_QTRPKT_COUNT).setQbit q Reg.QM_QSTAT_TRUNC true
    else
      let s := s.numberPacket q
      let lw := (p0.bytes - 1) / 64
      let tag := (p0.bytes - 1) % 64 + bit (lw == 0) * 2 ^ 6 + 2 ^ 7 + bit trunc * 2 ^ 8 + bit p0.stale * 2 ^ 9
      let (s, ue) := s.tagLink q (p0.start + lw) tag
      if ue then s
      else
      let seq := ((s.queue q).pkt.bind (·.seq)).getD 0
      let s := s.setQfld q Reg.QM_QCOMMIT_POS (p0.start + lw + 1)
      let x := s.queue q
      let note : Notice := ⟨seq, q + bit trunc * 2 ^ 10 + bit p0.stale * 2 ^ 11, p0.bytes - 1, p0.stamp % 2 ^ 32⟩
      let s := s.setQueue q { x with pkt := none, tail := p0.start + lw + 1,
                                     notes := if s.qon q Reg.QM_QDESC0_NOTE_EN then x.notes ++ [note] else x.notes }
      if trunc then (s.qcount q Reg.QM_QTRPKT_COUNT).setQbit q Reg.QM_QSTAT_TRUNC true else s

/-- A wide word of the open packet is full (R373, R375). -/
def State.fullWord (s : State) (q : Nat) : State :=
  match (s.queue q).pkt with
  | none => s
  | some p =>
    let w := p.bytes / 64
    let (s, ue) := s.tagLink q (p.start + w - 1) (63 + bit (w == 1) * 2 ^ 6)
    if ue then s
    else
    let s := s.numberPacket q
    let ct := s.qfld q Reg.QM_QDESC0_CT_THR
    if ct ≠ 0 ∧ ct ≤ w then s.setQfld q Reg.QM_QCOMMIT_POS (p.start + w) else s

/-- All of the page that the queue reads back has been read: its refill needs sixteen cells (R374, R402). -/
def QueueSt.refillReady (x : QueueSt) : Bool :=
  x.refill.any (fun j => [0, 1, 2].all (fun i => (Tbl.find? j.done i).isSome))

/-- The queue is granted a cell for writing now: a refill that needs cells goes first (R374). -/
def State.writeGrants (s : State) (q : Nat) : Bool := !(s.queue q).refillReady && s.grants q

/-- Bytes are stored in the open packet, up to the end of a wide word at a time (R370): answers the bytes that no cell was
granted for. A new cell is linked from the one before it. `fuel` bounds the wide words touched. -/
def State.storeBytes (s : State) (q : Nat) : Nat → Nat → Nat → State × Nat × Nat
  | 0, d, v => (s, d, v)
  | fuel + 1, d, v =>
    match (s.queue q).pkt with
    | none => (s, d, v)
    | some p =>
      if d = 0 ∨ 65536 ≤ p.bytes then (s, d, v)
      else
        let pos := p.start + p.bytes / 64
        let off := p.bytes % 64
        let need := ((s.queue q).cell (pos / 4)).isNone
        if need && !s.writeGrants q then (s, d, v)
        else
          let (s, ue) := s.checkLinks q (if need && pos / 4 ≠ 0 then [pos / 4 - 1] else [])
          if ue then (s, d, v)
          else
          let s := if need then s.takeCell q (pos / 4) else s
          let n := min d (64 - off)
          let a := (s.wordKey q pos).getD 0
          -- the bytes of the word not written yet are zero
          let s := (s.setBytes (a + off) (v % 2 ^ (8 * n)) (64 - off)).clearMarks (a + off) (64 - off)
          let s := s.setQueue q { s.queue q with pkt := some { p with bytes := p.bytes + n } }
          let s := if off + n = 64 then s.fullWord q else s
          s.storeBytes q fuel (d - n) (v / 2 ^ (8 * n))

/-- A queue takes what has arrived for it (R369–R371, R405–R407): answers what is left if it must wait for a cell. -/
def State.queueTake (s : State) (q : Nat) : QIn → State × Option QIn
  | .marker code tick => (s.markerNotice q code tick, none)
  | .data sop eop stale stamp d v =>
    let s := if sop then
        let s := s.closePacket q true
        if s.qstate q = qBroken then s
        else
        let x := s.queue q
        (s.setQueue q { x with pkt := some ⟨x.tail, 0, stamp, stale, none⟩ }).setQbit q Reg.QM_QSTAT_OPEN true
      else match (s.queue q).pkt with
        | some p => s.setQueue q { s.queue q with pkt := some { p with stale := p.stale || stale } }
        | none => s
    if (s.queue q).pkt.isNone ∨ s.qstate q = qBroken then
      ((if sop then s.qcount q Reg.QM_QTRPKT_COUNT else s).discardBytes q d, none)
    else
      let (s, left, rest) := s.storeBytes q (d / 64 + 2) d v
      if s.qstate q = qBroken then (if left = 0 then s else s.discardBytes q left, none)
      else if left = 0 then (if eop then s.closePacket q false else s, none)
      else if ((s.queue q).pkt.elim 0 (·.bytes)) = 65536 then ((s.closePacket q true).discardBytes q left, none)
      else
        let s := s.exhaust q
        if s.qon q Reg.QM_QDESC0_POLICY then ((s.closePacket q true).discardBytes q left, none)
        else (s, some (.data false eop stale stamp left rest))

/-- The queue takes what waits, in order, as long as cells are granted (R406). -/
def State.drainWait (s : State) (q : Nat) : Nat → State
  | 0 => s
  | n + 1 =>
    match (s.queue q).wait with
    | [] => s
    | w :: rest =>
      let s := s.setQueue q { s.queue q with wait := rest }
      let (s, left) := s.queueTake q w
      match left with
      | some l => s.setQueue q { s.queue q with wait := l :: rest }
      | none => s.drainWait q n

/-- Something arrives for the queue: it waits behind what already does (R406). -/
def State.queueIn (s : State) (q : Nat) (w : QIn) : State :=
  let x := s.queue q
  if !x.wait.isEmpty then s.setQueue q { x with wait := x.wait ++ [w] }
  else
    let (s, left) := s.queueTake q w
    match left with
    | some l => s.setQueue q { s.queue q with wait := [l] }
    | none => s

/-- Cells may have become free: the exhausted queues of shard `h` that are granted one go on (R405, R406). A queue whose
refill waits for cells takes them first (R374). -/
def State.poolChanged (s : State) (h : Nat) : State :=
  ((List.range 256).map (256 * h + ·)).foldl (fun s q =>
    if s.qon q Reg.QM_QSTAT_EXH && s.writeGrants q then
      let s := s.setQbit q Reg.QM_QSTAT_EXH false
      s.drainWait q ((s.queue q).wait.length)
    else s) s

/-! ## Spilling -/

/-- The head of a queue in cells (R400). -/
def State.headCells (s : State) (q : Nat) : Nat := 16 * (s.qfld q Reg.QM_QDESC2_PFG + 1)

/-- The cell index at which the group that a queue spills next would begin, if the queue wants to spill one (R400): sixteen
full, unreleased cells after the head, or after the last page. -/
def State.spillGroup (s : State) (q : Nat) : Option Nat :=
  let x := s.queue q
  let rel := s.qfld q Reg.QM_QREL_POS
  let first := match x.pages.getLast? with
    | some p => p.first + 16
    | none => rel / 4 + s.headCells q
  -- the last word stored of an open packet may still become its last, and take another tag (R373)
  let stored := match x.pkt with
    | some p => p.start + (p.bytes - 1) / 64
    | none => x.tail
  if s.qstate q != qBroken && s.qon q Reg.QM_QDESC0_SPILL_EN && decide (s.qfld q Reg.QM_QDESC2_SPILL_THR < s.held q) && x.spill.isNone &&
      decide (4 * (first + 16) ≤ stored) && decide (rel ≤ 4 * first) &&
      (List.range 16).all (fun i => (x.cell (first + i)).isSome) then some first
  else none

/-- The data of sixteen cells as a page. -/
def State.pageData (s : State) (q first : Nat) : Nat → Nat
  | 0 => 0
  | n + 1 => s.pageData q first n +
      s.bytes ((s.wordKey q (4 * first + n)).getD 0) 64 * 2 ^ (512 * n)

/-- The tags of the 64 words of a group. -/
def State.pageTags (s : State) (q first : Nat) : Nat → Nat
  | 0 => 0
  | n + 1 => s.pageTags q first n + (s.wordTag q (4 * first + n)).getD 0 * 2 ^ (10 * n)

/-! ## Releasing -/

/-- What lies wholly below REL is given back (R382): pages, one that is being read back among them, which is then read no
further; and cells that are not being spilled, whose link words are read (R408). -/
def State.freeReleased (s : State) (q : Nat) : State :=
  let h := q / 256
  let rel := s.qfld q Reg.QM_QREL_POS
  let x := s.queue q
  let spilling := fun (k : Nat) => x.spill.elim false (fun j => decide (j.first ≤ k) && decide (k < j.first + 16))
  let cellGoes := fun (k : Nat) => decide (4 * k + 4 ≤ rel) && !spilling k
  let goes := fun (p : QPage) => decide (4 * p.first + 64 ≤ rel)
  let stops := x.refill.any (fun j => decide (4 * j.first + 64 ≤ rel))
  let s := s.setQueue q { x with pages := x.pages.filter (fun p => !goes p)
                                 refill := if stops then none else x.refill }
  let s := if stops then { s with store := dropJobs (StoreJob.refills q) s.store } else s
  let s := (x.pages.filter goes).foldl (fun s p => s.freePage h p.page) s
  let (s, ue) := s.checkLinks q ((x.cells.filter (fun c => cellGoes c.1)).map (·.1))
  let y := s.queue q
  (if ue then s else s.setQueue q { y with cells := y.cells.filter (fun c => !cellGoes c.1) }).poolChanged h

/-! ## Reading -/

/-- The positions that bytes `off` to `off + n - 1` of a read port name: wide words, and tag records (Table 10-15). -/
def portWords (rp off n : Nat) : List Nat :=
  if 0x80000 ≤ off ∨ n = 0 then [] else
    (List.range ((min (off + n) 0x80000 - 1) / 64 - off / 64 + 1)).map (fun i => rp + off / 64 + i)

def portTags (rp off n : Nat) : List Nat :=
  let lo := max off 0x80000
  let hi := min (off + n) 0x90000
  if hi ≤ lo then [] else (List.range ((hi - 1 - 0x80000) / 8 - (lo - 0x80000) / 8 + 1)).map (fun i => rp + (lo - 0x80000) / 8 + i)

/-- Every readable position of a list is on chip (R385), or has been released meanwhile. -/
def State.onChip (s : State) (q : Nat) (ps : List Nat) : Bool :=
  ps.all (fun p => decide (s.qfld q Reg.QM_QCOMMIT_POS ≤ p) || decide (p < s.qfld q Reg.QM_QREL_POS) ||
    ((s.queue q).cell (p / 4)).isSome)

/-- The wide word at `pos` as a read returns it: zero at or beyond COMMIT (R384). Answers whether it is uncorrectable. What a read
that waited finds in a word released meanwhile the spec does not say: a free value. -/
def State.readWide (s : State) (q pos : Nat) : State × Nat × Bool :=
  if s.qfld q Reg.QM_QCOMMIT_POS ≤ pos then (s, 0, false)
  else match (s.queue q).cell (pos / 4) with
    | none => (s.tookFree, (s.freeBits 512).toNat, false)
    | some c =>
      let (s, ue) := (List.range 8).foldl (fun (acc : State × Bool) i =>
        let (s, u) := acc.1.checkCell (q / 256) c.num (pos % 4 * 8 + i)
        (s, acc.2 || u)) (s, false)
      (s, if ue then 0 else s.bytes (poolCell (q / 256) c.num + pos % 4 * 64) 64, ue)

/-- The tag record of `pos` (Table 10-15, R384). -/
def State.tagRecord (s : State) (q pos : Nat) : Nat :=
  if s.qfld q Reg.QM_QCOMMIT_POS ≤ pos then 0 else (s.wordTag q pos).getD (s.freeBits 10).toNat + 2 ^ 10

/-- A byte of a read port, from the words read (`words` by position). -/
def State.portByte (s : State) (q rp : Nat) (words : Tbl Nat) (o : Nat) : Nat :=
  if o < 0x80000 then Tbl.get 0 words (rp + o / 64) / 2 ^ (8 * (o % 64)) % 256
  else if o < 0x90000 then s.tagRecord q (rp + (o - 0x80000) / 8) / 2 ^ (8 * ((o - 0x80000) % 8)) % 256
  else 0

/-- The wide words of some positions: by position, and whether one is uncorrectable. -/
def State.readWords (s : State) (q : Nat) : List Nat → State × Tbl Nat × Bool
  | [] => (s, [], false)
  | p :: t =>
    let (s, v, ue) := s.readWide q p
    let (s, m, ue') := s.readWords q t
    (s, (p, v) :: m, ue || ue')

/-- The link words of some positions are read: answers whether one is uncorrectable. -/
def State.readLinks (s : State) (q : Nat) : List Nat → State × Bool
  | [] => (s, false)
  | p :: t =>
    let (s, a) := if s.qfld q Reg.QM_QCOMMIT_POS ≤ p then (s, false) else s.readLink q p
    if a then (s, true) else s.readLinks q t

/-- A read of `n` bytes at `off` of the read port of `q` with the read point at `rp` (R383–R386): the bytes and a status. -/
def State.readPort (s : State) (q rp off n : Nat) : State × Nat × Code :=
  if s.qstate q = qBroken then (s, 0, .eEcc)
  else
    let ws := portWords rp off n
    let (s, cut) := s.readLinks q (ws ++ portTags rp off n)
    if cut then (s, 0, .eEcc)
    else
      let (s, words, ue) := s.readWords q ws
      if ue then (s, 0, .eEcc)
      else (s, ((List.range n).map (fun i => s.portByte q rp words (off + i) * 2 ^ (8 * i))).sum, .ok)

/-- A read of a read port that has arrived (R383, R385): it is answered, or waits for a page. The reads of one requester
are answered in order (R393). -/
def State.portRead (s : State) (req : Nat) (hdr : Option Flit) (q rp off n : Nat) : State :=
  let h := q / 256
  let x := s.shard h
  let behind := x.parked.any (fun p => p.req == req)
  if behind || (s.qstate q != qBroken && !s.onChip q (portWords rp off n ++ portTags rp off n)) then
    s.setShard h { x with parked := x.parked ++ [⟨req, hdr, q, rp, off, n⟩] }
  else
    let (s, v, c) := s.readPort q rp off n
    s.answerRead req hdr h (readPortAddr q off) c v

/-- The reads that wait are tried again, in order, once (R385). -/
def State.unparkOnce (s : State) (h : Nat) : State :=
  let l := (s.shard h).parked
  let s := s.setShard h { s.shard h with parked := [] }
  l.foldl (fun s p => s.portRead p.req p.hdr p.q p.rp p.off p.n) s

/-- The reads that wait are tried again until none of them goes. -/
def State.unparkAll (s : State) (h : Nat) : Nat → State
  | 0 => s
  | fuel + 1 =>
    let t := s.unparkOnce h
    if (t.shard h).parked.length < (s.shard h).parked.length then t.unparkAll h fuel else t

/-- The reads that wait are tried again (R385). -/
def State.unpark (s : State) (h : Nat) : State := s.unparkAll h (s.shard h).parked.length

/-! ## Store results -/

/-- The queue's refill has failed for good (R403). -/
def State.refillLost (s : State) (q : Nat) : State :=
  ((s.qmErr (q / 256) 5 (some q)).breakQueue q false).unpark (q / 256)

/-- A read of the aperture completes (R404): at its requester, or at the host port whose Q-window read it is a part of. -/
def State.apertureDone (s : State) (req addr : Nat) (ref : Option Nat) (data : Nat) : State :=
  match ref with
  | some k => { s with net := { s.net with done := s.net.done ++ [⟨hostNode (req - 1), req, k, .ok, data⟩] } }
  | none => s.emit (.readData req addr data)

/-- The shard whose range holds a page (R399, R404). -/
def State.pageShard (s : State) (page : Nat) : Option Nat :=
  (List.range 4).find? (fun h =>
    let b := s.fld (Reg.QM_PGBASE_PAGE h)
    decide (b ≤ page) && decide (page < b + s.fld (Reg.QM_PGCNT_COUNT h)))

/-- A read of `n` bytes at aperture byte `a` goes on (R404): its first `got` bytes are `acc`. Page after page is read; one outside
every range, or on a module that is not usable, reads as zero. `fuel` bounds the pages. -/
def State.apertureGo (s : State) (req a n : Nat) (ref : Option Nat) : Nat → Nat → Nat → State
  | 0, _, acc => s.apertureDone req a ref (acc % 2 ^ (8 * n))
  | fuel + 1, got, acc =>
    if n ≤ got then s.apertureDone req a ref (acc % 2 ^ (8 * n))
    else
      let page := s.fld (Reg.QM_APCTL_BASE 0) * 2 ^ 23 + (a + got) / 4096
      let zeros := fun (_ : Unit) => s.apertureGo req a n ref fuel (got + (4096 - (a + got) % 4096)) acc
      match (if s.on (Reg.QM_APCTL_EN 0) then s.pageShard page else none) with
      | some h =>
        if s.pageUsable h page then s.storeIssue h (.aperture req a n got acc ref) page .rdpg (pageAddr page) 0 else zeros ()
      | none => zeros ()

/-- A read of `n` bytes at aperture byte `a` (R404). -/
def State.apertureRead (s : State) (req a n : Nat) (ref : Option Nat) : State := s.apertureGo req a n ref (n / 4096 + 2) 0 0

/-- A page of an aperture read has come: `data`, or zero where it is lost. -/
def State.aperturePage (s : State) (req a n got acc : Nat) (ref : Option Nat) (data : Nat) : State :=
  let off := (a + got) % 4096
  let part := data / 2 ^ (8 * off) % 2 ^ (8 * (4096 - off))
  s.apertureGo req a n ref (n / 4096 + 2) (got + (4096 - off)) (acc + part * 2 ^ (8 * got))

/-- A store transaction has ended with OK (R401, R402, R404). -/
def State.storeOk (s : State) (t : StoreTx) (data : Nat) : State :=
  match t.job with
  | .spill q part =>
    let x := s.queue q
    s.setQueue q { x with spill := x.spill.map (fun j => { j with done := Tbl.insert j.done part none }) }
  | .refill q part =>
    let x := s.queue q
    s.setQueue q { x with refill := x.refill.map (fun j => { j with done := Tbl.insert j.done part (some data) }) }
  | .aperture req a n got acc ref => s.aperturePage req a n got acc ref data
  | .free | .none => s

/-- A store transaction has failed for good, its module DOWN (R403, R404): a group that was being written waits to be written to
another page. -/
def State.storeLost (s : State) (t : StoreTx) : State :=
  match t.job with
  | .spill q _ =>
    let x := s.queue q
    let s := s.setQueue q { x with spill := none }
    let s := { s with store := dropJobs (StoreJob.spills q) s.store }
    x.spill.elim s (fun j => s.freePage (q / 256) j.page)
  | .refill q _ => s.refillLost q
  | .aperture req a n got acc ref => s.aperturePage req a n got acc ref 0
  | .free | .none => s

/-- The queue that a store job serves. -/
def StoreJob.queue : StoreJob → Option Nat
  | .spill q _ | .refill q _ => some q
  | _ => Option.none

/-- Store transaction `t` ends with a failure (R403): one that has lost its purpose is not tried again. -/
def State.storeFailed (s : State) (t : StoreTx) : State :=
  let h := t.shard
  let m := t.page / modulePages
  let gone := fun (s : State) => { s with store := s.store.filter (fun u => u.id != t.id) }
  let k := Tbl.get 0 (s.shard h).fails m + 1
  let s := s.qmErr h 3 t.job.queue
  if k < s.fld (Reg.QM_STCTL_LIM h) then
    let s := s.setShard h { s.shard h with fails := Tbl.put 0 (s.shard h).fails m k }
    if t.job = .none then gone s
    else { s with store := s.store.map (fun u => if u.id = t.id then { u with stage := .delay } else u) }
  else
    let s := s.setShard h { s.shard h with fails := Tbl.put 0 (s.shard h).fails m 0 }
    (gone ((s.setBit (Reg.QM_STMAP_DOWN h m) true).qmErr h 4 t.job.queue)).storeLost t

/-- Store transaction `t` ends with a status (R403, R465, R466). -/
def State.storeResult (s : State) (t : StoreTx) (c : Code) (data : Nat) : State :=
  match s.store.find? (fun u => u.id == t.id) with
  | none => s
  | some t =>
    if c = .ok then
      let s := { s with store := s.store.filter (fun u => u.id != t.id) }
      (s.setShard t.shard { s.shard t.shard with
        fails := Tbl.put 0 (s.shard t.shard).fails (t.page / modulePages) 0 }).storeOk t data
    else s.storeFailed t

/-! ## Commands -/

/-- The outcome of a queue command or descriptor write (Table 10-5, R13). -/
def State.queueRecord (s : State) (req q addr cmd : Nat) (c : Code) : State :=
  let h := q / 256
  let s := ((s.setQfld q Reg.QM_QCMDSTAT_CODE c.num).setQfld q Reg.QM_QCMDSTAT_CMD cmd).setQfld q Reg.QM_QCMDSTAT_REQ req
  (s.noteRefusal (srcShard h) (addr - Reg.QM_CTL h) req c).respond req addr c

/-- The check of ENABLE (R360). -/
def State.enableCode (s : State) (q : Nat) : Code :=
  let f := fun (g : Nat → Nat → Fld) => s.qfld q g
  let min_ := f Reg.QM_QDESC1_MIN_CELLS
  let max_ := f Reg.QM_QDESC1_MAX_CELLS
  let spill := s.qon q Reg.QM_QDESC0_SPILL_EN
  if f Reg.QM_QDESC0_PROD = 0 ∨ max_ = 0 ∨ max_ < min_ ∨ 1024 < f Reg.QM_QDESC0_CT_THR ∨ f Reg.QM_QDESC2_CWIN < 31 ∨
      (spill ∧ f Reg.QM_QDESC2_SPILL_THR < 16 * (f Reg.QM_QDESC2_PFG + 2)) ∨
      (spill ∧ max_ < f Reg.QM_QDESC2_SPILL_THR + 32) then .eArg
  else if s.freeCells (q / 256) < s.rsv (q / 256) + s.reserve q then .eNoSpace
  else .ok

/-- Every cell and page of a queue is freed, and its positions and counts are 0 (R363, R409). Of a BROKEN queue `good`
pages can be reached, and its cells are left to RECLAIM. -/
def State.resetQueue (s : State) (q good : Nat) (broken : Bool) : State :=
  let h := q / 256
  let x := s.queue q
  let pages := x.pages.map (·.page) ++ x.spill.toList.map (·.page) ++ x.succ.toList
  let reach := if broken then pages.take good else pages
  let s := if broken then s.setShard h { s.shard h with leaked := (s.shard h).leaked ++ x.cells.map (fun c => c.2.num) } else s
  let s := s.setQueue q { QueueSt.reset with notes := x.notes }
  let s := s.dropQueueJobs q
  let s := reach.foldl (fun s p => s.freePage h p) s
  let s := s.countN (Reg.QM_PGLOST_COUNT h) (Reg.QM_ERR_CNT_SAT h) (pages.length - reach.length)
  let s := [Reg.QM_QRP_POS, Reg.QM_QMARK_POS, Reg.QM_QREL_POS, Reg.QM_QCOMMIT_POS, Reg.QM_QRXCNT_COUNT, Reg.QM_QLIMIT_LIMIT,
    Reg.QM_QPSEQ_PSEQ, Reg.QM_QSTAT_MARKV, Reg.QM_QSTAT_STATE, Reg.QM_QSTAT_LINK_UE, Reg.QM_QSTAT_STORE_UE,
    Reg.QM_QSTAT_OPEN, Reg.QM_QSTAT_EXH].foldl (fun s f => s.setQfld q f 0) s
  s.poolChanged h

/-- RECLAIM begins (R410): the cells that no chain of a queue that is not BROKEN reaches. It walks those chains, and so reads
their link words (R408). -/
def State.startReclaim (s : State) (h : Nat) : State :=
  let walked := (s.queues.filter (fun e => e.1 / 256 == h && s.qstate e.1 != qBroken))
  let s := walked.foldl (fun s e => (s.checkLinks e.1 (e.2.cells.map (·.1))).1) s
  let broken := (s.queues.filter (fun e => e.1 / 256 == h && s.qstate e.1 == qBroken))
  let cells := broken.flatMap (fun e => e.2.cells.map (fun c => c.2.num))
  let s := broken.foldl (fun s e => s.setQueue e.1 { s.queue e.1 with cells := [] }) s
  let x := s.shard h
  (s.setShard h { x with leaked := [], reclaim := some (x.leaked ++ cells ++ x.reclaim.getD []) }).setBit
    (Reg.QM_POOL_RECL_BUSY h) true

/-- The outcome of a command of QM_QCMD (Table 10-4, R360, R381). -/
def State.queueCmdCode (s : State) (q cmd sel n : Nat) : Code :=
  let st := s.qstate q
  let rp := s.qfld q Reg.QM_QRP_POS
  let markv := s.qon q Reg.QM_QSTAT_MARKV
  match cmd with
  | 1 => if st = qDisabled then s.enableCode q else .eState
  | 2 => if st = qActive then .ok else .eState
  | 3 => if st = qBroken then .eState
    else if n = 0 ∨ 16384 < n ∨ s.qfld q Reg.QM_QCOMMIT_POS < rp + n then .eArg else .ok
  | 4 | 7 => if st = qBroken then .eState else .ok
  | 5 => if st = qBroken ∨ !markv then .eState else .ok
  | 6 => if st = qBroken ∨ (sel = 1 ∧ !markv) then .eState else .ok
  | 8 => if st = qActive then .eState else .ok
  | _ => .eArg

/-- The effect of an accepted queue command (R360–R363, R381, R382, R409). One that meets an uncorrectable link word leaves the
queue BROKEN (R408). -/
def State.queueCmd (s : State) (q cmd sel n good : Nat) : State :=
  let h := q / 256
  let rp := s.qfld q Reg.QM_QRP_POS
  match cmd with
  | 1 =>
    let s := s.setQfld q Reg.QM_QSTAT_STATE qActive
    s.setCapCredit q { s.capCredit q with sent := s.qfld q Reg.QM_QRXCNT_COUNT }
  | 2 =>
    let s := s.closePacket q true
    if s.qstate q = qBroken then s
    else (((s.discardWait q).setQfld q Reg.QM_QSTAT_STATE qDisabled).setQbit q Reg.QM_QSTAT_EXH false).poolChanged h
  | 3 => s.setQfld q Reg.QM_QRP_POS (rp + n)
  | 4 => (s.setQfld q Reg.QM_QMARK_POS rp).setQbit q Reg.QM_QSTAT_MARKV true
  | 5 => s.setQfld q Reg.QM_QRP_POS (s.qfld q Reg.QM_QMARK_POS)
  | 6 =>
    if sel = 0 then
      let s := s.setQfld q Reg.QM_QREL_POS rp
      let s := if s.qfld q Reg.QM_QMARK_POS < rp then s.setQbit q Reg.QM_QSTAT_MARKV false else s
      s.freeReleased q
    else (s.setQfld q Reg.QM_QREL_POS (s.qfld q Reg.QM_QMARK_POS)).freeReleased q
  | 7 =>
    let c := s.qfld q Reg.QM_QCOMMIT_POS
    (((s.setQfld q Reg.QM_QRP_POS c).setQfld q Reg.QM_QREL_POS c).setQbit q Reg.QM_QSTAT_MARKV false).freeReleased q
  | 8 =>
    if s.qstate q = qBroken then (s.resetQueue q good true).startReclaim h
    else
      -- the chain is walked (R408)
      let (s, ue) := s.checkLinks q ((s.queue q).cells.map (·.1))
      if ue then s else s.resetQueue q good false
  | _ => s

/-- A write of QM_QCMD (R361, Table 10-4). `good`: pages of a BROKEN queue's chain that can be reached. -/
def State.queueCmdWrite (s : State) (req q value good : Nat) : State :=
  let cmd := bitsOf value 0 4
  let sel := bitsOf value 8 1
  let n := bitsOf value 16 15
  let c := s.queueCmdCode q cmd sel n
  let s := if c = .ok then (s.queueCmd q cmd sel n good).unpark (q / 256) else s
  s.queueRecord req q (Reg.QM_QCMD (q / 256) (q % 256)) cmd c

/-! ## Credit -/

/-- Narrow words for which the queue surely has space: one wide word each, in the cell it is filling and in the cells of its
reservation that it does not hold (R366, R406). Cells of the general pool, which other queues may take, cover none. -/
def State.creditSpace (s : State) (q : Nat) : Nat :=
  let x := s.queue q
  let end_ := match x.pkt with
    | some p => p.start + (p.bytes + 63) / 64
    | none => x.tail
  let tailRoom := if (x.cell (end_ / 4)).isSome then 4 - end_ % 4 else 0
  if x.wait.isEmpty then tailRoom + 4 * s.reserve q else 0

/-- The highest credit limit that the shard may grant now (R366). -/
def State.creditMax (s : State) (q : Nat) : Nat :=
  let rx := s.qfld q Reg.QM_QRXCNT_COUNT
  let win := s.qfld q Reg.QM_QDESC2_CWIN
  if s.qon q Reg.QM_QDESC0_POLICY then rx + win else rx + min win (s.creditSpace q)

/-- The payload of a credit notice (Table 10-9). -/
def creditNotice (q limit : Nat) : Nat := q + 1 * 2 ^ 16 + limit * 2 ^ 64

end Sys2Proof.Machine
end

