-- ==== Sys2Proof/Machine/CqpOps.lean ====
section
/-! DEFINITION. What producers send to capture queues, and the fabric capture ports (chapter 10). -/

namespace Sys2Proof.Machine

/-! ## Fabric capture ports -/

/-- Capture port `i` of region `r`. -/
def State.cqp (s : State) (r i : Nat) : CqpSt := Tbl.get .reset s.cqps (8 * r + i)

/-- The state with a capture port changed. -/
def State.setCqp (s : State) (r i : Nat) (x : CqpSt) : State := { s with cqps := Tbl.put .reset s.cqps (8 * r + i) x }

/-- The modes of a capture port's halves (Table 10-17). -/
def State.cqpWMode (s : State) (r i : Nat) : Nat := halfMode (s.fld (Reg.CQP_CFG_WMODE r i))
def State.cqpRMode (s : State) (r i : Nat) : Nat := halfMode (s.fld (Reg.CQP_CFG_RMODE r i))

/-- The narrow words at the front of a buffer that would go as one segment: up to 31, ending with the first that ends its
packet; and whether the segment may go now without an idle tick (R390). A marker ends it. -/
def segmentWords : Nat → List CapItem → List (Bool × Bool × Bool × Nat × Nat × Nat) × Bool
  | 0, _ => ([], true)
  | _ + 1, [] => ([], false)
  | _ + 1, .marker _ _ :: _ => ([], true)
  | n + 1, .word sop eop stale stamp bytes v :: t =>
    if eop then ([(sop, eop, stale, stamp, bytes, v)], true)
    else let (ws, go) := segmentWords n t; ((sop, eop, stale, stamp, bytes, v) :: ws, go)

/-- The bytes of a segment's words, and how many. -/
def wordBytes : List (Bool × Bool × Bool × Nat × Nat × Nat) → Nat × Nat
  | [] => (0, 0)
  | (_, _, _, _, b, v) :: t => let (rest, n) := wordBytes t; (v % 2 ^ (8 * b) + rest * 2 ^ (8 * b), b + n)

/-- The capture header of a segment (Table 10-7). -/
def capHeader (q : Nat) (sop eop marker : Bool) (code tick : Nat) : Nat :=
  q + bit sop * 2 ^ 10 + bit eop * 2 ^ 11 + bit marker * 2 ^ 12 + code % 2 ^ 16 * 2 ^ 16 +
    (if sop || marker then tick % 2 ^ 32 else 0) * 2 ^ 32

/-- A producer at interface 0 of node `n` sends the next segment of buffer `items` to queue `q`, if it may go and credit
allows (R364, R367, R369, R390): answers the buffer left. `force` lets a short segment go. -/
def State.sendSegment (s : State) (n entry pri rid q : Nat) (items : List CapItem) (force : Bool) : State × List CapItem :=
  let s := if (s.capCredit q).resync then
      s.setCapCredit q { s.capCredit q with sent := s.qfld q Reg.QM_QRXCNT_COUNT, resync := false }
    else s
  match items with
  | .marker code tick :: t =>
    (s.niPost n 0 entry opCap pri rid 0 0 false 7 (capHeader q false false true code tick), t)
  | _ =>
    let (ws, go) := segmentWords 31 items
    let c := s.capCredit q
    if ws.isEmpty || !(go || force) || decide (c.limit < c.sent + ws.length) then (s, items)
    else
      let (v, d) := wordBytes ws
      let sop := (ws.head?.map (·.1)).getD false
      let eop := ws.any (fun w => w.2.1)
      let stamp := (ws.head?.map (fun w => w.2.2.2.1)).getD 0
      let s := s.setCapCredit q { c with sent := c.sent + ws.length }
      (s.niPost n 0 entry opCap pri rid 0 0 (ws.any (fun w => w.2.2.1)) (d + 7)
        (capHeader q sop eop false 0 stamp + v * 2 ^ 64), items.drop ws.length)

/-- The priority at which fabric capture ports send: the spec states none. -/
def capturePri : Nat := (Config.implBits 2 0).toNat

/-- The commands of a read half that wait enter the interface, in order, while tags are free. -/
def State.cqpFlush (s : State) (r i : Nat) : Nat → State
  | 0 => s
  | fuel + 1 =>
    match (s.cqp r i).cmds with
    | [] => s
    | v :: t =>
      let q := s.fld (Reg.CQP_CFG_RQ r i)
      let (s', entered) := s.niIssue (regionNode r) 0 ⟨0x20 + r, 1000 + i, opWr, 56 + q / 256, false, capturePri,
        0x10000 + 0x80 * (q % 256) + 0x10, 4, v⟩
      if entered then (s'.setCqp r i { s'.cqp r i with cmds := t }).cqpFlush r i fuel else s

/-- A read half sends a command to its queue (R391, R392). -/
def State.cqpCommand (s : State) (r i value : Nat) : State :=
  let x := s.cqp r i
  (s.setCqp r i { x with cmds := x.cmds ++ [value] }).cqpFlush r i (x.cmds.length + 1)

/-- A word leaves the read half: READ, and RELEASE with AUTOREL (R391, R392). -/
def State.cqpTaken (s : State) (r i : Nat) : State :=
  let s := s.cqpCommand r i (3 + 2 ^ 16)
  if s.on (Reg.CQP_CFG_AUTOREL r i) then s.cqpCommand r i 6 else s

/-- An uncorrectable word is delivered to the fabric (R392, Table 10-17). -/
def State.cqpRerr (s : State) (r i : Nat) : State :=
  (s.count (Reg.CQP_STAT_ECNT r i) (Reg.CQP_STAT_SAT r i)).setBit (Reg.CQP_STAT_RERR r i) true

/-- A word offered with no room (R388). -/
def State.cqpWdrop (s : State) (r i : Nat) : State :=
  (s.count (Reg.CQP_STAT_WCNT r i) (Reg.CQP_STAT_SAT r i)).setBit (Reg.CQP_STAT_WDROP r i) true

/-- In FLOW mode the oldest held word is presented as a token once the one before has run out (R392). -/
def State.cqpPresent (s : State) (r i : Nat) : State :=
  let x := s.cqp r i
  if s.cqpRMode r i ≠ 2 ∨ x.token ∨ x.racked then s
  else match x.rbuf with
    | [] => s
    | w :: _ =>
      let s := s.setCqp r i { x with token := true, rd := w }
      if w.2.2 then s.cqpRerr r i else s

/-- A completion for a capture port of region `r` with this reference, if one waits. -/
def State.cqpDone (s : State) (r ref : Nat) : Option NetDone :=
  s.net.done.find? (fun d => d.node == regionNode r && d.rid == 0x20 + r && d.ref == ref)

/-- Both buffers of every capture port of region `r` emptied, and SENT to be restored (R367, R394). -/
def State.cqpReset (s : State) (r : Nat) : State :=
  let qs := (List.range 8).filterMap (fun i => if s.cqpWMode r i = 0 then none else some (s.fld (Reg.CQP_CFG_WQ r i)))
  let s := qs.foldl (fun s q => s.setCapCredit q { s.capCredit q with resync := true }) s
  { s with cqps := s.cqps.filter (fun e => e.1 / 8 != r)
           net := { s.net with done := s.net.done.filter (fun d => !(d.node == regionNode r && d.rid == 0x20 + r)) } }

end Sys2Proof.Machine
end

