-- ==== Sys2Proof/Machine/EngDecode.lean ====
section
/-! DEFINITION. The engine instructions and their decoding (chapter 8, R285–R287, R292–R294). -/

namespace Sys2Proof.Machine

/-- The instructions of an engine by name: the rows ENG_INSTR_* of the table. -/
inductive EngOp where
  | nop | done | halt | jmp | call | ret | rep | loop | nwait
  | macmMac | macmMsu | macmMpy | macmMpyn | macrMac | macrMsu | macrMpy | macrMpyn
  | add | sub | and | or | xor | shl | shr | asr | cmp | neg | abs
  | adda | suba | nega | absa | clra | asra | shla | sata | lda | ldal | mova | cmpa
  | ld | st | sta | ld2 | ldi | addi | cmpi | mov | maxi | mini | stream | nrd | nwr | nwrn
  deriving DecidableEq, Repr

/-- The multiply-accumulate operations (Table 8-8). -/
inductive MacOp where
  | mac | msu | mpy | mpyn
  deriving DecidableEq, Repr

/-- The D-form operations (Table 8-10). -/
inductive AluOp where
  | add | sub | and | or | xor | shl | shr | asr | cmp | neg | abs
  deriving DecidableEq, Repr

/-- The A-form operations that write or compare accumulators (Table 8-10). -/
inductive AccOp where
  | adda | suba | nega | absa | clra | asra | shla | sata | lda | ldal | cmpa
  deriving DecidableEq, Repr

/-- The network operations (Table 8-14). -/
inductive NetOp where
  | nrd | nwr | nwrn
  deriving DecidableEq, Repr

/-- What a multiply-accumulate word says of its product and accumulation (Table 8-6). -/
structure MacCtl where
  op : MacOp
  acc : Nat
  form : Nat
  frac : Bool
  sat : Bool
  deriving DecidableEq, Repr

/-- A data address of an instruction: pointer, modifier, mode of Table 7-6 in the numbering of Table 8-2. -/
structure EngAddr where
  p : Nat
  m : Nat
  mode : Nat
  deriving DecidableEq, Repr

/-- A decoded instruction. Register numbers are the fields of the word. -/
inductive EInstr where
  | nop | done | halt
  | jmp (cond target : Nat)
  | call (cond target : Nat)
  | ret (cond : Nat)
  | rep (n : Nat)
  | loop (step : Nat) (reg : Bool) (count ofs : Nat)
  | nwait (tag : Nat)
  | macm (c : MacCtl) (xa ya : EngAddr) (xd yd : Option Nat)
  | macr (c : MacCtl) (da db : Nat) (xa : Option (EngAddr × Nat)) (ya : Option (EngAddr × Nat))
  | alu (op : AluOp) (dd ds1 : Nat) (ds2 : Nat) (imm sat : Bool)
  | acc (op : AccOp) (ad as_ dx imm : Nat) (sat : Bool)
  | mova (as_ dx part : Nat) (rnd sat : Bool)
  | ld (dd : Nat) (a : EngAddr)
  | st (ds : Nat) (a : EngAddr)
  | sta (as_ part : Nat) (rnd sat : Bool) (a : EngAddr)
  | ld2 (dd1 : Nat) (a1 : EngAddr) (dd2 : Nat) (a2 : EngAddr)
  | ldi (reg imm : Nat)
  | addi (dd ds imm : Nat)
  | cmpi (ds imm : Nat)
  | mov (dst src : Nat)
  | search (min : Bool) (dm ds ix : Nat) (unsigned last : Bool) (index : Nat) (xa : Option EngAddr)
  | stream (rd0 rd1 : Option Nat) (wr0 wr1 : Option Nat)
  | net (op : NetOp) (desc tag pn lenw : Nat) (dofs : Option Nat)
  deriving DecidableEq, Repr

/-- The name of a decoded instruction. -/
def EInstr.op : EInstr → EngOp
  | .nop => .nop | .done => .done | .halt => .halt
  | .jmp _ _ => .jmp | .call _ _ => .call | .ret _ => .ret | .rep _ => .rep | .loop _ _ _ _ => .loop | .nwait _ => .nwait
  | .macm c _ _ _ _ => match c.op with
    | .mac => .macmMac | .msu => .macmMsu | .mpy => .macmMpy | .mpyn => .macmMpyn
  | .macr c _ _ _ _ => match c.op with
    | .mac => .macrMac | .msu => .macrMsu | .mpy => .macrMpy | .mpyn => .macrMpyn
  | .alu op _ _ _ _ _ => match op with
    | .add => .add | .sub => .sub | .and => .and | .or => .or | .xor => .xor | .shl => .shl | .shr => .shr | .asr => .asr
    | .cmp => .cmp | .neg => .neg | .abs => .abs
  | .acc op _ _ _ _ _ => match op with
    | .adda => .adda | .suba => .suba | .nega => .nega | .absa => .absa | .clra => .clra | .asra => .asra | .shla => .shla
    | .sata => .sata | .lda => .lda | .ldal => .ldal | .cmpa => .cmpa
  | .mova _ _ _ _ _ => .mova
  | .ld _ _ => .ld | .st _ _ => .st | .sta _ _ _ _ _ => .sta | .ld2 _ _ _ _ => .ld2
  | .ldi _ _ => .ldi | .addi _ _ _ => .addi | .cmpi _ _ => .cmpi | .mov _ _ => .mov
  | .search min _ _ _ _ _ _ _ => if min then .mini else .maxi
  | .stream _ _ _ _ => .stream
  | .net op _ _ _ _ _ => match op with
    | .nrd => .nrd | .nwr => .nwr | .nwrn => .nwrn

/-- The full address field ADDR9 (Table 8-2); none if it is reserved. -/
def addr9 (f : Nat) : Option EngAddr :=
  let mode := bitsOf f 3 3
  let m := bitsOf f 0 3
  if mode = 7 then none
  else if (mode = 0 ∨ mode = 1 ∨ mode = 2 ∨ mode = 5) ∧ m ≠ 0 then none
  else some ⟨bitsOf f 6 3, m, mode⟩

/-- The mode of Table 8-2 that a compact mode code stands for (Table 8-3). -/
def compactMode (c : Nat) : Nat := match c with
  | 0 => 0 | 1 => 1 | 2 => 3 | _ => 6

/-- A compact address field of MACM, MAXI and MINI, on side `base` (0 X, 4 Y) (R293, Table 8-3). -/
def compact (base f : Nat) : EngAddr := ⟨base + bitsOf f 2 2, base + bitsOf f 2 2, compactMode (bitsOf f 0 2)⟩

/-- A compact address field of MACR with its destination code: nothing for no fetch; none if reserved (Table 8-3). -/
def compactR (base f dst : Nat) : Option (Option (EngAddr × Nat)) :=
  if bitsOf f 0 2 = 0 then if f = 0 ∧ dst = 0 then some none else none
  else some (some (compact base f, 8 + dst))

/-- The multiply-accumulate fields of a word (Table 8-6). -/
def macCtl (w : Nat) : MacCtl :=
  { op := match bitsOf w 27 2 with
      | 0 => .mac | 1 => .msu | 2 => .mpy | _ => .mpyn
    acc := bitsOf w 25 2, form := bitsOf w 23 2, frac := hasBit w 22, sat := hasBit w 21 }

/-- A CTL word (Table 8-15). -/
def decodeCtl (w : Nat) : Option EInstr :=
  match bitsOf w 24 5 with
  | 0x00 => if bitsOf w 0 24 = 0 then some .nop else none
  | 0x01 => if bitsOf w 0 24 = 0 then some .done else none
  | 0x02 => if bitsOf w 0 24 = 0 then some .halt else none
  | 0x03 => if bitsOf w 20 4 = 0 ∧ bitsOf w 16 4 ≠ 15 ∧ bitsOf w 12 4 = 0 then some (.jmp (bitsOf w 16 4) (bitsOf w 0 12)) else none
  | 0x04 => if bitsOf w 20 4 = 0 ∧ bitsOf w 16 4 ≠ 15 ∧ bitsOf w 12 4 = 0 then some (.call (bitsOf w 16 4) (bitsOf w 0 12)) else none
  | 0x05 => if bitsOf w 20 4 = 0 ∧ bitsOf w 16 4 ≠ 15 ∧ bitsOf w 0 16 = 0 then some (.ret (bitsOf w 16 4)) else none
  | 0x06 => if bitsOf w 12 12 = 0 then some (.rep (bitsOf w 0 12 + 1)) else none
  | 0x07 =>
    let step := match bitsOf w 22 2 with
      | 0 => 0 | 1 => 1 | 2 => 2 | _ => 4
    if hasBit w 21 then
      if bitsOf w 12 9 = 0 then some (.loop step true (bitsOf w 8 4) (bitsOf w 0 8)) else none
    else if bitsOf w 8 13 ≤ 4096 then some (.loop step false (bitsOf w 8 13) (bitsOf w 0 8)) else none
  | 0x08 => if bitsOf w 2 22 = 0 then some (.nwait (bitsOf w 0 2)) else none
  | _ => none

/-- A MACM word (Table 8-6). -/
def decodeMacm (w : Nat) : Option EInstr :=
  if bitsOf w 0 3 ≠ 0 ∨ (!hasBit w 12 ∧ bitsOf w 8 4 ≠ 0) ∨ (!hasBit w 7 ∧ bitsOf w 3 4 ≠ 0) then none
  else some (.macm (macCtl w) (compact 0 (bitsOf w 17 4)) (compact 4 (bitsOf w 13 4))
    (if hasBit w 12 then some (bitsOf w 8 4) else none) (if hasBit w 7 then some (bitsOf w 3 4) else none))

/-- A MACR word (Table 8-7). -/
def decodeMacr (w : Nat) : Option EInstr :=
  if hasBit w 0 then none
  else
    match compactR 0 (bitsOf w 11 4) (bitsOf w 8 3), compactR 4 (bitsOf w 4 4) (bitsOf w 1 3) with
    | some x, some y => some (.macr (macCtl w) (8 + bitsOf w 18 3) (8 + bitsOf w 15 3) x y)
    | _, _ => none

/-- A D-form ALU word (Tables 8-9 and 8-10). -/
def decodeAluD (op : AluOp) (satOk unary : Bool) (w : Nat) : Option EInstr :=
  if bitsOf w 0 10 ≠ 0 ∨ (hasBit w 10 ∧ !satOk) ∨ (op = .cmp ∧ bitsOf w 20 4 ≠ 0) ∨
      (unary ∧ (bitsOf w 12 4 ≠ 0 ∨ hasBit w 11)) then none
  else some (.alu op (bitsOf w 20 4) (bitsOf w 16 4) (bitsOf w 12 4) (hasBit w 11) (hasBit w 10))

/-- An A-form ALU word (Tables 8-9 and 8-10): which of AS, DX and IMM4 the operation uses, and whether SAT is allowed. -/
def decodeAluA (op : AccOp) (useAs useDx useImm satOk : Bool) (w : Nat) : Option EInstr :=
  if bitsOf w 0 8 ≠ 0 ∨ bitsOf w 9 3 ≠ 0 ∨ (hasBit w 8 ∧ !satOk) ∨ (!useAs ∧ bitsOf w 20 2 ≠ 0) ∨
      (!useDx ∧ bitsOf w 16 4 ≠ 0) ∨ (!useImm ∧ bitsOf w 12 4 ≠ 0) then none
  else some (.acc op (bitsOf w 22 2) (bitsOf w 20 2) (bitsOf w 16 4) (bitsOf w 12 4) (hasBit w 8))

/-- PART, RND and SAT are allowed together (R302, Table 8-10). -/
def partOk (part : Nat) (rnd sat : Bool) : Bool := part != 3 && (part == 0 || (!rnd && !sat))

/-- An ALU word (Tables 8-9 and 8-10). -/
def decodeAlu (w : Nat) : Option EInstr :=
  match bitsOf w 24 5 with
  | 0x00 => decodeAluD .add true false w
  | 0x01 => decodeAluD .sub true false w
  | 0x02 => decodeAluD .and false false w
  | 0x03 => decodeAluD .or false false w
  | 0x04 => decodeAluD .xor false false w
  | 0x05 => decodeAluD .shl false false w
  | 0x06 => decodeAluD .shr false false w
  | 0x07 => decodeAluD .asr false false w
  | 0x08 => decodeAluD .cmp false false w
  | 0x09 => decodeAluD .neg true true w
  | 0x0A => decodeAluD .abs true true w
  | 0x10 => decodeAluA .adda true false false true w
  | 0x11 => decodeAluA .suba true false false true w
  | 0x12 => decodeAluA .nega true false false true w
  | 0x13 => decodeAluA .absa true false false true w
  | 0x14 => decodeAluA .clra false false false false w
  | 0x15 => decodeAluA .asra true false true false w
  | 0x16 => decodeAluA .shla true false true true w
  | 0x17 => decodeAluA .sata true false false true w
  | 0x18 => decodeAluA .lda false true false false w
  | 0x19 => decodeAluA .ldal false true false false w
  | 0x1A =>
    if bitsOf w 0 8 ≠ 0 ∨ bitsOf w 22 2 ≠ 0 ∨ bitsOf w 12 4 ≠ 0 ∨ !partOk (bitsOf w 10 2) (hasBit w 9) (hasBit w 8) then none
    else some (.mova (bitsOf w 20 2) (bitsOf w 16 4) (bitsOf w 10 2) (hasBit w 9) (hasBit w 8))
  | 0x1B => decodeAluA .cmpa true false false false w
  | _ => none

/-- A MEM word (Table 8-11). -/
def decodeMem (w : Nat) : Option EInstr :=
  match bitsOf w 26 3 with
  | 0 => if bitsOf w 0 13 ≠ 0 then none else (addr9 (bitsOf w 13 9)).map (.ld (bitsOf w 22 4))
  | 1 => if bitsOf w 0 13 ≠ 0 then none else (addr9 (bitsOf w 13 9)).map (.st (bitsOf w 22 4))
  | 2 =>
    if bitsOf w 0 11 ≠ 0 ∨ !partOk (bitsOf w 22 2) (hasBit w 21) (hasBit w 20) then none
    else (addr9 (bitsOf w 11 9)).map (.sta (bitsOf w 24 2) (bitsOf w 22 2) (hasBit w 21) (hasBit w 20))
  | 3 =>
    match addr9 (bitsOf w 13 9), addr9 (bitsOf w 0 9) with
    | some a, some b => some (.ld2 (bitsOf w 22 4) a (bitsOf w 9 4) b)
    | _, _ => none
  | _ => none

/-- A register code of Table 8-4 that may be a destination (R294). -/
def dstOk (c : Nat) : Bool := decide (c ≤ 52) && c != 48

/-- An IMM word (Table 8-12). -/
def decodeImm (w : Nat) : Option EInstr :=
  match bitsOf w 26 3 with
  | 0 => if bitsOf w 16 4 = 0 ∧ dstOk (bitsOf w 20 6) then some (.ldi (bitsOf w 20 6) (bitsOf w 0 16)) else none
  | 1 => if bitsOf w 16 2 = 0 then some (.addi (bitsOf w 22 4) (bitsOf w 18 4) (bitsOf w 0 16)) else none
  | 2 => if bitsOf w 16 2 = 0 ∧ bitsOf w 22 4 = 0 then some (.cmpi (bitsOf w 18 4) (bitsOf w 0 16)) else none
  | 3 =>
    if bitsOf w 0 14 = 0 ∧ dstOk (bitsOf w 20 6) ∧ bitsOf w 14 6 ≤ 52 then some (.mov (bitsOf w 20 6) (bitsOf w 14 6))
    else none
  | _ => none

/-- A MAXI or MINI word (Table 8-13). -/
def decodeSearch (min : Bool) (w : Nat) : Option EInstr :=
  let mem := hasBit w 10
  if bitsOf w 0 6 ≠ 0 ∨ 8 < bitsOf w 11 4 ∨ (mem ∧ bitsOf w 18 4 ≠ 0) ∨ (!mem ∧ bitsOf w 6 4 ≠ 0) then none
  else some (.search min (bitsOf w 22 4) (bitsOf w 18 4) (49 + bitsOf w 17 1) (hasBit w 16) (hasBit w 15) (bitsOf w 11 4)
    (if mem then some (compact 0 (bitsOf w 6 4)) else none))

/-- A register field with its enable: it must be 0 where the enable is 0. -/
def enabled (en : Bool) (f : Nat) : Option (Option Nat) :=
  if en then some (some f) else if f = 0 then some none else none

/-- An SPC word (Tables 8-13 and 8-14, R306). -/
def decodeSpc (w : Nat) : Option EInstr :=
  match bitsOf w 26 3 with
  | 0 => decodeSearch false w
  | 1 => decodeSearch true w
  | 2 =>
    if bitsOf w 0 6 ≠ 0 ∨ (bitsOf w 24 2 = 0 ∧ bitsOf w 14 2 = 0) ∨
        (bitsOf w 24 2 = 3 ∧ bitsOf w 20 4 = bitsOf w 16 4) then none
    else
      match enabled (hasBit w 25) (bitsOf w 20 4), enabled (hasBit w 24) (bitsOf w 16 4),
          enabled (hasBit w 15) (bitsOf w 10 4), enabled (hasBit w 14) (bitsOf w 6 4) with
      | some a, some b, some c, some d => some (.stream a b c d)
      | _, _, _, _ => none
  | 3 =>
    if hasBit w 15 ∨ bitsOf w 0 3 ≠ 0 then none
    else
      match enabled (hasBit w 3) (bitsOf w 4 4), bitsOf w 24 2 with
      | some o, 0 => some (.net .nrd (bitsOf w 21 3) (bitsOf w 19 2) (bitsOf w 16 3) (bitsOf w 8 7) o)
      | some o, 1 => some (.net .nwr (bitsOf w 21 3) (bitsOf w 19 2) (bitsOf w 16 3) (bitsOf w 8 7) o)
      | some o, 2 => some (.net .nwrn (bitsOf w 21 3) (bitsOf w 19 2) (bitsOf w 16 3) (bitsOf w 8 7) o)
      | _, _ => none
  | _ => none

/-- The instruction a 32-bit word encodes; none if the encoding is reserved (R285, R286). -/
def decodeEng (w : Nat) : Option EInstr :=
  match bitsOf w 29 3 with
  | 0 => decodeCtl w
  | 1 => decodeMacm w
  | 2 => decodeMacr w
  | 3 => decodeAlu w
  | 4 => decodeMem w
  | 5 => decodeImm w
  | 6 => decodeSpc w
  | _ => none

end Sys2Proof.Machine
end

