-- ==== Sys2Proof/Machine/EngOps.lean ====
section
/-! DEFINITION. The shared operations of engines (chapter 7): their registers, memories, products and accumulations,
addressing modes, errors, events and tasks. -/

namespace Sys2Proof.Machine

/-! ## Accessors -/

/-- Engine `e` exists. -/
def validEngine (e : Nat) : Bool := decide (e < 96)

/-- Engine `e`. -/
def State.eng (s : State) (e : Nat) : EngSt := Tbl.get .reset s.engs e

/-- The state with an engine changed. -/
def State.setEng (s : State) (e : Nat) (x : EngSt) : State := { s with engs := Tbl.put .reset s.engs e x }

/-- The engine runs in PIPELINED mode (Table 7-9). -/
def State.engPipe (s : State) (e : Nat) : Bool := s.on (Reg.ENG_CFG_LOOPMODE (e / 4) (e % 4))

/-- The 16-bit register with code `c` of Table 8-4 (physical D registers). -/
def EngSt.reg (x : EngSt) (c : Nat) : Nat := (Tbl.get (0 : Word16) x.regs c).toNat

/-- The engine with register `c` set. -/
def EngSt.setReg (x : EngSt) (c v : Nat) : EngSt := { x with regs := Tbl.put 0 x.regs c (BitVec.ofNat 16 v) }

/-- Codes of the registers that the text names. -/
def rcP (i : Nat) : Nat := 16 + i
def rcM (i : Nat) : Nat := 24 + i
def rcB (i : Nat) : Nat := 32 + i
def rcL (i : Nat) : Nat := 40 + i
def rcLC : Nat := 48
def rcWOFS : Nat := 51
def rcST : Nat := 52

/-- The physical register that a name Dk stands for (R258, R291). -/
def EngSt.phys (x : EngSt) (pipe : Bool) (k : Nat) : Nat :=
  if pipe && decide (8 ≤ k) && decide (k < 16) then 8 + (k - 8 + x.reg rcWOFS) % 8 else k

/-- The register that code `c` names, as the instruction reads it. -/
def EngSt.named (x : EngSt) (pipe : Bool) (c : Nat) : Nat := x.reg (x.phys pipe c)

/-- The engine with the register that code `c` names set: WOFS takes bits 2–0 and ST bits 8–0 (R294). `old` gives the
window offset that the names use. -/
def EngSt.setNamed (x old : EngSt) (pipe : Bool) (c v : Nat) : EngSt :=
  if c = rcWOFS then x.setReg c (v % 8)
  else if c = rcST then x.setReg c (v % 512)
  else x.setReg (old.phys pipe c) v

/-- Accumulator `a` as a signed number. -/
def EngSt.accInt (x : EngSt) (a : Nat) : Int := (Tbl.get (0 : Acc40) x.acc a).toInt

/-- Accumulator `a` as an unsigned 40-bit number. -/
def EngSt.accNat (x : EngSt) (a : Nat) : Nat := (Tbl.get (0 : Acc40) x.acc a).toNat

/-- The engine with accumulator `a` set, modulo 2^40. -/
def EngSt.setAcc (x : EngSt) (a : Nat) (v : Int) : EngSt := { x with acc := Tbl.put 0 x.acc a (BitVec.ofInt 40 v) }

/-- A 16-bit word as a signed number. -/
def s16 (v : Nat) : Int := if v < 0x8000 then (v : Int) else (v : Int) - 0x10000

/-- A number modulo 2^16. -/
def mod16 (v : Int) : Nat := (v % 0x10000).toNat

/-! ## Flags (Table 7-4) -/

def stZ : Nat := 0
def stN : Nat := 1
def stC : Nat := 2
def stV : Nat := 3
def stAG : Nat := 4
def stVS : Nat := 5
def stSV : Nat := 6
def stNE : Nat := 7
def stCAP : Nat := 8

/-- Flag `i` of ST. -/
def EngSt.flag (x : EngSt) (i : Nat) : Bool := hasBit (x.reg rcST) i

/-- The engine with flag `i` of ST set to a truth value. -/
def EngSt.setFlag (x : EngSt) (i : Nat) (b : Bool) : EngSt :=
  x.setReg rcST (if b then withBit (x.reg rcST) i else withoutBit (x.reg rcST) i)

/-- The engine with a sticky flag raised if `b`. -/
def EngSt.raiseFlag (x : EngSt) (i : Nat) (b : Bool) : EngSt := if b then x.setFlag i true else x

/-- Z and N of a 16-bit result. -/
def EngSt.flags16 (x : EngSt) (v : Nat) : EngSt := (x.setFlag stZ (v == 0)).setFlag stN (hasBit v 15)

/-- A number clamped to the signed 32-bit range. -/
def clamp32 (t : Int) : Int := max (-0x80000000) (min 0x7FFFFFFF t)

/-- The number lies within the signed 40-bit range. -/
def fits40 (t : Int) : Bool := decide (-0x8000000000 ≤ t) && decide (t ≤ 0x7FFFFFFFFF)

/-- An exact result is stored in accumulator `a` (R244, R300, R312): V, VS, AG and SV, and Z and N of what is stored. -/
def EngSt.storeAcc (x : EngSt) (a : Nat) (t : Int) (sat : Bool) : EngSt :=
  let x := if sat then ((x.setAcc a (clamp32 t)).setFlag stV false).raiseFlag stSV (clamp32 t != t)
    else ((x.setAcc a t).setFlag stV (!fits40 t)).raiseFlag stVS (!fits40 t)
  let v := x.accInt a
  ((x.setFlag stAG (clamp32 v != v)).setFlag stZ (v == 0)).setFlag stN (decide (v < 0))

/-- The carry of a 40-bit addition, or the absence of a borrow of a subtraction (R312). -/
def carry40 (sub : Bool) (a b : Nat) : Bool := if sub then decide (b ≤ a) else decide (2 ^ 40 ≤ a + b)

/-- The product of two words in a form, doubled with FRAC (R243, Table 7-7). -/
def product (form : Nat) (frac : Bool) (a b : Nat) : Int :=
  let u := if form = 0 ∨ form = 1 then s16 a else (a : Int)
  let v := if form = 0 ∨ form = 2 then s16 b else (b : Int)
  if frac then 2 * (u * v) else u * v

/-- A multiply-accumulate of two words (R244, R296, R297, R312). -/
def EngSt.mac (x : EngSt) (c : MacCtl) (a b : Nat) : EngSt :=
  let p := product c.form c.frac a b
  let u := (p % 2 ^ 40).toNat
  match c.op with
  | .mac => (x.setFlag stC (carry40 false (x.accNat c.acc) u)).storeAcc c.acc (x.accInt c.acc + p) c.sat
  | .msu => (x.setFlag stC (carry40 true (x.accNat c.acc) u)).storeAcc c.acc (x.accInt c.acc - p) c.sat
  | .mpy => x.storeAcc c.acc p c.sat
  | .mpyn => x.storeAcc c.acc (-p) c.sat

/-- The word that a store of PART of accumulator `a` writes, and whether a clamp changed the value (R245). -/
def EngSt.part (x : EngSt) (a part : Nat) (rnd sat : Bool) : Nat × Bool :=
  match part with
  | 0 =>
    let t := x.accInt a + (if rnd then 0x8000 else 0)
    let c := if sat then clamp32 t else t
    (mod16 (c / 0x10000), c != t)
  | 1 => (x.accNat a % 2 ^ 16, false)
  | _ => (mod16 (x.accInt a / 2 ^ 32), false)

/-! ## Addresses (Table 7-6) -/

/-- The circular step of R242 for pointer `p`, from the exact sum (assumption 31). -/
def EngSt.circ (x : EngSt) (p : Nat) (sum : Int) : Nat :=
  let b : Int := x.reg (rcB p)
  let l : Int := x.reg (rcL p) / 2 * 2
  if l = 0 then mod16 sum
  else if b + l ≤ sum then mod16 (sum - l)
  else if sum < b then mod16 (sum + l)
  else mod16 sum

/-- The address that an address field uses. -/
def EngSt.addr (x : EngSt) (a : EngAddr) : Nat :=
  if a.mode = 4 then mod16 (x.reg (rcP a.p) + s16 (x.reg (rcM a.m))) else x.reg (rcP a.p)

/-- The pointer afterwards (Table 7-6). -/
def EngSt.pointerAfter (x : EngSt) (a : EngAddr) : Nat :=
  let p : Int := x.reg (rcP a.p)
  let m := s16 (x.reg (rcM a.m))
  match a.mode with
  | 1 => mod16 (p + 2)
  | 2 => mod16 (p - 2)
  | 3 => mod16 (p + m)
  | 5 => x.circ a.p (p + 2)
  | 6 => x.circ a.p (p + m)
  | _ => x.reg (rcP a.p)

/-- The engine with the pointer of an address field updated, from the registers `old` before the instruction (R288). -/
def EngSt.bump (x old : EngSt) (a : EngAddr) : EngSt :=
  if a.mode = 0 ∨ a.mode = 4 then x else x.setReg (rcP a.p) (old.pointerAfter a)

/-- A condition of Table 8-5. -/
def EngSt.cond (x : EngSt) (c : Nat) : Bool :=
  let z := x.flag stZ; let n := x.flag stN; let cf := x.flag stC
  match c with
  | 0 => true | 1 => z | 2 => !z | 3 => n | 4 => !n | 5 => !n && !z | 6 => n || z | 7 => cf | 8 => !cf
  | 9 => cf && !z | 10 => x.flag stV | 11 => x.flag stAG | 12 => x.flag stCAP | 13 => !x.flag stCAP | 14 => x.flag stNE
  | _ => false

/-! ## Operations of Table 8-10 and of the search instructions -/

/-- A clamp to the signed 16-bit range. -/
def clamp16 (t : Int) : Int := max (-0x8000) (min 0x7FFF t)

/-- The engine with the exact 16-bit result `t` written to physical register `d` (R298): its word, Z, N, and SV. -/
def EngSt.store16 (x : EngSt) (d : Nat) (t : Int) (sat : Bool) : EngSt :=
  let c := if sat then clamp16 t else t
  ((x.setReg d (mod16 c)).flags16 (mod16 c)).raiseFlag stSV (c != t)

/-- The comparison of R303: signed and unsigned. -/
def EngSt.compare16 (x : EngSt) (a b : Nat) : EngSt :=
  ((x.setFlag stZ (a == b)).setFlag stN (decide (s16 a < s16 b))).setFlag stC (decide (b ≤ a))

/-- A D-form operation on words `a` and `b`, to physical register `d` (R298, R299, R312). -/
def EngSt.alu (x : EngSt) (op : AluOp) (d a b : Nat) (sat : Bool) : EngSt :=
  let k := b % 16
  let shifted := fun (v : Nat) (c : Bool) =>
    let x := (x.setReg d v).flags16 (v % 2 ^ 16)
    if k = 0 then x else x.setFlag stC c
  match op with
  | .add => (x.store16 d (s16 a + s16 b) sat).setFlag stC (decide (2 ^ 16 ≤ a + b))
  | .sub => (x.store16 d (s16 a - s16 b) sat).setFlag stC (decide (b ≤ a))
  | .and => (x.setReg d (a &&& b)).flags16 (a &&& b)
  | .or => (x.setReg d (a ||| b)).flags16 (a ||| b)
  | .xor => (x.setReg d (a ^^^ b)).flags16 (a ^^^ b)
  | .shl => shifted (a * 2 ^ k % 2 ^ 16) (hasBit a (16 - k))
  | .shr => shifted (a / 2 ^ k) (hasBit a (k - 1))
  | .asr => shifted (mod16 (s16 a / 2 ^ k)) (hasBit a (k - 1))
  | .cmp => x.compare16 a b
  | .neg => x.store16 d (-s16 a) sat
  | .abs => x.store16 d (if s16 a < 0 then -s16 a else s16 a) sat

/-- An A-form operation (R300, R303, R312): destination `ad`, source `as_`, D operand `dx`, shift count `imm`. -/
def EngSt.accOp (x : EngSt) (op : AccOp) (ad as_ dx imm : Nat) (sat : Bool) : EngSt :=
  let a := x.accInt ad
  let b := x.accInt as_
  match op with
  | .adda => (x.setFlag stC (carry40 false (x.accNat ad) (x.accNat as_))).storeAcc ad (a + b) sat
  | .suba => (x.setFlag stC (carry40 true (x.accNat ad) (x.accNat as_))).storeAcc ad (a - b) sat
  | .nega => x.storeAcc ad (-b) sat
  | .absa => x.storeAcc ad (if b < 0 then -b else b) sat
  | .clra => x.storeAcc ad 0 false
  | .asra => x.storeAcc ad (b / 2 ^ imm) false
  | .shla => x.storeAcc ad (b * 2 ^ imm) sat
  | .sata => x.storeAcc ad b true
  | .lda => x.storeAcc ad (s16 dx * 2 ^ 16) false
  | .ldal => x.storeAcc ad (s16 dx) false
  | .cmpa => (x.setFlag stZ (a == b)).setFlag stN (decide (a < b))

/-- An improvement of a search (R304). -/
def improves (min unsigned last : Bool) (v d : Nat) : Bool :=
  let a : Int := if unsigned then (v : Int) else s16 v
  let b : Int := if unsigned then (d : Int) else s16 d
  if last && a == b then true else if min then decide (a < b) else decide (b < a)

/-! ## What an instruction does -/

/-- The data addresses that an instruction reads. -/
def EngSt.reads (x : EngSt) : EInstr → List Nat
  | .macm _ xa ya _ _ => [x.addr xa, x.addr ya]
  | .macr _ _ _ xa ya => (xa.map (fun y => x.addr y.1)).toList ++ (ya.map (fun y => x.addr y.1)).toList
  | .ld _ a => [x.addr a]
  | .ld2 _ a _ b => [x.addr a, x.addr b]
  | .search _ _ _ _ _ _ _ xa => (xa.map x.addr).toList
  | .net op _ _ pn lenw _ =>
    if op = .nrd then [] else (List.range (lenw + 1)).map (fun i => x.reg (rcP pn) + 2 * i)
  | _ => []

/-- The data addresses that an instruction writes. -/
def EngSt.writes (x : EngSt) : EInstr → List Nat
  | .st _ a | .sta _ _ _ _ a => [x.addr a]
  | _ => []

/-- The registers after an instruction that is not a jump, call, return, REP, LOOP or DONE, and the words it stores. `m`
reads a word of data memory. -/
def EngSt.effect (x : EngSt) (pipe : Bool) (m : Nat → Nat) : EInstr → EngSt × List (Nat × Nat)
  | .macm c xa ya xd yd =>
    let a := m (x.addr xa)
    let b := m (x.addr ya)
    let y := ((x.mac c a b).bump x xa).bump x ya
    let y := match xd with | some d => y.setNamed x pipe d a | none => y
    (match yd with | some d => y.setNamed x pipe d b | none => y, [])
  | .macr c da db xa ya =>
    let y := x.mac c (x.named pipe da) (x.named pipe db)
    let load := fun (y : EngSt) (f : Option (EngAddr × Nat)) =>
      match f with
      | some (a, d) => (y.bump x a).setNamed x pipe d (m (x.addr a))
      | none => y
    (load (load y xa) ya, [])
  | .alu op dd ds1 ds2 imm sat =>
    (x.alu op (x.phys pipe dd) (x.named pipe ds1) (if imm then ds2 else x.named pipe ds2) sat, [])
  | .acc op ad as_ dx imm sat => (x.accOp op ad as_ (x.named pipe dx) imm sat, [])
  | .mova as_ dx part rnd sat =>
    let (v, c) := x.part as_ part rnd sat
    ((x.setNamed x pipe dx v).raiseFlag stSV c, [])
  | .ld dd a => ((x.setNamed x pipe dd (m (x.addr a))).bump x a, [])
  | .st ds a => (x.bump x a, [(x.addr a, x.named pipe ds)])
  | .sta as_ part rnd sat a =>
    let (v, c) := x.part as_ part rnd sat
    ((x.bump x a).raiseFlag stSV c, [(x.addr a, v)])
  | .ld2 dd1 a dd2 b =>
    ((((x.setNamed x pipe dd1 (m (x.addr a))).bump x a).setNamed x pipe dd2 (m (x.addr b))).bump x b, [])
  | .ldi reg imm => (x.setNamed x pipe reg imm, [])
  | .addi dd ds imm =>
    let a := x.named pipe ds
    (((x.setNamed x pipe dd ((a + imm) % 2 ^ 16)).flags16 ((a + imm) % 2 ^ 16)).setFlag stC (decide (2 ^ 16 ≤ a + imm)), [])
  | .cmpi ds imm => (x.compare16 (x.named pipe ds) imm, [])
  | .mov dst src => (x.setNamed x pipe dst (x.named pipe src), [])
  | .search min dm ds ix u last index xa =>
    let v := match xa with | some a => m (x.addr a) | none => x.named pipe ds
    let hit := improves min u last v (x.named pipe dm)
    let y := match xa with | some a => x.bump x a | none => x
    let y := y.setFlag stCAP hit
    (if hit then (y.setNamed x pipe dm v).setReg ix (if index = 8 then x.reg rcLC else x.reg (rcP index)) else y, [])
  | .stream rd0 rd1 wr0 wr1 =>
    let y := match wr0 with | some d => { x with so0 := ⟨x.named pipe d, true, false⟩ } | none => x
    let y := match wr1 with | some d => { y with so1 := ⟨x.named pipe d, true, false⟩ } | none => y
    let y := match rd0 with
      | some d => { y.setNamed x pipe d x.si0.data with si0 := { x.si0 with full := false } } | none => y
    (match rd1 with
      | some d => { y.setNamed x pipe d x.si1.data with si1 := { x.si1 with full := false } } | none => y, [])
  | .halt => ({ x with haltPend := true }, [])
  | _ => (x, [])

/-! ## Fault causes (Table 7-14) and waits (R248, R251) -/

def causeIllop : Nat := 1
def causeMode : Nat := 2
def causeAddr : Nat := 3
def causeEcc : Nat := 4
def causeLoop : Nat := 5
def causeCall : Nat := 6
def causePcwrap : Nat := 7

/-- An instruction that a REP must not repeat (R254). -/
def EInstr.unrepeatable : EInstr → Bool
  | .jmp _ _ | .call _ _ | .ret _ | .rep _ | .loop _ _ _ _ | .done | .halt | .nwait _ => true
  | _ => false

/-- The instruction is not allowed in this mode; `next` is the word after it (R254, R294, R309). -/
def modeFault (pipe : Bool) (next : Option EInstr) : EInstr → Bool
  | .loop _ _ _ _ => !pipe
  | .rep _ => pipe || next.elim false EInstr.unrepeatable
  | .ldi reg _ => reg == rcWOFS && !pipe
  | .mov dst _ => dst == rcWOFS && !pipe
  | _ => false

/-- A bad data address, or a bad network buffer (R238, R250, R307). -/
def EngSt.addrFault (x : EngSt) (i : EInstr) : Bool :=
  match i with
  | .net _ _ _ pn lenw _ =>
    let b := x.reg (rcP pn)
    let last := b + 2 * (lenw + 1) - 1
    b % 2 == 1 || decide (0x10000 ≤ last) || b / 0x8000 != last / 0x8000
  | _ => (x.reads i ++ x.writes i).any (fun a => a % 2 == 1)

/-- The count of a LOOP. -/
def EngSt.loopCount (x : EngSt) (pipe reg : Bool) (count : Nat) : Nat := if reg then x.named pipe count else count

/-- A LOOP that is too deep, too long or badly nested (R255, R257, R309). -/
def EngSt.loopFault (x : EngSt) (pipe : Bool) (i : EInstr) : Bool :=
  match i with
  | .loop _ reg count ofs =>
    decide (2 ≤ x.loops.length) || decide (4096 < x.loopCount pipe reg count) || decide (4095 < x.pc + 1 + ofs) ||
      (match x.loops with
        | l :: _ => decide (l.stop < x.pc + 1 + ofs)
        | [] => false)
  | _ => false

/-- A call too deep, or a return with nothing stacked (R308). -/
def EngSt.callFault (x : EngSt) (i : EInstr) : Bool :=
  match i with
  | .call c _ => x.cond c && decide (4 ≤ x.calls.length)
  | .ret c => x.cond c && x.calls.isEmpty
  | _ => false

/-- What an iteration boundary at `pc` leaves of the active loops (R256): the loops, LC, WOFS, and the start of the body
that goes on, if one does. -/
def loopBoundary (pc : Nat) : List EngLoop → Nat → Nat → List EngLoop × Nat × Nat × Option Nat
  | [], lc, wofs => ([], lc, wofs, none)
  | l :: t, lc, wofs =>
    if l.stop ≠ pc then (l :: t, lc, wofs, none)
    else
      let wofs := (wofs + l.step) % 8
      if lc = 1 then loopBoundary pc t l.saved wofs
      else (l :: t, (lc + 0x1FFF) % 0x2000, wofs, some l.start)

/-- The loops left after a transfer to `target` (R257), with LC restored. -/
def exitLoops (target : Nat) : List EngLoop → Nat → List EngLoop × Nat
  | [], lc => ([], lc)
  | l :: t, lc =>
    if l.start ≤ target ∧ target ≤ l.stop then (l :: t, lc) else exitLoops target t l.saved

/-- A transfer of control: the target of a taken jump, call or return. -/
def EngSt.target (x : EngSt) : EInstr → Option Nat
  | .jmp c t => if x.cond c then some t else none
  | .call c t => if x.cond c then some t else none
  | .ret c => if x.cond c then x.calls.head? else none
  | _ => none

/-- The instruction would leave 4,096 as the next address (R239). -/
def EngSt.wrapFault (x : EngSt) (pipe : Bool) (i : EInstr) : Bool :=
  match i with
  | .done => false
  | .call c _ => x.pc == 4095
      && (x.cond c || (loopBoundary x.pc x.loops (x.reg rcLC) 0).2.2.2.isNone)
  | .loop _ reg count ofs => x.loopCount pipe reg count == 0 && x.pc + 1 + ofs == 4095
  | _ =>
    x.pc == 4095 && (x.target i).isNone && !(x.rep && x.reg rcLC != 1) &&
      (x.rep || (loopBoundary x.pc x.loops (x.reg rcLC) 0).2.2.2.isNone)

/-- The first fault cause, other than those of fetches and data reads, that an instruction meets (R287). -/
def EngSt.cause (x : EngSt) (pipe : Bool) (next : Option EInstr) (i : EInstr) : Option Nat :=
  if modeFault pipe next i then some causeMode
  else if x.addrFault i then some causeAddr
  else if x.loopFault pipe i then some causeLoop
  else if x.callFault i then some causeCall
  else if x.wrapFault pipe i then some causePcwrap
  else none

/-- Tag `t` is busy (R251). -/
def EngSt.tagBusy (x : EngSt) (t : Nat) : Bool := (Tbl.get none x.tags t).isSome

/-- What an instruction waits for, as ENG_STATUS.WAIT shows it: SI0, SI1, SO0, SO1, a network tag (R248, R251, R252). -/
def EngSt.waits (x : EngSt) : EInstr → Nat
  | .stream rd0 rd1 wr0 wr1 =>
    bit (rd0.isSome && !x.si0.full) + 2 * bit (rd1.isSome && !x.si1.full) + 4 * bit (wr0.isSome && x.so0.full) +
      8 * bit (wr1.isSome && x.so1.full)
  | .net _ _ tag _ _ _ => 16 * bit (x.tagBusy tag)
  | .nwait tag => 16 * bit (x.tagBusy tag)
  | _ => 0

/-! ## Memories -/

/-- The window of engine `e` (chapter 1). -/
def engBase (e : Nat) : Nat := 0x1100000 + 0x200000 * (e / 4) + 0x40000 * (e % 4)

/-- The address of instruction `pc` of program bank `bank`. -/
def engCode (e bank pc : Nat) : Nat := engBase e + 0x4000 * bank + 4 * pc

/-- The address of byte `a` of the data space. -/
def engData (e a : Nat) : Nat := engBase e + 0x10000 + a

/-- A word of the data space. -/
def State.engWord (s : State) (e a : Nat) : Nat := s.bytes (engData e a) 2

/-- The content of ENG_ECCADDR for the code word at offset `off` of the engine window: LOC and MEM (Table 6-8). -/
def engEccAddr (off finder : Nat) : Nat :=
  finder * 2 ^ 18 +
    (if off < 0x4000 then off / 4
     else if off < 0x8000 then (off - 0x4000) / 4 + 1 * 2 ^ 16
     else if off < 0x18000 then (off - 0x10000) / 2 + 2 * 2 ^ 16
     else (off - 0x18000) / 2 + 3 * 2 ^ 16)

/-- A code word of an engine memory is read: errors are recorded (R210, R231). Answers whether it is uncorrectable. -/
def State.engCheck (s : State) (e a finder : Nat) : State × Bool :=
  let v := s.mark a
  if v = 0 then (s, false)
  else (s.eccEvent (engPlace (e / 4) (e % 4)) (engEccAddr (a - engBase e) finder) (decide (2 ≤ v)), decide (2 ≤ v))

/-- Several code words are read. -/
def State.engCheckAll (s : State) (e finder : Nat) : List Nat → State × Bool
  | [] => (s, false)
  | a :: t =>
    let (s, u) := s.engCheck e a finder
    let (s, v) := s.engCheckAll e finder t
    (s, u || v)

/-- A whole word is written to the data space: it ends an error there (R215). -/
def State.engStore (s : State) (e : Nat) : List (Nat × Nat) → State
  | [] => s
  | (a, v) :: t => ((s.setBytes (engData e a) v 2).setMark (engData e a) 0).engStore e t

/-! ## Errors, faults, events -/

/-- The severities of Table 7-15. -/
def engSev (i : Nat) : Sev :=
  match i with
  | 0 | 1 | 2 => .fault
  | 3 => .degraded
  | _ => .notice

/-- Error bit `i` of engine `e` occurs (R280). -/
def State.engErr (s : State) (e i : Nat) : State :=
  let r := e / 4
  let k := e % 4
  s.errBit ⟨Reg.ENG_ERR r k, i, 1⟩ (hasBit (s.fld (Reg.ENG_ERRCTL_MASK r k)) i) (srcEngine e) (engSev i) i
    (fun s => (s.rd (Reg.ENG_FAULT r k)).toNat + (s.eng e).pc * 2 ^ 32)

/-- The engine enters FAULT with a cause (R271, R278). The instruction has no effect; pending events are cancelled. -/
def State.engFault (s : State) (e cause : Nat) : State :=
  let r := e / 4
  let k := e % 4
  let x := s.eng e
  let s := ((s.setFld (Reg.ENG_FAULT_CAUSE r k) cause).setFld (Reg.ENG_FAULT_BANK r k) x.bank).setFld (Reg.ENG_FAULT_PC r k) x.pc
  let s := s.setEng e { x with st := .fault, swapPend := none, haltPend := false, bpRaised := false, stepping := false, wait := 0 }
  s.engErr e 0

/-- Both stacks emptied, LC and WOFS set to 0 (R237, R268). -/
def EngSt.clearStacks (x : EngSt) : EngSt :=
  { (x.setReg rcLC 0).setReg rcWOFS 0 with loops := [], calls := [], rep := false }

/-- A swap takes effect (R268). -/
def EngSt.swap (x : EngSt) (entry : Nat) : EngSt :=
  let x := { x with bank := 1 - x.bank, swapPend := none }
  if x.cur then { x.clearStacks with pc := entry } else x

/-- The events of an event point are taken, the swap first and the halt second (R259). -/
def EngSt.events (x : EngSt) : EngSt :=
  let x := match x.swapPend with
    | some (false, entry) => x.swap entry
    | _ => x
  if x.haltPend || x.bpRaised || x.stepping then
    { x with st := .halt, haltPend := false, bpRaised := false, stepping := false }
  else x

/-- In IDLE with nothing outstanding, events are taken at once (R259). -/
def EngSt.idleEvents (x : EngSt) : EngSt := if x.st = .idle ∧ x.tasks.isEmpty then x.events else x

/-- The current task ends: a swap that waits for it takes effect (R267, R269). `any` lets a swap that waits for an event
point take effect too. -/
def EngSt.endTask (x : EngSt) (any : Bool) : EngSt :=
  let x := { x with tasks := if x.cur then x.tasks.tail else x.tasks, cur := false }
  match x.swapPend with
  | some (w, entry) => if w || any then x.swap entry else x
  | none => x

/-- The retirement of the instruction at `pc` of bank `bank` raises a breakpoint (R273). -/
def State.breakpoint (s : State) (e pc bank : Nat) : Bool :=
  let r := e / 4
  let k := e % 4
  (s.on (Reg.ENG_DBG_BPEN0 r k) && s.fld (Reg.ENG_BP_ADDR r k 0) == pc && s.fld (Reg.ENG_BP_BANK r k 0) == bank) ||
  (s.on (Reg.ENG_DBG_BPEN1 r k) && s.fld (Reg.ENG_BP_ADDR r k 1) == pc && s.fld (Reg.ENG_BP_BANK r k 1) == bank)

/-- The instruction at PC is the last one of the innermost active loop's body (R256). -/
def EngSt.atLoopEnd (x : EngSt) : Bool := x.loops.head?.elim false (fun l => l.stop == x.pc)

/-- The iteration boundary at PC is taken (R256): the engine after it, and the start of the body that goes on, if one does. -/
def EngSt.pastBoundary (x : EngSt) : EngSt × Option Nat :=
  let (loops, lc, wofs, back) := loopBoundary x.pc x.loops (x.reg rcLC) (x.reg rcWOFS)
  ({ (x.setReg rcLC lc).setReg rcWOFS wofs with loops := loops }, back)

/-- Where the engine goes on after an instruction other than DONE, from the registers `x` before it and `y` after its
effect (R254–R257): the engine, and whether the retirement is an event point. -/
def EngSt.advance (x y : EngSt) (pipe : Bool) (i : EInstr) : EngSt × Bool :=
  let pc := x.pc
  if x.rep then
    let lc := x.reg rcLC - 1
    let y := y.setReg rcLC lc
    if lc = 0 then ({ y with rep := false, pc := pc + 1 }, true) else (y, false)
  else
    match i with
    | .rep n => ({ y.setReg rcLC n with rep := true, pc := pc + 1 }, false)
    | .loop step reg count ofs =>
      let n := x.loopCount pipe reg count
      if n = 0 then ({ y with pc := pc + 2 + ofs }, x.loops.isEmpty)
      else ({ y.setReg rcLC n with loops := ⟨pc + 1, pc + 1 + ofs, x.reg rcLC, step⟩ :: y.loops, pc := pc + 1 }, false)
    | _ =>
      let boundary := pipe && x.atLoopEnd
      let (y, back) := if boundary then
          ({ y.setReg rcLC (x.reg rcLC) with loops := x.loops, pc := pc }).pastBoundary
        else (y, none)
      match x.target i with
      | some t =>
        let calls := match i with
          | .call _ _ => (pc + 1) :: y.calls
          | .ret _ => y.calls.tail
          | _ => y.calls
        let (loops, lc) := match i with
          | .call _ _ => (y.loops, y.reg rcLC)
          | _ => exitLoops t y.loops (y.reg rcLC)
        ({ y.setReg rcLC lc with pc := t, calls := calls, loops := loops }, boundary || x.loops.isEmpty)
      | none => ({ y with pc := back.getD (pc + 1) }, boundary || x.loops.isEmpty)

/-- DONE retires (R256, R259, R262, R264, R310): at the innermost loop's end address it is an iteration boundary like any other; the
task ends, and it was late if its window has ended. -/
def State.engDone (s : State) (e : Nat) : State :=
  let r := e / 4
  let k := e % 4
  let sat := Reg.ENG_ERR_CNT_SAT r k
  let x := s.eng e
  let s := s.count (Reg.ENG_TASKDONE_COUNT r k) sat
  let s := if x.tasks.head?.elim false (·.ended) then s.count (Reg.ENG_TASKLATE_COUNT r k) sat else s
  let boundary := s.engPipe e && x.atLoopEnd
  let point := boundary || x.loops.isEmpty
  let x := ((if boundary then x.pastBoundary.1 else x).endTask false)
  let x := { x with st := .idle }
  -- the next instruction is the ENTRY of the next task; with none, the spec states no PC
  let (s, pc) := match x.tasks with
    | t :: _ => (s, t.entry)
    | [] => (s.tookFree, (s.freeBits 12).toNat)
  let x := { x with pc := pc }
  s.setEng e (if point then x.events else x.idleEvents)

/-- An instruction retires: it is counted, its registers `y` and its place are taken, and breakpoints and events follow
(R236, R254–R259, R273). -/
def State.engRetire (s : State) (e : Nat) (y : EngSt) (i : EInstr) : State :=
  let x := s.eng e
  let bp := s.breakpoint e x.pc x.bank
  let s := s.count (Reg.ENG_RETIRED_COUNT (e / 4) (e % 4)) (Reg.ENG_ERR_CNT_SAT (e / 4) (e % 4))
  let y := { y with st := .run, wait := 0, bpRaised := y.bpRaised || bp }
  match i with
  | .done => (s.setEng e y).engDone e
  | _ =>
    let (y, point) := x.advance y (s.engPipe e) i
    s.setEng e (if point then y.events else y)

/-! ## The network port -/

/-- The network request of a NET instruction (R250, R307). -/
def State.engRequest (s : State) (e : Nat) (op : NetOp) (desc tag pn lenw : Nat) (dofs : Option Nat) : NetRequest :=
  let r := e / 4
  let k := e % 4
  let x := s.eng e
  let len := 2 * (lenw + 1)
  let ofs := dofs.elim 0 (x.named (s.engPipe e))
  { rid := 0x40 + e, ref := tag
    opc := match op with | .nrd => opRd | .nwr => opWrp | .nwrn => opWr
    entry := s.fld (Reg.ENG_NDESC_ROUTE r k desc), toRtr := false, pri := s.fld (Reg.ENG_NDESC_PRI r k desc)
    addr := (s.fld (Reg.ENG_NADDR_ADDR r k desc) + ofs) % 2 ^ 48
    len := len
    data := if op = .nrd then 0 else s.bytes (engData e (x.reg (rcP pn))) len }

/-- The retired instruction is a NET: its tag is busy from now on (R251). -/
def EngSt.takeTag (y : EngSt) (q : NetRequest) (buf : Nat) : EngSt :=
  let y := { y with tags := Tbl.put none y.tags q.ref (some ⟨q.opc, buf, q.len⟩) }
  if q.opc = opWrp then { y with posted := y.posted ++ [(q.ref, channelOf 2 q.pri, if 248 < q.len then 2 else 1)] } else y

/-- A tag completes with a status (R251). -/
def State.freeEngTag (s : State) (e t : Nat) (c : Code) : State :=
  let x := s.eng e
  let f : Fld := ⟨Reg.ENG_NSTAT (e / 4) (e % 4), 4 * t, 4⟩
  (s.setFld f c.num).setEng e { x with tags := Tbl.put none x.tags t none, posted := x.posted.filter (fun p => p.1 != t) }

/-! ## Running an instruction -/

/-- The instruction at `pc` of bank `bank`, as decoded. -/
def State.engFetch (s : State) (e bank pc : Nat) : Option EInstr := decodeEng (s.bytes (engCode e bank pc) 4)

/-- The interface takes the request of a NET instruction: it does not wait for a tag of the interface (R251, R324). -/
def State.netEnters (s : State) (e : Nat) : EInstr → Bool
  | .net op desc tag pn lenw dofs => (s.niIssue (regionNode (e / 4)) 0 (s.engRequest e op desc tag pn lenw dofs)).2
  | _ => true

/-- An instruction whose fault causes and waits are past executes and retires (R248, R252, R287, R307): the data that it reads are
checked once its waits have ended. -/
def State.engComplete (s : State) (e : Nat) (i : EInstr) : State :=
  let x := s.eng e
  let pipe := s.engPipe e
  if !s.netEnters e i then s.setEng e { x with st := .stall, wait := 16 }
  else
  let (s, ue) := s.engCheckAll e 0 ((x.reads i).map (engData e))
  if ue then s.engFault e causeEcc
  else
    let (y, stores) := x.effect pipe (s.engWord e) i
    match i with
    | .net op desc tag pn lenw dofs =>
      let q := s.engRequest e op desc tag pn lenw dofs
      (s.niIssue (regionNode (e / 4)) 0 q).1.engRetire e (y.takeTag q (x.reg (rcP pn))) i
    | .nwait tag =>
      let bad := bitsOf (s.fld (Reg.ENG_NSTAT_CODE (e / 4) (e % 4))) (4 * tag) 4 != 0
      let s := if bad then s.engErr e 6 else s
      s.engRetire e (y.raiseFlag stNE bad) i
    | _ => (s.engStore e stores).engRetire e y i

/-- The word that a REP would repeat; none where no word follows, where its encoding is reserved, or where its fetch finds
an uncorrectable error (R254). -/
def State.engNext (s : State) (e : Nat) (x : EngSt) : Option EInstr :=
  if x.pc = 4095 ∨ 2 ≤ s.mark (engCode e x.bank (x.pc + 1)) then none else s.engFetch e x.bank (x.pc + 1)

/-- An instruction that has been reached: its fault causes, then its waits, then its effect (R287). -/
def State.engReach (s : State) (e : Nat) (i : EInstr) : State :=
  let x := s.eng e
  match x.cause (s.engPipe e) (s.engNext e x) i with
  | some c => s.engFault e c
  | none =>
    if x.waits i ≠ 0 then s.setEng e { x with st := .stall, wait := x.waits i } else s.engComplete e i

/-- Engine `e` executes the instruction at PC if that instruction is `op`. A word with an uncorrectable error, or with a
reserved encoding, is no instruction of any name: it puts the engine in FAULT whichever is commanded (R278, R286, R287). -/
def State.engInstr (s : State) (e : Nat) (op : EngOp) : State :=
  let x := s.eng e
  if !validEngine e || x.st != .run then s
  else
    let a := engCode e x.bank x.pc
    match s.engFetch e x.bank x.pc with
    | some i =>
      if s.mark a = 2 || i.op == op then
        let (s, ue) := s.engCheck e a 0
        if ue then s.engFault e causeEcc else s.engReach e i
      else s
    | none =>
      let (s, ue) := s.engCheck e a 0
      s.engFault e (if ue then causeEcc else causeIllop)

/-- A stalled instruction retries: it retires once nothing that it waits for is missing (R248, R251, R252). -/
def State.engRetry (s : State) (e : Nat) : State :=
  let x := s.eng e
  if x.st != .stall then s
  else match s.engFetch e x.bank x.pc with
    | some i => if x.waits i = 0 then s.engComplete e i else s.setEng e { x with wait := x.waits i }
    | none => s

/-! ## Tasks -/

/-- A release is refused (R261): it is counted. -/
def State.engRefuse (s : State) (e : Nat) : State :=
  (s.count (Reg.ENG_TASKREF_COUNT (e / 4) (e % 4)) (Reg.ENG_ERR_CNT_SAT (e / 4) (e % 4))).engErr e 4

/-- The engine, in its region, takes releases (R261). -/
def State.engOpen (s : State) (e : Nat) : Bool :=
  (s.eng e).st != .fault && (s.rstate (e / 4) == .running || s.rstate (e / 4) == .frozen)

/-- Task `t` of engine `e` is released at the present tick (R260, R261, R263). Where its window ends at the region's next region tick,
window-done for that tick, if it was presented, is not presented any more (R264). -/
def State.engRelease (s : State) (e t : Nat) : State × Code :=
  let r := e / 4
  let k := e % 4
  let x := s.eng e
  if !s.engOpen e then (s.engRefuse e, .eState)
  else if 4 ≤ x.tasks.length then (s.engRefuse e, .eNoSpace)
  else
    let task : EngTask :=
      { idx := t, entry := s.fld (Reg.ENG_TASK_ENTRY r k t), arg := s.fld (Reg.ENG_TASKARG_ARG r k t)
        due := (s.now + s.fld (Reg.ENG_TASK_WM1 r k t) + 1) % 2 ^ 64, ended := false }
    let s := s.setEng e { x with tasks := x.tasks ++ [task] }
    -- the window-done that the region's DONE waited for is withdrawn
    let withdrawn := s.on (Reg.ENG_DBG_WINCHK r k) && (s.rgn r).phase == .done && reached task.due (s.nextRegionTick r)
    (if withdrawn then s.setRgn r { s.rgn r with phase := .evaluating } else s, .ok)

/-- The next outstanding task starts (R237, R262). -/
def EngSt.startTask (x : EngSt) : EngSt :=
  match x.tasks with
  | t :: _ =>
    { (x.clearStacks.setReg 0 (t.arg % 2 ^ 16)).setReg 1 (t.arg / 2 ^ 16) with cur := true, st := .run, pc := t.entry }
  | [] => x

/-- The engine's region lets tasks start: P2 of Pavane has come (R542). -/
def State.engMayStart (s : State) (e : Nat) : Bool := decide (2 ≤ s.fld (Reg.REG_STATUS_PAVANE (e / 4)))

/-- `n` tasks are discarded (R269, R270, CLEAR). -/
def State.engDiscard (s : State) (e n : Nat) : State :=
  if n = 0 then s
  else (s.countN (Reg.ENG_TASKDISC_COUNT (e / 4) (e % 4)) (Reg.ENG_ERR_CNT_SAT (e / 4) (e % 4)) n).engErr e 5

/-- The windows of engine `e` that end at a region tick `n` (R263, R264): answers whether a task of them is outstanding. -/
def State.engWindows (s : State) (e n : Nat) : State × Bool :=
  let x := s.eng e
  let ends := fun (t : EngTask) => !t.ended && reached t.due n
  (s.setEng e { x with tasks := x.tasks.map (fun t => if ends t then { t with ended := true } else t) },
   x.tasks.any ends)

/-- The engine as region reset leaves it (R253, R281): completions that wait for it are discarded. -/
def State.engReset (s : State) (e : Nat) : State :=
  let r := e / 4
  let k := e % 4
  let s := s.wr (Reg.ENG_FAULT r k) 0
  let s := s.setEng e { EngSt.reset with bank := s.fld (Reg.ENG_CFG_BANK0 r k) }
  { s with net := { s.net with done := s.net.done.filter (fun d => !(d.node == regionNode r && d.rid == 0x40 + e)) } }

/-! ## ENG_CTL -/

/-- The outcome of a command of ENG_CTL (R272, Table 7-13). -/
def State.engCmdCode (s : State) (e cmd : Nat) : Code :=
  let x := s.eng e
  let active := x.st == .run || x.st == .stall
  match cmd with
  | 1 => if x.st = .idle then .ok else if active then (if x.haltPend then .eBusy else .ok) else .eState
  | 2 => if x.st = .halt then .ok else .eState
  | 3 => if x.st = .halt ∧ !x.tasks.isEmpty then .ok else .eState
  | 4 => if active ∨ (x.st = .halt ∧ x.cur) then .ok else .eState
  | 5 => if x.st = .fault then .ok else .eState
  | 6 => if x.st = .fault then .eState else if x.swapPend.isSome then .eBusy else .ok
  | 7 => if !s.engOpen e || !s.ticking then .eState else .ok
  | _ => .eArg

/-- The effect of an accepted ENG_CTL command (R260, R267–R272, Table 7-13). -/
def State.engCmd (s : State) (req e cmd t when_ entry : Nat) : State :=
  let x := s.eng e
  match cmd with
  | 1 => if x.st = .idle then s.setEng e { x with st := .halt } else s.setEng e { x with haltPend := true }
  | 2 => s.setEng e (if x.cur then { x with st := .run } else if s.engMayStart e then { x with st := .idle }.startTask
      else { x with st := .idle })
  | 3 => s.setEng e (if x.cur then { x with st := .run, stepping := true }
      else if s.engMayStart e then { x.startTask with stepping := true } else { x with st := .idle, stepping := true })
  | 4 =>
    let s := s.engDiscard e (bit x.cur)
    let x := (s.eng e).endTask true
    let x := { x with rep := false, wait := 0, st := if x.st = EngState.halt then EngState.halt else EngState.idle }
    s.setEng e x.idleEvents
  | 5 =>
    let s := s.engDiscard e x.tasks.length
    let s := s.wr (Reg.ENG_FAULT (e / 4) (e % 4)) 0
    s.setEng e { s.eng e with tasks := [], cur := false, st := .idle, rep := false }
  | 6 =>
    if x.st = .idle then s.setEng e (x.swap entry)
    else if x.st = .halt ∧ (when_ = 0 ∨ !x.cur) then s.setEng e (x.swap entry)
    else s.setEng e { x with swapPend := some (when_ == 1, entry) }
  | 7 => s.setEng e { x with sched := x.sched ++ [(t, (s.now + 4) % 2 ^ 64, req)] }
  | _ => s

/-- A write of the engine window reaches the engine and has an outcome: ENG_CMDSTAT holds it (Table 7-17, R13). `off` is
the offset in the engine window, `cmd` the command, 0 for a refused write. -/
def State.engRecord (s : State) (req e off cmd : Nat) (c : Code) : State :=
  let r := e / 4
  let k := e % 4
  let s := (((s.setFld (Reg.ENG_CMDSTAT_CODE r k) c.num).setFld (Reg.ENG_CMDSTAT_CMD r k) cmd).setFld
    (Reg.ENG_CMDSTAT_REQ r k) req).setFld (Reg.ENG_CMDSTAT_OFFSET r k) (off / 4)
  s.noteRefusal (srcEngine e) off req c

/-- A write of ENG_CTL (R272, Table 7-13). The region must let the access through (R33). -/
def State.engCtlWrite (s : State) (req e value : Nat) : State :=
  let a := Reg.ENG_CTL (e / 4) (e % 4)
  let cmd := bitsOf value 0 4
  let when_ := bitsOf value 12 1
  let c := s.engCmdCode e cmd
  let s := if c = .ok then s.engCmd req e cmd (bitsOf value 4 6) when_ (bitsOf value 16 12)
    else if cmd = 7 then s.engRefuse e else s
  (s.engRecord req e 0x30000 cmd c).respond req a c

end Sys2Proof.Machine
end

