-- ==== Sys2Proof/Machine/Ports.lean ====
section
/-! DEFINITION. Dual-rail signals (R91), the words of a region's configuration that select and configure them (chapters 3, 4
and 14), and the signals that hard ports and banks present to the fabric. -/

namespace Sys2Proof.Machine

/-- What a fabric signal shows, as an element downstream sees it: NULL, a valid code, or neither all of it NULL nor all of
it valid, so that a strongly indicating element holds what it had (R91–R93). ILLEGAL never leaves its detector (R95). -/
inductive Rail where
  | null | zero | one | mixed
  deriving DecidableEq, Repr

/-- A signal: what it shows, and whether it depends on a FLOW-mode spine input whose RVF is 0 (R153). -/
structure Sg where
  rail : Rail
  dead : Bool
  deriving DecidableEq, Repr

/-- The valid code of a truth value. -/
def Rail.ofBool (b : Bool) : Rail := if b then .one else .zero

/-- The signal is valid. -/
def Rail.valid : Rail → Bool
  | .zero | .one => true
  | _ => false

/-- A signal that shows a rail and depends on no dead spine. -/
def Sg.of (r : Rail) : Sg := ⟨r, false⟩

/-- An acknowledge: logic 1 or NULL. -/
def Sg.ack (b : Bool) : Sg := .of (if b then .one else .null)

/-- A bit of a token that is presented or not. -/
def Sg.token (present : Bool) (v : Bool) : Sg := .of (if present then .ofBool v else .null)

/-- A strongly indicating element of several inputs: valid once all of them are valid, NULL once all are NULL (R93). -/
def Sg.combine (f : List Bool → Bool) (xs : List Sg) : Sg :=
  let dead := xs.any (·.dead)
  if xs.all (·.rail.valid) then ⟨.ofBool (f (xs.map (fun x => x.rail == .one))), dead⟩
  else if xs.all (fun x => x.rail == .null) then ⟨.null, dead⟩
  else ⟨.mixed, dead⟩

/-- AND, OR and exclusive OR of signals. -/
def Sg.and (xs : List Sg) : Sg := .combine (fun l => l.all id) xs
def Sg.or (xs : List Sg) : Sg := .combine (fun l => l.any id) xs
def Sg.xor (x y : Sg) : Sg := .combine (fun l => l.foldl (· != ·) false) [x, y]
def Sg.not (x : Sg) : Sg := .combine (fun l => !l.all id) [x]

/-- A signal that follows the phases of region `r`: NULL until the region presents new state (R98, R106, R107). -/
def State.phased (s : State) (r : Nat) (v : Bool) : Sg :=
  match (s.rgn r).phase with
  | .evaluating | .done => .of (.ofBool v)
  | _ => .of .null

/-- The fabric of region `r` is active: flow logic, hard ports (Table 4-13, Table 14-10). -/
def State.fabricOn (s : State) (r : Nat) : Bool :=
  validRegion r && (s.rstate r == .running || s.rstate r == .frozen)

/-! ## Configuration words of blocks (Table 14-5) -/

/-- MC_CFG of macrocell `n`, as written. -/
def State.mcRaw (s : State) (r b n : Nat) : Nat := s.blkFrame r b 30 n

/-- Fields of MC_CFG (Table 3-4). -/
def mcMode (w : Nat) : Nat := bitsOf w 0 3
def mcWidth (w : Nat) : Nat := bitsOf w 16 4 + 1
def mcPort (w : Nat) : Nat := bitsOf w 20 2

/-- The word configures a FLOW controller, or a FLOW data cell. -/
def isCtl (w : Nat) : Bool := mcMode w == 6 && hasBit w 14
def isData (w : Nat) : Bool := mcMode w == 6 && !hasBit w 14

/-- The word configures a cell of an OFFER port. -/
def isOffer (w : Nat) : Bool := mcMode w == 2 && hasBit w 15

/-- The cells that a controller rules after itself: its data cells, and the token flag or the offer enable of a tick port
(Table 3-5). -/
def mcSpan (w : Nat) : Nat := mcWidth w + if mcPort w = 0 then 0 else 1

/-- The controllers that cell `n` belongs to, by the words as written. -/
def State.owners (s : State) (r b n : Nat) : List Nat :=
  (List.range n).filter (fun c => isCtl (s.mcRaw r b c) && decide (n ≤ c + mcSpan (s.mcRaw r b c)))

/-- A MC_CFG word keeps the rules of Table 3-5 (R105). TPORT = 1 in a TREG_EN cell, for which no table gives a rule, is accepted and
has no effect: DESIGN CHOICE (log entry 54). -/
def State.mcOk (s : State) (r b n : Nat) : Bool :=
  let w := s.mcRaw r b n
  let mode := mcMode w
  let ctl := isCtl w
  let ctrl3 := hasBit w 9
  let creg := hasBit w 11
  let cin := bitsOf w 12 2
  let stores := mode == 2 || mode == 3 || mode == 4 || (mode == 5 && creg) || mode == 6
  let fields :=
    (mode != 0 || w % 2 ^ 30 == 0) && (stores || !hasBit w 10) && (mode == 5 || bitsOf w 11 3 == 0) &&
    (mode == 6 || !hasBit w 14) && (mode == 2 || mode == 3 || !hasBit w 15) &&
    (ctl || (bitsOf w 16 4 == 0 && mcPort w == 0 && bitsOf w 22 8 == 0)) && mcPort w != 3 &&
    (!hasBit w 22 || mcPort w == 0)
  let control := !ctrl3 || mode == 2 || mode == 3 || mode == 4 || (mode == 5 && creg && cin != 3)
  let carry := !(mode == 5 && cin == 0) || n != 0 || b % 8 != 0
  let span := mcSpan w
  let cells := fun (f : Nat → Bool) => decide (n + span ≤ 63) && (List.range span).all (fun i => f (s.mcRaw r b (n + 1 + i)))
  let word := !ctl || (match mcPort w with
    | 0 => cells isData && decide (bitsOf w 23 7 ≤ 95)
    | 1 => cells isData
    | _ => cells isOffer && decide (bitsOf w 23 7 ≤ 95))
  let member := !(isData w || isOffer w) || (s.owners r b n).length == 1
  let pair := mode != 7 || mcMode (s.mcRaw r b (if n % 2 = 0 then n + 1 else n - 1)) == 7
  fields && control && (mode != 3 || ctrl3) && carry && word && member && pair

/-- MC_CFG of macrocell `n` as the block uses it: a bad word acts as OFF (R105). -/
def State.mcCfg (s : State) (r b n : Nat) : Nat := if s.mcOk r b n then s.mcRaw r b n else 0

/-- The working controller that cell `n` belongs to. -/
def State.owner (s : State) (r b n : Nat) : Option Nat :=
  (s.owners r b n).find? (fun c => isCtl (s.mcCfg r b c))

/-- The literal mask of product term `k` (R96): literal `l` of 192. -/
def State.literal (s : State) (r b k l : Nat) : Bool :=
  let w := 6 * k + l / 32
  hasBit (s.blkFrame r b (w / 64) (w % 64)) (l % 32)

/-- EXP_CFG of expander `k` (0–63; Table 3-3). -/
def State.expCfg (s : State) (r b k : Nat) : Nat := bitsOf (s.blkFrame r b 31 (k / 2)) (16 * (k % 2)) 16

/-- The expanders that join the sum of macrocell `n` (R101). -/
def State.expanders (s : State) (r b n : Nat) : List Nat :=
  (List.range 16).filter (fun k =>
    let e := s.expCfg r b (16 * (n / 16) + k)
    (hasBit e 4 && bitsOf e 0 4 == n % 16) || (hasBit e 12 && bitsOf e 8 4 == n % 16))

/-- The byte at image position `p` of frame 31. -/
def State.selByte (s : State) (r b p : Nat) : Nat := bitsOf (s.blkFrame r b 31 (p / 4)) (8 * (p % 4)) 7

/-- BX_SEL of block input `i` (Table 4-1), and the select of export `e` (R141). -/
def State.bxSel (s : State) (r b i : Nat) : Nat := s.selByte r b (128 + i)
def State.expSel (s : State) (r b e : Nat) : Nat := s.selByte r b (224 + e)

/-- RQ_CFG of block `b` (Table 4-8). -/
def State.rqCfg (s : State) (r b : Nat) : Nat := s.blkFrame r b 31 60

/-- Channel `k` of block `b` is enabled and keeps the rules of R159. -/
def State.rqOk (s : State) (r b k : Nat) : Bool :=
  let n := bitsOf (s.rqCfg r b) (8 * k) 6
  let w := s.mcCfg r b n
  isCtl w && mcPort w == 0 && mcWidth w == 16 && s.bxSel r b (bitsOf w 23 7) == 64 + 44 + k && s.expSel r b 15 != 127

/-- Channel `k` of block `b` is in use. -/
def State.rqOn (s : State) (r b k : Nat) : Bool := hasBit (s.rqCfg r b) (8 * k + 7) && s.rqOk r b k

/-- The block's request port is in use (R158). -/
def State.rqUsed (s : State) (r b : Nat) : Bool := (List.range 4).any (fun k => s.rqOn r b k)

/-! ## Selects of the region crossbar -/

/-- Fields of RX_SEL (Table 4-4). -/
def rxSig (w : Nat) : Nat := bitsOf w 0 10
def rxUnit (w : Nat) : Nat := bitsOf w 10 8
def rxClass (w : Nat) : Nat := bitsOf w 18 4

/-- A source of the region crossbar lies in the ranges of Table 4-2. -/
def sourceOk (cls unit sig : Nat) : Bool :=
  match cls with
  | 0 => true
  | 1 => decide (sig < 16)
  | 2 => decide (unit < 4) && decide (sig < 258)
  | 3 => decide (unit < 192) && decide (sig < 128)
  | 4 => decide (unit < 4) && decide (sig < 34)
  | 5 | 6 => decide (unit < 8)
  | 7 => unit == 0 && decide (sig < 2)
  | _ => false

/-- A RX_SEL word passes the checks of R144; its reserved bits are ignored (R6). -/
def rxOk (w : Nat) (spine : Bool) : Bool :=
  sourceOk (rxClass w) (rxUnit w) (rxSig w) && (spine || !hasBit w 22)

/-- A RX_SEL word as the destination uses it: a bad one acts as NONE (R144). -/
def rxUse (w : Nat) (spine : Bool) : Nat := if rxOk w spine then w else 0

/-- Entry `n` of the port select list (R525): its destination and its select. -/
def State.listEntry (s : State) (r n : Nat) : Nat × Nat :=
  (s.frame r 41 (29 + n / 32) (2 * (n % 32)), s.frame r 41 (29 + n / 32) (2 * (n % 32) + 1))

/-- A destination of the list's classes lies in the ranges of Table 4-2. -/
def listDestOk (d : Nat) : Bool :=
  let cls := rxClass d
  (cls == 3 || cls == 5 || cls == 6) && sourceOk cls (rxUnit d) (rxSig d)

/-- The entry is valid and breaks no rule of its own (R525). -/
def listUse (e : Nat × Nat) : Bool := hasBit e.1 31 && listDestOk e.1 && rxOk e.2 false

/-- The select of a destination that the port select list may name (R525): that of the first entry that names it. -/
def State.listSel (s : State) (r cls unit sig : Nat) : Nat :=
  let d := sig + unit * 2 ^ 10 + cls * 2 ^ 18
  match (List.range 4064).find? (fun n => let e := s.listEntry r n; bitsOf e.1 0 22 == d && listUse e) with
  | some n => (s.listEntry r n).2
  | none => 0

/-- The select of spine output `sig` at edge `e` (Table 14-8). -/
def State.spineSel (s : State) (r e sig : Nat) : Nat :=
  rxUse (s.frame r 41 (10 + 4 * e + sig / 64) (sig % 64)) true

/-- The select of an engine destination (Table 14-8). -/
def State.engSel (s : State) (r k sig : Nat) : Nat :=
  let w := 34 * k + sig
  rxUse (s.frame r 41 (26 + w / 64) (w % 64)) false

/-- The select of import `i` of block `b`. -/
def State.impSel (s : State) (r b i : Nat) : Nat := rxUse (s.blkFrame r b 32 i) false

/-- The select of a destination. -/
def State.destSel (s : State) (r cls unit sig : Nat) : Nat :=
  match cls with
  | 1 => s.impSel r unit sig
  | 2 => s.spineSel r unit sig
  | 4 => s.engSel r unit sig
  | _ => s.listSel r cls unit sig

/-! ## Shared targets (R160) -/

/-- ARB_TGT `t` as written (Table 14-8). -/
def State.tgtWord (s : State) (r t : Nat) : Nat := s.frame r 41 0 (8 + t)

/-- The destination slots of a port class (Table 4-2). -/
def destSlots (cls : Nat) : Nat := match cls with
  | 3 => 128
  | 4 => 34
  | _ => 1024

/-- Some destination of a port has a select other than NONE. -/
def State.portSelected (s : State) (r cls unit : Nat) : Bool :=
  if cls = 4 then (List.range 34).any (fun k => rxClass (s.engSel r unit k) != 0)
  else (List.range 4064).any (fun n =>
    let e := s.listEntry r n
    listUse e && rxClass e.1 == cls && rxUnit e.1 == unit && rxClass e.2 != 0)

/-- Target `t` names a port by the rules of R160, R351 and R395. -/
def State.tgtOk (s : State) (r t : Nat) : Bool :=
  let w := s.tgtWord r t
  let cls := bitsOf w 0 4
  let unit := bitsOf w 4 8
  let rlen := bitsOf w 12 4
  let inRange := match cls with
    | 3 => decide (unit < 192)
    | 4 => decide (unit < 4)
    | 5 | 6 => decide (unit < 8)
    | _ => false
  let others := (List.range 32).all (fun u =>
    u == t || !hasBit (s.tgtWord r u) 16 || bitsOf (s.tgtWord r u) 0 12 != bitsOf w 0 12)
  let mode := match cls with
    | 5 => s.nipTxMode r unit == 2 && decide (s.fld (Reg.NIP_CFG_TXW r unit) ≤ 7) && rlen == 0
    | 6 => s.cqpWMode r unit == 2 && rlen == 0
    | _ => true
  inRange && decide (rlen ≤ 8) && others && mode && !s.portSelected r cls unit

/-- Target `t` is in use. -/
def State.tgtOn (s : State) (r t : Nat) : Bool := hasBit (s.tgtWord r t) 16 && s.tgtOk r t

/-- The port that target `t` names. -/
def State.tgtPort (s : State) (r t : Nat) : Nat × Nat := (bitsOf (s.tgtWord r t) 0 4, bitsOf (s.tgtWord r t) 4 8)

/-- The target that a port is, if it is a shared one. -/
def State.targetOf (s : State) (r cls unit : Nat) : Option Nat :=
  (List.range 32).find? (fun t => s.tgtOn r t && s.tgtPort r t == (cls, unit))

/-- The mode in which the read half of capture port `i` serves the fabric: a shared target serves only its write half (R395). -/
def State.cqpReads (s : State) (r i : Nat) : Nat := if (s.targetOf r 6 i).isSome then 0 else s.cqpRMode r i

/-! ## What hard ports present (sources) -/

/-- Block-memory port `unit` = 2m + p (Table 5-4). Slots of the response that the port does not use present logic 0 while it is
valid (R186). -/
def State.bmSource (s : State) (r unit sig : Nat) : Sg :=
  let x := (s.bm r (unit / 2)).port (unit % 2)
  if s.bmMode r (unit / 2) (unit % 2) = 0 then .of .null
  else if sig = 66 then .ack x.reqack
  else match x.resp with
    | some (v, err, col) =>
      .token true (if sig < 64 then hasBit v sig else if sig = 64 then err else if sig = 65 then col else false)
    | none => .of .null

/-- Engine slot `k` (Table 4-3). -/
def State.engSource (s : State) (r k sig : Nat) : Sg :=
  let x := s.eng (4 * r + k)
  if sig < 16 then .token (x.so0.full && !x.so0.acked) (hasBit x.so0.data sig)
  else if sig < 32 then .token (x.so1.full && !x.so1.acked) (hasBit x.so1.data (sig - 16))
  else if sig = 32 then .ack x.si0.acko
  else .ack x.si1.acko

/-- Fabric port `i` (Table 9-6). -/
def State.nipSource (s : State) (r i sig : Nat) : Sg :=
  let x := s.nip r i
  if sig = 514 then
    match s.nipTxMode r i with
    | 1 => s.phased r x.ready
    | 2 => .ack x.txack
    | _ => .of .null
  else
    match s.nipRxMode r i with
    | 1 => if sig < 512 then s.phased r (hasBit x.rxd sig) else if sig = 512 then s.phased r x.rxflag
        else if sig = 513 then s.phased r x.rxstale else .of .null
    | 2 => if sig < 16 * (s.fld (Reg.NIP_CFG_RXW r i) + 1) then .token x.token (hasBit x.rxd sig)
        else if sig = 513 then .token x.token x.rxstale else .of .null
    | _ => .of .null

/-- Capture port `i` (Table 10-16). -/
def State.cqpSource (s : State) (r i sig : Nat) : Sg :=
  let x := s.cqp r i
  if sig = 525 then
    match s.cqpWMode r i with
    | 1 => s.phased r x.wready
    | 2 => .ack x.wack
    | _ => .of .null
  else
    let v := if sig < 512 then hasBit x.rd.1 sig else if sig < 522 then hasBit x.rd.2.1 (sig - 512) else x.rd.2.2
    match s.cqpReads r i with
    | 1 => if sig < 523 then s.phased r v else if sig = 523 then s.phased r x.rflag
        else if sig = 524 then s.phased r x.ravail else .of .null
    | 2 => if sig < 523 then .token x.token v else .of .null
    | _ => .of .null

/-- What a bank presents on a spine signal of a FLOW or GEARED pin (Table 17-4); logic 0 on a signal that no pin's mode
uses (R619). The TICK-mode signals are taken at the region tick. -/
def State.bankSource (s : State) (b sig : Nat) : Sg :=
  let x := s.bank b
  let p := sig / 5
  let l := x.lead p
  let w := x.word l
  let live := (x.pin l).hold.isNone
  if 240 ≤ sig then .of .zero
  else if ioMode w = 2 ∧ isLvds w then
    let g := x.gear (l / 2)
    let k := sig - 5 * l
    if ioDir w = 1 then if k < 8 then .token (g.tok && live) (hasBit (g.inq.headD 0) k) else .of .zero
    else if k = 8 then .ack g.oack else .of .zero
  else if ioMode w = 1 ∧ p = l then
    let k := sig - 5 * p
    if k = 0 ∧ hasBit (ioDir w) 0 then .token ((x.pin p).tok.isSome && live) ((x.pin p).tok.getD false)
    else if k = 1 ∧ hasBit (ioDir w) 1 then .ack (x.pin p).oack
    else .of .zero
  else .of .zero

/-- A bank's signal is one that the receiving region takes at its region tick: IN of a TICK-mode input, QST, the trigger
lines (R620). -/
def State.bankTicks (s : State) (b sig : Nat) : Bool :=
  let x := s.bank b
  let p := sig / 5
  let w := x.word (x.lead p)
  if 240 ≤ sig then decide (sig < 248)
  else if sig % 5 = 2 && guarded b then true
  else sig % 5 == 0 && x.lead p == p && ioMode w == 0 && hasBit (ioDir w) 0

/-- The level of such a signal now, and the free value it may need. -/
def State.bankTickLevel (s : State) (b sig : Nat) : State × Bool :=
  if 240 ≤ sig then (s, s.lineLevel (sig - 240))
  else if sig % 5 = 2 then (s, s.pinQuenched b (sig / 5))
  else s.ballLevel b (sig / 5)

end Sys2Proof.Machine
end

