-- ==== Sys2Proof/Machine/Fabric.lean ====
section
/-! DEFINITION. The fabric of a region (chapters 3 and 4): what every signal shows now, evaluated from the stored bits, the
tokens and the configuration; destinations; flow stages, tick ports, ARB pairs; done-tree participation. -/

namespace Sys2Proof.Machine

/-! ## Detectors (R94, R95) -/

/-- The numbers of elements with an ILLEGAL detector: a macrocell output, a block input, a spine input, a block-memory slot, an
engine slot. -/
def elMc (b n : Nat) : Nat := 64 * b + n
def elBi (b i : Nat) : Nat := 20000 + 96 * b + i
def elSpine (e sig : Nat) : Nat := 50000 + 258 * e + sig
def elBm (unit sig : Nat) : Nat := 60000 + 128 * unit + sig
def elEng (k sig : Nat) : Nat := 90000 + 34 * k + sig

/-- What the elements of region `r` remember. -/
def State.elem (s : State) (r : Nat) : ElemSt := Tbl.get .reset s.elems r

/-- The state with what the elements of a region remember changed. -/
def State.setElem (s : State) (r : Nat) (x : ElemSt) : State := { s with elems := Tbl.put .reset s.elems r x }

/-- Element `id` shows ILLEGAL rails (R95). -/
def ElemSt.faulty (x : ElemSt) (id : Nat) : Bool := Tbl.get 0 x.illegal id != 0

/-- A signal behind its detector: logic 0 in place of ILLEGAL, whatever the healthy code; after a pulse that was not detected,
what reader `rd` acts on is free (R94, R95). -/
def ElemSt.detect (e : ElemSt) (id rd : Nat) (x : Sg) : Sg :=
  if e.faulty id then { x with rail := .zero }
  else if !x.rail.valid then x
  else match (Tbl.get (0, false) e.open_ id).1 with
    | 0 => x
    | k + 1 => { x with rail := .ofBool (Config.freeBool (k + rd)) }

/-- What an element of several inputs presents (R93): while its inputs are neither all valid nor all NULL it keeps the valid code
or the NULL that it had. `x` is what its inputs alone would give. -/
def ElemSt.held (e : ElemSt) (key : Nat) (x : Sg) : Sg :=
  if x.rail = .mixed then { x with rail := (Tbl.get none e.hold key).elim .null .ofBool } else x

/-! ## Evaluation -/

/-- A signal of the fabric: the output of a macrocell, its sum, with CARRY its sum bit and its carry-out, a block input, a
product term, the source that a select word names. -/
inductive Ref where
  | mc (r b n : Nat) | sum (r b n : Nat) | cbit (r b n : Nat) | carry (r b n : Nat) | bi (r b i : Nat) | pt (r b k : Nat)
  | src (r sel : Nat)
  deriving DecidableEq, Repr

/-- The numbers under which the elements of a block hold what they present. -/
def heldPt (b k : Nat) : Nat := 512 * b + k
def heldSum (b n : Nat) : Nat := 512 * b + 320 + n
def heldBit (b n : Nat) : Nat := 512 * b + 384 + n
def heldCarry (b n : Nat) : Nat := 512 * b + 448 + n

/-- A select word of a class, unit and signal. -/
def selOf (cls unit sig : Nat) : Nat := sig + unit * 2 ^ 10 + cls * 2 ^ 18

/-- The neighbour of region `r` at edge `e` (Table 4-5). -/
def neighbour (r e : Nat) : Option Nat :=
  match e with
  | 0 => if r < 18 then some (r + 6) else none
  | 1 => if r % 6 < 5 then some (r + 1) else none
  | 2 => if 6 ≤ r then some (r - 6) else none
  | _ => if 0 < r % 6 then some (r - 1) else none

/-- The edge of the neighbour that faces back. -/
def opposite (e : Nat) : Nat := (e + 2) % 4

/-- RVF at edge `e` of region `r` (Table 4-6, R151, R154). -/
def State.rvf (s : State) (r e : Nat) : Bool :=
  match bankAt r e with
  | some b => s.bankValid b
  | none => match neighbour r e with
    | some q => s.fabricOn q
    | none => false

/-- What a macrocell stores until it has captured: RSTVAL (R135), and READY of an OFFER port, which is empty (R121). -/
def State.cellReset (s : State) (r b n : Nat) : Bool :=
  let w := s.mcCfg r b n
  hasBit w 10 || (isCtl w && mcPort w == 2)

/-- The stored bit of a macrocell. -/
def State.cell (s : State) (r b n : Nat) : Bool := Tbl.get (s.cellReset r b n) (s.rgn r).fab.cells (elMc b n)

/-- The flow word of controller `n`; after reset a plain stage with INITTOK is full (R116). -/
def State.flow (s : State) (r b n : Nat) : FlowSt :=
  let w := s.mcCfg r b n
  let full := mcPort w == 0 && hasBit w 22
  let word := ((List.range (mcWidth w)).map (fun i => bit (hasBit (s.mcCfg r b (n + 1 + i)) 10) * 2 ^ i)).sum
  Tbl.get ⟨full, if full then word else 0, full, false, 0, 0⟩ (s.rgn r).fab.flow (elMc b n)

/-- The request port of block `b`. -/
def State.rqPort (s : State) (r b : Nat) : ReqPort := Tbl.get .reset (s.rgn r).fab.ports b

/-- What a signal shows now (R91–R123, R139–R153, R158). `rd` numbers the element that reads it. A signal of a combinational
loop is never valid (R684): `fuel` exceeds every path without one. -/
def State.eval (s : State) : Nat → Nat → Ref → Sg
  | 0, _, _ => .of .mixed
  | fuel + 1, rd, ref =>
    match ref with
    | .pt r b k =>
      let ls := (List.range 192).filter (s.literal r b k)
      if ls.isEmpty then s.phased r true
      else (s.elem r).held (heldPt b k) (.and (ls.map (fun l =>
        let x := s.eval fuel (320 * b + k) (.bi r b (l / 2))
        if l % 2 = 0 then x else x.not)))
    | .sum r b n =>
      let w := s.mcCfg r b n
      let carry := mcMode w == 5
      let own := (List.range 4).filter (fun i =>
        hasBit w (3 + i) && !(i == 2 && hasBit w 7) && !(i == 3 && hasBit w 9) && !(i == 1 && carry))
      let terms := own.map (fun i => s.eval fuel rd (.pt r b (4 * n + i))) ++
        (s.expanders r b n).map (fun k => s.eval fuel rd (.pt r b (256 + 16 * (n / 16) + k)))
      let sum := if terms.isEmpty then s.phased r false else .or terms
      let sum := if hasBit w 7 then sum.xor (s.eval fuel rd (.pt r b (4 * n + 2))) else sum
      (s.elem r).held (heldSum b n) (if hasBit w 8 then sum.not else sum)
    | .cbit r b n =>
      let w := s.mcCfg r b n
      let opB := if hasBit w 4 then s.eval fuel rd (.pt r b (4 * n + 1)) else s.phased r false
      let cin := match bitsOf w 12 2 with
        | 0 => if 0 < n then s.eval fuel rd (.carry r b (n - 1))
            else if b % 8 ≠ 0 then s.eval fuel rd (.carry r (b - 1) 63) else s.phased r false
        | 1 => s.phased r false
        | 2 => s.phased r true
        | _ => s.eval fuel rd (.pt r b (4 * n + 3))
      (s.elem r).held (heldBit b n)
        (.combine (fun l => l.foldl (· != ·) false) [s.eval fuel rd (.sum r b n), opB, cin])
    | .carry r b n =>
      let w := s.mcCfg r b n
      if mcMode w ≠ 5 then s.phased r false
      else
        let opB := if hasBit w 4 then s.eval fuel rd (.pt r b (4 * n + 1)) else s.phased r false
        let cin := match bitsOf w 12 2 with
          | 0 => if 0 < n then s.eval fuel rd (.carry r b (n - 1))
              else if b % 8 ≠ 0 then s.eval fuel rd (.carry r (b - 1) 63) else s.phased r false
          | 1 => s.phased r false
          | 2 => s.phased r true
          | _ => s.eval fuel rd (.pt r b (4 * n + 3))
        (s.elem r).held (heldCarry b n)
          (.combine (fun l => decide (2 ≤ (l.filter id).length)) [s.eval fuel rd (.sum r b n), opB, cin])
    | .mc r b n =>
      let w := s.mcCfg r b n
      let f := (s.rgn r).fab
      let q := s.phased r (s.cell r b n)
      let out := match mcMode w with
        | 0 => s.phased r false
        | 1 => s.eval fuel rd (.sum r b n)
        | 2 | 3 | 4 =>
          match (if isOffer w then s.owner r b n else none) with
          | some c =>
            let x := s.flow r b c
            if n ≤ c + mcWidth (s.mcCfg r b c) then .token (x.full && !x.acked) (hasBit x.word (n - c - 1)) else q
          | none => q
        | 5 =>
          if hasBit w 11 then q else s.eval fuel rd (.cbit r b n)
        | 6 =>
          if hasBit w 14 then
            match mcPort w with
            | 2 => q
            | _ => .ack (s.flow r b n).acko
          else match s.owner r b n with
            | some c =>
              if mcPort (s.mcCfg r b c) = 0 then
                let x := s.flow r b c
                .token x.full (hasBit x.word (n - c - 1))
              else q
            | none => .of .null
        | _ =>
          let g := Tbl.get .none f.arb (elMc b (n - n % 2))
          .ack (if n % 2 = 0 then g == .a else g == .b)
      (s.elem r).detect (elMc b n) rd out
    | .bi r b i =>
      let rd' := 2 ^ 20 + elBi b i
      let c := s.bxSel r b i
      let out :=
        if c < 64 then s.eval fuel rd' (.mc r b c)
        else if c < 112 then
          let k := c - 64
          if 28 ≤ k ∧ s.rqUsed r b then
            let p := s.rqPort r b
            if k < 44 then .token (!p.resp.isEmpty && !p.taken) (hasBit (p.resp.headD (0, 0)).1 (k - 28))
            else .ack (hasBit p.acks (k - 44))
          else s.eval fuel rd' (.src r (s.impSel r b k))
        else s.phased r false
      (s.elem r).detect (elBi b i) rd out
    | .src r sel =>
      let unit := rxUnit sel
      let sig := rxSig sel
      match rxClass sel with
      | 1 => let c := s.expSel r unit sig; if c < 64 then s.eval fuel rd (.mc r unit c) else s.phased r false
      | 2 =>
        let f := (s.rgn r).fab
        let taken := s.phased r (Tbl.get false f.spineIn (258 * unit + sig))
        let out :=
          if sig = 257 then .of (.ofBool (s.rvf r unit))
          else if sig = 256 then taken
          else match bankAt r unit with
            | some b => if s.bankTicks b sig then taken else { s.bankSource b sig with dead := !s.bankValid b }
            | none => match neighbour r unit with
              | none => { s.phased r false with dead := true }
              | some q =>
                let w := s.spineSel q (opposite unit) sig
                if !hasBit w 22 then taken
                else if s.fabricOn q then s.eval fuel rd (.src q w)
                else ⟨.zero, true⟩
        (s.elem r).detect (elSpine unit sig) rd out
      | 3 => s.bmSource r unit sig
      | 4 => s.engSource r unit sig
      | 5 => s.nipSource r unit sig
      | 6 => s.cqpSource r unit sig
      | 7 => s.phased r (sig == 1)
      | _ => s.phased r false

/-- More than the elements on any path without a loop: 24 regions of at most five elements for each of 16,384 macrocells. -/
def evalFuel : Nat := 2000000

/-- What a signal shows to reader `rd`. -/
def State.look (s : State) (rd : Nat) (ref : Ref) : Sg := s.eval evalFuel rd ref

/-! ## Destinations of hard ports -/

/-- A number of a destination as a reader. -/
def destReader (cls unit sig : Nat) : Nat := 2 ^ 21 + (cls * 256 + unit) * 1024 + sig

/-- The payload word that the arbiter drives on slot `sig` of target `t`: words arrive one after another, and those that the
port has taken return to NULL (R163). -/
def State.arbSlot (s : State) (r t sig : Nat) : Sg :=
  match Tbl.get none (s.rgn r).fab.holds t with
  | some h => .token (decide (sig / 16 < h.payload.length) && !hasBit h.taken (sig / 16)) (hasBit (h.payload.getD (sig / 16) 0) (sig % 16))
  | none => .of .null

/-- What a destination slot of a port shows: the arbiter's payload at a shared target (R163, R192), which of a capture port drives the
write half alone (R395); else the source that its select names. -/
def State.dest (s : State) (r cls unit sig : Nat) : Sg :=
  let x := match (if cls = 2 then none else s.targetOf r cls unit) with
    | some t =>
      if (cls == 3 && sig == 80) || (cls == 4 && decide (32 ≤ sig)) || (cls == 6 && decide (69 ≤ sig)) then .of .null
      else s.arbSlot r t sig
    | none => s.look (destReader cls unit sig) (.src r (s.destSel r cls unit sig))
  match cls with
  | 3 => (s.elem r).detect (elBm unit sig) 0 x
  | 4 => (s.elem r).detect (elEng unit sig) 0 x
  | _ => x

/-- The values of `n` slots from `sig` on, bit 0 first; those that are not logic 1 count as 0. -/
def State.destWord (s : State) (r cls unit sig n : Nat) : Nat :=
  ((List.range n).map (fun i => bit ((s.dest r cls unit (sig + i)).rail == .one) * 2 ^ i)).sum

/-- All `n` slots from `sig` on are valid; all are NULL. -/
def State.destValid (s : State) (r cls unit sig n : Nat) : Bool :=
  (List.range n).all (fun i => (s.dest r cls unit (sig + i)).rail.valid)
def State.destNull (s : State) (r cls unit sig n : Nat) : Bool :=
  (List.range n).all (fun i => (s.dest r cls unit (sig + i)).rail == .null)

/-- What was seen of some data inputs against what they show now (R117, R191, R249): the inputs valid now and their values, and
whether one has changed from a valid code to the other, or has returned to NULL while `wanted`. Inputs behind a dead spine do
not count, and what was seen of them before is forgotten (R117, R153). -/
def watch (seen word : Nat) (wanted : Bool) (xs : List Sg) : Nat × Nat × Bool :=
  let ix := (List.range xs.length).zip xs
  let now := (ix.map (fun x => bit (x.2.rail.valid && !x.2.dead) * 2 ^ x.1)).sum
  let keep := (ix.map (fun x => bit (x.2.rail == .mixed && !x.2.dead && hasBit seen x.1) * 2 ^ x.1)).sum
  let val := (ix.map (fun x => bit (x.2.rail == .one || (x.2.rail == .mixed && hasBit word x.1)) * 2 ^ x.1)).sum
  let broken := ix.any (fun x =>
    hasBit seen x.1 && !x.2.dead &&
      ((x.2.rail.valid && (x.2.rail == .one) != hasBit word x.1) || (wanted && x.2.rail == .null)))
  (now ||| keep, val, broken)

/-! ## Flow words -/

/-- The state with the flow word of a controller changed. -/
def State.setFlow (s : State) (r b n : Nat) (x : FlowSt) : State :=
  let f := (s.rgn r).fab
  let full := mcPort (s.mcCfg r b n) == 0 && hasBit (s.mcCfg r b n) 22
  let word := ((List.range (mcWidth (s.mcCfg r b n))).map (fun i => bit (hasBit (s.mcCfg r b (n + 1 + i)) 10) * 2 ^ i)).sum
  s.setFab r { f with flow := Tbl.put ⟨full, if full then word else 0, full, false, 0, 0⟩ f.flow (elMc b n) x }

/-- The data inputs of the word of controller `n` (chapter 3): the sums of its data cells. -/
def State.flowInputs (s : State) (r b n : Nat) : List Sg :=
  (List.range (mcWidth (s.mcCfg r b n))).map (fun i => s.look (2 ^ 22 + elMc b (n + 1 + i)) (.sum r b (n + 1 + i)))

/-- ACKIN of controller `n`. -/
def State.ackIn (s : State) (r b n : Nat) : Sg :=
  s.look (2 ^ 22 + elMc b n) (.bi r b (bitsOf (s.mcCfg r b n) 23 7))

/-- The inputs' values as a word. -/
def wordOf (xs : List Sg) : Nat :=
  (((List.range xs.length).zip xs).map (fun x => bit (x.2.rail == .one) * 2 ^ x.1)).sum

/-- Controller `n` of a plain stage or a SAMPLE port looks at its inputs: it notes what it sees, reports a protocol error
(R117), and answers whether it may act. `wanted`: a token has been seen in part and is not latched yet. -/
def State.flowWatch (s : State) (r b n : Nat) (wanted : Bool) (xs : List Sg) (ack : Option Sg) : State × Bool :=
  let x := s.flow r b n
  let (seen, word, broken) := watch x.seen x.seenWord wanted xs
  let badAck := match ack with
    | some a => a.rail == .zero && !a.dead
    | none => false
  let dead := xs.any (·.dead) || (ack.elim false (·.dead))
  let s := s.setFlow r b n { x with seen, seenWord := word }
  if broken || badAck then (s.blkError r b 3 n true, false) else (s, !dead)

/-- A plain stage (R114, R117). -/
def State.plainStage (s : State) (r b n : Nat) (latch : Bool) : State :=
  let x := s.flow r b n
  let xs := s.flowInputs r b n
  let ack := s.ackIn r b n
  let (s, may) := s.flowWatch r b n (!x.full) xs (some ack)
  let x' := s.flow r b n
  if !may then s
  else if latch && !x.full && xs.all (·.rail.valid) && ack.rail == .null then
    s.setFlow r b n { x' with full := true, word := wordOf xs, acko := true }
  else if !latch && x.full && xs.all (fun v => v.rail == .null) && ack.rail == .one then
    s.setFlow r b n { x' with full := false, word := 0, acko := false }
  else s

/-- The controller of a SAMPLE port completes its handshake (R118). -/
def State.sampleStage (s : State) (r b n : Nat) : State :=
  let x := s.flow r b n
  let xs := s.flowInputs r b n
  let (s, may) := s.flowWatch r b n (!x.acko) xs none
  let x' := s.flow r b n
  if may && x.acko && xs.all (fun v => v.rail == .null) then s.setFlow r b n { x' with acko := false } else s

/-- The consumer's acknowledge at an OFFER port (R117, R120). -/
def State.offerStage (s : State) (r b n : Nat) : State :=
  let x := s.flow r b n
  let ack := s.ackIn r b n
  if ack.rail = .zero ∧ !ack.dead then s.blkError r b 3 n true
  else if ack.dead then s
  else if x.full && !x.acked && ack.rail == .one then s.setFlow r b n { x with acked := true }
  else if x.full && x.acked && ack.rail == .null then s.setFlow r b n { x with full := false, acked := false, word := 0 }
  else s

/-! ## ARB pairs (R124–R127) -/

/-- The grant of the pair at even macrocell `n`. -/
def State.arbGrant (s : State) (r b n : Nat) : ArbGrant := Tbl.get .none (s.rgn r).fab.arb (elMc b n)

/-- The state with a grant changed. -/
def State.setGrant (s : State) (r b n : Nat) (g : ArbGrant) : State :=
  let f := (s.rgn r).fab
  s.setFab r { f with arb := Tbl.put .none f.arb (elMc b n) g }

/-- The request of the A side (macrocell n) or the B side (n + 1). -/
def State.arbReq (s : State) (r b n : Nat) (sideB : Bool) : Sg :=
  let m := n + bit sideB
  s.look (2 ^ 22 + elMc b m) (.sum r b m)

/-- A request at logic 0 counts as idle and is an error (R127). -/
def State.arbCheck (s : State) (r b n : Nat) : State :=
  let bad := fun (side : Bool) => (s.arbReq r b n side).rail == .zero
  if bad false || bad true then s.blkError r b 3 (if bad false then n else n + 1) true else s

/-- A raised request is granted when the pair is free (R124, R126). -/
def State.arbRaise (s : State) (r b n : Nat) (sideB : Bool) : State :=
  let raised := (s.arbReq r b n sideB).rail == .one
  let s := s.arbCheck r b n
  if raised && s.arbGrant r b n == .none then s.setGrant r b n (if sideB then .b else .a) else s

/-- A grant falls after its request has returned, and a pending request of the other side is granted (R124, R125). -/
def State.arbDrop (s : State) (r b n : Nat) : State :=
  let held := s.arbGrant r b n
  let sideB := held == .b
  let back := (s.arbReq r b n sideB).rail
  let other := (s.arbReq r b n (!sideB)).rail == .one
  let s := s.arbCheck r b n
  if held == .none || !(back == .null || back == .zero) then s
  else s.setGrant r b n (if other then (if sideB then .a else .b) else .none)

/-! ## ILLEGAL (R94, R95) -/

/-- The summary of an ILLEGAL event at an element is counted once in a region tick (R130). Answers whether this one counts. -/
def State.illegalCounts (s : State) (r id : Nat) : State × Bool :=
  let f := (s.rgn r).fab
  if f.counted.contains id then (s, false) else (s.setFab r { f with counted := id :: f.counted }, true)

/-- A detector finds ILLEGAL at element `id` (R95), or a pulse passes it undetected (R94). -/
def State.illegalAt (s : State) (r id : Nat) (detected : Bool) : State :=
  let e := s.elem r
  if detected then s.setElem r { e with illegal := Tbl.put 0 e.illegal id 1 }
  else
    let k := s.freeCount
    ({ s with freeCount := s.freeCount + 2 ^ 23 }).setElem r { e with open_ := Tbl.put (0, false) e.open_ id (k + 1, false) }

/-- The error that a detection records (Table 3-10, R155, R191, R249). `kind`: 0 macrocell output, 1 block input, 2 spine input,
3 block-memory slot, 4 engine slot. -/
def State.illegalError (s : State) (r kind unit sig : Nat) : State :=
  match kind with
  | 0 =>
    let (s, c) := s.illegalCounts r (elMc unit sig)
    s.blkError r unit 0 sig c
  | 1 =>
    let (s, c) := s.illegalCounts r (elBi unit sig)
    let src := s.bxSel r unit sig
    let s := s.blkError r unit 1 sig c
    if src < 64 ∧ !(s.elem r).faulty (elMc unit src) then s.blkError r unit 2 sig false else s
  | 2 =>
    let (s, c) := s.illegalCounts r (elSpine unit sig)
    s.regError r 4 unit sig c
  | 3 => s.bmError r (unit / 2) 8
  | _ => s.engErr (4 * r + unit) 3

/-- The element of a kind, if it exists. -/
def element (kind unit sig : Nat) : Option Nat :=
  match kind with
  | 0 => if unit < 256 ∧ sig < 64 then some (elMc unit sig) else none
  | 1 => if unit < 256 ∧ sig < 96 then some (elBi unit sig) else none
  | 2 => if unit < 4 ∧ sig < 258 then some (elSpine unit sig) else none
  | 3 => if unit < 192 ∧ sig < 89 then some (elBm unit sig) else none
  | 4 => if unit < 4 ∧ sig < 34 then some (elEng unit sig) else none
  | _ => none

/-- Element `id` as its kind, unit and signal. -/
def elementKind (id : Nat) : Nat × Nat × Nat :=
  if id < 20000 then (0, id / 64, id % 64)
  else if id < 50000 then (1, (id - 20000) / 96, (id - 20000) % 96)
  else if id < 60000 then (2, (id - 50000) / 258, (id - 50000) % 258)
  else if id < 90000 then (3, (id - 60000) / 128, (id - 60000) % 128)
  else (4, (id - 90000) / 34, (id - 90000) % 34)

/-- What element `id` of region `r` shows. -/
def State.elementSg (s : State) (r id : Nat) : Sg :=
  match elementKind id with
  | (0, b, n) => s.look 0 (.mc r b n)
  | (1, b, i) => s.look 0 (.bi r b i)
  | (2, e, sig) => s.look 0 (.src r (selOf 2 e sig))
  | (3, unit, sig) => s.dest r 3 unit sig
  | (_, k, sig) => s.dest r 4 k sig

/-- What element `id` would show without its fault. -/
def State.healthy (s : State) (r id : Nat) : Sg :=
  let e := s.elem r
  (s.setElem r { e with illegal := Tbl.put 0 e.illegal id 0, open_ := Tbl.put (0, false) e.open_ id (0, false) }).elementSg r id

/-- RVF has no NULL phase (R152): its fault ends where its spine port is clamped (R155). -/
def State.rvfClamped (s : State) (r id : Nat) : Bool :=
  match elementKind id with
  | (2, e, 257) => !s.rvf r e
  | _ => false

/-- The detector marks of region `r` follow the healthy codes (R94, R95): one whose code has been valid and returns to NULL is
gone. -/
def State.marksNow (s : State) (r : Nat) : Tbl Nat × Tbl (Nat × Bool) :=
  let e := s.elem r
  (e.illegal.filterMap (fun x =>
      let h := (s.healthy r x.1).rail
      if s.rvfClamped r x.1 || (h == .null && x.2 == 2) then none else some (x.1, if h.valid then 2 else x.2)),
    e.open_.filterMap (fun x =>
      let h := (s.healthy r x.1).rail
      if s.rvfClamped r x.1 || (h == .null && x.2.2) then none else some (x.1, (x.2.1, x.2.2 || h.valid))))

/-! ## Participation in the done tree (R49, R104, R148) -/

/-- Macrocell `n` drives a block input or an export (R49). -/
def State.mcUsed (s : State) (r b n : Nat) : Bool :=
  (List.range 96).any (fun i => s.bxSel r b i == n) || (List.range 16).any (fun e => s.expSel r b e == n)

/-- Macrocell `n` participates in its block's done tree (R49). An enable or data cell of an OFFER port that drives nothing takes no
part, as R49 asks of every cell: DESIGN CHOICE beside R122 (log entry 53). -/
def State.mcParticipates (s : State) (r b n : Nat) : Bool :=
  let mode := mcMode (s.mcCfg r b n)
  decide (1 ≤ mode) && decide (mode ≤ 5) && s.mcUsed r b n

/-- The completion of a participating macrocell: its sum, or its sum bit, and its control term (R104); ILLEGAL rails count as
complete (R50). -/
def State.mcComplete (s : State) (r b n : Nat) : Bool :=
  let w := s.mcCfg r b n
  let rd := 2 ^ 22 + elMc b n
  (s.elem r).faulty (elMc b n) ||
    ((s.look rd (if mcMode w = 5 then .cbit r b n else .sum r b n)).rail.valid &&
      (!hasBit w 9 || (s.look rd (.pt r b (4 * n + 3))).rail.valid))

/-- The blocks of region `r` whose configuration is not all zero. -/
def State.usedBlocks (s : State) (r : Nat) : List Nat :=
  (List.range 256).filter (fun b =>
    let own := fun (k : Nat) =>
      decide (frameKey r (b / 8) (40 * (b % 8)) 0 ≤ k) && decide (k < frameKey r (b / 8) (40 * (b % 8) + 40) 0)
    s.frames.any (fun e => own e.1) || s.frameMarks.any (fun e => own e.1))

/-- Every tick port that takes data out of the fabric is complete: TICK-mode spine outputs, transmit and write halves, and
TICK-mode reads (R148, R348, R388). -/
def State.portsComplete (s : State) (r : Nat) : Bool :=
  (List.range 4).all (fun e => (List.range 256).all (fun i =>
    let w := s.spineSel r e i
    rxClass w == 0 || hasBit w 22 || (s.dest r 2 e i).rail.valid)) &&
  (List.range 8).all (fun i =>
    (s.nipTxMode r i != 1 || ((s.dest r 5 i 512).rail.valid &&
      s.destValid r 5 i 0 (16 * (s.fld (Reg.NIP_CFG_TXW r i) + 1)))) &&
    (s.cqpWMode r i != 1 || s.destValid r 6 i 0 69) && (s.cqpReads r i != 1 || s.destValid r 6 i 70 3))

/-- Some tick port of region `r` takes data out of the fabric: a TICK-mode spine output, a transmit or write half in TICK mode, a
TICK-mode read (R148, R348, R388). -/
def State.portsTake (s : State) (r : Nat) : Bool :=
  (List.range 4).any (fun e => (List.range 256).any (fun i =>
    let w := s.spineSel r e i
    rxClass w != 0 && !hasBit w 22)) ||
  (List.range 8).any (fun i => s.nipTxMode r i == 1 || s.cqpWMode r i == 1 || s.cqpReads r i == 1)

/-- Some input of the region done tree participates, the engines' window-done left out (R49, R685). -/
def State.doneInputs (s : State) (r : Nat) : Bool :=
  (s.usedBlocks r).any (fun b => (List.range 64).any (s.mcParticipates r b)) || s.portsTake r

/-- The fabric's part of the done tree is complete: nothing of it waits on a loop (R684). -/
def State.fabricDone (s : State) (r : Nat) : Bool :=
  (s.usedBlocks r).all (fun b => (List.range 64).all (fun n => !s.mcParticipates r b n || s.mcComplete r b n)) &&
    s.portsComplete r

/-! ## Capture at a region tick -/

/-- The next stored bit of macrocell `n` at a capturing region tick (Table 3-6, R108), where it stores one. -/
def State.nextCell (s : State) (r b n : Nat) : Option Bool :=
  let w := s.mcCfg r b n
  let rd := 2 ^ 22 + elMc b n
  let q := s.cell r b n
  let rst := hasBit w 10
  let t3 := (s.look rd (.pt r b (4 * n + 3))).rail == .one
  let sum := (s.look rd (.sum r b n)).rail == .one
  match mcMode w with
  | 2 => some (if hasBit w 9 && t3 then rst else sum)
  | 3 => some (if t3 then sum else q)
  | 4 => some (if hasBit w 9 && t3 then rst else if sum then !q else q)
  | 5 =>
    if hasBit w 11 then some (if hasBit w 9 && t3 then rst else (s.look rd (.cbit r b n)).rail == .one) else none
  | _ => none

/-- A SAMPLE port at a region tick (R118, R119): its data cells, flag and controller after the decision. Zeros that a clamped spine
presents are no token (R117, R153). -/
def State.sampleTick (s old : State) (r b n : Nat) : State :=
  let w := old.mcCfg r b n
  let k := mcWidth w
  let xs := old.flowInputs r b n
  let x := old.flow r b n
  let there := !x.acko && xs.all (fun v => v.rail.valid && !v.dead)
  let f := (s.rgn r).fab
  let put := fun (t : Tbl Bool) (m : Nat) (v : Bool) => Tbl.put (old.cellReset r b m) t (elMc b m) v
  let cells := put f.cells (n + 1 + k) there
  let cells := if there then
      (List.range k).foldl (fun t i => put t (n + 1 + i) ((xs.getD i (.of .null)).rail == .one)) cells
    else cells
  let s := s.setFab r { f with cells }
  if there then s.setFlow r b n { x with acko := true } else s

/-- What the data cells of an OFFER port capture, as a word: their sums, or RSTVAL where SRST is 1 (R108, R120). -/
def State.offerWord (s : State) (r b n : Nat) : Nat :=
  ((List.range (mcWidth (s.mcCfg r b n))).map (fun i => bit ((s.nextCell r b (n + 1 + i)).getD false) * 2 ^ i)).sum

/-- An OFFER port at a region tick (R120, R121). `barred`: the wave that ends carried the fault that froze the region, and its data
cells capture nothing (R132). -/
def State.offerTick (s old : State) (r b n : Nat) (barred : Bool) : State :=
  let w := old.mcCfg r b n
  let k := mcWidth w
  let en := (old.look (2 ^ 22 + elMc b n) (.sum r b (n + 1 + k))).rail == .one
  let x := old.flow r b n
  let s :=
    if !en || barred then s
    else if x.full then s.blkError r b 4 n true
    else s.setFlow r b n { x with full := true, acked := false, word := old.offerWord r b n }
  let f := (s.rgn r).fab
  let ready := !(s.flow r b n).full
  s.setFab r { f with cells := Tbl.put (old.cellReset r b n) f.cells (elMc b n) ready }

/-- The fabric of region `r` captures at a region tick (R118–R121, Table 3-6): every storing cell, then the tick ports. `old` is
the state before the tick. `barred`: the wave that ends carried the fault that froze the region, and the tick registers do not
capture it (R132). -/
def State.fabricCapture (s old : State) (r : Nat) (barred : Bool) : State :=
  (old.usedBlocks r).foldl (fun s b => (List.range 64).foldl (fun s n =>
    let w := old.mcCfg r b n
    let s := match (if barred then none else old.nextCell r b n) with
      | some v =>
        let f := (s.rgn r).fab
        s.setFab r { f with cells := Tbl.put (old.cellReset r b n) f.cells (elMc b n) v }
      | none => s
    if isCtl w then
      match mcPort w with
      | 1 => s.sampleTick old r b n
      | 2 => s.offerTick old r b n barred
      | _ => s
    else s) s) s

/-- The TICK-mode spine outputs of region `r` capture at a region tick (R148). -/
def State.spineCapture (s old : State) (r : Nat) : State :=
  (List.range 4).foldl (fun s e => (List.range 256).foldl (fun s i =>
    let w := old.spineSel r e i
    if rxClass w = 0 ∨ hasBit w 22 then s
    else
      let f := (s.rgn r).fab
      s.setFab r { f with spineOut := Tbl.put false f.spineOut (256 * e + i) ((old.dest r 2 e i).rail == .one) }) s) s

end Sys2Proof.Machine
end

