-- ==== Sys2Proof/Machine/Settle.lean ====
section
/-! DEFINITION. What follows from every command's effect at once: fabric elements hold what they present (R93–R95), and the host
ports follow their vectors (R502). The form of every command's answer. -/

namespace Sys2Proof.Machine

/-- The elements of block `b` that hold what they present, in the order of their numbers. -/
def heldRefs (r b : Nat) : List (Nat × Ref) :=
  (List.range 320).map (fun k => (heldPt b k, .pt r b k)) ++ (List.range 64).map (fun n => (heldSum b n, .sum r b n)) ++
    (List.range 64).map (fun n => (heldBit b n, .cbit r b n)) ++ (List.range 64).map (fun n => (heldCarry b n, .carry r b n))

/-- The valid codes that the elements of region `r` present now. -/
def State.holdNow (s : State) (r : Nat) : Tbl (Option Bool) :=
  (s.usedBlocks r).flatMap (fun b => (heldRefs r b).filterMap (fun x =>
    match (s.look 0 x.2).rail with
    | .zero => some (x.1, some false)
    | .one => some (x.1, some true)
    | _ => none))

/-- What the elements of region `r` remember after a change of their signals; nothing in a region whose fabric is not active. -/
def State.elemNow (s : State) (r : Nat) : ElemSt :=
  if s.fabricOn r then ⟨(s.marksNow r).1, (s.marksNow r).2, s.holdNow r⟩ else .reset

/-- The fabric elements of every region follow their signals. -/
def State.settleElems (s : State) : State :=
  { s with elems := (List.range 24).foldl (fun t r => Tbl.put .reset t r (s.elemNow r)) s.elems }

/-- What follows from a command's effect at once: fabric elements follow their signals, and both ports their vectors. -/
def settle (s : State) : State := ((s.settleElems).settlePort 0).settlePort 1

/-- What a command answers. -/
abbrev Answer := Host.Outcome State Fault Refusal

/-- A command in state `s` answers with the next state: its effect `t`, and what follows from it at once. A command has its effect
on everything but the queue. -/
def answer (s t : State) : Answer := .next (settle { t with pending := s.pending })

end Sys2Proof.Machine
end

