-- ==== Sys2Proof/Machine/SliceOps.lean ====
section
/-! DEFINITION. The self-test controller's slices: their records, the spares that stand in, retirement (chapter 16). -/

namespace Sys2Proof.Machine

/-! ## Errors and outcomes -/

/-- The ARG of a ST_ERR incident (Table 18-5); `lane` plus 128 where one applies. -/
def stArg (lane : Nat) (s : State) : Nat :=
  (s.rd Reg.ST_LAST).toNat % 2 ^ 32 + (lane + (s.rd Reg.ST_ASTAT).toNat % 64 * 2 ^ 8) * 2 ^ 32

/-- The severities of Table 16-16 by bit of ST_ERR. -/
def stSev (i : Nat) : Sev :=
  match i with
  | 1 | 2 | 5 => .degraded
  | 7 => .notice
  | _ => .fault

/-- Error bit `i` of ST_ERR occurs (R615). -/
def State.stErr (s : State) (i lane : Nat) : State :=
  s.errBit ⟨Reg.ST_ERR, i, 1⟩ (hasBit (s.fld Reg.ST_ERRCTL_MASK) i) srcSelfTest (stSev i) i (stArg lane)

/-- One of the five counters advances (Table 16-13). -/
def State.stCount (s : State) (f : Fld) : State := s.count f ⟨Reg.ST_ERR, 8, 1⟩

/-- The outcomes of a slice (Table 16-5). -/
def outPass : Nat := 0
def outFail : Nat := 1
def outTransient : Nat := 2
def outAborted : Nat := 3
def outEnded : Nat := 4
def outSkipped : Nat := 5
def outNoSpare : Nat := 6
def outCopyFault : Nat := 7

/-- The phases of a slice (Table 16-13). -/
def phIdle : Nat := 0
def phCopy : Nat := 1
def phWaitOut : Nat := 2
def phTest : Nat := 3
def phRestore : Nat := 4
def phWaitBack : Nat := 5
def phParked : Nat := 6

/-- The SPARE code of an in-place slice. -/
def inPlace : Nat := 15

/-- The phase of the slice of region `r`. -/
def State.slicePhase (s : State) (r : Nat) : Nat := s.fld (Reg.ST_SLICE_PHASE r)

/-- A slice is in progress in region `r`. -/
def State.slicing (s : State) (r : Nat) : Bool := s.slicePhase r != phIdle

/-- ST_STAT.ACTIVE shows how many slices are in progress. -/
def State.sliceActive (s : State) : State :=
  s.setFld ⟨Reg.ST_STAT, 0, 4⟩ ((List.range 24).filter s.slicing).length

/-- The state with the self-test controller changed. -/
def State.setTest (s : State) (x : SelfTestSt) : State := { s with selfTest := x }

/-- The state with the phase of the slice of region `r` changed. -/
def State.setPhase (s : State) (r ph : Nat) : State := s.setFld (Reg.ST_SLICE_PHASE r) ph

/-- The slice of region `r` has reached the end of a copy, a test or a restore at the present tick. -/
def State.sliceReady (s : State) (r : Nat) : State :=
  s.setTest { s.selfTest with ready := Tbl.put 0 s.selfTest.ready r s.now }

/-- A slice outcome is counted, marked and recorded in ST_LAST (Table 16-5, R594, R599, R601). -/
def State.sliceOutcome (s : State) (r kind idx spare out dur : Nat) : State :=
  let v := r + kind * 2 ^ 5 + idx * 2 ^ 8 + spare * 2 ^ 17 + out * 2 ^ 24 + dur % 2 ^ 32 * 2 ^ 32
  let s := (s.wr Reg.ST_LAST (BitVec.ofNat 64 v)).stCount ⟨Reg.ST_SLICES, 0, 32⟩
  if out = outFail then ((s.stCount ⟨Reg.ST_FAILS, 0, 32⟩).stErr 0 0).setBit ⟨Reg.ST_EVT, 1, 1⟩ true
  else if out = outTransient then (s.stCount ⟨Reg.ST_TRANS, 0, 32⟩).stErr 1 0
  else if out = outSkipped then (s.stCount ⟨Reg.ST_SKIPS, 0, 32⟩).stErr 7 0
  else if out = outNoSpare then s.stErr 2 0
  else if out = outCopyFault then s.stErr 3 0
  else s

/-- ST_SLICE of region `r` ends, and the block slice set aside, if there is one, returns to it. -/
def State.sliceClear (s : State) (r : Nat) : State :=
  let x := s.selfTest
  let b := Tbl.get (0, 0) x.behind r
  let s := s.setTest { x with
    once := if hasBit b.1 32 then withBit x.once r else withoutBit x.once r
    marking := withoutBit x.marking r, aborting := withoutBit x.aborting r
    behind := Tbl.put (0, 0) x.behind r (0, 0), ready := Tbl.put 0 x.ready r b.2 }
  (s.wr (Reg.ST_SLICE r) (BitVec.ofNat 64 (b.1 % 2 ^ 32))).sliceActive

/-- The slice of region `r` ends with outcome `out`, after `dur` µs. -/
def State.sliceFinish (s : State) (r out dur : Nat) : State :=
  let kind := s.fld (Reg.ST_SLICE_KIND r)
  let idx := s.fld (Reg.ST_SLICE_INDEX r)
  let spare := s.fld (Reg.ST_SLICE_SPARE r)
  (s.sliceClear r).sliceOutcome r kind idx spare out dur

/-! ## Spares -/

/-- The spares of a kind of element: 0 block, 1 memory, 2 engine (Table 16-12). -/
def sparesOf (kind : Nat) : List Nat :=
  match kind with
  | 0 => List.range 8
  | 1 => [8, 9]
  | _ => [10]

/-- The user positions of a kind. -/
def userCount (kind : Nat) : Nat :=
  match kind with
  | 0 => 256
  | 1 => 96
  | _ => 4

/-- The spare that a position names, if it is a spare's (R568). -/
def spareOfIndex (kind idx : Nat) : Option Nat :=
  if idx < userCount kind then none else some (idx - userCount kind + (sparesOf kind).headD 0)

/-- The position that names spare `j`. -/
def indexOfSpare (kind j : Nat) : Nat := userCount kind + (j - (sparesOf kind).headD 0)

/-- Spare `j` neither stands in for an element nor is retired (R584). -/
def State.spareFree (s : State) (r j : Nat) : Bool :=
  !s.on (Reg.ST_SUB_USED r j) && !s.on (Reg.ST_SUB_PERM r j) && !s.on (Reg.ST_SUB_RETIRED r j)

/-- The lowest-numbered free spare of a kind. -/
def State.freeSpare (s : State) (r kind : Nat) : Option Nat := (sparesOf kind).find? (s.spareFree r)

/-- The spare that stands in for position `idx` now, if one does. -/
def State.holder (s : State) (r kind idx : Nat) : Option Nat :=
  (sparesOf kind).find? (fun j => s.on (Reg.ST_SUB_USED r j) && s.fld (Reg.ST_SUB_POS r j) == idx)

/-- The spare, plus 1, that the work of position `idx` of this kind came from at its handover. -/
def State.originOf (s : State) (r kind : Nat) : Nat := Tbl.get 0 s.selfTest.origin (4 * r + kind)

/-- The state with the origin of the slice of this kind noted. -/
def State.setOrigin (s : State) (r kind k : Nat) : State :=
  s.setTest { s.selfTest with origin := Tbl.put 0 s.selfTest.origin (4 * r + kind) k }

/-- The work of position `idx` moves to spare `j` (R588, R595, R596). -/
def State.standIn (s : State) (r kind idx j : Nat) : State :=
  let s := match s.holder r kind idx with
    | some k => (s.setBit (Reg.ST_SUB_USED r k) false).setOrigin r kind (k + 1)
    | none => s.setOrigin r kind 0
  (s.setFld (Reg.ST_SUB_POS r j) idx).setBit (Reg.ST_SUB_USED r j) true

/-- The work of a position returns from spare `j` to the element that held it. -/
def State.standBack (s : State) (r kind j : Nat) : State :=
  let s := (s.setFld (Reg.ST_SUB_POS r j) 0).setBit (Reg.ST_SUB_USED r j) false
  match s.originOf r kind with
  | 0 => s
  | k + 1 => (s.setBit (Reg.ST_SUB_USED r k) true).setOrigin r kind 0

/-- Spare `k` is retired: it never stands in for an element again (R600). -/
def State.retireSpare (s : State) (r k : Nat) : State :=
  (((s.setBit (Reg.ST_SUB_PERM r k) false).setBit (Reg.ST_SUB_USED r k) false).setFld (Reg.ST_SUB_POS r k) 0).setBit
    (Reg.ST_SUB_RETIRED r k) true

/-! ## The store queue (R572) -/

/-- Internal store `w` joins the queue; E_BUSY where four wait already. -/
def State.queueStore (s : State) (w : StoreWhat) : State × Code :=
  let h := s.hk
  let st : HkStore := ⟨w, 0, 0, none⟩
  if h.cur.isNone && h.queue.isEmpty then
    ({ s with hk := { h with cur := some st } }.setBit Reg.HK_JSTAT_BUSY true, .ok)
  else if h.queue.length < 4 then ({ s with hk := { h with queue := h.queue ++ [st] } }, .ok)
  else (s, .eBusy)

/-- Position `idx` of region `r` is listed in FAILMAP (R599). -/
def State.listFailed (s : State) (r kind idx : Nat) : State :=
  let x := s.selfTest
  if x.map.contains (r, kind, idx) then s else s.setTest { x with map := x.map ++ [(r, kind, idx)] }

/-- A FAILMAP store is queued (R599): one that finds no room sets FMAP_STORE and is queued again later. -/
def State.queueFailmap (s : State) (part : Nat) : State :=
  let s := s.setBit Reg.ST_STAT_FMAP_PEND true
  let (s, c) := s.queueStore (.failmap part)
  if c = .ok then s else (s.setTest { s.selfTest with restore := true }).stErr 6 0

/-- The element tested in the slice of region `r`, or moved by a MARK_FAILED, is retired (R599, R600). -/
def State.retire (s : State) (r : Nat) : State :=
  let kind := s.fld (Reg.ST_SLICE_KIND r)
  let idx := s.fld (Reg.ST_SLICE_INDEX r)
  let j := s.fld (Reg.ST_SLICE_SPARE r)
  if j = inPlace then
    match spareOfIndex kind idx, s.holder r kind idx with
    | some k, _ => (s.retireSpare r k).listFailed r kind idx
    | none, some k => (s.retireSpare r k).listFailed r kind (indexOfSpare kind k)
    | none, none => s.listFailed r kind idx
  else
    let s := match s.originOf r kind with
      | 0 => s
      | k + 1 => ((s.retireSpare r k).listFailed r kind (indexOfSpare kind k)).setOrigin r kind 0
    (s.setBit (Reg.ST_SUB_PERM r j) true).listFailed r kind idx

/-- The slice that ST_SLICE of region `r` shows ends with outcome `out`; the substitution is undone (Table 16-4). How long the
slice took is not stated. -/
def State.sliceEndFront (s : State) (r out : Nat) : State :=
  if !s.slicing r then s
  else
    let j := s.fld (Reg.ST_SLICE_SPARE r)
    let kind := s.fld (Reg.ST_SLICE_KIND r)
    let s := if j ≠ inPlace ∧ s.on (Reg.ST_SUB_USED r j) then s.standBack r kind j else s
    let d := (s.freeBits 32).toNat
    (s.tookFree).sliceFinish r out d

/-- A state change ends the slice of region `r`, and one that waits in WAIT_BACK behind it (Table 16-4). -/
def State.sliceEnd (s : State) (r out : Nat) : State := (s.sliceEndFront r out).sliceEndFront r out

/-- Every substitution of region `r` ends as it loses power (R599). -/
def State.dropSpares (s : State) (r : Nat) : State :=
  (List.range 11).foldl (fun s j =>
    ((s.setFld (Reg.ST_SUB_POS r j) 0).setBit (Reg.ST_SUB_USED r j) false).setBit (Reg.ST_SUB_PERM r j) false) s

/-- A REGION_TEST of region `r` ends: its contents are cleared (R598). -/
def State.testEnd (s : State) (r : Nat) : State :=
  let m := withoutBit s.selfTest.testing r
  (s.setTest { s.selfTest with testing := m }).setBit ⟨Reg.ST_STAT, 6, 1⟩ (m != 0)

/-- A REGION_TEST runs in region `r`. -/
def State.testing (s : State) (r : Nat) : Bool := hasBit s.selfTest.testing r

/-- A REGION_TEST that a command or a frame ends (R598). -/
def State.testEnded (s : State) (r : Nat) : State :=
  if s.testing r then
    let s := s.testEnd r
    let d := (s.freeBits 32).toNat
    (s.tookFree).sliceOutcome r 3 0 inPlace outEnded d
  else s

/-! ## Life cycle -/

/-- The life-cycle state: that of the highest-coded fuse that reads blown (R611); 0 RAW, 1 DEVELOP, 2 SECURED, 3 RMA,
4 RETIRED (Table 16-10). -/
def State.lcState (s : State) : Nat :=
  ([4, 3, 2, 1].find? (fun k => hasBit s.fuses.states k)).getD 0

end Sys2Proof.Machine
end

