-- ==== Sys2Proof/Machine/Bm.lean ====
section
/-! DEFINITION. The meanings of the maintenance path and of the region scrubber (chapters 5 and 6). -/

namespace Sys2Proof.Machine

/-- What an access to the engines, block memories or fabric ports of region `r` is answered with, by the region's state
(Table 4-13, R25, R33). -/
def State.regionAccess (s : State) (r : Nat) : Code :=
  match s.rstate r with
  | .off => .eState
  | .blank | .configuring | .held => .eRst
  | .running | .frozen => .ok
  | .isolated | .failed => .eIso

/-- A maintenance access by a requester: a read of `n` bytes at `off` of memory `m`, or a write of them (R196, R201–R203,
R214). The answer goes to the requester. -/
def State.bmAccess (s : State) (req r m off n : Nat) (write : Bool) (value be : Nat) : State :=
  let addr := bmRow r m 0 + off
  let c := s.regionAccess r
  if c ≠ .ok then (if write then s.windowRefuse req r addr c else s.respond req addr c)
  else if off + n > 0x1000 then s.respond req addr .eArg
  else if write then
    let (s, c) := s.maintWrite r m off n value be finderHost
    s.respond req addr c
  else
    let (s, v, c) := s.maintRead r m off n finderHost
    if c = .ok then s.emit (.readData req addr v) else s.respond req addr c

/-- BM_MAINTENANCE_ACCESS (R196). -/
def execBmMaintenanceAccess (req r m off n : Nat) (write : Bool) (value be : Nat) (upsets : List (Nat × Nat)) (s : State) :
    Answer :=
  answer s (if validRegion r && m < 96 then (s.upset upsets).bmAccess req r m off n write value be else s.upset upsets)

/-- A write of BM_CMD (R199): its outcome stands in BM_STAT.CODE, and an E_STATE is logged (R13). -/
def State.bmCmdWrite (s : State) (req r m value : Nat) : State :=
  let a := Reg.BM_CMD r m
  let c : Code :=
    if !hasBit value 0 then .ok
    else if s.on (Reg.BM_STAT_CLR_BUSY r m) then .eBusy
    else if s.rstate r = .configuring then .eState
    else .ok
  let s := if c = .ok && hasBit value 0 then (s.clearValid r m).setBit (Reg.BM_STAT_CLR_BUSY r m) true else s
  let s := s.setFld (Reg.BM_STAT_CODE r m) c.num
  s.windowRefuse req r a c

/-- What a write to a control register of region `r`, other than REG_CMD, is answered with outright: E_STATE in an OFF region, E_ISO
in an ISOLATED or FAILED one (Table 4-13, R33). -/
def State.controlGate (s : State) (r : Nat) : Code :=
  match s.rstate r with
  | .off => .eState
  | .isolated | .failed => .eIso
  | _ => .ok

/-- BM_CLEAR (R199). -/
def execBmClear (req r m : Nat) (s : State) : Answer :=
  let a := Reg.BM_CMD r m
  answer s (
    if !(validRegion r && m < 96) then s
    else match s.controlGate r with
      | .ok => s.bmCmdWrite req r m 1
      | c => s.windowRefuse req r a c)

/-- BM_CLEAR_DONE (R199). -/
def execBmClearDone (r m : Nat) (s : State) : Answer :=
  answer s (if validRegion r && m < 96 then s.setBit (Reg.BM_STAT_CLR_BUSY r m) false else s)

/-! ## The scrubber -/

/-- The scrubber of region `r` runs (R221). -/
def State.scrubbing (s : State) (r : Nat) : Bool :=
  s.on (Reg.SCR_CTL_EN r) && (s.rstate r == .held || s.rstate r == .running || s.rstate r == .frozen)

/-- Steps of a sweep before the engine steps, before the frame steps, and in all (R219). -/
def bmSteps : Nat := 98 * 512
def engSteps : Nat := 5 * 12288
def sweepSteps : Nat := bmSteps + engSteps + 14400

/-- The column and minor address of frame number `n` of a region (R219, Table 14-4). -/
def frameOf (n : Nat) : Nat × Nat :=
  if n < 10560 then (n / 320, n % 320)
  else if n < 11748 then (33 + (n - 10560) / 594, (n - 10560) % 594)
  else if n < 12324 then (35, n - 11748)
  else if n < 14244 then (36 + (n - 12324) / 384, (n - 12324) % 384)
  else (41, n - 14244)

/-- CFG_FAR's layout of a frame address: MINOR in bits 10–0, COLUMN in 16–11, REGION in 21–17. -/
def farOf (region col minor : Nat) : Nat := minor + col * 2 ^ 11 + region * 2 ^ 17

/-- A scrubber step reads one code word with mark `v`: a correctable one is counted and written back, an uncorrectable
one counted (R210, R215, R223). -/
def State.scrubWord (s : State) (p : EccPlace) (a addr : Nat) : State :=
  let v := s.mark a
  if v = 0 then s
  else if v = 1 then (s.eccEvent p (addr + finderScrub * 2 ^ 18) false).setMark a 0
  else s.eccEvent p (addr + finderScrub * 2 ^ 18) true

/-- The memory whose rows element `i` of the sweep holds (R219): a position that a spare stands in for holds none, SBM0 and SBM1 (96
and 97) hold those of the position they stand in for, and a spare that stands in for none holds nothing that any requester sees. -/
def State.sweptBm (s : State) (r i : Nat) : Option Nat :=
  if i < 96 then (if (s.holder r 1 i).isSome then none else some i)
  else if s.on (Reg.ST_SUB_USED r (i - 88)) then some (s.fld (Reg.ST_SUB_POS r (i - 88)))
  else none

/-- A step on a row of memory `m`. -/
def State.scrubRow (s : State) (r m row : Nat) : State :=
  let p := bmPlace r m
  let a := bmRow r m row
  let s := s.scrubWord p (a + 1) (row + 2 * 2 ^ 14)
  if s.rowValid r m row then
    (codeWords (s.bmEcc r m) 3).foldl (fun s w => s.scrubWord p (a + w.1) (row + w.2 * 2 ^ 14)) s
  else s

/-- The one step on a memory in ECC NONE: its valid bits (R219). -/
def State.scrubValidBits (s : State) (r m : Nat) : State :=
  (s.marks.filter (fun e => decide (bmRow r m 0 ≤ e.1) && decide (e.1 < bmRow r m 512) && e.1 % 8 == 1)).foldl
    (fun s e => s.scrubWord (bmPlace r m) e.1 ((e.1 - bmRow r m 0) / 8 + 2 * 2 ^ 14)) s

/-- The window address of the first word of line `line` of engine slot `k`, and its place: MEM and first word (R219). -/
def engLine (r k line : Nat) : Nat × Nat × Nat :=
  let base := 0x1100000 + 0x200000 * r + 0x40000 * k
  if line < 2048 then (base + 8 * line, 0, 2 * line)
  else if line < 4096 then (base + 0x4000 + 8 * (line - 2048), 1, 2 * (line - 2048))
  else if line < 8192 then (base + 0x10000 + 8 * (line - 4096), 2, 4 * (line - 4096))
  else (base + 0x18000 + 8 * (line - 8192), 3, 4 * (line - 8192))

/-- The engine slot whose memories engine `k` of the sweep holds; 4 is the spare engine (R219). -/
def State.sweptEng (s : State) (r k : Nat) : Option Nat :=
  if k < 4 then (if (s.holder r 2 k).isSome then none else some k)
  else if s.on (Reg.ST_SUB_USED r 10) then some (s.fld (Reg.ST_SUB_POS r 10))
  else none

/-- A step on a line of engine memory. -/
def State.scrubLine (s : State) (r k line : Nat) : State :=
  let (a, mem, w) := engLine r k line
  let words := if mem < 2 then [(0, 0), (4, 1)] else [(0, 0), (2, 1), (4, 2), (6, 3)]
  words.foldl (fun s x => s.scrubWord (engPlace r k) (a + x.1) (w + x.2 + mem * 2 ^ 16)) s

/-- The block that spare block `j` of region `r` stands in for now, if any (Table 16-13). -/
def State.spareFor (s : State) (r j : Nat) : Option Nat :=
  if s.on (Reg.ST_SUB_USED r j) then some (s.fld (Reg.ST_SUB_POS r j)) else none

/-- A frame fault is reported at the element that the frame configures (R227), and escalates under FRAME_ESC (R228). -/
def State.frameFault (s : State) (r col minor : Nat) : State :=
  let s := s.count (Reg.SCR_CFGUE_COUNT r) (Reg.SCR_STAT_CNT_SAT r)
  let (s, cause) : State × EscCause :=
    if col < 32 then
      let b := 8 * col + minor / 40
      (s.blkError r b 6 0 true, .frame b)
    else if col = 32 then
      match s.spareFor r (minor / 40) with
      | some b => (s.blkError r b 6 0 true, .frame b)
      | none => (s, .frameOther)
    else if col < 36 then
      let m := (col - 33) * 33 + minor / 18
      let m := if m < 96 then some m else s.spareFor r (m - 96 + 8)
      (m.elim s (fun m => s.eccBit (bmPlace r m) 2 .fault), .frameOther)
    else if col < 40 then (s.eccBit (engPlace r (col - 36)) 2 .fault, .frameOther)
    else if col = 40 then ((s.spareFor r 10).elim s (fun k => s.eccBit (engPlace r k) 2 .fault), .frameOther)
    else (s.scrError r 1, .frameOther)
  if s.on (Reg.SCR_CTL_FRAME_ESC r) && s.rstate r == .running then s.setEsc r cause else s

/-- How many bits of a mask are set. -/
def flipCount (mask : Nat) : Nat := ((List.range 39).filter (hasBit mask)).length

/-- The flipped-bit masks of a frame's words, by `frameKey`. -/
def State.frameFlips (s : State) (r col minor : Nat) : List (Nat × Nat) :=
  let lo := frameKey r col minor 0
  s.frameMarks.filter (fun e => decide (lo ≤ e.1) && decide (e.1 ≤ lo + 64))

/-- A frame read finds a fault: a word that is not correctable, or a CRC that does not match (R225). Where more than two bits of a
word have flipped, the CRC detects what its check bits do not (R208). -/
def State.frameFaulty (s : State) (r col minor : Nat) : Bool :=
  (s.frameFlips r col minor).any (fun e => decide (2 ≤ flipCount e.2) || e.1 == frameKey r col minor 64)

/-- The registers that show configuration words of a frame follow them: BM_CFG, ENG_CFG, NIP_CFG and CQP_CFG (R226, Tables 14-6
and 14-8). -/
def State.frameActs (s : State) (r col minor : Nat) : State :=
  let m := (col - 33) * 33 + minor / 18
  if 33 ≤ col ∧ col ≤ 35 ∧ minor % 18 = 16 ∧ m < 96 then s.wr (Reg.BM_CFG r m) (BitVec.ofNat 64 (s.frame r col minor 0 &&& 0x33F3F))
  else if col = 41 ∧ minor = 0 then
    let w := s.frame r 41 0
    let s := (List.range 4).foldl (fun t k => t.wr (Reg.ENG_CFG r k) (BitVec.ofNat 64 (w (1 + k) % 4))) s
    (List.range 8).foldl (fun t i =>
      (t.wr (Reg.NIP_CFG r i) (BitVec.ofNat 64 (w (40 + i) % 2 ^ 26))).wr (Reg.CQP_CFG r i)
        (BitVec.ofNat 64 (w (48 + i) % 2 ^ 25))) s
  else s

/-- The words of a frame that hold a correctable error are written back (R225, R226). -/
def State.frameRepair (s : State) (r col minor : Nat) : State :=
  let lo := frameKey r col minor 0
  let out := fun (e : Nat × Nat) => !(decide (lo ≤ e.1) && decide (e.1 < lo + 64) && flipCount e.2 == 1)
  { s with frameMarks := s.frameMarks.filter out }.frameActs r col minor

/-- The frame that a step on physical frame (`col`, `minor`) reads, by the user position whose work it holds: a position that a
spare stands in for holds none, and a spare holds that of the position it stands in for (R219, R521). -/
def State.sweptFrame (s : State) (r col minor : Nat) : Option (Nat × Nat) :=
  let own := fun (kind idx : Nat) => if (s.holder r kind idx).isSome then none else some (col, minor)
  let spare := fun (j : Nat) (f : Nat → Nat × Nat) => some ((s.spareFor r j).elim (col, minor) f)
  if col < 32 then own 0 (8 * col + minor / 40)
  else if col = 32 then spare (minor / 40) (fun b => (b / 8, 40 * (b % 8) + minor % 40))
  else if col < 36 then
    let m := (col - 33) * 33 + minor / 18
    if m < 96 then own 1 m else spare (m - 88) (fun p => (33 + p / 33, 18 * (p % 33) + minor % 18))
  else if col < 40 then own 2 (col - 36)
  else if col = 40 then spare 10 (fun k => (36 + k, minor))
  else some (col, minor)

/-- A step on a configuration frame (R224–R226). -/
def State.scrubFrame (s : State) (r col minor : Nat) : State :=
  let ms := s.frameFlips r col minor
  if ms.isEmpty then s
  else if s.frameFaulty r col minor then s.frameFault r col minor
  else
    let first := s.fld (Reg.SCR_CFGCE_COUNT r) == 0
    let s := s.countN (Reg.SCR_CFGCE_COUNT r) (Reg.SCR_STAT_CNT_SAT r) ms.length
    let s := if first then s.raise (srcRegion r) .degraded 0x64 (farOf r col minor) else s
    if s.ticking && (s.rstate r == .running || s.rstate r == .frozen) then
      let x := s.scr r
      s.setScr r { x with writeback := x.writeback ++ [(col, minor)] }
    else s.frameRepair r col minor

/-- The ECC mode by which memory `i` of the sweep takes steps: 96 and 97 are SBM0 and SBM1, which have the mode of the memory
they stand in for, or else that of their own frames (R219, R521, Table 14-6). -/
def State.stepEcc (s : State) (r i : Nat) : Nat :=
  if i < 96 then s.bmEcc r i
  else if s.on (Reg.ST_SUB_USED r (i - 88)) then s.bmEcc r (s.fld (Reg.ST_SUB_POS r (i - 88)) % 128)
  else bitsOf (s.frame r 35 (18 * (i - 66) + 16) 0) (Reg.BM_CFG_ECC 0 0).lo (Reg.BM_CFG_ECC 0 0).width

/-- Where the sweep goes after the step taken: a memory in ECC NONE takes one step (R219). Answers the next step. -/
def State.nextStep (s : State) (r n : Nat) : Nat :=
  if n < bmSteps ∧ s.stepEcc r (n / 512) = 0 then (n / 512 + 1) * 512 else n + 1

/-- One scrubber step (R219–R226). -/
def State.scrubStep (s : State) (r : Nat) : State :=
  let n := (s.scr r).step
  let (cls, idx) := if n < bmSteps then (0, n) else if n < bmSteps + engSteps then (1, n - bmSteps)
    else (2, n - bmSteps - engSteps)
  let s := (s.setFld (Reg.SCR_POS_CLASS r) cls).setFld (Reg.SCR_POS_INDEX r) idx
  let s :=
    if cls = 0 then
      (s.sweptBm r (idx / 512)).elim s (fun m =>
        if s.stepEcc r (idx / 512) == 0 then s.scrubValidBits r m else s.scrubRow r m (idx % 512))
    else if cls = 1 then (s.sweptEng r (idx / 12288)).elim s (fun k => s.scrubLine r k (idx % 12288))
    else
      let (col, minor) := frameOf idx
      (s.sweptFrame r col minor).elim s (fun f => s.scrubFrame r f.1 f.2)
  let n' := s.nextStep r n
  if n' ≥ sweepSteps then
    let s := s.count (Reg.SCR_SWEEPS_COUNT r) (Reg.SCR_STAT_CNT_SAT r)
    s.setScr r { s.scr r with step := 0, sweepCe := [] }
  else s.setScr r { s.scr r with step := n' }

/-- Bits flip in configuration words and act on the logic at once (R226): each entry names a frame word by column, minor address
and word, and the bits that flip, data bits 31–0 and check bits 38–32; the stored CRC (word 64) has no check bits. -/
def State.frameUpset (s : State) (r : Nat) : List (Nat × Nat × Nat × Nat) → State
  | [] => s
  | (col, minor, w, mask) :: t =>
    let k := frameKey r col minor w
    let s := if col < 42 ∧ minor < 640 ∧ w < 65 then
        let flips := Tbl.get 0 s.frameMarks k ^^^ mask % 2 ^ (if w = 64 then 32 else 39)
        { s with frameMarks := Tbl.put 0 s.frameMarks k flips }.frameActs r col minor
      else s
    s.frameUpset r t

/-- SCRUB_STEP (R220). -/
def execScrubStep (r : Nat) (upsets : List (Nat × Nat)) (frameUpsets : List (Nat × Nat × Nat × Nat)) (s : State) :
    Answer :=
  answer s (
    let s := s.upset upsets
    let s := if validRegion r then s.frameUpset r frameUpsets else s
    if validRegion r && s.scrubbing r then s.scrubStep r else s)

/-- Every corrected frame that waits is written back (R226). -/
def State.scrubWriteback (s : State) (r : Nat) : State :=
  let s := (s.scr r).writeback.foldl (fun s f => s.frameRepair r f.1 f.2) s
  s.setScr r { s.scr r with writeback := [] }

/-- The present tick is a region tick of region `r` at whose boundary no wave is in progress: none runs, or the one that the tick
began has not left its NULL wave (R226). -/
def State.betweenWaves (s : State) (r : Nat) : Bool :=
  let x := s.rgn r
  s.regionTickAt r s.now &&
    (x.phase == .idle || x.phase == .done || (x.phase == .nullWave && x.waveTick == some s.now))

/-- SCRUB_FRAME_WRITEBACK (R226): at a region tick boundary between waves, or at once if the region is no longer RUNNING or FROZEN
or the tick has stopped. -/
def execScrubFrameWriteback (r : Nat) (s : State) : Answer :=
  answer s (if validRegion r && !(s.scr r).writeback.isEmpty &&
      (!s.ticking || s.betweenWaves r || !(s.rstate r == .running || s.rstate r == .frozen)) then
      s.scrubWriteback r
    else s)

end Sys2Proof.Machine
end

