-- ==== Sys2Proof/Machine/LaneCode.lean ====
section
/-! DEFINITION. The coding of a lane: blocks, RS(544,514), and line levels (R413–R418, R420). What the spec takes from IEEE 802.3
Clauses 91 and 120 without stating it (the generator's roots, the order of symbols and of the bits in a symbol, the Gray map) is that
of those clauses (assumption 55). -/

namespace Sys2Proof.Machine

/-! ## Blocks (Tables 11-3 and 11-4) -/

/-- A data block with 32 bytes of the stream, byte 0 in the low bits. -/
def dataBlock (bytes : Nat) : Nat := 1 + bytes % 2 ^ 256 * 2

/-- An IDLE block. -/
def idleBlock : Nat := 0x1E * 2

/-- An ALIGN block: codeword counter, lane index within the port, width code. -/
def alignBlock (counter lane width : Nat) : Nat :=
  0x2D * 2 + counter % 2 ^ 32 * 2 ^ 9 + lane % 8 * 2 ^ 41 + width % 4 * 2 ^ 44

/-- What a received block is. -/
inductive BlockKind where
  | data (bytes : Nat)
  | idle
  | align (counter lane width : Nat)
  | reserved
  deriving DecidableEq, Repr

/-- The kind of a block of 257 bits. -/
def blockKind (b : Nat) : BlockKind :=
  if hasBit b 0 then .data (bitsOf b 1 256)
  else if bitsOf b 1 8 = 0x1E then .idle
  else if bitsOf b 1 8 = 0x2D then .align (bitsOf b 9 32) (bitsOf b 41 3) (bitsOf b 44 2)
  else .reserved

/-! ## The field GF(2^10) and RS(544,514) (R416) -/

/-- An element times the root of x^10 + x^3 + 1. -/
def gfDouble (a : Nat) : Nat := if 512 ≤ a then (2 * a ^^^ 0x409) % 1024 else 2 * a

/-- The product of two elements, from the low `n` bits of the second. -/
def gfMulBits : Nat → Nat → Nat → Nat
  | 0, _, _ => 0
  | n + 1, a, b => (if b % 2 = 1 then a else 0) ^^^ gfMulBits n (gfDouble a) (b / 2)

/-- The product of two elements. -/
def gfMul (a b : Nat) : Nat := gfMulBits 10 a b

/-- A power of an element, from the low `n` bits of the exponent. -/
def gfPowBits : Nat → Nat → Nat → Nat
  | 0, _, _ => 1
  | n + 1, a, e => gfMul (if e % 2 = 1 then a else 1) (gfPowBits n (gfMul a a) (e / 2))

/-- A power of an element other than 0. -/
def gfPow (a e : Nat) : Nat := gfPowBits 10 a (e % 1023)

/-- The inverse of an element other than 0. -/
def gfInv (a : Nat) : Nat := gfPow a 1022

/-- The value of a polynomial, highest degree first. -/
def gfEval (p : List Nat) (x : Nat) : Nat := p.foldl (fun acc c => gfMul acc x ^^^ c) 0

/-- The generator polynomial, highest degree first: the product of x − α^i, i = 0–29. -/
def rsGenerator : List Nat :=
  (List.range 30).foldl (fun p i => List.zipWith (· ^^^ ·) (p ++ [0]) (0 :: p.map (gfMul (gfPow 2 i)))) [1]

/-- The 30 parity symbols of a message, in transmission order. -/
def rsParity (msg : List Nat) : List Nat :=
  let g := rsGenerator.tail
  msg.foldl (fun r m =>
    let fb := m ^^^ r.headD 0
    List.zipWith (· ^^^ ·) (r.tail ++ [0]) (g.map (gfMul fb))) (List.replicate 30 0)

/-- The syndromes of a received word of 544 symbols. -/
def rsSyndromes (w : List Nat) : List Nat := (List.range 30).map (fun i => gfEval w (gfPow 2 i))

/-- The state of the search for the error locator: it and its correction (lowest degree first), its length, the distance since and
the discrepancy at the last change of length. -/
structure Locator where
  c : List Nat
  b : List Nat
  len : Nat
  gap : Nat
  disc : Nat
  deriving DecidableEq, Repr

/-- Coefficient `i` of a polynomial, lowest degree first. -/
def coeff (p : List Nat) (i : Nat) : Nat := p.getD i 0

/-- The sum of a polynomial and `k` times x^`gap` times another, lowest degree first. -/
def addScaled (p : List Nat) (k gap : Nat) (q : List Nat) : List Nat :=
  (List.range (max p.length (gap + q.length))).map (fun i =>
    coeff p i ^^^ (if i < gap then 0 else gfMul k (coeff q (i - gap))))

/-- The sum of a list in the field. -/
def gfSum (l : List Nat) : Nat := l.foldl (· ^^^ ·) 0

/-- One step of the search (Berlekamp and Massey), at syndrome `n`. -/
def Locator.step (s : List Nat) (x : Locator) (n : Nat) : Locator :=
  let d := gfSum ((List.range (x.len + 1)).map (fun i => gfMul (coeff x.c i) (coeff s (n - i))))
  if d = 0 then { x with gap := x.gap + 1 }
  else
    let c := addScaled x.c (gfMul d (gfInv x.disc)) x.gap x.b
    if 2 * x.len ≤ n then ⟨c, x.c, n + 1 - x.len, 1, d⟩ else { x with c, gap := x.gap + 1 }

/-- The value of a polynomial, lowest degree first. -/
def evalLow (p : List Nat) (x : Nat) : Nat := gfEval p.reverse x

/-- The errors in a received word of 544 symbols, as symbol index and value, if at most 15 symbols are in error; none if the word is
uncorrectable (R416, R417). -/
def rsErrors (w : List Nat) : Option (List (Nat × Nat)) :=
  let s := rsSyndromes w
  if s.all (· == 0) then some []
  else
    let loc := (List.range 30).foldl (Locator.step s) ⟨[1], [1], 0, 1, 1⟩
    let places := (List.range 544).filter (fun j => evalLow loc.c (gfInv (gfPow 2 (543 - j))) == 0)
    if 15 < loc.len ∨ places.length ≠ loc.len then none
    else
      let omega := (List.range 30).map (fun i => gfSum ((List.range (i + 1)).map (fun k => gfMul (coeff s k) (coeff loc.c (i - k)))))
      let slope := loc.c.tail.mapIdx (fun i c => if i % 2 = 0 then c else 0)
      let es := places.map (fun j =>
        let x := gfPow 2 (543 - j)
        (j, gfMul x (gfMul (evalLow omega (gfInv x)) (gfInv (evalLow slope (gfInv x))))))
      let fixed := es.foldl (fun (w : List Nat) e => w.set e.1 (w.getD e.1 0 ^^^ e.2)) w
      if es.all (fun e => e.2 != 0) && (rsSyndromes fixed).all (· == 0) then some es else none

/-! ## Codewords (R416) -/

/-- A number as `n` symbols of ten bits, the low one first. -/
def symbolsOf (v n : Nat) : List Nat := (List.range n).map (fun k => bitsOf v (10 * k) 10)

/-- Fields of `k` bits as one number, the first in the low bits. -/
def packBits (k : Nat) : List Nat → Nat
  | [] => 0
  | x :: t => x % 2 ^ k + 2 ^ k * packBits k t

/-- The codeword of 20 blocks, as 5,440 bits in transmission order: bit 0 first. -/
def encodeBlocks (blocks : List Nat) : Nat :=
  let m := symbolsOf (packBits 257 blocks) 514
  packBits 10 (m ++ rsParity m)

/-- A received codeword: its 20 blocks and how many symbols were corrected; none if it is uncorrectable. -/
def decodeBlocks (v : Nat) : Option (List Nat × Nat) :=
  let w := symbolsOf v 544
  (rsErrors w).map (fun es =>
    let m := packBits 10 ((es.foldl (fun (w : List Nat) e => w.set e.1 (w.getD e.1 0 ^^^ e.2)) w).take 514)
    ((List.range 20).map (fun i => bitsOf m (257 * i) 257), es.length))

/-! ## Line levels (R413, R418, R420) -/

/-- How a direction of a lane turns bits into levels: half rate (NRZ), precoding, inverted polarity. -/
structure LineMode where
  half : Bool
  precode : Bool
  invert : Bool
  deriving DecidableEq, Repr

/-- The PAM4 level of two bits, the first in bit 0 of the argument, and back: the first bit is the most significant of a Gray code. -/
def grayLevel (pair : Nat) : Nat := [0, 3, 1, 2].getD (pair % 4) 0
def grayBits (level : Nat) : Nat := [0, 2, 3, 1].getD (level % 4) 0

/-- PAM4 levels of pairs of bits; `prev` is the last precoded level. Answers the levels and the last precoded one. -/
def pam4Send (m : LineMode) : Nat → List Nat → List Nat × Nat
  | prev, [] => ([], prev)
  | prev, x :: t =>
    let l := if m.precode then (grayLevel x + 4 - prev % 4) % 4 else grayLevel x
    let (ls, last) := pam4Send m l t
    ((if m.invert then 3 - l else l) :: ls, last)

/-- The pairs of bits of received PAM4 levels; `prev` is the level before them. -/
def pam4Receive (m : LineMode) : Nat → List Nat → List Nat × Nat
  | prev, [] => ([], prev)
  | prev, x :: t =>
    let l := if m.invert then 3 - x % 4 else x % 4
    let (bs, last) := pam4Receive m l t
    (grayBits (if m.precode then (l + prev) % 4 else l) :: bs, last)

/-- The levels of a codeword on the line, the first in the low bits: 2,720 of two bits at full rate; at half rate 5,440 of one, 1 the
positive one. Answers also the last precoded level. -/
def lineSend (m : LineMode) (prev v : Nat) : Nat × Nat :=
  if m.half then (if m.invert then 2 ^ 5440 - 1 - v % 2 ^ 5440 else v % 2 ^ 5440, prev)
  else
    let (ls, last) := pam4Send m prev ((List.range 2720).map (fun k => bitsOf v (2 * k) 2))
    (packBits 2 ls, last)

/-- The levels of a codeword, from those of its 514 message symbols and those of its parity symbols. -/
def codewordLevels (message parity : Nat) : Nat := message % 2 ^ 5140 + parity * 2 ^ 5140

/-- The codeword that received levels stand for, and the last of them. -/
def lineReceive (m : LineMode) (prev v : Nat) : Nat × Nat :=
  if m.half then (if m.invert then 2 ^ 5440 - 1 - v % 2 ^ 5440 else v % 2 ^ 5440, prev)
  else
    let (bs, last) := pam4Receive m prev ((List.range 2720).map (fun k => bitsOf v (2 * k) 2))
    (packBits 2 bs, last)

end Sys2Proof.Machine
end

