-- ==== Sys2Proof/Machine/Queue.lean ====
section
/-! DEFINITION. The meanings of the capture-queue commands (chapter 10), but for those that read the fabric. -/

namespace Sys2Proof.Machine

/-- Queue `q` exists. -/
def validQueue (q : Nat) : Bool := decide (q < 1024)

/-! ## Descriptors and commands -/

/-- A write of descriptor word `w` (R359). -/
def State.queueDescWrite (s : State) (req q w value : Nat) : State :=
  let a := Reg.QM_QDESC0 (q / 256) (q % 256) + 4 * w
  let c : Code := if s.qstate q = qDisabled then .ok else .eState
  let mask := [0x3FFF7FF7, 0xFFFFFFFF, 0xFFF7FFFF, 0xFFFFFFFF].getD w 0
  let s := if c = .ok then s.wr a (BitVec.ofNat 64 (value % 2 ^ 32) &&& BitVec.ofNat 64 mask) else s
  s.queueRecord req q a 0 c

/-- QUEUE_DESC_WRITE (R359). -/
def execQueueDescWrite (req q w : Nat) (value : BitVec 32) (s : State) : Answer :=
  answer s (if validQueue q && w < 4 then s.queueDescWrite req q w value.toNat else s)

/-- A write of QM_QCMD, if the queue exists. -/
def State.queueCtl (s : State) (req q value good : Nat) : State :=
  if validQueue q then s.queueCmdWrite req q value good else s

/-- QUEUE_ENABLE (R360). -/
def execQueueEnable (req q : Nat) (s : State) : Answer := answer s (s.queueCtl req q 1 0)

/-- QUEUE_DISABLE (R362). -/
def execQueueDisable (req q : Nat) (s : State) : Answer := answer s (s.queueCtl req q 2 0)

/-- QUEUE_CMD_READ (R381): N of 15 bits. -/
def execQueueCmdRead (req q : Nat) (n : BitVec 15) (s : State) : Answer :=
  answer s (s.queueCtl req q (3 + n.toNat * 2 ^ 16) 0)

/-- QUEUE_CMD_MARK (R381). -/
def execQueueCmdMark (req q : Nat) (s : State) : Answer := answer s (s.queueCtl req q 4 0)

/-- QUEUE_REWIND (R381). -/
def execQueueRewind (req q : Nat) (s : State) : Answer := answer s (s.queueCtl req q 5 0)

/-- QUEUE_RELEASE_TO_READ_POINT (R381, R382). -/
def execQueueReleaseToReadPoint (req q : Nat) (s : State) : Answer := answer s (s.queueCtl req q 6 0)

/-- QUEUE_RELEASE_TO_MARK (R381, R382). -/
def execQueueReleaseToMark (req q : Nat) (s : State) : Answer := answer s (s.queueCtl req q (6 + 2 ^ 8) 0)

/-- QUEUE_FLUSH (R381). -/
def execQueueFlush (req q : Nat) (s : State) : Answer := answer s (s.queueCtl req q 7 0)

/-- QUEUE_RESET (R363, R409). -/
def execQueueReset (req q good : Nat) (s : State) : Answer := answer s (s.queueCtl req q 8 good)

/-! ## Arriving data -/

/-- A segment counted as refused. -/
def State.queueDrop (s : State) (q : Nat) (bad : Bool) : State :=
  let s := s.qcount q Reg.QM_QDROP_COUNT
  if bad then s.qmErr (q / 256) 0 (some q) else s

/-- A segment that names no queue of the shard, or breaks a rule of its format (R365): the incident names the queue, if it is one of
the shard (R411). -/
def State.srcBad (s : State) (h q : Nat) : State :=
  (s.count (Reg.QM_SRCBAD_COUNT h) (Reg.QM_ERR_CNT_SAT h)).qmErr h 0 (if q / 256 = h then some q else none)

/-- A segment for a queue that is DISABLED or BROKEN (R365). A BROKEN queue also counts what it loses as under TRUNCATE: the bytes,
and a packet at its first segment (R217). -/
def State.refuseSegment (s : State) (q : Nat) (sop : Bool) (d : Nat) : State :=
  let s := s.queueDrop q false
  if s.qstate q ≠ qBroken ∨ d = 0 then s
  else
    let s := s.discardBytes q d
    if sop then s.qcount q Reg.QM_QTRPKT_COUNT else s

/-- A capture segment has arrived (R364, R365): `f` its header flit, `body` its payload. -/
def State.segment (s : State) (h : Nat) (f : Flit) (body : Nat) : State :=
  let q := bitsOf body 0 10
  let sop := hasBit body 10
  let eop := hasBit body 11
  let marker := hasBit body 12
  let d := f.blen - 7
  let formatOk := decide (7 ≤ f.blen) && decide (d ≤ 248) && bitsOf body 13 3 == 0 &&
    (if marker then d == 0 && !sop && !eop else d != 0 && (eop || d % 8 == 0))
  let n := (d + 7) / 8
  if q / 256 ≠ h ∨ !formatOk then s.srcBad h q
  else if f.rid ≠ s.qfld q Reg.QM_QDESC0_PROD then s.queueDrop q true
  else if s.qstate q ≠ qActive then s.refuseSegment q sop d
  else
    let rx := s.qfld q Reg.QM_QRXCNT_COUNT
    let s' := s.setQfld q Reg.QM_QRXCNT_COUNT (rx + n)
    if s.qfld q Reg.QM_QLIMIT_LIMIT < rx + n then s'.queueDrop q true
    else if marker then s'.queueIn q (.marker (bitsOf body 16 16) (bitsOf body 32 32))
    else s'.queueIn q (.data sop eop f.stale (bitsOf body 32 32) d (body / 2 ^ 64 % 2 ^ (8 * d)))

/-- CAP_SEGMENT_RECEIVE (R365): the segment at the front of channel `vc` of shard `h`'s interface. -/
def execCapSegmentReceive (h vc : Nat) (s : State) : Answer :=
  answer s (
    let n := shardNode h
    if 4 ≤ h then s
    else match niFront n (s.vcIn n 6 vc).q with
      | .packet fs =>
        match fs with
        | f :: _ =>
          if f.opc ≠ opCap then s
          else if fs.any (·.poison) then s.niPoisoned n 0 vc fs.length f
          else ((s.niPop n 0 vc fs.length).segment h f (packetBody fs)).unpark h
        | [] => s
      | _ => s)

/-- The markers that wait for an append, and are due, take their place (R369). -/
def State.dueMarks (s : State) (q : Nat) : State :=
  let x := s.queue q
  let due := x.marks.filter (fun m => decide (m.2 ≤ s.now))
  let s := s.setQueue q { x with marks := x.marks.filter (fun m => !decide (m.2 ≤ s.now)) }
  due.foldl (fun s m => s.queueIn q (.marker m.1 m.2)) s

/-- An append of `d` bytes by requester `rid` (R368): the state and the response's code. -/
def State.appendTo (s : State) (q rid : Nat) (end_ stale : Bool) (d v : Nat) : State × Code :=
  if rid ≠ s.qfld q Reg.QM_QDESC0_PROD ∨ (!end_ ∧ d % 8 ≠ 0) then (s.queueDrop q true, .eArg)
  else if s.qstate q ≠ qActive then (s.queueDrop q false, .eState)
  else
    let x := s.queue q
    let t := s.dueMarks q
    let w : QIn := .data (!x.appMid) end_ stale s.now d v
    let (u, left) := if (t.queue q).wait.isEmpty then t.queueTake q w else (t, some w)
    if u.qstate q = qBroken then (u.queueDrop q false, .eState)
    else if left.isSome then ((s.exhaust q).queueDrop q false, .eNoSpace)
    else (u.setQueue q { u.queue q with appMid := !end_ }, .ok)

/-- QUEUE_APPEND (R368): the WR at the front of channel `vc` of shard `h`'s interface, to an append aperture. -/
def execQueueAppend (h vc : Nat) (s : State) : Answer :=
  answer s (
    let n := shardNode h
    if 4 ≤ h then s
    else match niFront n (s.vcIn n 6 vc).q with
      | .packet fs =>
        match fs with
        | f :: _ =>
          let body := packetBody fs
          let a := body % 2 ^ 48
          if f.opc ≠ opWr ∨ a < 0x100000 ∨ 0x200000 ≤ a then s
          else if fs.any (·.poison) then s.niPoisoned n 0 vc fs.length f
          else
            let s := s.niPop n 0 vc fs.length
            let q := 256 * h + (a - 0x100000) / 0x1000
            let d := f.blen + 1
            let (s, c) := s.appendTo q f.rid (hasBit a 11) f.stale d (body / 2 ^ 64 % 2 ^ (8 * d))
            (s.unpark h).niSend n 0 (responseFlits n f c 0)
        | [] => s
      | _ => s)

/-! ## Notices and credit -/

/-- NOTICE_POST (R376–R378): the first notice of queue `q` that is not posted yet. -/
def execNoticePost (q : Nat) (s : State) : Answer :=
  answer s (
    let h := q / 256
    match (s.queue q).notes with
    | [] => s
    | m :: t =>
      let s := s.setQueue q { s.queue q with notes := t }
      let prod := s.fld (Reg.QM_NPROD_COUNT h)
      if (prod + 2 ^ 32 - s.fld (Reg.QM_NCONS_COUNT h)) % 2 ^ 32 = 4096 then
        let s := (s.count (Reg.QM_NLOST_COUNT h) (Reg.QM_ERR_CNT_SAT h)).qmErr h 2 (some q)
        s.setShard h { s.shard h with gap := true }
      else
        let a := 0x220000 + 0x40000 * h + prod % 4096 * 0x10
        let w1 := m.w1 + bit (s.shard h).gap * 2 ^ 12
        let s := s.setBytes a (m.w0 + w1 * 2 ^ 32 + m.w2 * 2 ^ 64 + m.w3 * 2 ^ 96) 16
        let s := s.setShard h { s.shard h with gap := false }
        s.setFld (Reg.QM_NPROD_COUNT h) ((prod + 1) % 2 ^ 32))

/-- CREDIT_NOTICE_SEND (R366): the shard grants queue `q` the limit `limit`, within its bounds, and tells the producer. The
first notice after ENABLE may leave the limit as it is. -/
def execCreditNoticeSend (q limit : Nat) (s : State) : Answer :=
  answer s (
    if !validQueue q || s.qstate q != qActive || decide (limit < s.qfld q Reg.QM_QLIMIT_LIMIT) ||
        decide (max (s.qfld q Reg.QM_QLIMIT_LIMIT) (s.creditMax q) < limit) then s
    else
      let h := q / 256
      let s := s.setQfld q Reg.QM_QLIMIT_LIMIT limit
      s.niPost (shardNode h) 0 (s.qfld q Reg.QM_QDESC0_CROUTE) opEvt 3 (0xB0 + h) 0 0 false 63 (creditNotice q limit))

/-- A write that reached a shard register is recorded (Table 10-22). -/
def State.shardRecord (s : State) (req h addr : Nat) (c : Code) : State :=
  let off := addr - Reg.QM_CTL h
  let s := ((s.setFld (Reg.QM_CMDSTAT_CODE h) c.num).setFld (Reg.QM_CMDSTAT_REQ h) req).setFld (Reg.QM_CMDSTAT_OFFSET h) off
  (s.noteRefusal (srcShard h) off req c).respond req addr c

/-- A write of QM_NCONS (R377): refused if it would place the consumer after the producer. -/
def State.noticeCons (s : State) (req h value : Nat) : State :=
  let prod := s.fld (Reg.QM_NPROD_COUNT h)
  let old := s.fld (Reg.QM_NCONS_COUNT h)
  let ok := decide ((value + 2 ^ 32 - old) % 2 ^ 32 ≤ (prod + 2 ^ 32 - old) % 2 ^ 32)
  let s := if ok then s.setFld (Reg.QM_NCONS_COUNT h) value else s
  s.shardRecord req h (Reg.QM_NCONS h) (if ok then .ok else .eArg)

/-- NOTICE_CONS_WRITE (R377). -/
def execNoticeConsWrite (req h : Nat) (value : BitVec 32) (s : State) : Answer :=
  answer s (if h < 4 then s.noticeCons req h value.toNat else s)

/-! ## Reading -/

/-- QUEUE_READ_PORT_READ (R383–R386): `n` bytes at offset `off` of the read port of queue `q`. -/
def execQueueReadPortRead (req q off n : Nat) (s : State) : Answer :=
  answer s (if validQueue q && off + n ≤ 0x100000 then
      (s.portRead req none q (s.qfld q Reg.QM_QRP_POS) off n).unpark (q / 256)
    else s)

/-- STORE_APERTURE_READ (R404). -/
def execStoreApertureRead (req a n : Nat) (s : State) : Answer :=
  answer s (if a + n ≤ 2 ^ 35 then s.apertureRead req a n none else s)

/-- EXHAUST_WAIT_INTERVAL (R405): a 102.4 ns interval. -/
def execExhaustWaitInterval (q : Nat) (s : State) : Answer :=
  answer s (if validQueue q && s.qon q Reg.QM_QSTAT_EXH then s.qcount q Reg.QM_QWAITCNT_COUNT else s)

/-! ## Spill and refill -/

/-- The page for the group that queue `q` writes next: the successor chosen before (R401), unless its module is out of use, else a
new one. -/
def State.spillPage (s : State) (q : Nat) (bad : List Bool) : State × Option Nat × List Bool :=
  let h := q / 256
  match (s.queue q).succ with
  | some p =>
    let s := s.setQueue q { s.queue q with succ := none }
    if s.pageUsable h p then (s, some p, bad) else (s.freePage h p).allocPage h bad
  | none => s.allocPage h bad

/-- The wide words of a group that are uncorrectable. -/
def State.badWords (s : State) (q first : Nat) : List Nat :=
  (List.range 64).filter (fun w => match (s.queue q).cell (first + w / 4) with
    | some c => (List.range 8).any (fun i => decide (2 ≤ s.mark (cellCode (q / 256) c.num (w % 4 * 8 + i))))
    | none => false)

/-- The data words of a group are read (R208, R217). -/
def State.readGroup (s : State) (q first : Nat) : State :=
  (List.range 64).foldl (fun s w => (s.readWide q (4 * first + w)).1) s

/-- SPILL_GROUP_START (R396, R398, R400, R401). `bad`: for the records of free pages that are read, one after the other, whether each
fails its CRC. The group's link words are read first: an uncorrectable one breaks the queue (R408). -/
def execSpillGroupStart (q : Nat) (bad : List Bool) (s : State) : Answer :=
  answer s (
    let h := q / 256
    match (if validQueue q && s.pageAvailable q then s.spillGroup q else none) with
    | none => s
    | some first =>
      let (s, ue) := s.checkLinks q ((List.range 16).map (first + ·))
      if ue then s.unpark h
      else match s.spillPage q bad with
        | (s, none, _) => s
        | (s, some page, bad) =>
          let (s, succ, _) := s.allocPage h bad
          let next := succ.getD (s.freeBits 33).toNat
          let s := if succ.isSome then s else s.tookFree
          let s := s.readGroup q first
          let x := s.queue q
          let s := s.setQueue q { x with succ := succ, spill := some ⟨page, first, []⟩ }
          let record := linkRecord (next + q * 2 ^ 64 + x.serial % 2 ^ 32 * 2 ^ 96 + s.pageTags q first 64 * 2 ^ 128)
          let s := s.storeIssue h (.spill q 0) page .wrpg (pageAddr page) (s.pageData q first 64)
          s.writeRecord h (.spill q ·) page record)

/-- SPILL_PAGE_DONE (R401): all three write transactions of the page have completed with OK. -/
def execSpillPageDone (q : Nat) (s : State) : Answer :=
  answer s (
    let x := s.queue q
    match x.spill with
    | none => s
    | some j =>
      if !List.all [0, 1, 2] (fun i => (Tbl.find? j.done i).isSome) then s
      else
        let s := s.setQueue q { x with
          spill := none
          cells := x.cells.filter (fun c => !(decide (j.first ≤ c.1) && decide (c.1 < j.first + 16)))
          pages := x.pages ++ [⟨j.page, j.first, s.badWords q j.first⟩], serial := x.serial + 1 }
        (s.freeReleased q).unpark (q / 256))

/-- A read that waits needs a page of the queue's chain (R385). -/
def State.pageAwaited (s : State) (q : Nat) (p : QPage) : Bool :=
  (s.shard (q / 256)).parked.any (fun w => w.q == q &&
    (portWords w.rp w.off w.n ++ portTags w.rp w.off w.n).any (fun pos =>
      decide (4 * p.first ≤ pos) && decide (pos < s.qfld q Reg.QM_QCOMMIT_POS)))

/-- The page that the queue reads back next, if the head holds fewer cells than it should (R402), or a read waits for that page or
one after it (R385). -/
def State.refillWanted (s : State) (q : Nat) : Option QPage :=
  let x := s.queue q
  let rel := s.qfld q Reg.QM_QREL_POS
  match x.pages with
  | p :: _ =>
    let head := (x.cells.filter (fun c => decide (c.1 < p.first) && decide (rel < 4 * c.1 + 4))).length
    if x.refill.isNone && (decide (head < s.headCells q) || s.pageAwaited q p) then some p else none
  | [] => none

/-- REFILL_START (R396, R402). -/
def execRefillStart (q : Nat) (s : State) : Answer :=
  answer s (
    let h := q / 256
    match (if validQueue q && s.qstate q != qBroken then s.refillWanted q else none) with
    | none => s
    | some p =>
      let s := s.setQueue q { s.queue q with refill := some ⟨p.page, p.first, []⟩ }
      let s := s.storeIssue h (.refill q 0) p.page .rdpg (pageAddr p.page) 0
      let s := s.storeIssue h (.refill q 1) p.page .rd64 (recordAddr p.page 0) 0
      s.storeIssue h (.refill q 2) p.page .rd64 (recordAddr p.page 1) 0)

/-- Sixteen cells for a refill, if all are granted (R374). -/
def State.takeGroup (s : State) (q first : Nat) : Nat → Option State
  | 0 => some s
  | n + 1 => if s.grants q then (s.takeCell q first).takeGroup q (first + 1) n else none

/-- The words and tags of a page moved into cells. -/
def State.placePage (s : State) (q first data tags : Nat) : Nat → State
  | 0 => s
  | n + 1 =>
    let s := s.placePage q first data tags n
    let pos := 4 * first + n
    let a := (s.wordKey q pos).getD 0
    (((s.setBytes a (data / 2 ^ (512 * n) % 2 ^ 512) 64).clearMarks a 64)).setTag q pos (tags / 2 ^ (10 * n) % 2 ^ 10)

/-- The words `bad` of a page that is on chip again are uncorrectable. -/
def State.markBad (s : State) (q first : Nat) (bad : List Nat) : State :=
  bad.foldl (fun s w => match (s.queue q).cell (first + w / 4) with
    | some c => s.setMark (cellCode (q / 256) c.num (w % 4 * 8)) 2
    | none => s) s

/-- REFILL_DONE (R402, R403): the page and its link record have been read. -/
def execRefillDone (q : Nat) (s : State) : Answer :=
  answer s (
    let h := q / 256
    match (s.queue q).refill with
    | none => s
    | some j =>
      match Tbl.find? j.done 0, Tbl.find? j.done 1, Tbl.find? j.done 2 with
      | some (some data), some (some lo), some (some hi) =>
        let record := lo % 2 ^ 512 + hi * 2 ^ 512
        if !recordOk record then s.refillLost q
        else match s.takeGroup q j.first 16 with
          | none => s
          | some s =>
            let s := s.placePage q j.first data (record / 2 ^ 128 % 2 ^ 640) 64
            let x := s.queue q
            let bad := (x.pages.filter (fun p => p.page == j.page)).flatMap (·.bad)
            let s := s.setQueue q { x with refill := none, pages := x.pages.filter (fun p => p.page != j.page) }
            (((s.markBad q j.first bad).freePage h j.page).freeReleased q).unpark h
      | _, _, _ => s)

/-- STORE_RETRY (R403): DELAY has passed for store transaction `id`. -/
def execStoreRetry (id : Nat) (s : State) : Answer :=
  answer s { s with store := s.store.map (fun t =>
    if t.id = id ∧ t.stage = .delay then { t with stage := .waiting, lane := s.pageLane t.shard t.page } else t) }

/-- A write of QM_PGBASE or QM_PGCNT of shard `h` (R399). -/
def State.pageRange (s : State) (req h : Nat) (count : Bool) (value : Nat) : State :=
  let a := if count then Reg.QM_PGCNT h else Reg.QM_PGBASE h
  let base := if count then s.fld (Reg.QM_PGBASE_PAGE h) else value % 2 ^ 33
  let cnt := if count then value % 2 ^ 34 else s.fld (Reg.QM_PGCNT_COUNT h)
  let overlaps := (List.range 4).any (fun k =>
    let b := s.fld (Reg.QM_PGBASE_PAGE k)
    let c := s.fld (Reg.QM_PGCNT_COUNT k)
    k != h && cnt != 0 && c != 0 && decide (base < b + c) && decide (b < base + cnt))
  let c : Code := if s.pagesUsed h ≠ 0 then .eState
    else if 2 ^ 33 < base + cnt ∨ overlaps then .eArg else .ok
  let s := if c = .ok then
      let s := ((s.setFld (Reg.QM_PGBASE_PAGE h) base).setFld (Reg.QM_PGCNT_COUNT h) cnt).setFld (Reg.QM_PGNEXT_PAGE h) base
      let s := s.setShard h { s.shard h with freePages := [] }
      { s with queues := s.queues.map (fun e => if e.1 / 256 = h then (e.1, { e.2 with succ := none }) else e) }
    else s
  s.shardRecord req h a c

/-- PAGE_RANGE_WRITE (R399). -/
def execPageRangeWrite (req h : Nat) (count : Bool) (value : BitVec 64) (s : State) : Answer :=
  answer s (if h < 4 then s.pageRange req h count value.toNat else s)

/-- A write of QM_CMD (R410, Table 10-22). -/
def State.shardCmd (s : State) (req h value : Nat) : State :=
  let c : Code := if bitsOf value 0 4 ≠ 1 then .eArg else if (s.shard h).reclaim.isSome then .eBusy else .ok
  (if c = .ok then (s.startReclaim h).unpark h else s).shardRecord req h (Reg.QM_CMD h) c

/-- QM_RECLAIM (R410). -/
def execQmReclaim (req h : Nat) (s : State) : Answer := answer s (if h < 4 then s.shardCmd req h 1 else s)

/-- QM_RECLAIM_DONE (R410). -/
def execQmReclaimDone (h : Nat) (s : State) : Answer :=
  answer s (
    if (s.shard h).reclaim.isNone then s
    else
      let s := s.setShard h { s.shard h with reclaim := none }
      ((s.setBit (Reg.QM_POOL_RECL_BUSY h) false).poolChanged h).unpark h)

/-! ## The pool scrubber -/

/-- POOL_SCRUB_STEP (R217, R234): one cell. -/
def execPoolScrubStep (h : Nat) (upsets : List (Nat × Nat)) (s : State) : Answer :=
  answer s (
    let s := s.upset upsets
    if 4 ≤ h ∨ !s.on (Reg.QM_SCRCTL_EN h) then s
    else
      let c := (s.shard h).scrub
      let s := s.setShard h { s.shard h with scrub := (c + 1) % 65536 }
      let s := (List.range 32).foldl (fun s w =>
        let (s, ue) := s.checkCell h c w
        if ue then s else s.setMark (cellCode h c w) 0) s
      let (s, ue) : State × Bool := s.checkCell h c 32
      if !ue then s.setMark (cellCode h c 32) 0
      else match List.find? (fun (e : Nat × QueueSt) => e.1 / 256 == h && e.2.cells.any (fun x => x.2.num == c)) s.queues with
        | some e => if s.qstate e.1 = qBroken then s else (s.breakQueue e.1 true).unpark h
        | none => s)

/-! ## Fabric capture ports -/

/-- CQP_SEGMENT_SEND (R367, R390). -/
def execCqpSegmentSend (r i : Nat) (s : State) : Answer :=
  answer s (
    if !validRegion r || 8 ≤ i || s.cqpWMode r i == 0 then s
    else
      let x := s.cqp r i
      let q := s.fld (Reg.CQP_CFG_WQ r i)
      let send := fun (s : State) => s.sendSegment (regionNode r) (56 + q / 256) capturePri (0x20 + r) q
      let (s, rest) := send s x.wbuf false
      -- words held at an idle tick go even if they fill no segment
      let (s, rest) := if rest.length < x.wbuf.length then (s, rest)
        else let (s, left) := send s (x.wbuf.take x.idle) true; (s, left ++ x.wbuf.drop x.idle)
      s.setCqp r i { s.cqp r i with wbuf := rest, idle := x.idle - (x.wbuf.length - rest.length) })

/-- CQP_READ_PAIR_ISSUE (R393). -/
def execCqpReadPairIssue (r i : Nat) (s : State) : Answer :=
  answer s (
    if !validRegion r || 8 ≤ i || s.cqpReads r i == 0 then s
    else
      let s := s.cqpFlush r i ((s.cqp r i).cmds.length)
      let x := s.cqp r i
      if x.pair.isSome ∨ 4 ≤ x.rbuf.length ∨ !x.cmds.isEmpty then s
      else
        let q := s.fld (Reg.CQP_CFG_RQ r i)
        let k := x.rbuf.length
        let base := 0x10000000 + q % 256 * 0x100000
        let rd := fun (ref addr len : Nat) =>
          (⟨0x20 + r, ref, opRd, 56 + q / 256, false, capturePri, addr, len, 0⟩ : NetRequest)
        let (s1, a) := s.niIssue (regionNode r) 0 (rd (2 * i) (base + 0x80000 + 8 * k) 8)
        let (s2, b) := s1.niIssue (regionNode r) 0 (rd (2 * i + 1) (base + 64 * k) 64)
        if a && b then s2.setCqp r i { x with pair := some ⟨none, none, false⟩ } else s)

/-- CQP_READ_PAIR_RESPONSE (R392, R393): the responses that have arrived. A pair that did not bring a readable word delivers
nothing. -/
def execCqpReadPairResponse (r i : Nat) (s : State) : Answer :=
  answer s (
    if !validRegion r || 8 ≤ i then s
    else
      let take := fun (s : State) (d : NetDone) => { s with net := { s.net with done := s.net.done.erase d } }
      let s := (s.net.done.filter (fun d => d.node == regionNode r && d.rid == 0x20 + r && d.ref == 1000 + i)).foldl take s
      match (s.cqp r i).pair with
      | none => s
      | some p =>
        let (s, p) : State × CqpPair := match (if p.tag.isNone then s.cqpDone r (2 * i) else none) with
          | some d => (take s d, { p with tag := some (if d.code = .ok then d.data else 0) })
          | none => (s, p)
        let (s, p) : State × CqpPair := match (if p.word.isNone then s.cqpDone r (2 * i + 1) else none) with
          | some d => (take s d, { p with word := some (if d.code = .ok then (d.data, false) else (0, d.code == .eEcc)),
                                          tag := if d.code = .ok ∨ d.code = .eEcc then p.tag else p.tag.map (fun _ => 0) })
          | none => (s, p)
        match p.tag, p.word with
        | some t, some w =>
          let x := s.cqp r i
          let s := s.setCqp r i { x with
            pair := none
            rbuf := if hasBit t 10 && !p.void then x.rbuf ++ [(w.1, t % 2 ^ 10, w.2)] else x.rbuf }
          s.cqpPresent r i
        | _, _ => s.setCqp r i { s.cqp r i with pair := some p })

end Sys2Proof.Machine
end

