-- ==== Sys2Proof/Machine/LinkOps.lean ====
section
/-! DEFINITION. Ports of lanes, Idlis packets, the errors of lanes and links, and what a link does when it enters or leaves UP
(chapters 11 and 12). -/

namespace Sys2Proof.Machine

/-- Lane `n` beyond its registers. -/
def State.lane (s : State) (n : Nat) : LaneSt := Tbl.get .reset s.lanes n

/-- The state with a lane changed. -/
def State.setLane (s : State) (n : Nat) (x : LaneSt) : State := { s with lanes := Tbl.put .reset s.lanes n x }

/-- The link headed by lane `n`. -/
def State.link (s : State) (n : Nat) : LinkSt := Tbl.get .reset s.links n

/-- The state with a link changed. -/
def State.setLink (s : State) (n : Nat) (x : LinkSt) : State := { s with links := Tbl.put .reset s.links n x }

/-- Lane `n` exists (R412). -/
def validLane (n : Nat) : Bool := decide (n < 128)

/-- The lane states (Table 11-6). -/
def lnOff : Nat := 0
def lnDisabled : Nat := 1
def lnPwrup : Nat := 2
def lnWait : Nat := 3
def lnTrain : Nat := 4
def lnLock : Nat := 5
def lnUp : Nat := 6
def lnLoop : Nat := 7

/-- The roles (R422). -/
def rolePin : Nat := 1
def roleStore : Nat := 2
def rolePeer : Nat := 3

/-- The state of lane `n`. -/
def State.laneState (s : State) (n : Nat) : Nat := s.fld (Reg.LN_STATUS_STATE n)

/-- The state with a lane's state changed. -/
def State.setLaneState (s : State) (n st : Nat) : State := s.setFld (Reg.LN_STATUS_STATE n) st

/-- The width code of lane `i` in a value of LG_BOND. -/
def bondCode (bond i : Nat) : Nat := bitsOf bond (2 * i) 2

/-- The head of the port that covers lane `i` of a group (R422). -/
def bondHead (bond i : Nat) : Nat :=
  ((List.range 8).find? (fun j => bondCode bond j != 0 && decide (j ≤ i) && decide (i < j + 2 ^ bondCode bond j))).getD i

/-- The head lane of the port of lane `n`. -/
def State.portHead (s : State) (n : Nat) : Nat := n / 8 * 8 + bondHead (s.fld (Reg.LG_BOND_WIDTH (n / 8))) (n % 8)

/-- The width of the port headed by lane `h`. -/
def State.portWidth (s : State) (h : Nat) : Nat := 2 ^ bondCode (s.fld (Reg.LG_BOND_WIDTH (h / 8))) (h % 8)

/-- The lanes of the port headed by lane `h`. -/
def State.portLanes (s : State) (h : Nat) : List Nat := (List.range (s.portWidth h)).map (h + ·)

/-- Lane `h` heads a port with role `role`. -/
def State.isHead (s : State) (h role : Nat) : Bool := validLane h && s.portHead h == h && s.laneRole h == role

/-- The link headed by lane `h` is UP (R426). -/
def State.linkUpAt (s : State) (h : Nat) : Bool := validLane h && s.portHead h == h && s.laneState h == lnUp

/-! ## Errors -/

/-- The ARG of a lane or link incident (Table 18-5). `type` is the packet's TYPE plus 256 where it is valid. -/
def laneArg (n type : Nat) (s : State) : Nat :=
  (s.rd (Reg.LN_STATUS n)).toNat + (s.portHead n + s.laneRole n * 2 ^ 8 + type * 2 ^ 16) * 2 ^ 32

/-- The severities of lane errors (Table 11-19). -/
def laneSev (i : Nat) : Sev :=
  match i with
  | 0 | 3 => .fault
  | 1 => .notice
  | _ => .degraded

/-- Error bit `i` of LN_ERR of lane `n` occurs (R438). -/
def State.laneErr (s : State) (n i : Nat) : State :=
  s.errBit ⟨Reg.LN_ERR n, i, 1⟩ (hasBit (s.fld (Reg.LN_ERRCTL_MASK n)) i) (srcLane n) (laneSev i) i (laneArg n 0)

/-- A lane counter advances by `k` (R10, Table 11-17). -/
def State.laneCount (s : State) (n : Nat) (f : Nat → Fld) (k : Nat) : State := s.countBy (f n) (Reg.LN_ERR_CNT_SAT n) k

/-- The severities of link errors (Table 12-10). -/
def linkSev (i : Nat) : Sev :=
  match i with
  | 0 | 2 | 6 | 9 | 11 | 12 => .degraded
  | 14 => .notice
  | _ => .fault

/-- The bits of LN_IDL_ERR (Table 12-12). -/
def idlFecDisc : Nat := 0
def idlFrame : Nat := 1
def idlHcrc : Nat := 2
def idlMalf : Nat := 3
def idlType : Nat := 4
def idlCredOvf : Nat := 5
def idlCrc : Nat := 6
def idlLate : Nat := 7
def idlNest : Nat := 8
def idlStray : Nat := 9
def idlDrvLate : Nat := 10
def idlCapDrop : Nat := 11
def idlStoTmo : Nat := 12
def idlStoIso : Nat := 13
def idlLeak : Nat := 14

/-- The link counters by their place in Table 12-13. -/
def cntHunt : Nat := 0
def cntHcrc : Nat := 1
def cntCrc : Nat := 2
def cntMalf : Nat := 3
def cntType : Nat := 4
def cntLate : Nat := 5
def cntFrame : Nat := 6
def cntNest : Nat := 7
def cntStray : Nat := 8
def cntOvf : Nat := 9
def cntDrvLate : Nat := 10
def cntDrvDisc : Nat := 11
def cntCapDrop : Nat := 12
def cntStoTmo : Nat := 13
def cntStoLate : Nat := 14
def cntFecDisc : Nat := 15

/-- A link counter advances (Table 12-13). -/
def State.linkCount (s : State) (n k : Nat) : State := s.count (Reg.LN_IDLCNT_COUNT n k) (Reg.LN_IDL_ERR_CNT_SAT n)

/-- Error bit `i` of LN_IDL_ERR of the link headed by lane `n` occurs (R479). -/
def State.linkErr (s : State) (n i type : Nat) : State :=
  s.errBit ⟨Reg.LN_IDL_ERR n, i, 1⟩ (hasBit (s.fld (Reg.LN_IDL_ERRCTL_MASK n)) i) (srcLane n) (linkSev i) (16 + i)
    (laneArg n type)

/-- A case of Table 12-9: its counter and its bit. -/
def State.linkReject (s : State) (n k i type : Nat) : State := (s.linkCount n k).linkErr n i type

/-- The link enters HUNT (R441). -/
def State.hunt (s : State) (n : Nat) : State := (s.linkCount n cntHunt).setBit (Reg.LN_IDL_STAT_SYNC n) false

/-! ## Packets -/

/-- The packet types (Table 12-2). -/
def typDrive : Nat := 0x01
def typCapture : Nat := 0x02
def typWr64 : Nat := 0x10
def typWrpg : Nat := 0x11
def typCpld : Nat := 0x12
def typFwd : Nat := 0x20
def typTunReq : Nat := 0x21
def typTunRsp : Nat := 0x22
def typCredit : Nat := 0x80
def typBeacon : Nat := 0x81
def typTrig : Nat := 0x82
def typTunCpl : Nat := 0x83
def typRd64 : Nat := 0x90
def typRdpg : Nat := 0x91
def typCpl : Nat := 0x92

/-- The type is a control packet's. -/
def isControl (t : Nat) : Bool := hasBit t 7

/-- The type carries a stamp (Table 12-2). -/
def isStamped (t : Nat) : Bool :=
  [typDrive, typCapture, typFwd, typTunReq, typTunRsp, typBeacon, typTrig, typTunCpl].contains t

/-- Fields of a packet (Table 12-1). -/
def LinkPkt.type (p : LinkPkt) : Nat := bitsOf p.v 0 8
def LinkPkt.stale (p : LinkPkt) : Bool := hasBit p.v 8
def LinkPkt.sdev (p : LinkPkt) : Nat := bitsOf p.v 9 3
def LinkPkt.plen (p : LinkPkt) : Nat := bitsOf p.v 16 13
def LinkPkt.stamp (p : LinkPkt) : Nat := bitsOf p.v 32 32
/-- Bytes 4–13, as one number: byte 4 in its low bits. -/
def LinkPkt.fields (p : LinkPkt) : Nat := bitsOf p.v 32 80
def LinkPkt.byte (p : LinkPkt) (k : Nat) : Nat := bitsOf p.v (8 * k) 8
def LinkPkt.payload (p : LinkPkt) : Nat := bitsOf p.v 128 (8 * p.plen)

/-- The header, with its check (R442, R443). -/
def linkHeader (type : Nat) (stale : Bool) (sdev len fields : Nat) : Nat :=
  let v := type % 256 + (bit stale + sdev % 8 * 2) * 2 ^ 8 + len % 2 ^ 13 * 2 ^ 16 + fields % 2 ^ 80 * 2 ^ 32
  v + crc32c v 14 % 2 ^ 16 * 2 ^ 112

/-- A control packet. -/
def controlPkt (type : Nat) (stale : Bool) (sdev fields : Nat) : LinkPkt := ⟨16, linkHeader type stale sdev 0 fields⟩

/-- A data packet: header, `len` bytes of payload, trailer (R443). -/
def dataPkt (type : Nat) (stale : Bool) (sdev fields len payload : Nat) : LinkPkt :=
  let v := linkHeader type stale sdev len fields + payload % 2 ^ (8 * len) * 2 ^ 128
  ⟨20 + len, v + crc32c v (16 + len) * 2 ^ (128 + 8 * len)⟩

/-- A packet of either kind. -/
def linkPkt (type : Nat) (stale : Bool) (sdev fields len payload : Nat) : LinkPkt :=
  if isControl type then controlPkt type stale sdev fields else dataPkt type stale sdev fields len payload

/-- SDEV of a packet sent on the link headed by lane `h` (Table 12-1). -/
def State.ownSdev (s : State) (h : Nat) : Nat := if s.laneRole h = rolePeer then s.devid else 0

/-- A whole packet enters the transmit buffer of a link. -/
def State.linkQueue (s : State) (h : Nat) (p : LinkPkt) : State :=
  let x := s.link h
  s.setLink h { x with txq := x.txq ++ [p] }

/-- The present tick, as a stamp. -/
def State.stampNow (s : State) : Nat := s.now % 2 ^ 32

/-- The delivery offset of the group of lane `n`. -/
def State.dofs (s : State) (n : Nat) : Nat := s.fld (Reg.LG_DOFS_D (n / 8))

end Sys2Proof.Machine
end

