-- ==== Sys2Proof/Machine/LinkRecv.lean ====
section
/-! DEFINITION. What a link receives (chapter 12): credit, the checks of a packet, stamps, store transactions, the byte stream and
HUNT; and what a link does when it enters or leaves UP. -/

namespace Sys2Proof.Machine

/-! ## Credit (R452) -/

/-- The unit is a data block. -/
def RxUnit.isData (u : RxUnit) : Bool := match u.block with
  | .data _ => true
  | _ => false

/-- Bytes of the elastic buffer that are taken (R451): data blocks not parsed yet, packets held, and packets that wait to act. -/
def LinkSt.occupied (x : LinkSt) : Nat :=
  32 * (x.rx.filter RxUnit.isData).length + (x.held.map (fun e => e.2.len)).sum + (x.ready.map (fun r => match r with
    | .pkt _ p => p.len
    | .marker _ _ => 0)).sum

/-- The size of the elastic buffer of the port headed by lane `h` (R451). -/
def State.elastic (s : State) (h : Nat) : Nat := s.portWidth h * 32768

/-- The LIMIT that the receiver grants now: it never decreases (R452). -/
def State.limitNow (s : State) (h : Nat) : Nat :=
  let x := s.link h
  max x.limit (x.recv + (s.elastic h - x.occupied) / 32)

/-- A received CREDIT: LIMIT, and that one has come since UP (R452). -/
def State.takeCredit (s : State) (h limit : Nat) : State :=
  (s.setFld (Reg.LN_CRED_PEER_LIMIT h) limit).setBit (Reg.LN_IDL_STAT_PCRED h) true

/-! ## Checks of a received packet (Table 12-9) -/

/-- The type may arrive on a link of this role (Table 12-2). -/
def typeAllowed (role t : Nat) : Bool :=
  if t = typCredit then true
  else if role = rolePin then t == typCapture
  else if role = roleStore then t == typCpl || t == typCpld
  else [typFwd, typTunReq, typTunRsp, typBeacon, typTrig, typTunCpl].contains t

/-- The reserved bits and unused fields of a packet are 0, and its length follows the rule of its type (R445, Table 12-2). `sdev`:
the link is a peer link. -/
def fieldsOk (p : LinkPkt) (sdev : Bool) : Bool :=
  let b := p.byte
  bitsOf (b 1) 4 4 == 0 && (sdev || p.sdev == 0) && bitsOf (b 3) 5 3 == 0 &&
    (match p.type with
      | 0x02 => bitsOf p.v 64 48 == 0 && p.plen % 8 == 0
      | 0x12 => bitsOf p.v 32 48 == 0 && bitsOf (b 11) 2 6 == 0 && bitsOf (b 12) 4 4 == 0 && b 13 == 0 &&
          (p.plen == 64 || p.plen == 4096)
      | 0x20 => bitsOf (b 8) 3 5 == 0 && bitsOf p.v 72 40 == 0
      | 0x21 => bitsOf (b 9) 2 6 == 0 && bitsOf (b 10) 6 2 == 0 && bitsOf (b 11) 6 2 == 0 && b 13 == 0 &&
          [1, 2, 5].contains (bitsOf (b 10) 0 4) && p.plen == (if bitsOf (b 10) 0 4 = 1 then 8 else 9 + b 12)
      | 0x22 => bitsOf (b 9) 2 6 == 0 && bitsOf (b 10) 4 4 == 0 && b 11 == 0 && b 13 == 0 && p.plen == b 12 + 1
      | 0x80 => bitsOf p.v 64 48 == 0
      | 0x81 => true
      | 0x82 => bitsOf p.v 72 40 == 0
      | 0x83 => bitsOf (b 9) 2 6 == 0 && bitsOf (b 10) 4 4 == 0 && bitsOf p.v 88 24 == 0
      | 0x92 => bitsOf p.v 32 48 == 0 && bitsOf (b 11) 2 6 == 0 && bitsOf (b 12) 4 4 == 0 && b 13 == 0
      | _ => true)

/-- The header's check matches (R442, R443). -/
def hcrcOk (p : LinkPkt) : Bool := bitsOf p.v 112 16 == crc32c p.v 14 % 2 ^ 16

/-- The trailer matches (R443). -/
def trailerOk (p : LinkPkt) : Bool := bitsOf p.v (128 + 8 * p.plen) 32 == crc32c p.v (16 + p.plen)

/-- How a received stamp stands (R446). -/
inductive StampClass where
  | onTime (delivery : Nat) | late | future
  deriving DecidableEq, Repr

/-- The class of a packet stamped `stamp` that arrives now (R446). -/
def State.classify (s : State) (h stamp : Nat) : StampClass :=
  let a := (s.stampNow + 2 ^ 32 - stamp) % 2 ^ 32
  let d := s.dofs h
  if a < d ∧ a < 2 ^ 31 then .onTime ((s.now + 2 ^ 64 - a + d) % 2 ^ 64)
  else if a < 2 ^ 31 then .late
  else .future

/-- A stamp earlier, modulo 2^32, than the one before it (R447). -/
def stampBack (last stamp : Nat) : Bool := decide (2 ^ 31 ≤ (stamp + 2 ^ 32 - last) % 2 ^ 32)

/-! ## Store links (R463–R468) -/

/-- The store transactions sent on the link headed by lane `h`. -/
def State.storeSent (s : State) (h : Nat) : List StoreTx :=
  s.store.filter (fun t => t.lane == h && (match t.stage with
    | .sent _ => true
    | _ => false))

/-- Store transaction `id`, if it exists. -/
def State.storeTx (s : State) (id : Nat) : Option StoreTx := s.store.find? (fun t => t.id == id)

/-- The bytes that a store request covers (R463). -/
def StoreOp.bytes : StoreOp → Nat
  | .rd64 | .wr64 => 64
  | .rdpg | .wrpg => 4096

/-- The packet type of a store request (Table 12-2). -/
def StoreOp.type : StoreOp → Nat
  | .rd64 => typRd64 | .rdpg => typRdpg | .wr64 => typWr64 | .wrpg => typWrpg

/-- A store request reads. -/
def StoreOp.reads : StoreOp → Bool
  | .rd64 | .rdpg => true
  | _ => false

/-- The lowest tag of the link that is neither in use nor in quarantine (R463, R466). -/
def State.freeStoreTag (s : State) (h : Nat) : Option Nat :=
  let used := (s.storeSent h).map (fun t => match t.stage with
    | .sent k => k
    | _ => 1024)
  (List.range 1024).find? (fun k => !used.contains k && !(s.link h).stoQuar.contains k)

/-- Two store requests cover a byte in common (R463). -/
def storeOverlap (t u : StoreTx) : Bool := decide (t.addr < u.addr + u.op.bytes) && decide (u.addr < t.addr + t.op.bytes)

/-- The hub sends a request of a shard, or answers it at once (R463, R467, R468). -/
def State.storeSend (s : State) (t : StoreTx) : State :=
  let h := t.lane
  if !(s.isHead h roleStore && s.linkUpAt h) then s.storeResult t .eRst 0
  else if s.on (Reg.LN_STO_STAT_ISO h) then s.storeResult t .eIso 0
  else if (s.storeSent h).any (storeOverlap t) then s
  else match s.freeStoreTag h with
    | none => s
    | some k =>
      let s := { s with store := s.store.map (fun (u : StoreTx) => if u.id = t.id then { u with stage := .sent k } else u) }
      let f := t.addr % 2 ^ 48 + k * 2 ^ 48
      s.linkQueue h (linkPkt t.op.type false 0 f (if t.op.reads then 0 else t.op.bytes) t.data)

/-- The store transaction sent with tag `k` on the link, if any. -/
def State.storeByTag (s : State) (h k : Nat) : Option StoreTx := (s.storeSent h).find? (fun t => t.stage == .sent k)

/-- The completion fits its request (R465, Table 12-7). `data`: the length and value of a CPLD. -/
def completionOk (t : StoreTx) (status : Nat) (data : Option (Nat × Nat)) : Bool :=
  match data with
  | some d => t.op.reads && status == 0 && d.1 == t.op.bytes
  | none => (status == 0 && !t.op.reads) || [2, 6, 15].contains status

/-- The tag, the status and the data of a store completion: the length and value of a CPLD's (Table 12-7). -/
def LinkPkt.storeTag (p : LinkPkt) : Nat := bitsOf p.v 80 10
def LinkPkt.storeStatus (p : LinkPkt) : Nat := bitsOf p.v 96 4
def LinkPkt.body (p : LinkPkt) : Option (Nat × Nat) := if isControl p.type then none else some (p.plen, p.payload)

/-- A completion arrives (R465–R467). -/
def State.storeCompletion (s : State) (h tag status : Nat) (data : Option (Nat × Nat)) : State :=
  let type := 256 + if data.isSome then typCpld else typCpl
  match s.storeByTag h tag with
  | none =>
    if (s.link h).stoQuar.contains tag then s.linkCount h cntStoLate else s.linkReject h cntStray idlStray type
  | some t =>
    if !completionOk t status data then s.linkReject h cntMalf idlMalf type
    else
      let s := if status = 0 then s.setLink h { s.link h with stoFails := 0 } else s
      s.storeResult t (.ofNum status) ((data.map (·.2)).getD 0)

/-- A store transaction times out (R466, R467). -/
def State.storeTimeout (s : State) (h tag : Nat) : State :=
  match s.storeByTag h tag with
  | none => s
  | some t =>
    let x := s.link h
    let n := x.stoFails + 1
    let s := s.setLink h { x with stoFails := n, stoQuar := tag :: x.stoQuar }
    let s := s.linkReject h cntStoTmo idlStoTmo 0
    let s := if s.fld (Reg.LN_STO_CTL_LIM h) ≤ n ∧ !s.on (Reg.LN_STO_STAT_ISO h) then
        (s.setBit (Reg.LN_STO_STAT_ISO h) true).linkErr h idlStoIso 0
      else s
    s.storeResult t .eTmo 0

/-! ## Receiving -/

/-- A packet that has passed every check acts, if it is not stamped, or is held (R446–R448). -/
def State.linkAccept (s : State) (h : Nat) (p : LinkPkt) : State :=
  let s := if s.laneRole h = rolePeer then
      (s.setFld (Reg.LN_IDL_STAT_SDEV h) p.sdev).setBit (Reg.LN_IDL_STAT_SDEV_V h) true
    else s
  let t := p.type
  if t = typCredit then s.takeCredit h p.stamp
  else if t = typCpl ∨ t = typCpld then s.storeCompletion h p.storeTag p.storeStatus p.body
  else
    let x := s.link h
    let s := s.setLink h { x with lastStamp := some p.stamp }
    match s.classify h p.stamp with
    | .onTime d =>
      let y := s.link h
      s.setLink h { y with held := y.held ++ [(d, p)] }
    | .late => s.linkReject h cntLate idlLate (256 + t)
    | .future => s

/-- A packet with a good header has arrived on the link (Table 12-9, R446, R478). `errored`: a byte of it lies in an errored block.
`cut`: a control block fell inside it. `room`: the buffer had room for every block that it touches (R454). -/
def State.linkReceive (s : State) (h : Nat) (p : LinkPkt) (errored cut room : Bool) : State :=
  let x := s.link h
  let t := p.type
  let known := 256 + t
  if errored then s.linkReject h cntFecDisc idlFecDisc known
  else if cut then s.linkReject h cntFrame idlFrame known
  else if !typeAllowed (s.laneRole h) t then s.linkReject h cntType idlType known
  else if isControl t && p.plen != 0 then s.linkReject h cntMalf idlMalf known
  else if !room then (s.linkReject h cntOvf idlCredOvf known).hunt h
  else if !isControl t && !trailerOk p then s.linkReject h cntCrc idlCrc known
  else if !fieldsOk p (s.laneRole h == rolePeer) then s.linkReject h cntMalf idlMalf known
  else if isStamped t && ((x.lastStamp.elim false (fun l => stampBack l p.stamp)) || s.classify h p.stamp == .future) then
    s.linkReject h cntMalf idlMalf known
  else s.linkAccept h p

/-! ## The byte stream (R439–R441) -/

/-- A block joins the stream of the link (R452, R454). -/
def State.addBlock (s : State) (h : Nat) (b : RxBlock) : State :=
  let x := s.link h
  let u : RxUnit := ⟨b, decide (x.occupied + 32 ≤ s.elastic h)⟩
  s.setLink h { x with rx := x.rx ++ [u], recv := x.recv + bit u.isData }

/-- Blocks of the lanes of a port join the stream in turn, as long as every lane has one (R425). `fuel` bounds the rounds. -/
def State.mergeBlocks (s : State) (h : Nat) : Nat → State
  | 0 => s
  | fuel + 1 =>
    let lanes := s.portLanes h
    let heads := lanes.filterMap (fun n => (s.lane n).rxBlocks.head?)
    if heads.length < lanes.length then s
    else
      let s := lanes.foldl (fun s n => s.setLane n { s.lane n with rxBlocks := (s.lane n).rxBlocks.tail }) s
      (heads.foldl (fun s b => s.addBlock h b) s).mergeBlocks h fuel

/-- Bytes taken from the stream: their value; whether some lie in an errored block; whether a control block comes first; whether every
block touched found room; what is left, and how many bytes of its first block are gone. -/
structure Gather where
  v : Nat
  errored : Bool
  cut : Bool
  room : Bool
  rest : List RxUnit
  pos : Nat
  deriving DecidableEq, Repr

/-- `need` bytes of a stream of which `pos` bytes of the first block are gone; none if they have not all come. -/
def gather : List RxUnit → Nat → Nat → Option Gather
  | [], _, need => if need = 0 then some ⟨0, false, false, true, [], 0⟩ else none
  | u :: t, pos, need =>
    if need = 0 then some ⟨0, false, false, true, u :: t, pos⟩
    else
      let k := min need (32 - pos)
      let more := if pos + k = 32 then gather t 0 (need - k) else some ⟨0, false, false, true, u :: t, pos + k⟩
      match u.block with
      | .control => some ⟨0, false, true, true, t, 0⟩
      | .errored => more.map (fun g => { g with v := g.v * 2 ^ (8 * k), errored := true, room := u.room && g.room })
      | .data b => more.map (fun g => { g with v := bitsOf b (8 * pos) (8 * k) + g.v * 2 ^ (8 * k), room := u.room && g.room })

/-- A stream at a packet boundary without the control blocks and FILL bytes that come first (R439). -/
def skipFill : List RxUnit → Nat → List RxUnit × Nat
  | [], _ => ([], 0)
  | u :: t, pos =>
    match u.block with
    | .control => skipFill t 0
    | .errored => (u :: t, pos)
    | .data b =>
      match (List.range (32 - pos)).find? (fun i => bitsOf b (8 * (pos + i)) 8 != 0) with
      | some i => (u :: t, pos + i)
      | none => skipFill t 0

/-- A stream without its first byte: an errored or control block goes whole. -/
def dropByte : List RxUnit → Nat → List RxUnit × Nat
  | [], _ => ([], 0)
  | u :: t, pos => if 32 ≤ pos + 1 ∨ !u.isData then (t, 0) else (u :: t, pos + 1)

/-- What the link has not parsed yet. -/
def State.setRx (s : State) (h : Nat) (u : List RxUnit × Nat) : State :=
  s.setLink h { s.link h with rx := u.1, rxPos := u.2 }

/-- The first block of a stream holds a packet of 16 bytes and FILL, and nothing else (R453, R454). -/
def packetAlone : List RxUnit → Nat → Bool
  | ⟨.data b, _⟩ :: _, pos => decide (pos ≤ 16) && bitsOf b 0 (8 * pos) == 0 && b / 2 ^ (8 * (pos + 16)) == 0
  | _, _ => false

/-- The header's LEN is one that a data packet may have (R441). -/
def LinkPkt.lenOk (p : LinkPkt) : Bool := isControl p.type || (p.plen != 0 && decide (p.plen ≤ 4096))

/-- The bytes of a packet, by its header. -/
def LinkPkt.total (p : LinkPkt) : Nat := if isControl p.type then 16 else 20 + p.plen

/-- The link parses what comes next at a packet boundary, if all of it has come (R439–R441, R478, Table 12-9). -/
def State.linkParse (s : State) (h : Nat) : State :=
  let u := skipFill (s.link h).rx (s.link h).rxPos
  let s := s.setRx h u
  match gather u.1 u.2 16 with
  | none => s
  | some g =>
    let p : LinkPkt := ⟨16, g.v⟩
    let past := s.setRx h (dropByte u.1 u.2)
    if g.errored then (past.linkReject h cntFecDisc idlFecDisc 0).hunt h
    else if g.cut then (s.setRx h (g.rest, g.pos)).linkReject h cntFrame idlFrame 0
    else if !hcrcOk p then (past.linkReject h cntHcrc idlHcrc 0).hunt h
    else if !p.lenOk then (past.linkReject h cntMalf idlMalf (256 + p.type)).hunt h
    else match gather u.1 u.2 p.total with
      | none => s
      | some g =>
        (s.setRx h (g.rest, g.pos)).linkReceive h ⟨p.total, g.v⟩ g.errored g.cut
          (g.room || (p.type == typCredit && packetAlone u.1 u.2))

/-- What the link parses next, if it has come whole: its length, and its bytes as they lie in the stream. Without a good header it is
the 16 bytes where the header would be. -/
def State.nextUnit (s : State) (h : Nat) : Option (Nat × Gather) :=
  let u := skipFill (s.link h).rx (s.link h).rxPos
  (gather u.1 u.2 16).bind (fun g =>
    let p : LinkPkt := ⟨16, g.v⟩
    if g.errored || g.cut || !hcrcOk p || !p.lenOk then some (16, g) else (gather u.1 u.2 p.total).map (fun w => (p.total, w)))

/-- The packet that the link parses next, if it has come whole and can be read. -/
def State.nextPkt (s : State) (h : Nat) : Option LinkPkt :=
  match s.nextUnit h with
  | some (k, g) => if g.errored || g.cut || !hcrcOk ⟨k, g.v⟩ then none else some ⟨k, g.v⟩
  | none => none

/-- The link is in SYNC (R441). -/
def State.inSync (s : State) (h : Nat) : Bool := s.on (Reg.LN_IDL_STAT_SYNC h)

/-- Bytes of the stream that have not been parsed, a control block counting as 32. -/
def LinkSt.unparsed (x : LinkSt) : Nat := 32 * x.rx.length - x.rxPos

/-- The link parses everything that has come whole, as long as it is in SYNC. `fuel` bounds the packets. -/
def State.linkParseAll (s : State) (h : Nat) : Nat → State
  | 0 => s
  | fuel + 1 =>
    if !s.inSync h then s
    else
      let t := s.linkParse h
      if (t.link h).unparsed < (s.link h).unparsed then t.linkParseAll h fuel else t

/-- A LEN that a packet of type `t` may have (Table 12-2). -/
def lenAllowed (t len : Nat) : Bool :=
  if isControl t then len == 0
  else decide (1 ≤ len) && decide (len ≤ 4096) && (t != typCapture || len % 8 == 0) && (t != typCpld || len == 64 || len == 4096)

/-- Sixteen bytes form a header that ends HUNT on a link of this role (R441). -/
def headerFits (role v : Nat) : Bool :=
  hcrcOk ⟨16, v⟩ && typeAllowed role (LinkPkt.type ⟨16, v⟩) && lenAllowed (LinkPkt.type ⟨16, v⟩) (LinkPkt.plen ⟨16, v⟩)

/-- A link in HUNT searches its stream (R441): whether it finds a position, and what is left from there on, or from the first
position that cannot be judged yet. -/
def huntScan (role : Nat) : Nat → List RxUnit → Nat → Bool × List RxUnit × Nat
  | 0, u, pos => (false, u, pos)
  | _ + 1, [], _ => (false, [], 0)
  | fuel + 1, a :: t, pos =>
    match a.block with
    | .control =>
      match t.dropWhile (fun u => u.block == .control) with
      | [] => (false, [a], 0)
      | b :: r => if b.isData then (true, b :: r, 0) else huntScan role fuel (b :: r) 0
    | .errored => huntScan role fuel t 0
    | .data _ =>
      match gather (a :: t) pos 16 with
      | none => (false, a :: t, pos)
      | some g =>
        if !g.errored && !g.cut && headerFits role g.v then (true, a :: t, pos)
        else huntScan role fuel (dropByte (a :: t) pos).1 (dropByte (a :: t) pos).2

/-- A link in HUNT searches what has come; the bytes skipped are discarded. -/
def State.linkHunt (s : State) (h : Nat) : State :=
  let x := s.link h
  let r := huntScan (s.laneRole h) (33 * x.rx.length + 1) x.rx x.rxPos
  let s := s.setRx h r.2
  if r.1 then s.setBit (Reg.LN_IDL_STAT_SYNC h) true else s

/-! ## Entering and leaving UP -/

/-- The peer port number of head lane `h`, if it is a PEER port's (R422). -/
def State.peerPort (s : State) (h : Nat) : Option Nat :=
  if s.laneRole h = rolePeer then
    let p := bitsOf (s.fld (Reg.LG_PEER_PP (h / 8))) (3 * (h % 8)) 3
    if p < 7 then some p else none
  else none

/-- The link headed by lane `h` enters UP: parse state SYNC (R441), both credit counts at 0 (R452), no stamp seen yet; the SENT
count of its queue is to be read again (R461). -/
def State.linkEnter (s : State) (h : Nat) : State :=
  let x := s.link h
  let s := s.setLink h { x with txPos := 0, txPart := 0, rx := [], rxPos := 0, recv := 0, limit := 0, credited := none, lastStamp := none, ue := 0, trig := 0,
                                trigTick := none }
  let s := (s.setBit (Reg.LN_IDL_STAT_SYNC h) true).setBit (Reg.LN_IDL_STAT_PCRED h) false
  let s := ((s.setFld (Reg.LN_CRED_GRANT_LIMIT h) 0).setFld (Reg.LN_CRED_PEER_LIMIT h) 0).setFld (Reg.LN_CRED_SENT_SENT h) 0
  if s.laneRole h = rolePin then
    let q := s.fld (Reg.LN_PIN_CFG_QUEUE h)
    s.setCapCredit q { s.capCredit q with resync := true }
  else s

/-- The hub answers the initiator of a tunnel access (R472, R474). -/
def State.hubAnswer (s : State) (g : Nat) (f : Flit) (c : Code) (data : Nat) : State :=
  s.niSend (hubNode g) 0 (responseFlits (hubNode g) f c data)

/-- Every outstanding XTAG of the port headed by lane `h` ends with E_RST (R474). -/
def State.dropXtags (s : State) (h : Nat) : State :=
  let x := s.link h
  let s := x.xtags.foldl (fun s e => match e.2 with
    | some t => if t.quarantine then s else s.hubAnswer (h / 8) t.head .eRst 0
    | none => s) s
  let y := s.link h
  s.setLink h { y with xtags := [], remote := y.remote.map (fun r => (r.1, r.2.1, true)) }

/-- Every outstanding store transaction of the link ends with E_RST, and the quarantine is cleared (R468). -/
def State.dropStore (s : State) (h : Nat) : State :=
  let s := (s.storeSent h).foldl (fun s t => s.storeResult t .eRst 0) s
  s.setLink h { s.link h with stoQuar := [] }

/-- The link headed by lane `h` leaves UP (R429, R468, R474, R476): what waits to be sent is discarded and counted on the head
lane, and so is a packet that was being received, in the blocks that have come or in codewords that had not (`mid`); one that has come
whole has been received. Stamped packets already received stay in the elastic buffer. -/
def State.linkLeave (s : State) (h : Nat) (mid : Bool) : State :=
  let s := s.linkParseAll h (33 * (s.link h).rx.length)
  let x := s.link h
  let n := x.txq.length + bit x.drive.isSome
  let s := s.laneCount h Reg.LN_TXDISC_COUNT n
  let s := if s.inSync h && (mid || !(skipFill x.rx x.rxPos).1.isEmpty) then s.laneCount h Reg.LN_RXDISC_COUNT 1 else s
  let s := s.setLink h { s.link h with txq := [], txPos := 0, txPart := 0, rx := [], rxPos := 0, drive := none, ue := 0 }
  let s := s.setBit (Reg.LN_IDL_STAT_SYNC h) false
  let s := (s.dropStore h).dropXtags h
  match s.peerPort h with
  | some p => { s with pins := { s.pins with peer := Tbl.put 0 s.pins.peer p 0 } }
  | none => s

end Sys2Proof.Machine
end

