-- ==== Sys2Proof/Machine/TickOps.lean ====
section
/-! DEFINITION. The shared operations of the tick unit (chapter 2): recording a write, the slack meter, the voltage loop,
the action table, and the argument checks of its registers. -/

namespace Sys2Proof.Machine

/-- The tick unit records a write that reached one of its registers (Table 2-5). -/
def State.tickNote (s : State) (req addr : Nat) (c : Code) : State :=
  let s := s.setFld Reg.TICK_CMDSTAT_CODE c.num
  let s := s.setFld Reg.TICK_CMDSTAT_REQ req
  s.setFld Reg.TICK_CMDSTAT_OFFSET (addr - Reg.TICK_CTL)

/-- The tick unit records a write, logs an E_STATE refusal (R13) and answers it (R687). -/
def State.tickRecord (s : State) (req addr : Nat) (c : Code) : State :=
  ((s.tickNote req addr c).noteRefusal srcTick (addr - Reg.TICK_CTL) req c).respond req addr c

/-- The tick is stopped, or stops: neither RUN nor RUNNING is 1 (R40). -/
def State.tickIdle (s : State) : Bool := !s.on Reg.TICK_CTL_RUN && !s.ticking

/-- Some region is RUNNING or FROZEN (R42). -/
def State.anyActive (s : State) : Bool :=
  (List.range 24).any (fun r => s.rstate r == .running || s.rstate r == .frozen)

/-! ## Start and stop -/

/-- A write of RUN = 1 (R38, R682). -/
def State.tickStart (s : State) (req : Nat) (startOnSync : Bool) : State :=
  if s.on Reg.TICK_STATUS_PLL_LOCK then
    let s := (s.setBit Reg.TICK_CTL_RUN true).setBit Reg.TICK_CTL_START_ON_SYNC startOnSync
    let s :=
      if s.tick.stopPending then { s with tick := { s.tick with restart := true } }
      else if s.ticking then s
      else { s with tick := { s.tick with starting := true } }
    s.tickRecord req Reg.TICK_CTL .ok
  else s.tickRecord req Reg.TICK_CTL .eState

/-- A write of RUN = 0 (R42). -/
def State.tickStop (s : State) (req : Nat) (startOnSync : Bool) : State :=
  if s.anyActive then s.tickRecord req Reg.TICK_CTL .eState
  else
    let s := (s.setBit Reg.TICK_CTL_RUN false).setBit Reg.TICK_CTL_START_ON_SYNC startOnSync
    let s :=
      if s.ticking || s.tick.starting then { s with tick := { s.tick with stopPending := true, restart := false } }
      else s
    s.tickRecord req Reg.TICK_CTL .ok

/-! ## The slack meter -/

/-- The largest and the smallest slack a 25-bit number holds (R53). -/
def slackMax : Int := 0xFFFFFF
def slackMin : Int := -0x1000000

/-- The 25-bit two's complement code of a slack (R53). -/
def slackCode (x : Int) : Nat := (x % 0x2000000).toNat

/-- The slack of a 25-bit code (R53). -/
def slackOf (c : Nat) : Int := if c < 0x1000000 then (c : Int) else (c : Int) - 0x2000000

/-- The slack as the meter's number format gives it: a slack outside the format has a value the spec does not state
(assumption 6). -/
def State.meterSlack (s : State) (x : Int) : Int :=
  if slackMin ≤ x ∧ x ≤ slackMax then x else slackOf (s.freeBits 25).toNat

/-- The state after `meterSlack`. -/
def State.meterTook (s : State) (x : Int) : State :=
  if slackMin ≤ x ∧ x ≤ slackMax then s else s.tookFree

/-- One slack, or overrun, enters a minimum register (Table 2-7). -/
def State.slackMinInto (s : State) (slack ovr : Fld) (x : Int) (overrun : Bool) : State :=
  let s := if x < slackOf (s.fld slack) then s.setFld slack (slackCode x) else s
  if overrun then s.setBit ovr true else s

/-- The bin of a slack (R55): min(31, max(0, (slack - BASE) >> SHIFT)). -/
def histBin (base shift : Nat) (x : Int) : Nat :=
  let d := x - base
  if d < 0 then 0 else min 31 (d.toNat / 2 ^ shift)

/-- The region takes part in the voltage loop now (R66). -/
def State.participates (s : State) (r : Nat) : Bool :=
  s.rstate r == .running && !s.on (Reg.TR_CTL_AVS_EXCL r)

/-- The voltage loop gathers a slack of region `r` (R65, R66). -/
def State.gatherSlack (s : State) (r : Nat) (x : Int) (overrun : Bool) : State :=
  if s.participates r then
    let g := (s.rgn r).avs
    s.setRgn r { s.rgn r with avs := { g with
      any := true
      overran := g.overran || overrun
      minSlack := if g.any then min g.minSlack x else x } }
  else s

/-- The slack window that the region tick at tick `m` belongs to has ended (R54): a window's last region tick lies less than
a region-tick period before its end. -/
def State.windowClosed (s : State) (r m : Nat) : Bool :=
  match (s.rgn r).winEnd with
  | some w => decide ((w + 2 ^ 64 - m) % 2 ^ 64 < s.tdiv r)
  | none => false

/-- The slack meter of region `r` records the slack `x` of a wave whose region tick did not overrun (R53–R55). -/
def State.recordSlack (s : State) (r : Nat) (x0 : Int) : State :=
  let x := s.meterSlack x0
  let s := s.meterTook x0
  let s := (s.setFld (Reg.SLK_LAST_SLACK r) (slackCode x)).setBit (Reg.SLK_LAST_OVR r) false
  let s := s.slackMinInto (Reg.SLK_MIN_CUR_SLACK r) (Reg.SLK_MIN_CUR_OVR r) x false
  let s := s.slackMinInto (Reg.SLK_MIN_ALL_SLACK r) (Reg.SLK_MIN_ALL_OVR r) x false
  let s := s.gatherSlack r x false
  if s.on (Reg.TR_CTL_HIST_EN r) then
    s.count (Reg.SLK_HIST_COUNT r (histBin (s.rgn r).histBase (s.rgn r).histShift x)) (Reg.TR_STATUS_HIST_SAT r)
  else s

/-- The slack meter of region `r` records the negative slack `x` of the region tick at tick `m`, which overran (R53): in the
window that this region tick belongs to, which may have ended by now (R54). The voltage loop has counted the overrun at its
region tick, and the histogram leaves it out (R55). -/
def State.recordOverrun (s : State) (r m : Nat) (x0 : Int) : State :=
  let x := s.meterSlack x0
  let s := s.meterTook x0
  let s := (s.setFld (Reg.SLK_LAST_SLACK r) (slackCode x)).setBit (Reg.SLK_LAST_OVR r) true
  let s :=
    if s.windowClosed r m then s.slackMinInto (Reg.SLK_MIN_WIN_SLACK r) (Reg.SLK_MIN_WIN_OVR r) x true
    else s.slackMinInto (Reg.SLK_MIN_CUR_SLACK r) (Reg.SLK_MIN_CUR_OVR r) x true
  s.slackMinInto (Reg.SLK_MIN_ALL_SLACK r) (Reg.SLK_MIN_ALL_OVR r) x true

/-- An overrun of region `r` whose slack is not recorded yet has no DONE a full region-tick period after its region tick: the
meter records the most negative value (R53). -/
def State.overrunLost (s : State) (r : Nat) : State :=
  match (s.rgn r).ovrOpen with
  | some m => (s.setRgn r { s.rgn r with ovrOpen := none }).recordOverrun r m slackMin
  | none => s

/-- Is tick `n` the end of a slack window of region `r` (R54)? -/
def State.windowEndsAt (s : State) (r n : Nat) : Bool := n % (s.tdiv r * 2 ^ s.fld Reg.SLK_WIN_WLOG) == 0

/-- The slack window of region `r` ends (R54), and the histogram settings switch (R55). -/
def State.endWindow (s : State) (r : Nat) : State :=
  let s := s.setFld (Reg.SLK_MIN_WIN_SLACK r) (s.fld (Reg.SLK_MIN_CUR_SLACK r))
  let s := s.setFld (Reg.SLK_MIN_WIN_OVR r) (s.fld (Reg.SLK_MIN_CUR_OVR r))
  let s := (s.setFld (Reg.SLK_MIN_CUR_SLACK r) 0xFFFFFF).setBit (Reg.SLK_MIN_CUR_OVR r) false
  s.setRgn r { s.rgn r with
    winEnd := some s.now
    histBase := s.fld Reg.SLK_HIST_CFG_BASE
    histShift := s.fld Reg.SLK_HIST_CFG_SHIFT }

/-! ## The voltage loop -/

/-- The slack target of region `r` (R65). -/
def State.slackTarget (s : State) (r : Nat) : Int :=
  if s.on (Reg.TR_FLOOR_VALID r) then ((max (s.fld Reg.SLACK_TGT_TGT) (s.fld (Reg.TR_FLOOR_FLOOR r)) : Nat) : Int)
  else (s.fld Reg.SLACK_TGT_TGT : Int)

/-- Region `r` had a slack below its target, or engines slower than its limit, in the interval (R65, R68). -/
def State.avsShort (s : State) (r : Nat) : Bool :=
  let g := (s.rgn r).avs
  let lim := s.fld (Reg.TR_ECLIM_LIM r)
  g.any && ((!g.overran && decide (g.minSlack < s.slackTarget r)) || (lim != 0 && decide (g.maxTec > lim)))

/-- Region `r` stands in the way of a lowering by its slack or its engines (R65, R68). -/
def State.avsNotHigh (s : State) (r : Nat) : Bool :=
  let g := (s.rgn r).avs
  let lim := s.fld (Reg.TR_ECLIM_LIM r)
  let hyst : Int := s.fld Reg.AVS_TUNE_HYST
  g.any && (decide (g.minSlack < s.slackTarget r + hyst) || (lim != 0 && decide ((g.maxTec : Int) > lim - hyst)))

/-- The tick unit sends one AVSBus voltage write (R69). -/
def State.sendVoltage (s : State) (mv : Nat) : State :=
  let s := { s with tick := { s.tick with avs := { s.tick.avs with frame := mv, tries := 0 } } }
  (s.setBit Reg.AVS_STATUS_BUSY true).emit (.avsWrite mv)

/-- The loop moves to `mv`, and sends it if it is a new command. -/
def State.commandVoltage (s : State) (mv : Nat) : State :=
  if mv = s.tick.avs.volts then s
  else ({ s with tick := { s.tick with avs := { s.tick.avs with volts := mv } } }).sendVoltage mv

/-- A voltage held within VMIN and VMAX (R64). -/
def State.clampVolts (s : State) (mv : Nat) : Nat := max (s.fld Reg.AVS_LIMIT_VMIN) (min (s.fld Reg.AVS_LIMIT_VMAX) mv)

/-- A raise by `step` mV: clipped at VMAX, marked and logged once per episode (R65, R71). -/
def State.avsRaise (s : State) (step : Nat) : State :=
  let v := s.tick.avs.volts
  let clipped := decide (v + step > s.fld Reg.AVS_LIMIT_VMAX)
  let s := { s with tick := { s.tick with avs := { s.tick.avs with highRun := 0, sinceRaise := 0 } } }
  let s :=
    if clipped then
      let s := s.setBit Reg.AVS_STATUS_AT_VMAX true
      if s.tick.avs.clipLogged then s
      else
        let s := s.raise srcTick .degraded 0x67 (s.rd Reg.AVS_STATUS).toNat
        { s with tick := { s.tick with avs := { s.tick.avs with clipLogged := true } } }
    else s
  s.commandVoltage (s.clampVolts (v + step))

/-- An interval that calls for no raise: it ends an episode of clipped raises (R71), and lowers by 5 mV after DNCNT high
intervals with no raise among them and no region without a floor (R65, R67). -/
def State.avsNoRaise (s : State) (high nofloor : Bool) : State :=
  let a := s.tick.avs
  let run := if high then a.highRun + 1 else 0
  let since := a.sinceRaise + 1
  let n := s.fld Reg.AVS_TUNE_DNCNT
  let lower := decide (run ≥ n) && decide (since ≥ n) && !nofloor
  let s := { s with tick := { s.tick with avs := { a with
    highRun := if lower then 0 else run, sinceRaise := since, clipLogged := false } } }
  if lower then
    let s := if a.volts < s.fld Reg.AVS_LIMIT_VMIN + 5 then s.setBit Reg.AVS_STATUS_AT_VMIN true else s
    s.commandVoltage (s.clampVolts (a.volts - 5))
  else s.commandVoltage (s.clampVolts a.volts)

/-- Forget what the loop has gathered of every region. -/
def State.clearGather (s : State) : State :=
  (List.range 24).foldl (fun s r => s.setRgn r { s.rgn r with avs := .none }) s

/-- One interval of the voltage loop (R65–R68). -/
def State.avsInterval (s : State) : State :=
  let rs := List.range 24
  let nofloor := rs.any (fun r => s.participates r && !s.on (Reg.TR_FLOOR_VALID r))
  let anyTick := rs.any (fun r => (s.rgn r).avs.any)
  let ovr := rs.any (fun r => (s.rgn r).avs.any && (s.rgn r).avs.overran)
  let short := rs.any (fun r => s.avsShort r)
  let high := !rs.any (fun r => s.avsNotHigh r)
  let s := s.setBit Reg.AVS_STATUS_NOFLOOR nofloor
  let s :=
    if !anyTick then { s with tick := { s.tick with avs := { s.tick.avs with clipLogged := false } } }
    else if ovr then s.avsRaise (s.fld Reg.AVS_TUNE_OVR_STEPS * 5)
    else if short then s.avsRaise 5
    else s.avsNoRaise high nofloor
  s.clearGather

/-- Is a voltage one that may be commanded (R64, R72)? -/
def State.voltsOk (s : State) (mv : Nat) : Bool :=
  mv % 5 == 0 && decide (s.fld Reg.AVS_LIMIT_VMIN ≤ mv) && decide (mv ≤ s.fld Reg.AVS_LIMIT_VMAX)

/-- In FIXED the device commands the voltage of AVS_VSET (R72), unless commanding has stopped (R70). -/
def State.commandFixed (s : State) (mv : Nat) : State :=
  if s.tick.avs.stopped then s
  else ({ s with tick := { s.tick with avs := { s.tick.avs with volts := mv } } }).sendVoltage mv

/-- A write of AVS_CTL (R70, R72). EN = 1 in FIXED is refused with E_ARG while the voltage that AVS_VSET holds is not one that may be
commanded now: the spec states no refusal there, DESIGN CHOICE (log entry 46). -/
def State.avsCtlWrite (s : State) (req : Nat) (value : Nat) : State :=
  let en := hasBit value 0
  let fixed := hasBit value 1
  let mv := s.fld Reg.AVS_VSET_VSET
  if en && fixed && !s.voltsOk mv then s.tickRecord req Reg.AVS_CTL .eArg
  else
    let s := (s.setBit Reg.AVS_CTL_EN en).setBit Reg.AVS_CTL_MODE fixed
    let s :=
      if en then
        let s := { s with tick := { s.tick with avs := { s.tick.avs with stopped := false } } }
        if fixed then s.commandFixed mv else s
      else s
    s.tickRecord req Reg.AVS_CTL .ok

/-- A write of AVS_VSET (R72, Table 2-12). -/
def State.avsVsetWrite (s : State) (req : Nat) (value : Nat) : State :=
  let mv := value % 2 ^ 16
  if !s.on Reg.AVS_CTL_MODE then s.tickRecord req Reg.AVS_VSET .eState
  else if !s.voltsOk mv then s.tickRecord req Reg.AVS_VSET .eArg
  else
    let s := s.setFld Reg.AVS_VSET_VSET mv
    let s := if s.on Reg.AVS_CTL_EN then s.commandFixed mv else s
    s.tickRecord req Reg.AVS_VSET .ok

/-- The end of an AVSBus frame (R70). -/
def State.avsResponse (s : State) (good : Bool) : State :=
  let a := s.tick.avs
  if !s.on Reg.AVS_STATUS_BUSY then s
  else if good then (s.setFld Reg.AVS_STATUS_VCMD a.frame).setBit Reg.AVS_STATUS_BUSY false
  else if a.tries < 3 then
    ({ s with tick := { s.tick with avs := { a with tries := a.tries + 1 } } }).emit (.avsWrite a.frame)
  else
    let s := { s with tick := { s.tick with avs := { a with stopped := true } } }
    let s := (s.setBit Reg.AVS_STATUS_BUSY false).setBit Reg.AVS_STATUS_FAULT true
    s.raise srcTick .fault 0x66 (s.rd Reg.AVS_STATUS).toNat

/-! ## Region blocks of the tick unit -/

/-- Tarantella of region `r` switches off (R74). -/
def State.tarOff (s : State) (r : Nat) : State :=
  let s := s.setBit (Reg.TAR_CTL_EN r) false
  s.setRgn r { s.rgn r with tarLevel := 0 }

/-- A write of TAR_CTL (R73, R74, Table 2-15). What EN and LEVEL draw changes at the region's next region tick (R19, R73). -/
def State.tarCtlWrite (s : State) (req r value : Nat) : State :=
  let a := Reg.TAR_CTL r
  let level := bitsOf value 4 5
  let tmax := bitsOf value 16 10
  if hasBit value 0 && s.rstate r != .running then s.tickRecord req a .eState
  else if level > 16 ∨ tmax = 0 ∨ tmax > 1000 then s.tickRecord req a .eArg
  else
    let s := s.setBit (Reg.TAR_CTL_EN r) (hasBit value 0)
    let s := if hasBit value 1 then s.setBit (Reg.TAR_CTL_TIMEOUT r) false else s
    let s := (s.setFld (Reg.TAR_CTL_LEVEL r) level).setFld (Reg.TAR_CTL_TMAX r) tmax
    s.tickRecord req a .ok

/-- A write of TR_FLOOR (R76, R680). -/
def State.trFloorWrite (s : State) (req r value : Nat) : State :=
  let a := Reg.TR_FLOOR r
  let floor := value % 2 ^ 16
  if s.on (Reg.TR_FLOOR_LOCK r) && floor != s.fld (Reg.TR_FLOOR_FLOOR r) then s.tickRecord req a .eLock
  else if floor < 20 then s.tickRecord req a .eArg
  else
    let s := (s.setFld (Reg.TR_FLOOR_FLOOR r) floor).setBit (Reg.TR_FLOOR_VALID r) true
    let s := if hasBit value 16 then s.setBit (Reg.TR_FLOOR_LOCK r) true else s
    s.tickRecord req a .ok

/-- The guard floor of region `r` is cleared, and its lock with it (R76). -/
def State.clearFloor (s : State) (r : Nat) : State :=
  (s.setBit (Reg.TR_FLOOR_VALID r) false).setBit (Reg.TR_FLOOR_LOCK r) false

/-- The outcome of writing RESUME = 1 (R62, R170). -/
def State.resumeCode (s : State) (r : Nat) : Code :=
  if (s.rgn r).pend.isSome then .eBusy
  else if s.rstate r ≠ .frozen ∨ !s.ticking then .eState
  else .ok

/-- One more command takes its place in the order of R172. -/
def State.tookAligned (s : State) : State := { s with tick := { s.tick with aligned := s.tick.aligned + 1 } }

/-- A tick-aligned command of region `r` is accepted and waits (R168, R170). -/
def State.setPend (s : State) (r : Nat) (k : TickCmd) (req : Nat) : State :=
  let s := s.setRgn r { s.rgn r with pend := some ⟨k, s.now, req, s.tick.aligned⟩ }
  s.tookAligned.setBit (Reg.REG_CMDSTAT_PEND r) true

/-- The waiting tick-aligned command of region `r` is taken away. -/
def State.clearPend (s : State) (r : Nat) : State :=
  let s := s.setRgn r { s.rgn r with pend := none }
  s.setBit (Reg.REG_CMDSTAT_PEND r) false

/-- The outcome of writing TDIV and PHASE (R45): the state is checked before the arguments. -/
def State.trCtlCode (s : State) (r value : Nat) : Code :=
  let tdiv := bitsOf value 0 2
  let phase := bitsOf value 2 3
  let changes := tdiv != s.fld (Reg.TR_CTL_TDIV r) || phase != s.fld (Reg.TR_CTL_PHASE r)
  if changes && (s.rstate r == .running || s.rstate r == .frozen) then .eState
  else if phase ≥ 2 ^ tdiv then .eArg
  else .ok

/-- A write of TR_CTL (R45, R62): refused whole if any part of it is refused. -/
def State.trCtlWrite (s : State) (req r value : Nat) : State :=
  let a := Reg.TR_CTL r
  let c := s.trCtlCode r value
  let c := if c = .ok && hasBit value 16 then s.resumeCode r else c
  if c ≠ .ok then s.tickRecord req a c
  else
    let s := (s.setFld (Reg.TR_CTL_TDIV r) (bitsOf value 0 2)).setFld (Reg.TR_CTL_PHASE r) (bitsOf value 2 3)
    let s := (s.setBit (Reg.TR_CTL_POLICY r) (hasBit value 8)).setBit (Reg.TR_CTL_AVS_EXCL r) (hasBit value 9)
    let s := s.setBit (Reg.TR_CTL_HIST_EN r) (hasBit value 10)
    let s := if hasBit value 16 then s.setPend r .resume req else s
    s.tickRecord req a .ok

/-- Every histogram bin of region `r` set to 0. -/
def State.clearBins (s : State) (r : Nat) : State :=
  (List.range 32).foldl (fun s b => s.setFld (Reg.SLK_HIST_COUNT r b) 0) s

/-- A write of TR_CLR (R54–R56, Table 2-8): each bit written 1 clears its counters and their SAT bits. -/
def State.trClrWrite (s : State) (req r value : Nat) : State :=
  let s :=
    if hasBit value 0 then
      let s := ((s.setFld (Reg.OVR_COUNT_COUNT r) 0).setFld (Reg.OVR_ENG_COUNT_COUNT r) 0).setFld (Reg.OVR_LAST_TICK r) 0
      (s.setBit (Reg.TR_STATUS_OVR_SAT r) false).setBit (Reg.TR_STATUS_ENG_SAT r) false
    else s
  let s := if hasBit value 1 then (s.clearBins r).setBit (Reg.TR_STATUS_HIST_SAT r) false else s
  let s :=
    if hasBit value 2 then (s.setFld (Reg.SLK_MIN_ALL_SLACK r) 0xFFFFFF).setBit (Reg.SLK_MIN_ALL_OVR r) false else s
  s.tickRecord req (Reg.TR_CLR r) .ok

/-! ## The action table -/

/-- The states of an action entry (Table 2-14). -/
inductive ActState where
  | empty | armed | executed | executedLate | refused | failed | cancelled | issued
  deriving DecidableEq, Repr

/-- The code of an entry state in STATE (Table 2-14). -/
def ActState.num : ActState → Nat
  | .empty => 0 | .armed => 1 | .executed => 2 | .executedLate => 3 | .refused => 4 | .failed => 5 | .cancelled => 6
  | .issued => 7

/-- The entry state of a code (Table 2-14). -/
def ActState.ofNum : Nat → ActState
  | 0 => .empty | 1 => .armed | 2 => .executed | 3 => .executedLate | 4 => .refused | 5 => .failed | 6 => .cancelled
  | _ => .issued

/-- The state of entry `i`. -/
def State.actState (s : State) (i : Nat) : ActState := .ofNum (s.fld (Reg.ACT_STAT_STATE i))

/-- The entry is ARMED or ISSUED. -/
def State.actBusy (s : State) (i : Nat) : Bool := s.actState i == .armed || s.actState i == .issued

/-- The type of entry `i` (Table 2-16). -/
def State.actType (s : State) (i : Nat) : Nat := s.fld (Reg.ACT_CTL_TYPE i)

/-- The work on entry `i`. -/
def State.actWork (s : State) (i : Nat) : ActWork := Tbl.get ⟨false, 0, 0, none⟩ s.tick.act i

/-- The state with the work on entry `i` changed. -/
def State.setActWork (s : State) (i : Nat) (w : ActWork) : State :=
  { s with tick := { s.tick with act := Tbl.put ⟨false, 0, 0, none⟩ s.tick.act i w } }

/-- Entry `i` takes a state and a code; its bits of ACT_ARMED, ACT_DONE and ARM follow (Table 2-14). -/
def State.actSet (s : State) (i : Nat) (st : ActState) (c : Code) : State :=
  let s := (s.setFld (Reg.ACT_STAT_STATE i) st.num).setFld (Reg.ACT_STAT_CODE i) c.num
  let live := st == .armed || st == .issued
  let s := s.setBit (Reg.ACT_CTL_ARM i) live
  let s := if live then s.setBitOf Reg.ACT_ARMED_ARMED i else s.clrBitOf Reg.ACT_ARMED_ARMED i
  let s := if live then s else s.setActWork i ⟨false, 0, 0, none⟩
  if live || st == .empty then s else s.setBitOf Reg.ACT_DONE_DONE i

/-- The floor of the delivery offset for a tick period of `k` slots and a lane latency of `ns` (R41): ceil(ns / period)
+ 2. -/
def deliveryFloor (ns k : Nat) : Nat := (ns * 1000 + k * 800 - 1) / (k * 800) + 2

/-- The lane latency that group `g` counts with: 170 ns, or 300 ns at half rate (R41, R433). -/
def State.groupLatency (s : State) (g : Nat) : Nat := if s.on (Reg.LG_CFG_RATE g) then 300 else 170

/-- Some lane group in role PIN, STORE or PEER has a delivery offset below the floor for `k` slots (R41). -/
def State.deliveryTooShort (s : State) (k : Nat) : Bool :=
  (List.range 16).any (fun g =>
    (s.fld (Reg.LG_ROLE_ROLE g) != 0) && decide (s.fld (Reg.LG_DOFS_D g) < deliveryFloor (s.groupLatency g) k))

/-- The arguments of entry `i` are in range (R77, Table 2-16, R41, R83). -/
def State.actArgsOk (s : State) (i : Nat) : Bool :=
  let a0 := s.fld (Reg.ACT_ARG0_ARG i)
  let a1 := s.fld (Reg.ACT_ARG1_ARG i)
  match s.actType i with
  | 1 => a0 % 4 == 0 && decide (0x10000 ≤ a0) && decide (a0 < 0x4000000) &&
      !(a0 == Reg.TICK_PERIOD && s.deliveryTooShort (a1 % 2 ^ 16 + 1))
  | 2 | 3 => a0 != 0 && decide (a0 < 2 ^ 24)
  | 4 => decide (a0 < 24) && decide (a1 < 16)
  | 5 => decide (a0 < 96) && decide (a1 < 64)
  | 6 => a0 != 0 && decide (a0 < 16) && decide (a1 < 2 ^ 16)
  | 7 => decide (a0 < 1024) && decide (a1 < 2 ^ 16)
  | 8 => a0 != 0 && decide (a0 < 2 ^ 24) && decide (a1 % 32 ≤ 16) && (a1 == a1 % 32 + a1 / 256 % 2 * 256)
  | 9 => decide (a0 % 256 < 24) && decide (a0 < 2 ^ 16) && a1 != 0 && decide (a1 < 2 ^ 16)
  | _ => false

/-- The regions that the work on entry `i` covers: its mask, for the masked types (Table 2-16). -/
def State.actMask (s : State) (i : Nat) : Nat :=
  match s.actType i with
  | 2 | 3 | 8 => s.fld (Reg.ACT_ARG0_ARG i)
  | _ => 0

/-- The check of R78 against the current tick `c`: the entry is ARMED for its target, armed to run late at `c` + 4, or
refused with E_LATE. -/
def State.actTimeCheck (s : State) (i c : Nat) : State :=
  let target := s.fld (Reg.ACT_TARGET_TARGET i)
  if c + 4 ≤ target then (s.actSet i .armed .ok).setActWork i ⟨false, target, s.actMask i, none⟩
  else if s.on (Reg.ACT_CTL_RUN_LATE i) then
    (s.actSet i .armed .ok).setActWork i ⟨true, (c + 4) % 2 ^ 64, s.actMask i, none⟩
  else s.actSet i .refused .eLate

/-- ARM of entry `i` (R77, R78). -/
def State.actArm (s : State) (i : Nat) : State :=
  if s.actArgsOk i then s.actTimeCheck i s.now else s.actSet i .refused .eArg

/-- Every ARMED entry is checked again when the tick counter is loaded or written (R84). -/
def State.actRecheck (s : State) : State :=
  (List.range 64).foldl (fun s i => if s.actState i = .armed then s.actTimeCheck i s.now else s) s

/-- The fields of the word at +0x00 of entry `i` that a write sets beside ARM. -/
def State.actCtlFields (s : State) (i value : Nat) : State :=
  let s := s.setBit (Reg.ACT_CTL_RUN_LATE i) (hasBit value 2)
  let s := s.setFld (Reg.ACT_CTL_TYPE i) (bitsOf value 4 4)
  s.setBit (Reg.ACT_CTL_EVT i) (hasBit value 8)

/-- A write to the register at offset `off` of action entry `i`, 64 bits of data for the 64-bit registers (R79, R80). -/
def State.actWrite (s : State) (req i off value : Nat) : State :=
  let a := Reg.ACT_CTL i + off
  if off = 0 ∧ hasBit value 1 then
    if s.actState i = .armed ∧ s.now + 4 ≤ s.fld (Reg.ACT_TARGET_TARGET i) then
      (s.actSet i .cancelled .ok).tickRecord req a .ok
    else s.tickRecord req a .eLate
  else if s.actBusy i then s.tickRecord req a .eBusy
  else
    let s := s.actSet i .empty .ok
    if off = 0 then
      let s := s.actCtlFields i value
      if hasBit value 0 then
        let s := s.actArm i
        let c := if s.actState i = .refused then Code.ofNum (s.fld (Reg.ACT_STAT_CODE i)) else .ok
        s.tickRecord req a c
      else s.tickRecord req a .ok
    else
      let s :=
        if off = 8 then s.setFld (Reg.ACT_TARGET_TARGET i) value
        else if off = 0x10 then s.setFld (Reg.ACT_ARG0_ARG i) value
        else if off = 0x14 then s.setFld (Reg.ACT_ARG1_ARG i) value
        else s
      s.tickRecord req a .ok

/-- Entry `i` is due at the present tick, for an action performed at one tick. -/
def State.actDueNow (s : State) (i type : Nat) : Bool :=
  decide (i < 64) && s.ticking && s.actType i == type && s.actState i == .armed && (s.actWork i).due == s.now

/-- Entry `i`, of a type performed at region ticks, is due or under way at the present tick (R683). -/
def State.actUnderWay (s : State) (i type : Nat) : Bool :=
  decide (i < 64) && s.ticking && s.actType i == type &&
    ((s.actState i == .armed && (s.actWork i).due == s.now) || s.actState i == .issued)

/-- The physical region that logical region `l` maps to, if it exists and maps to one (R535). -/
def State.physicalOf (s : State) (l : Nat) : Option Nat :=
  if l < 24 ∧ !s.on (Reg.CFG_REGMAP_NONE l) then some (s.fld (Reg.CFG_REGMAP_PHYSICAL l)) else none

/-- Entry `i`, which acts at region ticks, has still to act on region `r` at the present tick (Table 2-16, R683). -/
def State.actPending (s : State) (r i : Nat) : Bool :=
  s.regionTickAt r s.now &&
    (([2, 3, 8].any (fun t => s.actUnderWay i t) && hasBit (s.actWork i).remaining r) ||
      (s.actUnderWay i 4 && s.physicalOf (s.fld (Reg.ACT_ARG0_ARG i)) == some r))

/-- Entry `i` has still to act at the present tick. -/
def State.actTodo (s : State) (i : Nat) : Bool :=
  [1, 5, 6, 7, 9].any (fun t => s.actDueNow i t) || (List.range 24).any (fun r => s.actPending r i) ||
    (s.actDueNow i 4 && (s.physicalOf (s.fld (Reg.ACT_ARG0_ARG i))).isNone)

/-- Entry `i` has still to act in region `r`, or on an engine of it, at the present tick (R172). -/
def State.actBefore (s : State) (r i : Nat) : Bool :=
  s.actPending r i || (s.actDueNow i 5 && s.fld (Reg.ACT_ARG0_ARG i) / 4 == r)

/-- Every entry of a lower index has acted at the present tick (R81). -/
def State.actTurn (s : State) (i : Nat) : Bool := (List.range i).all (fun j => !s.actTodo j)

/-- Entry `i` acts next at the present tick, for an action performed at one tick. -/
def State.actReady (s : State) (i type : Nat) : Bool := s.actDueNow i type && s.actTurn i

/-- Entry `i`, of a type performed at region ticks, acts next at the present tick. -/
def State.actGoes (s : State) (i type : Nat) : Bool := s.actUnderWay i type && s.actTurn i

/-- Entry `i` has been performed with outcome `c` (R78, R82, R683). -/
def State.actFinish (s : State) (i : Nat) (c : Code) : State :=
  let late := (s.actWork i).late
  if c = .ok then s.actSet i (if late then .executedLate else .executed) .ok
  else s.actSet i .failed c

/-- Entry `i` performed at this tick with outcome `c`: EXEC holds the tick (R683). -/
def State.actDone (s : State) (i : Nat) (c : Code) : State :=
  (s.setFld (Reg.ACT_EXEC_EXEC i) s.now).actFinish i c

/-- A masked region action at the present tick: each region of the mask whose region tick this is acts, in ascending
order, on its own; when the last has acted the entry completes (R683). `act` performs the action on one region and
answers its outcome. -/
def State.actRegions (s : State) (i : Nat) (act : State → Nat → State × Code) : State :=
  let s := if s.actState i = .armed then
      (s.actSet i .issued .ok).setActWork i (s.actWork i)
    else s
  let step := fun (p : State × Bool) r =>
    let s := p.1
    if hasBit (s.actWork i).remaining r && s.regionTickAt r s.now then
      let (s, c) := act s r
      let w := s.actWork i
      let w := { w with remaining := withoutBit w.remaining r
                        refused := w.refused.or (if c = .ok then none else some c) }
      (s.setActWork i w, true)
    else p
  let (s, acted) := (List.range 24).foldl step (s, false)
  let s := if acted then s.setFld (Reg.ACT_EXEC_EXEC i) s.now else s
  if (s.actWork i).remaining = 0 then s.actFinish i ((s.actWork i).refused.getD .ok) else s

/-! ## The generic write to a tick-unit register -/

/-- TICK_MARK's pulse is not shorter than its period (R89): WIDTH × 6.4 ns against 2^MLOG × K × 800 ps. -/
def markTooLong (width mlog k : Nat) : Bool := decide (width * 8 ≥ 2 ^ mlog * k)

/-- TICK_MARK is disabled where the period in force breaks its condition (R89). -/
def State.markCheck (s : State) : State :=
  if s.on Reg.TICK_MARK_CTL_EN &&
      markTooLong (s.fld Reg.TICK_MARK_CTL_WIDTH) (s.fld Reg.TICK_MARK_CTL_MLOG) s.slots then
    let s := s.setBit Reg.TICK_MARK_CTL_EN false
    let s := { s with tick := { s.tick with markHigh := false } }
    s.raise srcTick .notice 0x6A (s.rd Reg.TICK_MARK_CTL).toNat
  else s

/-- The outcome of a write of `value` to a tick-unit register that has no command of its own. `action` says that an
action entry writes, which alone may change TICK_PERIOD while the tick runs (R40). -/
def State.tickPlainCode (s : State) (addr value : Nat) (action : Bool) : Code :=
  if addr = Reg.TICK_PERIOD then if s.tickIdle || action then .ok else .eState
  else if addr = Reg.TICK_MARK_CTL then
    let width := bitsOf value 8 8
    if width = 0 ∨ markTooLong width (bitsOf value 0 6) s.slots then .eArg else .ok
  else if addr = Reg.SLK_HIST_CFG then if bitsOf value 16 5 > 20 then .eArg else .ok
  else if addr = Reg.AVS_LIMIT then
    let lo := bitsOf value 0 16
    let hi := bitsOf value 16 16
    if lo < 600 ∨ 850 < hi ∨ hi ≤ lo ∨ lo % 5 ≠ 0 ∨ hi % 5 ≠ 0 then .eArg else .ok
  else if addr = Reg.AVS_TUNE then
    let steps := bitsOf value 20 4
    if bitsOf value 0 4 = 0 ∨ bitsOf value 12 8 = 0 ∨ steps = 0 ∨ 8 < steps then .eArg else .ok
  else if (instOffset (Reg.TR_ECLIM 0) [(24, 0x100)] 4 addr).isSome then
    let lim := value % 2 ^ 16
    if lim ≠ 0 ∧ (lim < 60 ∨ 200 < lim) then .eArg else .ok
  else .ok

end Sys2Proof.Machine
end

