-- ==== Sys2Proof/Machine/LaneOps.lean ====
section
/-! DEFINITION. Lanes and ports: power, enabling, training, UP, loopbacks, commands, group configuration (chapter 11). -/

namespace Sys2Proof.Machine

/-- A lane unit records a write to LN_CTL, LN_CMD, LN_EYECTL or one of the link registers, logs an E_STATE refusal and answers
(Table 11-14, R481). -/
def State.laneRecord (s : State) (req n addr cmd : Nat) (c : Code) : State :=
  let s := ((s.setFld (Reg.LN_CMDSTAT_CODE n) c.num).setFld (Reg.LN_CMDSTAT_CMD n) cmd).setFld (Reg.LN_CMDSTAT_REQ n) req
  (s.noteRefusal (srcLane n) (addr - Reg.LN_CTL n) req c).respond req addr c

/-! ## Power (R437) -/

/-- The analogue supply of group `g` is called for. -/
def State.groupNeeds (s : State) (g : Nat) : Bool :=
  s.fld (Reg.LG_ROLE_ROLE g) != 0 || (List.range 8).any (fun i => (s.lane (8 * g + i)).loop.isSome)

/-- The supply of group `g` is switching on: some lane waits for it. -/
def State.groupRamps (s : State) (g : Nat) : Bool := (List.range 8).any (fun i => s.laneState (8 * g + i) == lnPwrup)

/-- The state in which lane `n` rests without being enabled. -/
def State.restState (s : State) (n : Nat) : Nat := if s.laneRole n = 0 then lnOff else lnDisabled

/-- The supply of group `g` follows the roles and loopbacks; a lane that has begun to need it waits while it ramps, and takes
its resting state, or LOOP, where it is on already. -/
def State.groupPower (s : State) (g : Nat) : State :=
  let on := s.on (Reg.LG_CFG_PWR g)
  let ramps := s.groupRamps g
  let s := s.setBit (Reg.LG_CFG_PWR g) (s.groupNeeds g)
  (List.range 8).foldl (fun s i =>
    let n := 8 * g + i
    let st := s.laneState n
    let loop := (s.lane n).loop.isSome
    if !s.groupNeeds g then (if st = lnPwrup then s.setLaneState n lnOff else s)
    else if loop && st != lnLoop then s.setLaneState n (if on && !ramps then lnLoop else lnPwrup)
    else if st = lnOff && s.laneRole n != 0 then s.setLaneState n (if on && !ramps then lnDisabled else lnPwrup)
    else if s.laneRole n = 0 && !loop && (st = lnDisabled || st = lnPwrup) then s.setLaneState n lnOff
    else s) s

/-! ## Ports -/

/-- Every lane of the port headed by lane `h` in state `st`. -/
def State.setPort (s : State) (h st : Nat) : State := (s.portLanes h).foldl (fun s n => s.setLaneState n st) s

/-- The port headed by lane `h` begins to train if it is enabled and all its lanes rest (R426, R427, R430). -/
def State.portEnable (s : State) (h : Nat) : State :=
  if s.on (Reg.LN_CTL_EN h) && s.laneRole h != 0 && (s.portLanes h).all (fun n => s.laneState n == lnDisabled) then
    s.setPort h lnWait
  else s

/-- Every port of group `g` that may begin to train does. -/
def State.groupEnable (s : State) (g : Nat) : State :=
  (List.range 8).foldl (fun s i => if s.portHead (8 * g + i) = 8 * g + i then s.portEnable (8 * g + i) else s) s

/-- A running eye measurement of lane `n` ends early; how far its count has come is not stated (R436). -/
def State.eyeAbort (s : State) (n : Nat) : State :=
  if s.on (Reg.LN_EYESTAT_BUSY n) then
    let v := (s.freeBits 24).toNat
    ((((s.setFld (Reg.LN_EYESTAT_MISCNT n) v).tookFree).setBit (Reg.LN_EYESTAT_BUSY n) false).setBit
      (Reg.LN_EYESTAT_ABORT n) true)
  else s

/-- The port headed by lane `h` leaves UP for state `st`: its eye measurements end, its link goes down. `mid`: a packet had begun in
codewords that had not come whole. -/
def State.portLeaveUp (s : State) (h st : Nat) (mid : Bool) : State :=
  let s := (s.portLanes h).foldl (fun s n => s.eyeAbort n) s
  (s.linkLeave h mid).setPort h st

/-- A departure from UP by R428: counted on every lane of the port, and marked except for RETRAIN. -/
def State.portDepart (s : State) (h : Nat) (retrain : Bool) (mid : Bool := false) : State :=
  let s := s.portLeaveUp h lnWait mid
  (s.portLanes h).foldl (fun s n =>
    let s := (s.laneCount n Reg.LN_LINKDN_COUNT 1).setLane n { s.lane n with fails := 0, good := 0 }
    if retrain then s else s.laneErr n 0) s

/-- The port headed by lane `h` enters TRAIN: polarity and precoding requests take effect (R431). -/
def State.enterTrain (s : State) (h : Nat) : State :=
  (s.portLanes h).foldl (fun s n =>
    let x := s.lane n
    (s.setLane n { x with inForce := bitsOf (s.rd (Reg.LN_CTL n)).toNat 1 3, good := 0, fails := 0 }).setLaneState n lnTrain) s

/-- Some lane of the port is held by the self-test controller (R435). -/
def State.portHeld (s : State) (h : Nat) : Bool := (s.portLanes h).any (fun n => s.on (Reg.LN_STATUS_ST_HOLD n))

/-! ## LN_CTL -/

/-- EN of lane `n` takes the value `en` (R427, R430): it matters on the head of a port. -/
def State.laneEnable (s : State) (n : Nat) (en : Bool) (mid : Bool := false) : State :=
  let s := s.setBit (Reg.LN_CTL_EN n) en
  if s.portHead n ≠ n then s
  else if en then s.portEnable n
  else
    let up := s.laneState n == lnUp
    let s := if up then s.portLeaveUp n lnDisabled mid else s
    (s.portLanes n).foldl (fun s m =>
      if s.laneState m = lnLoop ∨ s.laneState m = lnOff ∨ (s.lane m).loop.isSome then s else s.setLaneState m lnDisabled) s

/-- The delivery offset of the group lies below its floor for the present tick period (R41, R433). -/
def State.dofsTooShort (s : State) (g : Nat) : Bool :=
  decide (s.fld (Reg.LG_DOFS_D g) < deliveryFloor (s.groupLatency g) s.slots)

/-- A write of LN_CTL of lane `n` (R427, R430, R433, R435). -/
def State.laneCtlWrite (s : State) (req n value : Nat) (mid : Bool := false) : State :=
  let a := Reg.LN_CTL n
  let en := hasBit value 0
  let c : Code :=
    if en && s.laneRole n == 0 then .eState
    else if bitsOf value 8 8 = 0 then .eArg
    else if en && s.portHead n == n && s.dofsTooShort (n / 8) then .eArg
    else .ok
  if c ≠ .ok then s.laneRecord req n a 0 c
  else
    let s := s.wr a (BitVec.ofNat 64 (value % 2 ^ 16 / 2 * 2 % 2 ^ 4 + bitsOf value 8 8 * 2 ^ 8 + bit (s.on (Reg.LN_CTL_EN n))))
    let s := if s.on (Reg.LN_STATUS_ST_HOLD n) then s.setLane n { s.lane n with enPend := some en } else s.laneEnable n en mid
    s.laneRecord req n a 0 .ok

/-! ## LN_CMD (Table 11-12) -/

/-- The outcome of lane command `cmd` (Table 11-12, R435). -/
def State.laneCmdCode (s : State) (n cmd : Nat) : Code :=
  let st := s.laneState n
  if s.on (Reg.LN_STATUS_ST_HOLD n) then .eBusy
  else match cmd with
    | 1 => if st = lnWait ∨ st = lnTrain ∨ st = lnLock ∨ st = lnUp then .ok else .eState
    | 2 => if st = lnOff ∨ st = lnDisabled then .ok else .eState
    | 3 => if st = lnDisabled then .ok else .eState
    | 4 => if st = lnLoop then .ok else .eState
    | 5 => if st ≠ lnUp then .eState else if s.on (Reg.LN_EYESTAT_BUSY n) then .eBusy else .ok
    | 6 => if st = lnUp then .ok else .eState
    | _ => .eArg

/-- A lane returns from LOOP to the state it came from, or to its resting state if EN was cleared meanwhile (R434). -/
def State.loopExit (s : State) (n : Nat) : State :=
  let x := s.lane n
  let back := x.loop.getD lnOff
  let back := if back = lnOff ∨ s.on (Reg.LN_CTL_EN (s.portHead n)) then back else s.restState n
  let s := (s.setLane n { x with loop := none }).setLaneState n back
  let s := s.setBit (Reg.LN_STATUS_PRBS_LOCK n) false
  (s.groupPower (n / 8)).portEnable (s.portHead n)

/-- A lane goes into a loopback or sends a pattern, once its supply is on (R434). -/
def State.loopEnter (s : State) (n : Nat) : State :=
  let s := s.setLane n { s.lane n with loop := some (s.laneState n) }
  s.groupPower (n / 8)

/-- A write of LN_CMD of lane `n`. -/
def State.laneCmdWrite (s : State) (req n value : Nat) (mid : Bool := false) : State :=
  let cmd := value % 16
  let c := s.laneCmdCode n cmd
  let h := s.portHead n
  let s :=
    if c ≠ .ok then s
    else match cmd with
      | 1 => if s.laneState n = lnUp then s.portDepart h true mid else s.enterTrain h
      | 2 | 3 => s.loopEnter n
      | 4 => s.loopExit n
      | 5 =>
        (s.setBit (Reg.LN_EYESTAT_BUSY n) true).setFld (Reg.LN_EYESTAT_MISCNT n) 0
      | 6 => s.eyeAbort n
      | _ => s
  s.laneRecord req n (Reg.LN_CMD n) cmd c

/-! ## Group configuration (R423, R424) -/

/-- Roles, width codes and peer port numbers of a group are consistent (R423). `others`: the peer port numbers in use in other
groups. -/
def groupOk (roles bond peer : Nat) (others : List Nat) : Bool :=
  let role := fun i => bitsOf roles (2 * i) 2
  let pp := fun i => bitsOf peer (3 * i) 3
  let heads := (List.range 8).filter (fun i => bondHead bond i == i && role i != 0)
  let pps := (heads.filter (fun i => role i == rolePeer)).map pp
  (List.range 8).all (fun i =>
    let c := bondCode bond i
    (2 ≤ role i || c == 0) &&
      (c == 0 || (i % 2 ^ c == 0 && (List.range (2 ^ c)).all (fun k => role (i + k) == role i && (k == 0 || bondCode bond (i + k) == 0))))) &&
    heads.all (fun i => if role i == rolePeer then pp i != 7 else pp i == 7) &&
    pps.all (fun p => !others.contains p && (pps.filter (· == p)).length == 1)

/-- The peer port numbers in use outside group `g`. -/
def State.otherPeers (s : State) (g : Nat) : List Nat :=
  (List.range 128).filterMap (fun n => if n / 8 ≠ g ∧ s.portHead n = n then s.peerPort n else none)

/-- The lanes of group `g` whose setting or port shape a write of `value` at offset `off` would change (R424). -/
def State.groupChanges (s : State) (g off value : Nat) : List Nat :=
  let roles := s.fld (Reg.LG_ROLE_ROLE g)
  let bond := s.fld (Reg.LG_BOND_WIDTH g)
  let peer := s.fld (Reg.LG_PEER_PP g)
  (List.range 8).filter (fun i =>
    if off = 0 then bit (s.on (Reg.LG_CFG_RATE g)) != value % 2
    else if off = 4 then bitsOf roles (2 * i) 2 != bitsOf value (2 * i) 2
    else if off = 8 then bondHead bond i != bondHead value i || bondCode bond (bondHead bond i) != bondCode value (bondHead value i)
    else bitsOf peer (3 * i) 3 != bitsOf value (3 * i) 3)

/-- A group records a write to one of LG_CFG–LG_DOFS (Table 11-18). -/
def State.groupRecord (s : State) (req g off : Nat) (c : Code) : State :=
  let s := ((s.setFld (Reg.LG_CMDSTAT_CODE g) c.num).setFld (Reg.LG_CMDSTAT_REQ g) req).setFld (Reg.LG_CMDSTAT_OFFSET g) off
  (s.noteRefusal (srcLane (8 * g)) (0x1000 + off) req c).respond req (Reg.LG_CFG g + off) c

/-- A write of LG_CFG, LG_ROLE, LG_BOND or LG_PEER (R423, R424). -/
def State.groupWrite (s : State) (req g off value : Nat) : State :=
  let roles := if off = 4 then value % 2 ^ 16 else s.fld (Reg.LG_ROLE_ROLE g)
  let bond := if off = 8 then value % 2 ^ 16 else s.fld (Reg.LG_BOND_WIDTH g)
  let peer := if off = 0xC then value % 2 ^ 24 else s.fld (Reg.LG_PEER_PP g)
  let rest := fun i => s.laneState (8 * g + i) == lnOff || s.laneState (8 * g + i) == lnDisabled
  let c : Code :=
    if off ≠ 0 ∧ !groupOk roles bond peer (s.otherPeers g) then .eArg
    else if !(s.groupChanges g off value).all rest then .eState
    else .ok
  let s :=
    if c ≠ .ok then s
    else if off = 0 then s.setFld (Reg.LG_CFG_RATE g) (value % 2)
    else if off = 4 then ((s.setFld (Reg.LG_ROLE_ROLE g) roles).groupPower g).groupEnable g
    else if off = 8 then (s.setFld (Reg.LG_BOND_WIDTH g) bond).groupEnable g
    else s.setFld (Reg.LG_PEER_PP g) peer
  s.groupRecord req g off c

/-- A write of LG_DOFS (R433). -/
def State.dofsWrite (s : State) (req g value : Nat) : State :=
  if s.on Reg.TICK_CTL_RUN then s.groupRecord req g 0x10 .eState
  else (s.setFld (Reg.LG_DOFS_D g) (value % 2 ^ 16)).groupRecord req g 0x10 .ok

/-- The counters of lane `n` and CNT_SAT cleared (Table 11-17). -/
def State.laneCntclr (s : State) (n : Nat) : State :=
  let fs := [Reg.LN_FECCW_COUNT, Reg.LN_FECCE_COUNT, Reg.LN_FECSYM_COUNT, Reg.LN_FECUE_COUNT, Reg.LN_LINKDN_COUNT,
    Reg.LN_TRNFAIL_COUNT, Reg.LN_TXDISC_COUNT, Reg.LN_RXDISC_COUNT, Reg.LN_PRBSERR_COUNT, Reg.LN_CTLBAD_COUNT]
  let s := fs.foldl (fun s f => s.setFld (f n) 0) s
  let s := (List.range 16).foldl (fun s k => s.setFld (Reg.LN_SYMHIST_COUNT n k) 0) s
  s.setBit (Reg.LN_ERR_CNT_SAT n) false

end Sys2Proof.Machine
end

