-- ==== Sys2Proof/Machine/IdlisOps.lean ====
section
/-! DEFINITION. The Idlis link (chapter 12): transmission and credit, delivery, DRIVE packets, capture
forwarding, store transactions, tunnels, triggers, beacons. -/

namespace Sys2Proof.Machine

/-! ## Transmission (R440, R453) -/

/-- Data blocks that a packet of `len` bytes adds when `pos` bytes of the current block are filled. -/
def txBlocks (pos len : Nat) : Nat := if pos = 0 then (len + 31) / 32 else (pos + len + 31) / 32 - 1

/-- The credit covers `k` further data blocks (R452). -/
def State.creditCovers (s : State) (h k : Nat) : Bool :=
  let avail := (s.fld (Reg.LN_CRED_PEER_LIMIT h) + 2 ^ 32 - s.fld (Reg.LN_CRED_SENT_SENT h)) % 2 ^ 32
  k == 0 || (decide (k ≤ avail) && decide (avail ≤ 2 ^ 31))

/-- The packet's delivery tick has come or is past (R446, R450). -/
def State.expired (s : State) (h : Nat) (p : LinkPkt) : Bool :=
  let a := (s.stampNow + 2 ^ 32 - p.stamp) % 2 ^ 32
  isStamped p.type && decide (s.dofs h ≤ a) && decide (a < 2 ^ 31)

/-- How lane `n` turns bits into levels when it sends, and when it receives (R413, R418, R420, R431). -/
def State.txMode (s : State) (n : Nat) : LineMode :=
  ⟨s.on (Reg.LG_CFG_RATE (n / 8)), s.on (Reg.LN_STATUS_PC_TX n), hasBit (s.lane n).inForce 0⟩
def State.rxMode (s : State) (n : Nat) : LineMode :=
  ⟨s.on (Reg.LG_CFG_RATE (n / 8)), s.on (Reg.LN_STATUS_PC_RX n), hasBit (s.lane n).inForce 1⟩

/-- The port headed by lane `h` sends a block on the lane whose turn it is (R425); the twentieth of a lane completes a codeword,
which leaves it (R416). -/
def State.sendBlock (s : State) (h b : Nat) : State :=
  let x := s.link h
  let n := h + x.txCount % s.portWidth h
  let s := s.setLink h { x with txCount := x.txCount + 1 }
  let y := s.lane n
  let l := y.txBlocks ++ [b]
  if l.length < 20 then s.setLane n { y with txBlocks := l }
  else
    let (levels, last) := lineSend (s.txMode n) y.txLevel (encodeBlocks l)
    (s.setLane n { y with txBlocks := [], txLevel := last }).emit (.laneSend n levels)

/-- The codewords that every lane of the port has begun since data mode began. -/
def State.codewordsSent (s : State) (h : Nat) : Nat := (s.link h).txCount / (20 * s.portWidth h)

/-- A control block is sent (R415, Table 11-4): ALIGN in the first 64 codewords, then IDLE. -/
def State.sendControl (s : State) (h : Nat) : State :=
  let m := s.codewordsSent h
  s.sendBlock h (if m < 64 then alignBlock m ((s.link h).txCount % s.portWidth h) (bondCode (s.fld (Reg.LG_BOND_WIDTH (h / 8))) (h % 8))
    else idleBlock)

/-- `k` control blocks are sent. -/
def State.sendIdle (s : State) (h : Nat) : Nat → State
  | 0 => s
  | k + 1 => (s.sendControl h).sendIdle h k

/-- The current data block is completed with FILL bytes (R440). -/
def State.sendFill (s : State) (h : Nat) : State :=
  let x := s.link h
  if x.txPos = 0 then s
  else (s.setLink h { x with txPos := 0, txPart := 0 }).sendBlock h (dataBlock x.txPart)

/-- Whole data blocks are sent. -/
def State.sendData (s : State) (h v : Nat) : Nat → State
  | 0 => s
  | k + 1 => (s.sendBlock h (dataBlock v)).sendData h (v / 2 ^ 256) k

/-- The bytes of a packet follow those of the current data block. -/
def State.sendBytes (s : State) (h : Nat) (p : LinkPkt) : State :=
  let x := s.link h
  let n := x.txPos + p.len
  let v := x.txPart + p.v % 2 ^ (8 * p.len) * 2 ^ (8 * x.txPos)
  (s.setLink h { x with txPos := n % 32, txPart := v / 2 ^ (256 * (n / 32)) }).sendData h v (n / 32)

/-- Between packets: the current data block may be completed with FILL, and control blocks sent after it (R439, R440). -/
def State.linkPause (s : State) (h : Nat) : Option Nat → State
  | none => s
  | some idle => (s.sendFill h).sendIdle h idle

/-- The first packet of the transmit buffer is sent, if it may start (R440): not before the first 64 codewords have gone (R427). -/
def State.linkTransmit (s : State) (h : Nat) (pause : Option Nat) : State :=
  let s := s.linkPause h pause
  let x := s.link h
  match x.txq with
  | [] => s
  | p :: t =>
    let k := txBlocks x.txPos p.len
    if s.expired h p || !s.creditCovers h k || decide (s.codewordsSent h < 64) then s
    else
      let s := (s.setLink h { x with txq := t }).sendBytes h p
      (s.setFld (Reg.LN_CRED_SENT_SENT h) (s.fld (Reg.LN_CRED_SENT_SENT h) + k)).emit (.linkSend h p.len p.v)

/-- A CREDIT with the LIMIT of now is sent, in a block of its own (R453). -/
def State.sendCredit (s : State) (h : Nat) : State :=
  let s := s.sendFill h
  if s.codewordsSent h < 64 then s
  else
    let l := s.limitNow h
    let p := controlPkt typCredit false (s.ownSdev h) (l % 2 ^ 32)
    let s := s.setLink h { s.link h with limit := l, credited := some l }
    let s := s.setFld (Reg.LN_CRED_GRANT_LIMIT h) l
    let s := s.setFld (Reg.LN_CRED_SENT_SENT h) (s.fld (Reg.LN_CRED_SENT_SENT h) + 1)
    (s.sendBlock h (dataBlock p.v)).emit (.linkSend h p.len p.v)

/-! ## Delivery (R447) -/

/-- Tick `t` is the present tick or has passed. -/
def State.tickCome (s : State) (t : Nat) : Bool := decide ((s.now + 2 ^ 64 - t) % 2 ^ 64 < 2 ^ 63)

/-- A peer's beacon at its delivery tick (R88, R477). -/
def State.beaconArrives (s : State) (h : Nat) (p : LinkPkt) : State :=
  match s.peerPort h with
  | none => s
  | some k =>
    if !s.on Reg.TICK_BCN_STATUS_BCN_EN then s
    else
      let n := bitsOf p.v 32 64
      let good := n == (s.now + 2 ^ 64 - s.dofs h) % 2 ^ 64 && bitsOf p.v 96 16 == s.fld Reg.TICK_PERIOD_KM1
      let s := { s with tick := { s.tick with lastBeacon := Tbl.put 0 s.tick.lastBeacon k (s.now + 1) } }
      if good then s else
        let s := s.setBitOf Reg.TICK_BCN_STATUS_MISMATCH k
        (s.raise srcTick .fault 0x69 k).setAlarm

/-- Every held packet of the link whose delivery tick has come is delivered, in stream order: a beacon is checked, the others
wait to act. -/
def State.deliverHeld (s : State) (h : Nat) : State :=
  let x := s.link h
  let due := x.held.filter (fun e => s.tickCome e.1)
  let s := s.setLink h { x with held := x.held.filter (fun e => !s.tickCome e.1) }
  due.foldl (fun s e =>
    if e.2.type = typBeacon then s.beaconArrives h e.2
    else
      let y := s.link h
      s.setLink h { y with ready := y.ready ++ [.pkt e.1 e.2] }) s

/-- The packet at the front of what has been delivered on the link, if it is of type `t`. -/
def State.frontPkt (s : State) (h t : Nat) : Option (Nat × LinkPkt) :=
  match (s.link h).ready with
  | .pkt k p :: _ => if p.type = t then some (k, p) else none
  | _ => none

/-- The front of what has been delivered has acted. -/
def State.popReady (s : State) (h : Nat) : State :=
  let x := s.link h
  s.setLink h { x with ready := x.ready.tail }

/-! ## DRIVE (R456–R458) -/

/-- STEP in ticks (Table 12-3). -/
def State.driveStep (s : State) (h : Nat) : Nat := 2 ^ s.fld (Reg.LN_PIN_CFG_STEP h)

/-- The frame length of a lane, in bytes. -/
def State.frameLen (s : State) (h : Nat) : Nat := s.fld (Reg.LN_PIN_CFG_FLENM1 h) + 1

/-- The frames of a DRIVE packet as one number, frame 0 first. -/
def packFrames (len : Nat) : List Nat → Nat
  | [] => 0
  | f :: t => f % 2 ^ (8 * len) + 2 ^ (8 * len) * packFrames len t

/-- The open DRIVE packet of the lane closes and enters the transmit buffer (R457, Table 12-3). -/
def State.driveClose (s : State) (h : Nat) : State :=
  let x := s.link h
  match x.drive with
  | none => s
  | some d =>
    let len := s.frameLen h
    let n := d.frames.length
    let f := d.first % 2 ^ 32 + s.dofs h * 2 ^ 32 + (len - 1) * 2 ^ 48 + (n - 1) * 2 ^ 56 +
      s.fld (Reg.LN_PIN_CFG_STEP h) * 2 ^ 64
    (s.setLink h { x with drive := none }).linkQueue h (dataPkt typDrive d.stale 0 f (len * n) (packFrames len d.frames))

/-- The full tick of a stamp of ten bits: the latest one not after the present tick (R456). -/
def State.fullTick (s : State) (stamp : Nat) : Nat := (s.now + 2 ^ 64 - (s.now + 1024 - stamp) % 1024) % 2 ^ 64

/-- A frame joins the open DRIVE packet of the lane, or closes it and opens the next (R457). -/
def State.driveFrame (s : State) (h tick : Nat) (stale : Bool) (frame : Nat) : State :=
  let agg := s.fld (Reg.LN_PIN_CFG_AGGM1 h) + 1
  let joins := match (s.link h).drive with
    | some d => tick == (d.last + s.driveStep h) % 2 ^ 64 && d.stale == stale && decide (d.frames.length < agg)
    | none => false
  let s := if joins then s else s.driveClose h
  let x := s.link h
  let d : DriveOpen := match x.drive with
    | some d => { d with last := tick, frames := d.frames ++ [frame] }
    | none => ⟨tick, tick, stale, [frame]⟩
  let s := s.setLink h { x with drive := some d }
  if agg ≤ d.frames.length then s.driveClose h else s

/-! ## Capture (R460–R462) -/

/-- The narrow words of a CAPTURE payload of `n` words. -/
def captureWords (stale : Bool) (stamp : Nat) (v : Nat) : Nat → Nat → List CapItem
  | _, 0 => []
  | i, n + 1 =>
    .word (i == 0) (n == 0) stale stamp 8 (v % 2 ^ 64) :: captureWords stale stamp (v / 2 ^ 64) (i + 1) n

/-- The PIN lanes that forward to queue `q`. -/
def State.captureLanes (s : State) (q : Nat) : List Nat :=
  (List.range 128).filter (fun n =>
    s.isHead n rolePin && s.on (Reg.LN_PIN_CFG_CAP_EN n) && s.fld (Reg.LN_PIN_CFG_QUEUE n) == q)

/-- Lane `h` must leave the queue to another lane first: one that is within a packet, or has a marker that comes before the
item at the front of `h`, or packets that come before the marker at the front of `h` (R460, R462). -/
def State.captureBlocked (s : State) (h q : Nat) : Bool :=
  (s.captureLanes q).any (fun n => n != h &&
    (!(s.link n).cap.isEmpty ||
      (match (s.link h).ready with
        | .pkt t _ :: _ => (s.link n).ready.any (fun r => match r with
          | .marker m _ => decide (m ≤ t)
          | .pkt _ _ => false)
        | .marker m _ :: _ => (s.link n).ready.any (fun r => match r with
          | .pkt t _ => decide (t < m)
          | .marker _ _ => false)
        | [] => false)))

/-- Segments of what is left of a capture packet, as far as the queue's credit goes (R460, R461). -/
def State.captureSegments (s : State) (h : Nat) (q : Nat) : Nat → List CapItem → State × List CapItem
  | 0, items => (s, items)
  | fuel + 1, items =>
    if items.isEmpty then (s, [])
    else
      let g := h / 8
      let (s', rest) := s.sendSegment (hubNode g) (s.fld (Reg.LN_PIN_CFG_ROUTE h)) capturePri (0xA0 + g) q items true
      if rest.length = items.length then (s', items) else s'.captureSegments h q fuel rest

/-- The hub forwards what lies at the front of a PIN lane (R460–R462). -/
def State.captureForward (s : State) (h : Nat) : State :=
  let q := s.fld (Reg.LN_PIN_CFG_QUEUE h)
  match (s.link h).ready with
  | [] => s
  | .marker t code :: _ =>
    if s.captureBlocked h q then s
    else ((s.captureSegments h q 1 [.marker code t]).1).popReady h
  | .pkt _ p :: _ =>
    if p.type ≠ typCapture then s
    else if !s.on (Reg.LN_PIN_CFG_CAP_EN h) then (s.linkCount h cntCapDrop).popReady h
    else if (s.link h).cap.isEmpty && s.captureBlocked h q then s
    else
      let items := if (s.link h).cap.isEmpty then captureWords p.stale p.stamp p.payload 0 (p.plen / 8) else (s.link h).cap
      let (s, rest) := s.captureSegments h q 17 items
      if rest.isEmpty then (s.setLink h { s.link h with cap := [] }).popReady h
      else if rest.length = items.length ∧ (s.link h).cap.isEmpty then s
      else s.setLink h { s.link h with cap := rest }

/-- Place a marker before the first packet delivered at or after its tick (R462). -/
def placeMark (tick code : Nat) : List RxItem → List RxItem
  | [] => [.marker tick code]
  | .pkt t p :: rest => if tick ≤ t then .marker tick code :: .pkt t p :: rest else .pkt t p :: placeMark tick code rest
  | m :: rest => m :: placeMark tick code rest

/-! ## Forwarding (R469–R471) -/

/-- What is wrong with a nest (R471). -/
inductive Nest where
  | ok | deep | bad
  deriving DecidableEq, Repr

/-- The inner packet of a FWD. -/
def LinkPkt.inner (p : LinkPkt) : LinkPkt := ⟨p.plen, p.payload⟩

/-- The inner packet passes the checks of its header and trailer, and is of a type that may be carried (R469, R471). -/
def innerOk (p : LinkPkt) : Bool :=
  decide (16 ≤ p.len) && hcrcOk p && [typFwd, typTunReq, typTunRsp, typTunCpl, typTrig].contains p.type &&
    (if isControl p.type then p.len == 16 && p.plen == 0
      else p.plen != 0 && decide (p.plen ≤ 4096) && p.len == 20 + p.plen && trailerOk p) && fieldsOk p true

/-- The check of a FWD at its delivery tick: at most two FWD headers (R471). -/
def nestCheck (p : LinkPkt) : Nest :=
  let i := p.inner
  if !(decide (16 ≤ i.len) && hcrcOk i) then .bad
  else if i.type ≠ typFwd then (if innerOk i then .ok else .bad)
  else
    let j := i.inner
    if decide (16 ≤ j.len) && hcrcOk j && j.type == typFwd then .deep
    else if innerOk i && innerOk j then .ok
    else .bad

/-- The head lane of peer port `k` that is UP. -/
def State.peerUp (s : State) (k : Nat) : Option Nat := (List.range 128).find? (fun n => s.linkUpAt n && s.peerPort n == some k)

/-- The inner packet with a new stamp and sender, its checks regenerated (R470). -/
def State.restamp (s : State) (h : Nat) (p : LinkPkt) : LinkPkt :=
  linkPkt p.type p.stale (s.ownSdev h) (p.fields / 2 ^ 32 * 2 ^ 32 + s.stampNow) p.plen p.payload

/-- A FWD at its delivery tick (R470, R471). -/
def State.forward (s : State) (h : Nat) (p : LinkPkt) : State :=
  match nestCheck p with
  | .deep => s.linkReject h cntNest idlNest (256 + typFwd)
  | .bad => s.linkReject h cntMalf idlMalf (256 + typFwd)
  | .ok =>
    match s.peerUp (bitsOf (p.byte 8) 0 3) with
    | some o => s.linkQueue o (s.restamp o p.inner)
    | none => s.linkCount h cntDrvDisc

/-! ## Tunnels (R472–R474) -/

/-- A free XTAG of the port (R472). -/
def LinkSt.freeXtag (x : LinkSt) : Option Nat := (List.range 1024).find? (fun k => (Tbl.get none x.xtags k).isNone)

/-- An access to a tunnel aperture at hub `g`: the request's header and its body (R472). -/
def State.tunnel (s : State) (g : Nat) (f : Flit) (body : Nat) : State :=
  let addr := body % 2 ^ 48
  let h := 8 * g + bitsOf addr 41 3
  let d := bitsOf addr 37 4
  let refuse := fun (c : Code) => if f.opc = opWrp then s.niMalf (hubNode g) 0 else s.hubAnswer g f c 0
  if !s.on (Reg.LN_TUN_VALID h d) || !s.isHead h rolePeer then refuse .eArg
  else if !s.linkUpAt h then refuse .eState
  else
    let x := s.link h
    let posted := f.opc == opWrp
    match (if posted then some 0 else x.freeXtag) with
    | none => refuse .eBusy
    | some k =>
      let s := if posted then s else s.setLink h { x with xtags := Tbl.put none x.xtags k (some ⟨f, false⟩) }
      let remote := (s.fld (Reg.LN_TUN_BASE h d) + addr % 2 ^ 37) % 2 ^ 48
      let fields := s.stampNow + k * 2 ^ 32 + (f.opc + f.pri * 16) * 2 ^ 48 + s.fld (Reg.LN_TUN_ENTRY h d) * 2 ^ 56 +
        f.blen * 2 ^ 64
      let len := if f.opc = opRd then 8 else 9 + f.blen
      s.linkQueue h (dataPkt typTunReq f.stale (s.ownSdev h) fields len (remote + body / 2 ^ 64 * 2 ^ 64))

/-- The number by which the hub knows a tunnelled transaction of lane `h` at its interface. -/
def tunnelRef (h xtag : Nat) : Nat := 2 ^ 16 + h % 8 * 1024 + xtag

/-- A TUN_CPL, or a TUN_RSP with `data`, goes back to the requesting side (R473). -/
def State.tunnelReply (s : State) (h xtag : Nat) (c : Code) (data : Option (Nat × Nat)) : State :=
  let fields := s.stampNow + xtag * 2 ^ 32 + c.num * 2 ^ 48
  match data with
  | some d => s.linkQueue h (dataPkt typTunRsp false (s.ownSdev h) (fields + (d.1 - 1) * 2 ^ 64) d.1 d.2)
  | none => s.linkQueue h (controlPkt typTunCpl false (s.ownSdev h) fields)

/-- A TUN_REQ at its delivery tick: answers whether it has been dealt with (R473). -/
def State.tunnelRequest (s : State) (h : Nat) (p : LinkPkt) : State × Bool :=
  let xtag := bitsOf p.v 64 10
  let opc := bitsOf (p.byte 10) 0 4
  let g := h / 8
  let x := s.link h
  if 256 ≤ x.remote.length then
    (if opc = opWrp then s.linkCount h cntDrvDisc else s.tunnelReply h xtag .eBusy none, true)
  else
    let q : NetRequest := ⟨0xA0 + g, tunnelRef h xtag, opc, bitsOf (p.byte 11) 0 6, false, bitsOf (p.byte 10) 4 2,
      p.payload % 2 ^ 48, p.byte 12 + 1, p.payload / 2 ^ 64⟩
    let (s, entered) := s.niIssue (hubNode g) 0 q
    if !entered then (s, false)
    else if opc = opWrp then (s, true)
    else
      let y := s.link h
      (s.setLink h { y with remote := y.remote ++ [(xtag, opc + p.byte 12 * 16, false)] }, true)

/-- A TUN_RSP or TUN_CPL at its delivery tick (R474). -/
def State.tunnelResponse (s : State) (h : Nat) (p : LinkPkt) : State :=
  let xtag := bitsOf p.v 64 10
  let x := s.link h
  match Tbl.get none x.xtags xtag with
  | some t =>
    if t.quarantine then s.linkReject h cntStray idlStray (256 + p.type)
    else
      let s := s.setLink h { x with xtags := Tbl.put none x.xtags xtag none }
      s.hubAnswer (h / 8) t.head (.ofNum (bitsOf (p.byte 10) 0 4)) (if p.type = typTunRsp then p.payload else 0)
  | none => s.linkReject h cntStray idlStray (256 + p.type)

/-! ## Triggers and beacons (R475–R477) -/

/-- The levels that a PEER port sends (R475). -/
def State.trigLevels (s : State) (h : Nat) : Nat :=
  ((List.range 8).map (fun i =>
    let w := bitsOf (s.fld (Reg.LN_PTRIG_SEL h)) (4 * i) 4
    bit (hasBit w 3 && s.lineLevel (w % 8)) * 2 ^ i)).sum

/-- The REG_WRITE entry due at the present tick that writes the register at `a` last, if one does (R81). -/
def State.actWrites (s : State) (a : Nat) : Option Nat :=
  (List.range 64).reverse.find? (fun i => s.actDueNow i 1 && s.fld (Reg.ACT_ARG0_ARG i) == a)

/-- The period of the present tick, as KM1, before its REG_WRITE entries have acted (R40, R81). -/
def State.tickKm1 (s : State) : Nat :=
  match s.actWrites Reg.TICK_PERIOD with
  | some i => s.fld (Reg.ACT_ARG1_ARG i) % 2 ^ 16
  | none => s.fld Reg.TICK_PERIOD_KM1

/-- A BEACON of the present tick (R477). -/
def State.beaconPkt (s : State) (h : Nat) : LinkPkt :=
  controlPkt typBeacon false (s.ownSdev h) (s.now + s.tickKm1 * 2 ^ 64)

/-- Beacons are formed at a tick that is a multiple of 65,536, for every PEER and PIN link that is UP (R88, R477). -/
def State.beacons (s : State) : State :=
  let en := (s.actWrites Reg.TICK_BCN_STATUS).elim (s.on Reg.TICK_BCN_STATUS_BCN_EN) (fun i => hasBit (s.fld (Reg.ACT_ARG1_ARG i)) 16)
  if s.now % 65536 ≠ 0 ∨ !en then s
  else (List.range 128).foldl (fun s n =>
    if s.linkUpAt n && (s.laneRole n == rolePin || s.laneRole n == rolePeer) then s.linkQueue n (s.beaconPkt n) else s) s

end Sys2Proof.Machine
end

