-- ==== Sys2Proof/Machine/Aes.lean ====
section
/-! DEFINITION. AES-256 in Galois/Counter Mode (R529: NIST SP 800-38D), on lists of bytes. PRESUMED: the cipher itself is not in
the spec, which names the standard (assumption 30). -/

namespace Sys2Proof.Machine

/-- The S-box, sixteen entries to a number, the first in its lowest byte. -/
def aesBox : List Nat :=
  [0x76abd7fe2b670130c56f6bf27b777c63, 0xc072a49cafa2d4adf04759fa7dc982ca, 0x1531d871f1e5a534ccf73f362693fdb7,
   0x75b227ebe28012079a059618c323c704, 0x842fe329b3d63b52a05a6e1b1a2c8309, 0xcf584c4a39becb6a5bb1fc20ed00d153,
   0xa89f3c507f02f94585334d43fbaaefd0, 0xd2f3ff1021dab6bcf5389d928f40a351, 0x73195d643d7ea7c41744975fec130ccd,
   0xdb0b5ede14b8ee4688902a22dc4f8160, 0x79e4959162acd3c25c2406490a3a32e0, 0x08ae7a65eaf4566ca94ed58d6d37c8e7,
   0x8a8bbd4b1f74dde8c6b4a61c2e2578ba, 0x9e1dc186b95735610ef6034866b53e70, 0xdf2855cee9871e9b948ed9691198f8e1,
   0x16bb54b00f2d99416842e6bf0d89a18c]

/-- The S-box. -/
def aesSub (x : Nat) : Nat := (aesBox.getD (x / 16) 0) / 256 ^ (x % 16) % 256

/-- Multiplication by x in the field of AES. -/
def aesDouble (b : Nat) : Nat := if b < 128 then 2 * b else (2 * b) ^^^ 0x11B

/-- The exclusive or of two lists of bytes. -/
def xorBytes (a b : List Nat) : List Nat := a.zipWith (· ^^^ ·) b

/-- The next word of the key schedule of a 256-bit key: `ws` holds the words so far, latest first. -/
def aesNext (ws : List (List Nat)) : List Nat :=
  let i := ws.length
  let t := ws.headD []
  let t :=
    if i % 8 = 0 then
      let r := (t.drop 1 ++ t.take 1).map aesSub
      xorBytes r [2 ^ (i / 8 - 1), 0, 0, 0]
    else if i % 8 = 4 then t.map aesSub
    else t
  xorBytes (ws.getD 7 []) t

/-- `n` further words of the key schedule. -/
def aesExpand : Nat → List (List Nat) → List (List Nat)
  | 0, ws => ws
  | n + 1, ws => aesExpand n (aesNext ws :: ws)

/-- A list cut into pieces of `k`, `n` of them. -/
def pieces (k : Nat) : Nat → List Nat → List (List Nat)
  | 0, _ => []
  | n + 1, l => l.take k :: pieces k n (l.drop k)

/-- The round keys of a 256-bit key, 16 bytes each. -/
def aesKeys (key : List Nat) : List (List Nat) :=
  pieces 16 15 (aesExpand 52 (pieces 4 8 key).reverse).reverse.flatten

/-- The rows of the state rotate. -/
def aesRotate (b : List Nat) : List Nat := (List.range 16).map (fun i => b.getD ((i + 4 * (i % 4)) % 16) 0)

/-- A column of the state is mixed. -/
def aesMix (c : List Nat) : List Nat :=
  let at_ := fun i => c.getD (i % 4) 0
  (List.range 4).map (fun i =>
    aesDouble (at_ i) ^^^ (aesDouble (at_ (i + 1)) ^^^ at_ (i + 1)) ^^^ at_ (i + 2) ^^^ at_ (i + 3))

/-- The rounds after the first key has been added. -/
def aesRounds : List (List Nat) → List Nat → List Nat
  | [], b => b
  | [k], b => xorBytes (aesRotate (b.map aesSub)) k
  | k :: ks, b => aesRounds ks (xorBytes ((pieces 4 4 (aesRotate (b.map aesSub))).map aesMix).flatten k)

/-- AES-256 of one block under the round keys. -/
def aesBlock (keys : List (List Nat)) (b : List Nat) : List Nat :=
  match keys with
  | [] => b
  | k :: ks => aesRounds ks (xorBytes b k)

/-- A number as `n` bytes, highest first; and back. -/
def bytesHigh (v : Nat) : Nat → List Nat
  | 0 => []
  | n + 1 => v / 256 ^ n % 256 :: bytesHigh v n

def numHigh (l : List Nat) : Nat := l.foldl (fun v b => v * 256 + b) 0

/-- Multiplication in the field of GHASH, bit 127 first. -/
def ghashMul : Nat → Nat → Nat → Nat → Nat
  | 0, _, _, z => z
  | n + 1, x, v, z =>
    ghashMul n x (if v % 2 = 1 then v / 2 ^^^ 0xE1 * 2 ^ 120 else v / 2) (if x.testBit n then z ^^^ v else z)

/-- GHASH under `h` of bytes, padded with zeros to whole blocks. -/
def ghash (h : Nat) (blocks : List (List Nat)) : Nat :=
  blocks.foldl (fun y b => ghashMul 128 (y ^^^ (numHigh b * 256 ^ (16 - b.length))) h 0) 0

/-- A list of bytes in blocks of 16, the last perhaps shorter. -/
def blocksOf (l : List Nat) : List (List Nat) := pieces 16 ((l.length + 15) / 16) l

/-- Authenticated decryption with a 96-bit IV and a 128-bit tag: the plaintext, or nothing. -/
def gcmOpen (key iv aad cipher tag : List Nat) : Option (List Nat) :=
  let ks := aesKeys key
  let h := numHigh (aesBlock ks (List.replicate 16 0))
  let lens := bytesHigh (8 * aad.length) 8 ++ bytesHigh (8 * cipher.length) 8
  let s := ghash h (blocksOf aad ++ blocksOf cipher ++ [lens])
  let mask := fun (i : Nat) => aesBlock ks (iv ++ bytesHigh i 4)
  if xorBytes (bytesHigh s 16) (mask 1) = tag then
    let bs := blocksOf cipher
    some (((List.range bs.length).map (fun i => xorBytes (bs.getD i []) (mask (i + 2)))).flatten)
  else none

end Sys2Proof.Machine
end

