-- ==== Sys2Proof/Machine/FabricCmd.lean ====
section
/-! DEFINITION. The meanings of the commands of the fabric, of the shared request path and of the handshakes at hard ports
and banks (chapters 3, 4, 5, 7, 9, 10 and 17). -/

namespace Sys2Proof.Machine

/-! ## The block request port (R157–R161) -/

/-- The state with the request port of a block changed. -/
def State.setRqPort (s : State) (r b : Nat) (x : ReqPort) : State :=
  let f := (s.rgn r).fab
  s.setFab r { f with ports := Tbl.put .reset f.ports b x }

/-- The request word of channel `k`: its controller's token, if it holds one (R157). -/
def State.rqWord (s : State) (r b k : Nat) : Option Nat :=
  let x := s.flow r b (bitsOf (s.rqCfg r b) (8 * k) 6)
  if x.full then some x.word else none

/-- What a block's request port does about acknowledges (R157, R158): the response word that the block has acknowledged
returns to NULL and then makes place for the next; a channel's acknowledge falls once its word has returned to NULL; the
payload of a refused request is taken and dropped. -/
def State.rqSettle (s : State) (r b : Nat) : State :=
  if !s.rqUsed r b then s
  else
    let p := s.rqPort r b
    let ack := (s.look (2 ^ 22 + b) (.src r (15 + b * 2 ^ 10 + 2 ^ 18))).rail
    let p := match p.resp with
      | [] => p
      | (_, c) :: t =>
        if !p.taken && ack == .one then { p with taken := true }
        else if p.taken && ack == .null then
          { p with taken := false, resp := t, busy := if c = 0 then p.busy else withoutBit p.busy (c - 1) }
        else p
    let p := (List.range 4).foldl (fun p k =>
      let there := s.rqOn r b k && (s.rqWord r b k).isSome
      if hasBit p.acks k then (if there then p else { p with acks := withoutBit p.acks k })
      else
        let d := Tbl.get 0 p.drain k
        if there && decide (0 < d) then { p with acks := withBit p.acks k, drain := Tbl.put 0 p.drain k (d - 1) } else p) p
    s.setRqPort r b p

/-- A response enters a block's request port: header (Table 4-10) and data words. -/
def State.rqRespond (s : State) (r : Nat) (q : ArbReq) (c : Code) (data : List Nat) : State :=
  let p := s.rqPort r q.blk
  let hdr := q.tag % 64 + c.num * 2 ^ 6 + data.length * 2 ^ 10 + q.chan * 2 ^ 14
  s.setRqPort r q.blk { p with resp := p.resp ++ [(hdr, q.chan + 1)] ++ data.map (fun w => (w, 0)) }

/-- The payload words still to come of a request that has been answered are taken and dropped. -/
def State.rqDrain (s : State) (r : Nat) (q : ArbReq) (n : Nat) : State :=
  let p := s.rqPort r q.blk
  s.setRqPort r q.blk { p with drain := Tbl.put 0 p.drain q.chan n }

/-- A request is answered without reaching its target (R164). -/
def State.rqRefuse (s : State) (r : Nat) (q : ArbReq) (c : Code) : State := (s.rqRespond r q c []).rqDrain r q q.words

/-- Target `t` is BLOCKED (R164). -/
def State.tgtBlocked (s : State) (r t : Nat) : Bool := hasBit (s.fld (Reg.ARB_STATUS_BLOCKED r)) t

/-- A header has been taken: the request reaches the arbiter, or is answered at once (R161, R164). -/
def State.arbSubmit (s : State) (r : Nat) (q : ArbReq) : State :=
  if !s.tgtOn r q.tgt || decide (destSlots (s.tgtPort r q.tgt).1 < 16 * q.words) then
    (s.regError r 8 q.tgt 0 true).rqRefuse r q .eArg
  else if s.tgtBlocked r q.tgt then s.rqRefuse r q .eIso
  else
    let f := (s.rgn r).fab
    s.setFab r { f with reqs := f.reqs ++ [q] }

/-- REQUEST_HEADER_TAKEN (R161): the next channel in round-robin order that holds a complete header. -/
def execRequestHeaderTaken (r b : Nat) (s : State) : Answer :=
  answer s (
    if !s.fabricOn r || 256 ≤ b then s
    else
      let s := s.rqSettle r b
      let p := s.rqPort r b
      let ready := fun k => s.rqOn r b k && !hasBit p.busy k && !hasBit p.acks k && Tbl.get 0 p.drain k == 0 &&
        (s.rqWord r b k).isSome
      match ((List.range 4).map (fun i => (p.last + 1 + i) % 4)).find? ready with
      | none => s
      | some k =>
        let w := (s.rqWord r b k).getD 0
        let s := s.setRqPort r b { p with last := k, busy := withBit p.busy k, acks := withBit p.acks k }
        s.arbSubmit r ⟨b, k, bitsOf w 11 5, bitsOf w 9 2, bitsOf w 6 3 + 1, bitsOf w 0 6, 0⟩)

/-! ## The region arbiter (R160–R164) -/

/-- The grant that holds target `t`. -/
def State.arbHold (s : State) (r t : Nat) : Option ArbHold := Tbl.get none (s.rgn r).fab.holds t

/-- The state with a target held or released. -/
def State.setHold (s : State) (r t : Nat) (h : Option ArbHold) : State :=
  let f := (s.rgn r).fab
  s.setFab r { f with holds := Tbl.put none f.holds t h }

/-- The payload words `mask` of the request that holds a port have been taken by the port: the arbiter returns them to NULL
(R163). -/
def State.arbTaken (s : State) (r cls unit mask : Nat) : State :=
  match s.targetOf r cls unit with
  | some t => match s.arbHold r t with
    | some h => s.setHold r t (some { h with taken := h.taken ||| mask })
    | none => s
  | none => s

/-- The request of target `t` that is granted next (R162). Of several whose claim has come, the one that arrived first goes. -/
def State.arbPick (s : State) (r t : Nat) : Option ArbReq :=
  let f := (s.rgn r).fab
  let qs := f.reqs.filter (fun q => q.tgt == t)
  match qs.find? (fun q => decide (s.fld (Reg.ARB_CTL_AGE_LIM r) ≤ q.passed)) with
  | some q => some q
  | none =>
    let pri := qs.foldl (fun m q => max m q.pri) 0
    let last := Tbl.get 0 f.lastBlk (4 * t + pri)
    let at_ := fun b => qs.find? (fun q => q.pri == pri && q.blk == b)
    (((List.range 256).map (fun i => (last + i) % 256)).find? (fun b => (at_ b).isSome)).bind at_

/-- The requests left after `g` has been granted: those passed over by a higher priority count it (R162). A grant at their own
priority, or at a lower one, takes nothing of a claim that has been earned (R16). -/
def arbPassed (g : ArbReq) (qs : List ArbReq) : List ArbReq :=
  (qs.filter (fun q => !(q.blk == g.blk && q.chan == g.chan))).map (fun q =>
    if q.tgt = g.tgt ∧ q.pri < g.pri then { q with passed := q.passed + 1 } else q)

/-- ARBITER_GRANT (R162–R164): the pending request of target `t` that is next is granted; while one holds the target, its
next payload word is driven. -/
def execArbiterGrant (r t : Nat) (s : State) : Answer :=
  answer s (
    if !s.fabricOn r || 32 ≤ t then s
    else match s.arbHold r t with
      | some h =>
        let s := s.rqSettle r h.req.blk
        let p := s.rqPort r h.req.blk
        match (if h.payload.length < h.req.words ∧ !hasBit p.acks h.req.chan then s.rqWord r h.req.blk h.req.chan
            else none) with
        | some w =>
          let s := s.setRqPort r h.req.blk { p with acks := withBit p.acks h.req.chan }
          s.setHold r t (some { h with payload := h.payload ++ [w] })
        | none => s
      | none =>
        let f := (s.rgn r).fab
        if s.tgtBlocked r t then
          let s' := s.setFab r { f with reqs := f.reqs.filter (fun q => q.tgt != t) }
          (f.reqs.filter (fun q => q.tgt == t)).foldl (fun s q => s.rqRefuse r q .eIso) s'
        else match s.arbPick r t with
          | some g =>
            s.setFab r { f with
              reqs := arbPassed g f.reqs
              lastBlk := Tbl.put 0 f.lastBlk (4 * t + g.pri) (g.blk + 1)
              holds := Tbl.put none f.holds t (some ⟨g, [], 0⟩) }
          | none => s)

/-- The response of target `t`, if it is complete (R163, R192, R351, R395): its status and data words. -/
def State.arbResponse (s : State) (r t : Nat) (h : ArbHold) : Option (Code × List Nat) :=
  let (cls, unit) := s.tgtPort r t
  let rlen := bitsOf (s.tgtWord r t) 12 4
  let word := fun (src : Nat → Sg) w =>
    ((List.range 16).map (fun i => bit ((src (16 * w + i)).rail == .one) * 2 ^ i)).sum
  if h.payload.length < h.req.words then none
  else match cls with
    | 3 =>
      let m := unit / 2
      let src := fun sig => if sig = 66 then Sg.of .null else s.bmSource r unit sig
      if s.bmMode r m (unit % 2) = 2 then (if h.taken ≠ 0 ∧ rlen = 0 then some (.ok, []) else none)
      else match ((s.bm r m).port (unit % 2)).resp with
        | some (_, err, _) =>
          if h.taken = 0 then none
          else some (if err then .eEcc else .ok, (List.range rlen).map (word src))
        | none => none
    | 4 =>
      let full := fun w => let x := s.eng (4 * r + unit)
        if w = 0 then x.so0.full && !x.so0.acked else x.so1.full && !x.so1.acked
      if (List.range (min h.req.words 2)).all (hasBit h.taken) && decide (rlen ≤ 2) && (List.range rlen).all full then
        some (.ok, (List.range rlen).map (word (s.engSource r unit)))
      else none
    | _ => if h.taken ≠ 0 then some (.ok, []) else none

/-- The arbiter ends its handshakes with a port whose response it has collected (R187, R192, R247). -/
def State.arbFinish (s : State) (r cls unit rlen : Nat) : State :=
  match cls with
  | 3 => let m := unit / 2
    let x := (s.bm r m).port (unit % 2)
    s.setBmPort r m (unit % 2) { x with reqack := false, resp := none, racked := false, seen := 0 }
  | 4 => let e := 4 * r + unit
    let x := s.eng e
    s.setEng e { x with
      so0 := if 1 ≤ rlen then ⟨x.so0.data, false, false⟩ else x.so0
      so1 := if 2 ≤ rlen then ⟨x.so1.data, false, false⟩ else x.so1 }
  | _ => s

/-- ARBITER_RESPONSE_COMPLETE (R163). -/
def execArbiterResponseComplete (r t : Nat) (s : State) : Answer :=
  answer s (
    if !s.fabricOn r || 32 ≤ t then s
    else match s.arbHold r t with
      | none => s
      | some h => match s.arbResponse r t h with
        | none => s
        | some (c, data) =>
          let (cls, unit) := s.tgtPort r t
          ((s.arbFinish r cls unit data.length).setHold r t none).rqRespond r h.req c data)

/-- ARBITER_TIMEOUT (R164). -/
def execArbiterTimeout (r t : Nat) (s : State) : Answer :=
  answer s (
    if !s.fabricOn r || 32 ≤ t then s
    else match s.arbHold r t with
      | none => s
      | some h =>
        if (s.arbResponse r t h).isSome then s
        else
          let s := ((s.setHold r t none).setBitOf (Reg.ARB_STATUS_BLOCKED r) t).regError r 7 t 0 true
          (s.rqRespond r h.req .eTmo []).rqDrain r h.req (h.req.words - h.payload.length))

/-! ## Flow words and ARB pairs -/

/-- A working controller of port kind `port` is at macrocell `n`, in an active fabric. -/
def State.ctlAt (s : State) (r b n port : Nat) : Bool :=
  s.fabricOn r && decide (b < 256) && decide (n < 64) && isCtl (s.mcCfg r b n) && mcPort (s.mcCfg r b n) == port

/-- FLOW_STAGE_LATCH (R114, R117). -/
def execFlowStageLatch (r b n : Nat) (s : State) : Answer :=
  answer s (if s.ctlAt r b n 0 then (s.plainStage r b n true).rqSettle r b else s)

/-- FLOW_STAGE_RELEASE (R114, R117). -/
def execFlowStageRelease (r b n : Nat) (s : State) : Answer :=
  answer s (if s.ctlAt r b n 0 then (s.plainStage r b n false).rqSettle r b else s)

/-- SAMPLE_PORT_HANDSHAKE (R117, R118). -/
def execSamplePortHandshake (r b n : Nat) (s : State) : Answer :=
  answer s (if s.ctlAt r b n 1 then s.sampleStage r b n else s)

/-- OFFER_TOKEN_ACKNOWLEDGED (R117, R120). -/
def execOfferTokenAcknowledged (r b n : Nat) (s : State) : Answer :=
  answer s (if s.ctlAt r b n 2 then s.offerStage r b n else s)

/-- A working ARB pair is at even macrocell `n`. -/
def State.arbAt (s : State) (r b n : Nat) : Bool :=
  s.fabricOn r && decide (b < 256) && decide (n < 64) && n % 2 == 0 && mcMode (s.mcCfg r b n) == 7 &&
    mcMode (s.mcCfg r b (n + 1)) == 7

/-- ARB_REQUEST (R124, R126, R127). -/
def execArbRequest (r b n : Nat) (sideB : Bool) (s : State) : Answer :=
  answer s (if s.arbAt r b n then s.arbRaise r b n sideB else s)

/-- ARB_RELEASE (R124, R125, R127). -/
def execArbRelease (r b n : Nat) (s : State) : Answer := answer s (if s.arbAt r b n then s.arbDrop r b n else s)

/-- ILLEGAL_DETECTED (R94, R95): at an element of an active fabric. A pulse that is not detected records nothing. -/
def execIllegalDetected (r kind unit sig : Nat) (detected : Bool) (s : State) : Answer :=
  answer s (
    match element kind unit sig with
    | none => s
    | some id =>
      -- a clamped or unconnected spine input never shows ILLEGAL (R155)
      if !s.fabricOn r || (kind == 2 && !s.rvf r unit) then s
      else if detected then (s.illegalAt r id true).illegalError r kind unit sig
      else s.illegalAt r id false)

/-! ## Block-memory ports (R187–R191) -/

/-- The request slots that a port uses (Table 5-3), RACK left out. -/
def State.bmSlots (s : State) (r m p : Nat) : List Nat :=
  let mode := s.bmMode r m p
  let wc := s.bmWidth r m p
  let w := widthOf wc
  (if mode = 3 then [] else List.range w) ++ (List.range (15 - wc)).map (64 + ·) ++ (if mode = 1 then [79] else []) ++
    (if s.bmBe r m p && mode != 3 then (List.range (w / 8)).map (81 + ·) else [])

/-- A port of an active fabric, in some mode. -/
def State.bmLive (s : State) (r m p : Nat) : Bool :=
  s.fabricOn r && decide (m < 96) && decide (p < 2) && s.bmMode r m p != 0

/-- A port looks at its slots: it notes them, and reports a protocol error (R191). Answers the signals and whether it may
act. -/
def State.bmWatch (s : State) (r m p : Nat) : State × List Sg × Bool :=
  let unit := 2 * m + p
  let xs := (s.bmSlots r m p).map (fun i => s.dest r 3 unit i)
  let x := (s.bm r m).port p
  let (seen, word, broken) := watch x.seen x.seenWord (!x.reqack) xs
  let rack := s.dest r 3 unit 80
  let usesRack := s.bmMode r m p != 2
  let bad := broken || (usesRack && rack.rail == .zero && !rack.dead)
  let s := s.setBmPort r m p { x with seen, seenWord := word }
  if bad then (s.bmError r m 7, xs, false) else (s, xs, true)

/-- The request that the slots of a port show. -/
def State.bmRequest (s : State) (r m p : Nat) : BmRequest :=
  let unit := 2 * m + p
  let mode := s.bmMode r m p
  let wc := s.bmWidth r m p
  { write := mode == 2 || (mode == 1 && (s.dest r 3 unit 79).rail == .one)
    addr := s.destWord r 3 unit 64 (15 - wc)
    wdata := if mode = 3 then 0 else s.destWord r 3 unit 0 (widthOf wc)
    be := if s.bmBe r m p then s.destWord r 3 unit 81 (widthOf wc / 8) else 0 }

/-- BM_PORT_REQUEST (R187–R191, R194, R542). -/
def execBmPortRequest (r m p : Nat) (near : Bool) (upsets : List (Nat × Nat)) (s : State) : Answer :=
  answer s (
    let s := s.upset upsets
    if !s.bmLive r m p then s
    else
      let q := s.bmRequest r m p
      let (s, xs, ok) := s.bmWatch r m p
      let x := (s.bm r m).port p
      if !ok || !x.idle || !xs.all (·.rail.valid) then s
      else if q.write && s.fld (Reg.REG_STATUS_PAVANE r) < 2 then s
      else (s.bmTake r m p q near).arbTaken r 3 (2 * m + p) 0xFF)

/-- BM_PORT_REQUEST_NULL (R187, R191). -/
def execBmPortRequestNull (r m p : Nat) (s : State) : Answer :=
  answer s (
    if !s.bmLive r m p then s
    else
      let (s, xs, ok) := s.bmWatch r m p
      let x := (s.bm r m).port p
      if ok && x.reqack && xs.all (fun v => v.rail == .null) then s.setBmPort r m p { x with reqack := false } else s)

/-- BM_PORT_RESPONSE_ACK (R187, R191). -/
def execBmPortResponseAck (r m p : Nat) (s : State) : Answer :=
  answer s (
    if !s.bmLive r m p then s
    else
      let rack := (s.dest r 3 (2 * m + p) 80).rail
      let (s, _, ok) := s.bmWatch r m p
      let x := (s.bm r m).port p
      if !ok then s
      else if x.resp.isSome && rack == .one then s.setBmPort r m p { x with resp := none, racked := true }
      else if x.racked && rack == .null then s.setBmPort r m p { x with racked := false }
      else s)

/-! ## Engine streams (R246, R247, R249) -/

/-- Stream input `which` (0 SI0, 1 SI1) of an engine, and the engine with it changed. -/
def EngSt.sin (x : EngSt) (which : Nat) : EngIn := if which = 0 then x.si0 else x.si1
def EngSt.setSin (x : EngSt) (which : Nat) (v : EngIn) : EngSt := if which = 0 then { x with si0 := v } else { x with si1 := v }

/-- Stream output `which` of an engine, and the engine with it changed. -/
def EngSt.sout (x : EngSt) (which : Nat) : EngOut := if which = 0 then x.so0 else x.so1
def EngSt.setSout (x : EngSt) (which : Nat) (v : EngOut) : EngSt :=
  if which = 0 then { x with so0 := v } else { x with so1 := v }

/-- The engine exists, its fabric is active, and the stream number is 0 or 1. -/
def State.streamLive (s : State) (e which : Nat) : Bool := decide (e < 96) && decide (which < 2) && s.fabricOn (e / 4)

/-- A stream input looks at its slots: a protocol error sets SI_PROT (R249). -/
def State.sinWatch (s : State) (e which : Nat) : State × List Sg × Bool :=
  let xs := (List.range 16).map (fun i => s.dest (e / 4) 4 (e % 4) (16 * which + i))
  let x := s.eng e
  let i := x.sin which
  let (seen, word, broken) := watch i.seen i.seenWord (!i.acko) xs
  let s := s.setEng e (x.setSin which { i with seen, seenWord := word })
  if broken then (s.engErr e 1, xs, false) else (s, xs, true)

/-- ENG_STREAM_INPUT_LATCH (R246). -/
def execEngStreamInputLatch (e which : Nat) (s : State) : Answer :=
  answer s (
    if !s.streamLive e which then s
    else
      let (s, xs, ok) := s.sinWatch e which
      let x := s.eng e
      let i := x.sin which
      if ok && !i.full && !i.acko && xs.all (·.rail.valid) then
        (s.setEng e (x.setSin which { i with data := wordOf xs, full := true, acko := true })).arbTaken (e / 4) 4 (e % 4)
          (2 ^ which)
      else s)

/-- ENG_STREAM_INPUT_NULL (R246). -/
def execEngStreamInputNull (e which : Nat) (s : State) : Answer :=
  answer s (
    if !s.streamLive e which then s
    else
      let (s, xs, ok) := s.sinWatch e which
      let x := s.eng e
      let i := x.sin which
      if ok && i.acko && xs.all (fun v => v.rail == .null) then s.setEng e (x.setSin which { i with acko := false })
      else s)

/-- ENG_STREAM_OUTPUT_ACK (R247): the consumer's acknowledge rises, and falls. One at logic 0, or that rises while no token is
presented, is a protocol error (R249), but not behind a dead spine (R153). -/
def execEngStreamOutputAck (e which : Nat) (s : State) : Answer :=
  answer s (
    if !s.streamLive e which then s
    else
      let a := s.dest (e / 4) 4 (e % 4) (32 + which)
      let ack := a.rail
      let x := s.eng e
      let o := x.sout which
      if !a.dead && (ack == .zero || (ack == .one && !o.full)) then s.engErr e 2
      else if o.full && !o.acked && ack == .one then s.setEng e (x.setSout which { o with acked := true })
      else if o.full && o.acked && ack == .null then s.setEng e (x.setSout which ⟨o.data, false, false⟩)
      else s)

/-! ## Fabric ports and capture ports in FLOW mode -/

/-- NIP_FLOW_TX_LATCH (R349, R351): a token is latched; its acknowledge falls once the data has returned to NULL. -/
def execNipFlowTxLatch (r i : Nat) (s : State) : Answer :=
  answer s (
    if !s.fabricOn r || 8 ≤ i || s.nipTxMode r i != 2 then s
    else
      let n := 16 * (s.fld (Reg.NIP_CFG_TXW r i) + 1)
      let x := s.nip r i
      if x.txack then (if s.destNull r 5 i 0 n then s.setNip r i { x with txack := false } else s)
      else if s.destValid r 5 i 0 n && decide (x.tx.length < 4) then
        let d := s.destWord r 5 i 0 n
        let s := s.setNip r i { x with txack := true }
        (s.nipSend r i d s.now false).arbTaken r 5 i 0xFF
      else s)

/-- NIP_FLOW_RX_ACK (R350). -/
def execNipFlowRxAck (r i : Nat) (s : State) : Answer :=
  answer s (
    if !s.fabricOn r || 8 ≤ i || s.nipRxMode r i != 2 then s
    else
      let ack := (s.dest r 5 i 513).rail
      let x := s.nip r i
      if x.token && ack == .one then s.setNip r i { x with token := false, rxacked := true }
      else if x.rxacked && ack == .null then (s.setNip r i { x with rxacked := false, rx := x.rx.tail }).nipPresent r i
      else s)

/-- A narrow word enters the buffer of a write half (R388, R389). -/
def State.cqpPut (s : State) (r i : Nat) (v bytes : Nat) (eop stale : Bool) : State :=
  let x := s.cqp r i
  s.setCqp r i { x with
    wbuf := x.wbuf ++ [.word x.wstart eop stale s.now bytes v], wstart := eop, wrote := true }

/-- The narrow word that the slots of a write half show (Table 10-16): data, valid bytes, end of packet. -/
def State.cqpSlots (s : State) (r i : Nat) : Nat × Nat × Bool :=
  let eop := (s.dest r 6 i 64).rail == .one
  (s.destWord r 6 i 0 64, if eop then s.destWord r 6 i 65 3 + 1 else 8, eop)

/-- The words that a write half holds. -/
def CqpSt.words (x : CqpSt) : Nat :=
  (x.wbuf.filter (fun w => match w with
    | .word _ _ _ _ _ _ => true
    | .marker _ _ => false)).length

/-- CQP_FLOW_WRITE_LATCH (R389, R395, R542). -/
def execCqpFlowWriteLatch (r i : Nat) (s : State) : Answer :=
  answer s (
    if !s.fabricOn r || 8 ≤ i || s.cqpWMode r i != 2 || decide (s.fld (Reg.REG_STATUS_PAVANE r) < 2) then s
    else
      let x := s.cqp r i
      if x.wack then (if s.destNull r 6 i 0 68 then s.setCqp r i { x with wack := false } else s)
      else if s.destValid r 6 i 0 68 && decide (x.words < 32) then
        let (v, bytes, eop) := s.cqpSlots r i
        let s := s.cqpPut r i v bytes eop false
        (s.setCqp r i { s.cqp r i with wack := true }).arbTaken r 6 i 0xFF
      else s)

/-- CQP_FLOW_READ_ACK (R392). -/
def execCqpFlowReadAck (r i : Nat) (s : State) : Answer :=
  answer s (
    if !s.fabricOn r || 8 ≤ i || s.cqpReads r i != 2 then s
    else
      let ack := (s.dest r 6 i 69).rail
      let x := s.cqp r i
      if x.token && ack == .one then s.setCqp r i { x with token := false, racked := true }
      else if x.racked && ack == .null then
        let s := s.setCqp r i { x with racked := false, rbuf := x.rbuf.tail }
        (s.cqpTaken r i).cqpPresent r i
      else s)

/-! ## Bank pins in FLOW and GEARED mode (R623–R625) -/

/-- Pin `p` of bank `b` leads a function of mode `mode`, and is not held. -/
def State.pinLive (s : State) (b p mode : Nat) : Bool :=
  let x := s.bank b
  validBank b && decide (p < 48) && x.lead p == p && ioMode (x.word p) == mode && (x.pin p).hold.isNone &&
    ioDir (x.word p) != 0

/-- A spine signal that the attached region sends to bank `b`. -/
def State.toBank (s : State) (b sig : Nat) : Sg := s.dest (bankRegion b) 2 (bankEdge b) sig

/-- BANK_FLOW_OUTPUT_TOKEN (R623). -/
def execBankFlowOutputToken (b p : Nat) (s : State) : Answer :=
  answer s (
    let x := s.bank b
    let dir := ioDir (x.word p)
    if !s.pinLive b p 1 || dir < 2 then s
    else
      let xs := if dir = 3 then [s.toBank b (5 * p), s.toBank b (5 * p + 1)] else [s.toBank b (5 * p)]
      let y := x.pin p
      if y.oack then
        if xs.all (fun v => v.rail == .null) then s.setBank b (x.setPin p { y with oack := false }) else s
      else if xs.all (·.rail.valid) then
        s.setBank b (x.setPin p { y with
          lvl := (s.toBank b (5 * p)).rail == .one, oe := (s.toBank b (5 * p + 1)).rail == .one, oack := true })
      else s)

/-- BANK_FLOW_INPUT_ACK (R624, R625): of a FLOW input, or of the input of a GEARED pair. -/
def execBankFlowInputAck (b p : Nat) (level : Option Bool) (s : State) : Answer :=
  answer s (
    if s.pinLive b p 1 && hasBit (ioDir ((s.bank b).word p)) 0 then
      let s := s.setBalls [(48 * b + p, level)]
      let ack := (s.toBank b (5 * p + 2)).rail
      let y := (s.bank b).pin p
      if y.tok.isSome && ack == .one then s.setBank b ((s.bank b).setPin p { y with tok := none, iack := true })
      else if y.tok.isNone && ack == .null then
        let (s, v) := s.ballLevel b p
        s.setBank b ((s.bank b).setPin p { y with tok := some v, iack := false })
      else s
    else if s.pinLive b p 2 && ioDir ((s.bank b).word p) == 1 then
      let x := s.bank b
      let g := x.gear (p / 2)
      let ack := (s.toBank b (5 * p + 8)).rail
      if g.tok && ack == .one then s.setBank b (x.setGear (p / 2) { g with tok := false, iack := true, inq := g.inq.tail })
      else if g.iack && ack == .null then
        s.setBank b (x.setGear (p / 2) { g with iack := false, tok := !g.inq.isEmpty })
      else s
    else s)

/-- GEARED_OUTPUT_WORD (R625): a word boundary of the serialiser, or a step of the handshake with the region. -/
def execGearedOutputWord (b q : Nat) (boundary : Bool) (s : State) : Answer :=
  answer s (
    let x := s.bank b
    if !s.pinLive b (2 * q) 2 || ioDir (x.word (2 * q)) != 2 then s
    else
      let g := x.gear q
      if boundary then
        match g.outq with
        | w :: t => s.setBank b (x.setGear q { g with outq := t, last := w })
        | [] => s.bankEvent b 9
      else
        let xs := (List.range 8).map (fun i => s.toBank b (10 * q + i))
        if g.oack then
          if xs.all (fun v => v.rail == .null) then s.setBank b (x.setGear q { g with oack := false }) else s
        else if xs.all (·.rail.valid) && decide (g.outq.length < 4) then
          s.setBank b (x.setGear q { g with outq := g.outq ++ [wordOf xs], oack := true })
        else s)

end Sys2Proof.Machine
end

