-- ==== Sys2Proof/Machine/RegionOps.lean ====
section
/-! DEFINITION. The states of a region and its commands (chapter 4): state changes, region reset, what each command does and
when it is refused, START and STOP. -/

namespace Sys2Proof.Machine

/-! ## Classes of states -/

/-- The neighbouring router ports stand in ABSORB (R166). -/
def RegionState.absorbs : RegionState → Bool
  | .off | .isolated | .failed => true
  | _ => false

/-- The fabric is active in these states (Table 4-13). -/
def RegionState.active : RegionState → Bool
  | .running | .frozen => true
  | _ => false

/-- The scrubber runs in these states (R221). -/
def RegionState.scrubs : RegionState → Bool
  | .held | .running | .frozen => true
  | _ => false

/-- The severity of the incident that a change into a state raises; entry into FROZEN is logged by its cause (R174). -/
def RegionState.changeSev : RegionState → Option Sev
  | .frozen => none
  | .failed => some .degraded
  | _ => some .info

/-! ## Spine inputs -/

/-- What region `r` takes from its neighbour at edge `e` on spine signal `sig` at its region tick (R149, R152, R620), with RVT
at 256. -/
def State.spineTaken (s : State) (r e sig : Nat) : State × Bool :=
  match bankAt r e with
  | some b =>
    if sig = 256 then (s, s.bankValid b)
    else if s.bankTicks b sig then s.bankTickLevel b sig
    else (s, false)
  | none => match neighbour r e with
    | none => (s, false)
    | some q =>
      if !s.fabricOn q then (s, false)
      else if sig = 256 then (s, !s.on (Reg.TR_STATUS_STALE q))
      else (s, Tbl.get false (s.rgn q).fab.spineOut (256 * opposite e + sig))

/-- The spine inputs of region `r` at edge `e` as its new wave will show them (R149). Only TICK-mode signals are taken here. -/
def State.spineSnapEdge (s : State) (r e : Nat) : State :=
  let step := fun (p : State × Tbl Bool) (sig : Nat) =>
    let (s, v) := p.1.spineTaken r e sig
    (s, if v then p.2 ++ [(258 * e + sig, true)] else p.2)
  let (s, t) := (List.range 257).foldl step (s, [])
  let f := (s.rgn r).fab
  s.setFab r { f with
    spineIn := f.spineIn.filter (fun x => decide (x.1 < 258 * e)) ++ t ++
      f.spineIn.filter (fun x => decide (258 * (e + 1) ≤ x.1)) }

/-- The spine inputs of region `r` as its new wave will show them (R149). -/
def State.spineSnap (s : State) (r : Nat) : State := (List.range 4).foldl (fun s e => s.spineSnapEdge r e) s

/-- A wave of region `r` began at the present tick. -/
def State.waveFresh (s : State) (r : Nat) : Bool :=
  s.ticking && (s.rgn r).phase != .idle && (s.rgn r).waveTick == some s.now

/-- What region `r` presents on its spines has changed at the present tick boundary: a neighbour whose wave begins at it takes the
edge again (R149, R152). -/
def State.spineSnapAround (s : State) (r : Nat) : State :=
  (List.range 4).foldl (fun s e =>
    match neighbour r e with
    | some q => if s.waveFresh q then s.spineSnapEdge q (opposite e) else s
    | none => s) s

/-! ## State changes -/

/-- The router ports of region `r` that face a region in OFF, ISOLATED or FAILED take ABSORB, as the region is powered (R166). -/
def State.takeAbsorb (s : State) (r : Nat) : State :=
  let n := regionNode r
  [0, 1, 2, 3].foldl (fun s p =>
    let m := facing n p
    if isRegionNode m && (s.rstate (nodeRegion m)).absorbs then
      (s.setBit (Reg.RTR_PSTAT_ABS_STATE n p) true).absorbEnter n p
    else s) s

/-- Region `r` changes its state: the incident of R174, ABSORB (R166), Tarantella (R74), the scrubber (R221), FROZEN_POL
(Table 2-10), and what its neighbours take of its spines (R152). -/
def State.enterState (s : State) (r : Nat) (new : RegionState) : State :=
  let old := s.rstate r
  if old = new then s
  else
    let s := s.setFld (Reg.REG_STATUS_STATE r) new.num
    let s := match new.changeSev with
      | some v => s.raise (srcRegion r) v 0x61 (old.num + new.num * 16)
      | none => s
    let s := if new.absorbs == old.absorbs then s else s.setAbsorb r new.absorbs
    let s := if old = .off then s.takeAbsorb r else s
    let s := if old = .running then s.tarOff r else s
    let s := if new.scrubs == old.scrubs then s else s.setScr r .reset
    let s := if old = .frozen then s.setBit (Reg.TR_STATUS_FROZEN_POL r) false else s
    if old.active == new.active then s else s.spineSnapAround r

/-- The waves of region `r` end: its fabric takes its reset values (R135), Pavane ends (R543). A wave that overran has no DONE any
more (R53). -/
def State.fabricReset (s : State) (r : Nat) : State :=
  let s := s.overrunLost r
  let s := s.setRgn r { s.rgn r with
    phase := .idle, doneAt := 0, elapsed := 0, ovrOpen := none, late := [], discard := false, waveTick := none, pavane := 0
    fab := .reset }
  s.setFld (Reg.REG_STATUS_PAVANE r) 0

/-- A region reset (Table 1-6): tick registers, flow state, ports, the engines' execution state (R281), the router and the
interface (R339), the capture ports (R394). Memories keep their contents. -/
def State.regionReset (s : State) (r : Nat) : State :=
  let s := ((s.fabricReset r).netRegionReset r).cqpReset r
  let s := (List.range 4).foldl (fun s k => s.engReset (4 * r + k)) s
  (List.range 96).foldl (fun s m => s.resetBmPorts r m) s

/-- The pins of the attached bank take their hold states (R544). -/
def State.holdPins (s : State) (r : Nat) : State :=
  match regionBank r with
  | some b => s.bankHold b
  | none => s

/-- Region `r` leaves RUNNING or FROZEN, or is reset where it stands: hold states first (R544), then the region reset. -/
def State.stopRegion (s : State) (r : Nat) : State :=
  let s := if s.rstate r = .running ∨ s.rstate r = .frozen then s.holdPins r else s
  s.regionReset r

/-- The registers whose address satisfies `p` return to their reset values. -/
def State.dropRegs (s : State) (p : Nat → Bool) : State := { s with regs := s.regs.filter (fun e => !p e.1) }

/-- Address `a` lies in the window of region `r` (R26). -/
def inRegion (r a : Nat) : Bool := decide (Reg.REG_CMD r ≤ a) && decide (a < Reg.REG_CMD (r + 1))

/-- Address `a` is a register of region `r` that holds configuration of its frames: BM_CFG, ENG_CFG, NIP_CFG,
CQP_CFG, the task descriptors. -/
def configReg (r a : Nat) : Bool :=
  (instOffset (Reg.BM_CFG r 0) [(96, 0x10)] 4 a).isSome || (instOffset (Reg.ENG_CFG r 0) [(4, 0x40000)] 4 a).isSome ||
    (instOffset (Reg.NIP_CFG r 0) [(8, 8)] 4 a).isSome || (instOffset (Reg.CQP_CFG r 0) [(8, 8)] 4 a).isSome ||
    (instOffset (Reg.ENG_TASK r 0 0) [(4, 0x40000), (64, 8)] 8 a).isSome

/-- Every frame of region `r` at its BLANK value, 0 (R524). -/
def State.clearFrames (s : State) (r : Nat) : State :=
  let out := fun (k : Nat) => !(decide (frameKey r 0 0 0 ≤ k) && decide (k < frameKey (r + 1) 0 0 0))
  { s with frames := s.frames.filter (fun e => out e.1), frameMarks := s.frameMarks.filter (fun e => out e.1) }

/-- Region `r` enters BLANK: all configuration at BLANK values, every valid bit clear (R200, Table 4-13). -/
def State.enterBlank (s : State) (r : Nat) : State :=
  let s := (s.clearFrames r).dropRegs (configReg r)
  let s := (List.range 96).foldl (fun s m => s.clearValid r m) s
  let s := (s.setBit (Reg.REG_STATUS_CFG_OK r) false).setFld (Reg.REG_STATUS_EDGE_USED r) 0
  s.enterState r .blank

/-- The power switch opens: the region keeps no state (R20). REG_STATUS, REG_LMAP and REG_CMDSTAT are served from outside it. -/
def State.powerOff (s : State) (r : Nat) : State :=
  let s := (s.regionReset r).clearFrames r
  let keep := [Reg.REG_STATUS r, Reg.REG_LMAP r, Reg.REG_CMDSTAT r]
  let s := s.dropRegs (fun a => inRegion r a && !keep.contains a)
  let s := { s with
    mem := s.mem.filter (fun c => !inRegion r c.1)
    marks := s.marks.filter (fun e => !inRegion r e.1)
    raised := s.raised.filter (fun e => !inRegion r (e.1 / 64))
    bms := s.bms.filter (fun e => e.1 / 96 != r)
    engs := s.engs.filter (fun e => e.1 / 4 != r)
    scrub := s.scrub.filter (fun e => e.1 != r) }
  let s := (s.setBit (Reg.REG_STATUS_CFG_OK r) false).setFld (Reg.REG_STATUS_EDGE_USED r) 0
  (s.nodeRegsReset (regionNode r)).enterState r .off

/-- Region `r` enters CONFIGURING (R520, R537). -/
def State.enterConfiguring (s : State) (r : Nat) : State :=
  let s := (s.sliceEnd r outEnded).testEnded r
  let s := (s.stopRegion r).clearFloor r
  let s := s.clrBitOf Reg.CFG_FERR_FERR r
  (s.setBit (Reg.REG_STATUS_CFG_OK r) false).enterState r .configuring

/-! ## Commands -/

/-- The region commands (Table 4-14). -/
def cmdPowerOn : Nat := 1
def cmdPowerOff : Nat := 2
def cmdStart : Nat := 3
def cmdStop : Nat := 4
def cmdReset : Nat := 5
def cmdIsolate : Nat := 6
def cmdUnisolate : Nat := 7
def cmdClear : Nat := 8

/-- Command `cmd` has an effect in state `st` (Table 4-14). -/
def regionAllows (st : RegionState) (cmd : Nat) : Bool :=
  match cmd with
  | 1 => st == .off
  | 2 => st == .blank || st == .held || st == .isolated || st == .failed
  | 3 => st == .held || st == .frozen
  | 4 => st == .running || st == .frozen
  | 5 => st == .held || st == .running || st == .frozen
  | 6 => st == .blank || st == .configuring || st == .held || st == .running || st == .frozen || st == .isolated
  | 7 => st == .isolated
  | 8 => st == .held || st == .isolated
  | _ => false

/-- A command that takes effect at a tick boundary takes effect (Table 4-14, R171). -/
def State.regionApply (s : State) (r cmd : Nat) : State :=
  match cmd with
  | 2 => (((s.sliceEnd r outEnded).testEnded r).dropSpares r).powerOff r
  | 5 => (s.stopRegion r).enterState r .held
  | 6 => if s.rstate r = .isolated then s
    else (((s.sliceEnd r outEnded).testEnded r).stopRegion r).enterState r .isolated
  | 7 => if s.on (Reg.REG_STATUS_CFG_OK r) then s.enterState r .held else s.enterBlank r
  | 8 => s.enterBlank r
  | _ => s

/-- The outcome of a command enters REG_CMDSTAT (Table 4-16). -/
def State.regionCode (s : State) (r cmd : Nat) (c : Code) : State :=
  if cmd = cmdStart ∨ cmd = cmdStop then
    (s.setFld (Reg.REG_CMDSTAT_CODE_TICK r) c.num).setFld (Reg.REG_CMDSTAT_CMD_TICK r) cmd
  else (s.setFld (Reg.REG_CMDSTAT_CODE_IMM r) c.num).setFld (Reg.REG_CMDSTAT_CMD_IMM r) cmd

/-- A command of region `r` is refused after it was accepted: recorded and logged, its write answered long since (R168,
R687). -/
def State.regionRefuse (s : State) (r cmd req : Nat) (c : Code) : State :=
  (s.regionCode r cmd c).noteRefusal (srcRegion r) 0 req c

/-- A command that waited is judged again and applied (R168); one of the rescue window, whose requester is marked by 256, ends
there (R173, R493). -/
def State.boundaryOne (s : State) (r cmd req : Nat) : State :=
  let ok := regionAllows (s.rstate r) cmd
  let s := if ok then s.regionApply r cmd else s.regionRefuse r cmd req .eState
  if 256 ≤ req then s.rescueOver (if ok then .ok else .eState) else s

/-- The commands that waited for the tick boundary act, in order of arrival (R168). -/
def State.applyBoundary (s : State) (r : Nat) : State :=
  let q := (s.rgn r).boundary
  let s := s.setRgn r { s.rgn r with boundary := [], held := false }
  q.foldl (fun s c => s.boundaryOne r c.1 c.2) s

/-- The outcome at arrival of a write of `cmd` to REG_CMD (R167–R170): a ramp in progress, the command, a region test (R598),
a pending tick-aligned command, the state, the life cycle (Table 16-10). -/
def State.regionCmdCode (s : State) (r cmd : Nat) : Code :=
  if s.on (Reg.REG_STATUS_PEND r) then .eBusy
  else if cmd = 0 ∨ 8 < cmd then .eArg
  else if s.testing r ∧ cmd ≠ cmdIsolate ∧ cmd ≠ cmdPowerOff then .eBusy
  else if (cmd = cmdStart ∨ cmd = cmdStop) ∧ (s.rgn r).pend.isSome then .eBusy
  else if !regionAllows (s.rstate r) cmd then .eState
  else if cmd = cmdPowerOn ∧ s.lcState = 4 then .eLock
  else if cmd = cmdStart ∧ !s.ticking then .eState
  else .ok

/-- A write of `value` to REG_CMD by requester `req` (R167–R170). -/
def State.regionCmdWrite (s : State) (req r value : Nat) : State :=
  let cmd := value % 16
  let c := s.regionCmdCode r cmd
  let s := (s.regionCode r cmd c).setFld (Reg.REG_CMDSTAT_REQ r) req
  let s := (s.noteRefusal (srcRegion r) 0 req c).respond req (Reg.REG_CMD r) c
  if c ≠ .ok then s
  else if cmd = cmdPowerOn then s.setBit (Reg.REG_STATUS_PEND r) true
  else if cmd = cmdStart then s.setPend r .start req
  else if cmd = cmdStop then
    if s.ticking then s.setPend r .stop req else (s.stopRegion r).enterState r .held
  else if s.ticking then s.setRgn r { s.rgn r with boundary := (s.rgn r).boundary ++ [(cmd, req)] }
  else s.regionApply r cmd

/-! ## START and STOP -/

/-- The edge of physical region `p` that fails the map check, if one does (R180). -/
def State.mapCheck (s : State) (p : Nat) : Option Nat :=
  let l := s.fld (Reg.REG_LMAP_LOGICAL p)
  (List.range 4).find? (fun e =>
    hasBit (s.fld (Reg.REG_STATUS_EDGE_USED p)) e &&
      !(match neighbour l e with
        | some m => match neighbour p e with
          | some q => s.on (Reg.REG_LMAP_MAPPED q) && s.fld (Reg.REG_LMAP_LOGICAL q) == m
          | none => false
        | none => if (bankAt l e).isSome then p == l else (neighbour p e).isNone && (bankAt p e).isNone))

/-- Pavane stage 1 at region tick P1: the region is RUNNING, its pins take the new function (R540, R545), and a first wave
begins from the reset values. -/
def State.pavaneStart (s : State) (r : Nat) : State :=
  let s := (s.fabricReset r).enterState r .running
  let s := (s.setFld (Reg.REG_STATUS_PAVANE r) 1).setBit (Reg.TR_STATUS_STALE r) false
  let s := s.setRgn r { s.rgn r with phase := .nullWave, waveTick := some s.now }
  match regionBank r with
  | some b => s.bankStart b
  | none => s

/-- START of a HELD region at its region tick: the map check (R180), then Pavane. Its first wave takes its spine inputs, and its
neighbours take what it presents now (R149, R152). -/
def State.startHeld (s : State) (r : Nat) : State × Code :=
  match s.mapCheck r with
  | some e => (s.regError r 9 e 0 true, .eArg)
  | none => (((s.pavaneStart r).spineSnap r).spineSnapAround r, .ok)

/-- STOP at a region tick, or while the tick is stopped (R168). -/
def State.stopEffect (s : State) (r : Nat) : State × Code :=
  if regionAllows (s.rstate r) cmdStop then ((s.stopRegion r).enterState r .held, .ok) else (s, .eState)

/-- A tick-aligned command that arrived at `arrival` acts from the fourth tick on (R168). -/
def State.alignedDue (s : State) (arrival : Nat) : Bool := decide (4 ≤ (s.now + 2 ^ 64 - arrival) % 2 ^ 64)

/-- The pending command of region `r` is of this kind and acts at the present region tick. -/
def State.pendDue (s : State) (r : Nat) (k : TickCmd) : Bool :=
  validRegion r && s.ticking && s.regionTickAt r s.now &&
    (match (s.rgn r).pend with
      | some p => p.kind == k && s.alignedDue p.arrival
      | none => false)

/-- What the tick's stop does to a region: a pending STOP takes effect, a pending START or RESUME is refused (R168). -/
def State.pendAtStop (s : State) (r : Nat) : State :=
  match (s.rgn r).pend with
  | none => s
  | some p =>
    let s := s.clearPend r
    match p.kind with
    | .stop =>
      let (s, c) := s.stopEffect r
      s.regionRefuse r cmdStop p.req c
    | .start => s.regionRefuse r cmdStart p.req .eState
    | .resume => s.noteRefusal srcTick (Reg.TR_CTL r - Reg.TICK_CTL) p.req .eState

end Sys2Proof.Machine
end

