-- ==== Sys2Proof/Machine/FrameOps.lean ====
section
/-! DEFINITION. Writing a configuration frame: where it goes, the images, the checks as it is accepted (chapter 14). -/

namespace Sys2Proof.Machine

/-- The frames of a column (Table 14-4); 0 for a column that does not exist. -/
def colFrames (col : Nat) : Nat :=
  if col ≤ 32 then 320 else if col ≤ 34 then 594 else if col = 35 then 576 else if col ≤ 40 then 384 else if col = 41 then 156
  else 0

/-- Fields of CFG_FAR (Table 14-2). -/
def farMinor (far : Nat) : Nat := bitsOf far 0 11
def farCol (far : Nat) : Nat := bitsOf far 11 6
def farRegion (far : Nat) : Nat := bitsOf far 17 5

/-- The address names a frame (R518). -/
def farOk (far : Nat) : Bool := decide (farMinor far < colFrames (farCol far)) && decide (farRegion far < 24)

/-- The address after it (R518). -/
def farNext (far : Nat) : Nat :=
  let minor := farMinor far + 1
  if minor < colFrames (farCol far) then farOf (farRegion far) (farCol far) minor
  else if farCol far < 41 then farOf (farRegion far) (farCol far + 1) 0
  else farOf ((farRegion far + 1) % 32) 0 0

/-- The spare that a frame's position belongs to, if it is a spare's (Table 14-4, R521). -/
def spareAt (col minor : Nat) : Option Nat :=
  if col = 32 then some (minor / 40)
  else if col = 35 ∧ 30 ≤ minor / 18 then some (minor / 18 - 22)
  else if col = 40 then some 10
  else none

/-- The CRC of a frame of zeros (R517). Frame memory holds a stored CRC as its difference from this one. -/
def zeroCrc : Nat := crc32c 0 256

/-- The 64 data words of a frame and its stored CRC enter configuration memory (R224, R516). -/
def State.putFrame (s : State) (r col minor : Nat) (frame : List Word) : State :=
  let lo := frameKey r col minor 0
  let words := frame.take 64 ++ [frame.getD 64 0 ^^^ BitVec.ofNat 32 zeroCrc]
  let (t, _) := words.foldl (fun (p : Tbl Word × Nat) w => (Tbl.put 0 p.1 p.2 w, p.2 + 1)) (s.frames, lo)
  { s with frames := t, frameMarks := s.frameMarks.filter (fun e => !(decide (lo ≤ e.1) && decide (e.1 ≤ lo + 64))) }

/-- The words as one number, the first lowest. -/
def wordsNum : List Word → Nat
  | [] => 0
  | w :: t => w.toNat + 2 ^ 32 * wordsNum t

/-! ## Images (R523) -/

/-- Flipped bits of the memory bytes from `a` on are gone: `n` bytes have been written. -/
def State.freshMarks (s : State) (a n : Nat) : State :=
  { s with marks := s.marks.filter (fun e => !(decide (a ≤ e.1) && decide (e.1 < a + n))) }

/-- A content frame of block memory `m`: 32 rows. -/
def State.bmImage (s : State) (r m f : Nat) (v : Nat) : State :=
  let s := s.freshMarks (bmRow r m (32 * f)) 256
  s.setBytes (bmRow r m (32 * f)) v 256

/-- The control frame of block memory `m`: BM_CFG, then the valid bits (R185, R200, R523). -/
def State.bmControl (s : State) (r m : Nat) (v : Nat) : State :=
  let ecc := s.bmEcc r m
  let s := s.wr (Reg.BM_CFG r m) (BitVec.ofNat 64 (v % 2 ^ 32 &&& 0x33F3F))
  let s := if s.bmEcc r m = ecc then s else s.freshMarks (bmRow r m 0) 4096
  let s := { s with marks := s.marks.filter (fun e => !(decide (bmRow r m 0 ≤ e.1) && decide (e.1 < bmRow r m 512) && e.1 % 8 == 1)) }
  let s := s.setBm r m { s.bm r m with valid := bitsOf v 512 512 }
  if bmCfgOk (v % 2 ^ 32) then s else s.bmError r m 9

/-- An image frame of an engine (Table 14-7). -/
def State.engImage (s : State) (e minor : Nat) (v : Nat) : State :=
  let a :=
    if minor < 64 then engCode e 0 (64 * minor)
    else if minor < 128 then engCode e 1 (64 * (minor - 64))
    else if minor < 256 then engData e (256 * (minor - 128))
    else engData e (0x8000 + 256 * (minor - 256))
  (s.freshMarks a 256).setBytes a v 256

/-! ## Checks -/

/-- Word or entry `sig` of `unit` carries a bad select (R140, R144, R160, R525). -/
def State.xselBad (s : State) (r unit sig : Nat) : State := s.regError r 5 (unit % 256) (sig % 1024) true

/-- The indices below `n` that satisfy `p`, each recorded. -/
def State.eachBad (s : State) (n : Nat) (p : Nat → Bool) (f : State → Nat → State) : State :=
  ((List.range n).filter p).foldl f s

/-- A code of BX_SEL or of an export select is reserved (R140, R141). -/
def bxReserved (c : Nat) : Bool := decide (112 ≤ c) && c != 127
def expReserved (c : Nat) : Bool := decide (64 ≤ c) && c != 127

/-- The checks of a frame of block `b` (R105, R140, R141, R144, R159). `old` is the state before the frame. -/
def State.blkChecks (s old : State) (r b f : Nat) : State :=
  let rq := fun (k : Nat) => hasBit (s.rqCfg r b) (8 * k + 7) && !s.rqOk r b k && (f == 31 || old.rqOk r b k)
  if f = 30 then
    (s.eachBad 64 (fun n => !s.mcOk r b n) (fun s n => s.blkError r b 5 n true)).eachBad 4 rq (fun s k => s.regError r 6 b k true)
  else if f = 31 then
    let s1 := s.eachBad 96 (fun i => bxReserved (s.bxSel r b i)) (fun t i => t.xselBad r b i)
    let s2 := s1.eachBad 16 (fun e => expReserved (s.expSel r b e)) (fun t e => t.xselBad r b e)
    s2.eachBad 4 rq (fun s k => s.regError r 6 b k true)
  else if f = 32 then s.eachBad 48 (fun i => !rxOk (s.blkFrame r b 32 i) false) (fun t i => t.xselBad r b i)
  else s

/-- Target entries that the frame has made bad, or that it carries and are bad (R160). -/
def State.tgtChecks (s old : State) (r : Nat) (carried : Bool) : State :=
  s.eachBad 32 (fun t => hasBit (s.tgtWord r t) 16 && !s.tgtOk r t && (carried || old.tgtOk r t)) (fun u t => u.xselBad r t 0)

/-- Entry `n` of the port select list breaks a rule, or names a destination that a lower entry has (R525). -/
def State.listBad (s : State) (r n : Nat) : Bool :=
  let e := s.listEntry r n
  hasBit e.1 31 && (!(listDestOk e.1 && rxOk e.2 false) ||
    (List.range n).any (fun k => let d := s.listEntry r k; bitsOf d.1 0 22 == bitsOf e.1 0 22 && listUse d))

/-- The requester ID of the configuration controller (Table 9-14). -/
def reqCfg : Nat := 0x10

/-- The TR_CTL image of a frame is applied to the tick unit's register (Table 14-8): with PHASE not below TDIV it is refused with E_ARG
(R45). -/
def State.controlTick (s : State) (r w : Nat) : State :=
  if 2 ^ bitsOf w 0 2 ≤ bitsOf w 2 3 then s.tickNote reqCfg (Reg.TR_CTL r) .eArg
  else
    (((s.setFld (Reg.TR_CTL_TDIV r) (bitsOf w 0 2)).setFld (Reg.TR_CTL_PHASE r) (bitsOf w 2 3)).setBit
      (Reg.TR_CTL_POLICY r) (hasBit w 8)).tickNote reqCfg (Reg.TR_CTL r) .ok

/-- Minor 0 of column 41: TR_CTL, ENG_CFG, NIP_CFG, CQP_CFG, the targets (Table 14-8). -/
def State.controlFrame (s old : State) (r : Nat) : State :=
  let w := s.frame r 41 0
  let s1 := s.controlTick r (w 0)
  let s2 := (List.range 4).foldl (fun t k =>
    let t := t.wr (Reg.ENG_CFG r k) (BitVec.ofNat 64 (w (1 + k) % 4))
    t.setEng (4 * r + k) { t.eng (4 * r + k) with bank := bitsOf (w (1 + k)) 1 1 }) s1
  let s3 := (List.range 8).foldl (fun t i =>
    let t := t.wr (Reg.NIP_CFG r i) (BitVec.ofNat 64 (w (40 + i) % 2 ^ 26))
    t.wr (Reg.CQP_CFG r i) (BitVec.ofNat 64 (w (48 + i) % 2 ^ 25))) s2
  let halves := fun (f : Nat → Nat → Fld) (t : State) => t.eachBad 8 (fun i => s3.fld (f r i) == 3) (fun u i => u.xselBad r i 0)
  let s4 := halves Reg.CQP_CFG_RMODE (halves Reg.CQP_CFG_WMODE (halves Reg.NIP_CFG_RXMODE (halves Reg.NIP_CFG_TXMODE s3)))
  s4.tgtChecks old r true

/-- Half of the task descriptors of slot `k` (Table 14-8). -/
def State.taskFrame (s : State) (r k half : Nat) : State :=
  let w := s.frame r 41 (2 + 2 * k + half)
  (List.range 32).foldl (fun t i =>
    let t := t.wr (Reg.ENG_TASK r k (32 * half + i)) (BitVec.ofNat 64 (w (2 * i) &&& 0xFFFF0FFF))
    t.wr (Reg.ENG_TASKARG r k (32 * half + i)) (BitVec.ofNat 64 (w (2 * i + 1)))) s

/-- What a frame of column 41 sets and what is checked of it (Table 14-8, R144, R160, R525, R618). -/
def State.column41 (s old : State) (r minor : Nat) : State :=
  if minor = 0 then s.controlFrame old r
  else if minor = 1 then (match regionBank r with
    | some b => s.bankCheck b
    | none => s)
  else if minor < 10 then s.taskFrame r ((minor - 2) / 2) ((minor - 2) % 2)
  else if minor < 26 then
    s.eachBad 64 (fun i => !rxOk (s.frame r 41 minor i) true) (fun t i => t.xselBad r ((minor - 10) / 4) (64 * ((minor - 10) % 4) + i))
  else if minor < 29 then
    (s.eachBad 64 (fun i => decide (64 * (minor - 26) + i < 136) && !rxOk (s.frame r 41 minor i) false) (fun t i =>
      t.xselBad r ((64 * (minor - 26) + i) / 34) ((64 * (minor - 26) + i) % 34))).tgtChecks old r false
  else
    (s.eachBad 32 (fun i => s.listBad r (32 * (minor - 29) + i)) (fun t i =>
      let d := (s.listEntry r (32 * (minor - 29) + i)).1
      t.xselBad r (rxUnit d) (rxSig d))).tgtChecks old r false

/-- A frame is written at its user position: 64 data words and the CRC word (R521–R526). -/
def State.writeFrame (s : State) (r col minor : Nat) (words : List Word) : State :=
  let old := s
  let v := wordsNum (words.take 64)
  let s := s.putFrame r col minor words
  if col < 32 then s.blkChecks old r (8 * col + minor / 40) (minor % 40)
  else if col = 32 then s
  else if col < 36 then
    let m := (col - 33) * 33 + minor / 18
    if 96 ≤ m then s
    else if minor % 18 < 16 then s.bmImage r m (minor % 18) v
    else if minor % 18 = 16 then s.bmControl r m v
    else s
  else if col < 40 then s.engImage (4 * r + (col - 36)) minor v
  else if col = 40 then s
  else s.column41 old r minor

/-! ## Commit -/

/-- A select names a spine input of edge `e`. -/
def namesEdge (w e : Nat) : Bool := rxClass w == 2 && rxUnit w == e

/-- Edge `e` of region `r` is used (R179). -/
def State.edgeUsed (s : State) (r e : Nat) : Bool :=
  (List.range 256).any (fun i => rxClass (s.spineSel r e i) != 0) ||
    (List.range 1024).any (fun k => namesEdge (s.spineSel r (k / 256) (k % 256)) e) ||
    (List.range 136).any (fun k => namesEdge (s.engSel r (k / 34) (k % 34)) e) ||
    (List.range 4064).any (fun n => let d := s.listEntry r n; listUse d && !s.listBad r n && namesEdge d.2 e) ||
    (List.range (256 * 48)).any (fun k =>
      !(decide (28 ≤ k % 48) && s.rqUsed r (k / 48)) && namesEdge (s.impSel r (k / 48) (k % 48)) e)

/-- Region `r` is committed: HELD, CFG_OK, EDGE_USED (R179, R526). -/
def State.commit (s : State) (r : Nat) : State :=
  let mask := ((List.range 4).map (fun e => bit (s.edgeUsed r e) * 2 ^ e)).sum
  ((s.setBit (Reg.REG_STATUS_CFG_OK r) true).setFld (Reg.REG_STATUS_EDGE_USED r) mask).enterState r .held

end Sys2Proof.Machine
end

