-- ==== Sys2Proof/Machine/RegionTick.lean ====
section
/-! DEFINITION. What happens in a region at its region ticks: the overrun check and its policy, escalation, capture, the tick
ports, the NULL wave, Pavane (chapters 2–4, 9, 10, 14). -/

namespace Sys2Proof.Machine

/-! ## The ports that act at region ticks -/

/-- The transmit half of fabric port `i` in TICK mode (R348). `old` is the state before the tick. -/
def State.nipTxTick (s old : State) (r i : Nat) (stale : Bool) : State :=
  if old.nipTxMode r i ≠ 1 then s
  else
    let n := 16 * (old.fld (Reg.NIP_CFG_TXW r i) + 1)
    let x := s.nip r i
    let room := decide (x.tx.length < 4)
    if stale then
      if !x.heldEn then s
      else if room then s.nipSend r i x.heldD s.now true
      else s.nipDrop r i 0
    else
      let en := (old.dest r 5 i 512).rail == .one
      let d := if en then old.destWord r 5 i 0 n else x.heldD
      let s := s.setNip r i { x with heldEn := en, heldD := d }
      let s := if !en then s else if room then s.nipSend r i d s.now false else s.nipDrop r i 0
      let y := s.nip r i
      s.setNip r i { y with ready := decide (y.tx.length < 4) }

/-- The receive half of fabric port `i` in TICK mode, at a region tick that is not STALE (R350). -/
def State.nipRxTick (s : State) (r i : Nat) : State :=
  if s.nipRxMode r i ≠ 1 then s
  else
    let x := s.nip r i
    match x.rx with
    | [] => s.setNip r i { x with rxflag := false }
    | w :: t => s.setNip r i { x with rx := t, rxd := w.1, rxstale := w.2, rxflag := true }

/-- A word as a write half holds it for a STALE tick: data, valid bytes, end of packet. -/
def heldWord (v bytes : Nat) (eop : Bool) : Nat := v % 2 ^ 64 + bytes * 2 ^ 64 + bit eop * 2 ^ 68

/-- The write half of capture port `i` in TICK mode, from Pavane stage 2 on (R388, R390, R542). -/
def State.cqpWTick (s old : State) (r i : Nat) (stale opened : Bool) : State :=
  if old.cqpWMode r i = 0 then s
  else
    let s :=
      if old.cqpWMode r i ≠ 1 || !opened then s
      else
        let x := s.cqp r i
        let room := decide (x.words < 32)
        if stale then
          if !x.heldEn then s
          else if room then s.cqpPut r i (x.heldV % 2 ^ 64) (bitsOf x.heldV 64 4) (hasBit x.heldV 68) true
          else s.cqpWdrop r i
        else
          let en := (old.dest r 6 i 68).rail == .one
          let (v, bytes, eop) := old.cqpSlots r i
          let s := s.setCqp r i { x with heldEn := en, heldV := if en then heldWord v bytes eop else x.heldV }
          if !en then s else if room then s.cqpPut r i v bytes eop false else s.cqpWdrop r i
    let x := s.cqp r i
    s.setCqp r i { x with
      idle := if !x.wrote && x.words != 0 then x.wbuf.length else x.idle
      wrote := false
      wready := if stale then x.wready else decide (2 ≤ s.fld (Reg.REG_STATUS_PAVANE r)) && decide (x.words < 32) }

/-- The read half of capture port `i` in TICK mode, at a region tick that is not STALE (R391). -/
def State.cqpRTick (s old : State) (r i : Nat) : State :=
  if old.cqpReads r i ≠ 1 then s
  else
    let x := s.cqp r i
    let en := (old.dest r 6 i 70).rail == .one
    let rop := old.destWord r 6 i 71 2
    let s := match (if en then x.rbuf else []) with
      | w :: t =>
        let s := s.setCqp r i { x with rbuf := t, rd := w, rflag := true }
        let s := if w.2.2 then s.cqpRerr r i else s
        s.cqpTaken r i
      | [] => s.setCqp r i { x with rflag := false }
    let s := match rop with
      | 1 => s.cqpCommand r i 4
      | 2 =>
        let y := s.cqp r i
        let pair := y.pair.map (fun (p : CqpPair) => { p with void := true })
        let s := s.setCqp r i { y with rbuf := [], pair }
        s.cqpCommand r i 5
      | 3 => s.cqpCommand r i 6
      | _ => s
    let y := s.cqp r i
    s.setCqp r i { y with ravail := !y.rbuf.isEmpty }

/-- The tick ports of region `r` at a region tick. `captures`: the region has passed Pavane stage 3 before. -/
def State.portsTick (s old : State) (r : Nat) (stale captures : Bool) : State :=
  let opened := decide (2 ≤ old.fld (Reg.REG_STATUS_PAVANE r))
  (List.range 8).foldl (fun s i =>
    let s := (s.nipTxTick old r i stale).cqpWTick old r i stale opened
    if stale || !captures then s else (s.nipRxTick r i).cqpRTick old r i) s

/-- The bank of region `r` keeps its TICK-mode outputs at a STALE tick and says so (R621). -/
def State.bankStale (s : State) (r : Nat) : State :=
  match regionBank r with
  | some b => if s.hasTickOut b then s.setBit (Reg.IOB_STAT_STALE b) true else s
  | none => s

/-! ## Overrun and escalation -/

/-- The windows of the engines of region `r` that end at the present tick end (R264), and whether one whose check is on has a
task that has missed its window. -/
def State.windowsTick (s : State) (r : Nat) : State × Bool :=
  (List.range 4).foldl (fun (p : State × Bool) k =>
    let (s, missed) := p.1.engWindows (4 * r + k) p.1.now
    (s, p.2 || (s.on (Reg.ENG_DBG_WINCHK r k) && missed))) (s, false)

/-- An overrun is counted (R56, Table 2-10), taken by the voltage loop (R65, R66), and the blocks that are late are marked (R131).
Its slack is not known yet. -/
def State.countOverrun (s : State) (r : Nat) (eng : Bool) (late : List Nat) : State :=
  let s := s.gatherSlack r (-1) true
  let s := s.setRgn r { s.rgn r with ovrOpen := some s.now }
  let s := (s.count (Reg.OVR_COUNT_COUNT r) (Reg.TR_STATUS_OVR_SAT r)).setBit (Reg.TR_STATUS_OVR r) true
  let s := s.setFld (Reg.OVR_LAST_TICK r) s.now
  let s := if eng then
      (s.count (Reg.OVR_ENG_COUNT_COUNT r) (Reg.TR_STATUS_ENG_SAT r)).setBit (Reg.TR_STATUS_ENG_OVR r) true
    else s
  late.foldl (fun s b => if b < 256 then s.setBit (Reg.BLK_ERR_LATE r b) true else s) s

/-- Region `r` freezes by its policy, or by the loss of the slot PLL's lock (R43, R60). Where an escalation comes with it (R133),
FROZEN_POL is set all the same: DESIGN CHOICE (log entry 45). -/
def State.freezePolicy (s : State) (r : Nat) : State := (s.enterState r .frozen).setBit (Reg.TR_STATUS_FROZEN_POL r) true

/-- Region `r` freezes for an error, which is marked as the cause (R132, R177, R228). -/
def State.freezeEscalated (s : State) (r : Nat) (c : EscCause) : State :=
  let s := s.enterState r .frozen
  let f := (s.rgn r).fab
  let s := s.setFab r { f with esc := none }
  let s := s.setRgn r { s.rgn r with discard := true }
  match c with
  | .block b | .frame b => s.errBit ⟨Reg.BLK_ERR r b, 7, 1⟩ false (srcRegion r) .fault (16 + 7) (blkArg r b)
  | .spine => s.errBit ⟨Reg.REG_ERR r, 10, 1⟩ false (srcRegion r) .fault 10 (regArg r)
  | .frameOther => s.scrError r 2

/-- Steps after the overrun check of R56: the policy, or the escalation (R57, R60, R61, R132, R133). -/
def State.overrunPolicy (s : State) (r : Nat) (overrun eng : Bool) (esc : Option EscCause) : State :=
  let freeze := s.on (Reg.TR_CTL_POLICY r)
  let s :=
    if overrun && freeze then (s.raise (srcRegion r) .fault 0x63 0).freezePolicy r
    else if overrun then s.raise (srcRegion r) .notice 0x62 (bit eng)
    else s
  match esc with
  | some c => s.freezeEscalated r c
  | none => s

/-! ## The region tick -/

/-- The gaps of Pavane: the PAVANE word of column 41 (R541, Table 14-8). -/
def State.pavaneGap (s : State) (r stage : Nat) : Nat :=
  bitsOf (s.frame r 41 0 5) (if stage = 1 then 0 else 16) 16 + 1

/-- A region tick that Pavane counts, before its last stage (R541). -/
def State.pavaneTick (s : State) (r : Nat) : State :=
  let stage := s.fld (Reg.REG_STATUS_PAVANE r)
  if stage = 0 ∨ 3 ≤ stage then s else s.setRgn r { s.rgn r with pavane := (s.rgn r).pavane + 1 }

/-- Pavane of region `r` passes from `stage` to the next once its gap has been counted (R540, R541, Table 14-10). -/
def State.pavaneStage (s : State) (r stage : Nat) : State :=
  if validRegion r && s.rstate r == .running && s.fld (Reg.REG_STATUS_PAVANE r) == stage &&
      decide (s.pavaneGap r stage ≤ (s.rgn r).pavane) then
    (s.setRgn r { s.rgn r with pavane := 0 }).setFld (Reg.REG_STATUS_PAVANE r) (stage + 1)
  else s

/-- The faults that persist at a region tick are recorded again, and counted at it (R130). -/
def State.faultsAgain (s : State) (r : Nat) : State :=
  let f := (s.rgn r).fab
  let s := s.setFab r { f with counted := [] }
  (s.elem r).illegal.foldl (fun s x =>
    let (kind, unit, sig) := elementKind x.1
    s.illegalError r kind unit sig) s

/-- A new wave of region `r` begins with its NULL phase (Table 2-6). The detectors of tick logic see NULL now (R95). -/
def State.beginWave (s : State) (r : Nat) : State :=
  let s := s.setRgn r { s.rgn r with phase := .nullWave, ovrOpen := none, discard := false, waveTick := some s.now }
  let s := s.setElem r { s.elem r with illegal := (s.marksNow r).1, open_ := (s.marksNow r).2 }
  s.faultsAgain r

/-- A STALE region tick: outputs are held and marked (R57, R58, Table 2-11). -/
def State.staleTick (s old : State) (r : Nat) : State :=
  let s := ((s.portsTick old r true false).bankStale r).faultsAgain r
  s.setBit (Reg.TR_STATUS_STALE r) true

/-- The engine cycle times that are reported at a region tick: the region's own, if a new one comes with it, and the limit
(R68). -/
def State.tecTick (s : State) (r : Nat) (tec : List (Nat × Nat)) : State :=
  let s := match tec.find? (fun e => e.1 == r) with
    | some e => s.setFld (Reg.TR_ENGMON_TEC r) (e.2 % 2 ^ 16)
    | none => s
  let lim := s.fld (Reg.TR_ECLIM_LIM r)
  if lim ≠ 0 ∧ lim < s.fld (Reg.TR_ENGMON_TEC r) then s.setBit (Reg.TR_ENGMON_OVER r) true else s

/-- The voltage loop gathers the cycle time that region `r` reports, if the region participates (R66, R68). -/
def State.gatherTec (s : State) (r : Nat) : State :=
  if s.participates r then
    let g := (s.rgn r).avs
    s.setRgn r { s.rgn r with avs := { g with maxTec := max g.maxTec (s.fld (Reg.TR_ENGMON_TEC r)) } }
  else s

/-- The blocks of region `r` that have not reported DONE (R131): those that evaluate, and during the NULL wave every block that takes
part. -/
def State.lateBlocks (s : State) (r : Nat) : List Nat :=
  match (s.rgn r).phase with
  | .evaluating => (s.usedBlocks r).filter (fun b => (List.range 64).any (fun n => s.mcParticipates r b n && !s.mcComplete r b n))
  | .nullWave => (s.usedBlocks r).filter (fun b => (List.range 64).any (s.mcParticipates r b))
  | _ => []

/-- The time from a region tick to the DONE of a wave in which no input of the done tree takes part: up to 2 × t_done,reg, 160 ps; the
spec states no more (R685). -/
def State.ownDone (s : State) : Int := ((s.freeBits 8).toNat % 33 : Nat)

/-- A region tick of a RUNNING region (R47, R53, R56–R61, R118–R121, R132, R148, R541, R685). `old` is the state in which every region
still shows the wave that ends; `tec` and `late` are what the boundary reports. An overrun that an engine alone has caused leaves the
wave's DONE to this region tick (R51). -/
def State.runningTick (s old : State) (r : Nat) (tec : List (Nat × Nat)) (late : List Nat) : State :=
  let x := s.rgn r
  let esc := x.fab.esc
  let (s, eng) := s.windowsTick r
  let own := x.phase != .done && !eng && !old.doneInputs r
  let overrun := (x.phase != .done && !own) || eng
  let s := (((s.overrunLost r).tecTick r tec).gatherTec r)
  let s :=
    if overrun then s.countOverrun r eng (late ++ old.lateBlocks r)
    else if own then (s.tookFree).recordSlack r ((x.elapsed : Int) - s.ownDone)
    else s.recordSlack r ((x.elapsed : Int) - x.doneAt)
  let s := s.setRgn r { s.rgn r with
    elapsed := 0
    doneAt := if overrun then 0 else x.doneAt - x.elapsed
    tarLevel := if s.on (Reg.TAR_CTL_EN r) then s.fld (Reg.TAR_CTL_LEVEL r) else 0 }
  if overrun || esc.isSome then (s.staleTick old r).overrunPolicy r overrun eng esc
  else
    let captures := decide (3 ≤ old.fld (Reg.REG_STATUS_PAVANE r))
    let s := if captures then s.fabricCapture old r x.discard else s
    let s := (s.spineCapture old r).portsTick old r false captures
    ((s.setBit (Reg.TR_STATUS_STALE r) false).pavaneTick r).beginWave r

/-- A region tick of a FROZEN region (R53, R60, R132): outputs are STALE, an overrun whose DONE is a full period late enters the meter,
and an error that escalates bars the wave in progress from capture. -/
def State.frozenTick (s old : State) (r : Nat) (tec : List (Nat × Nat)) : State :=
  let x := s.rgn r
  let s := (s.overrunLost r).tecTick r tec
  let s := s.setRgn r { s.rgn r with elapsed := 0, doneAt := x.doneAt - x.elapsed }
  let (s, _) := s.windowsTick r
  let s := s.staleTick old r
  match x.fab.esc with
  | some c => s.freezeEscalated r c
  | none => s

/-- A region tick of region `r` at the present tick, by its state. -/
def State.regionTick (s old : State) (r : Nat) (env : BoundaryInputs) : State :=
  match old.rstate r with
  | .running => s.runningTick old r env.tec ((env.late.filter (fun b => b.1 == r)).map (·.2))
  | .frozen => s.frozenTick old r env.tec
  | .off => s
  | _ => s.tecTick r env.tec

/-- Every region whose wave begins at the present tick takes its spine inputs (R149). -/
def State.spineSnaps (s : State) : State :=
  (List.range 24).foldl (fun s r => if s.waveFresh r then s.spineSnap r else s) s

/-- A FROZEN region resumes at the present region tick: it is RUNNING, and the tick is judged like any region tick, with what its
engines report and the blocks that are late as they were at the boundary (R62, R68, R131). -/
def State.resumeTick (s : State) (r : Nat) : State :=
  let s := s.enterState r .running
  let s := s.runningTick s r [] ((s.rgn r).late)
  let s := s.setRgn r { s.rgn r with late := [] }
  (if s.waveFresh r then s.spineSnap r else s).spineSnapAround r

/-- START, or RESUME for a FROZEN region, at its region tick (R62, R168, Table 4-14). -/
def State.startEffect (s : State) (r : Nat) : State × Code :=
  match s.rstate r with
  | .held => s.startHeld r
  | .frozen => (s.resumeTick r, .ok)
  | _ => (s, .eState)

end Sys2Proof.Machine
end

