-- ==== Sys2Proof/Machine/CfgOps.lean ====
section
/-! DEFINITION. The configuration controller: its stream, packets, frames, chunks, the map of regions, stream slots (chapter 14). -/

namespace Sys2Proof.Machine

/-- The state with the controller changed. -/
def State.setCfg (s : State) (x : CfgSt) : State := { s with cfg := x }

/-! ## Errors, refusals -/

/-- The severities of Table 14-16 by bit of CFG_ERR. -/
def cfgSev (i : Nat) : Sev :=
  match i with
  | 0 | 1 | 8 => .degraded
  | 6 => .notice
  | _ => .fault

/-- The ARG of a CFG_ERR incident (Table 18-5); `l` is the logical region plus 32 where one applies. -/
def cfgArg (l : Nat) (s : State) : Nat :=
  (s.rd Reg.CFG_SCODE).toNat % 2 ^ 16 + l * 2 ^ 16 + (s.rd Reg.CFG_SPOS).toNat % 2 ^ 32 * 2 ^ 32

/-- The bits of CFG_ERR (Table 14-15). -/
def ceCrc : Nat := 0
def ceShort : Nat := 1
def ceAddr : Nat := 2
def ceAuth : Nat := 3
def ceLock : Nat := 4
def ceSyntax : Nat := 5
def ceOpen : Nat := 6
def ceListenOvf : Nat := 7
def ceCwr : Nat := 8
def ceTrunc : Nat := 9

/-- Error bit `i` of CFG_ERR occurs (R548). -/
def State.cfgErr (s : State) (i l : Nat) : State :=
  s.errBit ⟨Reg.CFG_ERR, i, 1⟩ (hasBit (s.fld Reg.CFG_ERRCTL_MASK) i) srcCfg (cfgSev i) i (cfgArg l)

/-- One of the four counters advances (Table 14-15). -/
def State.cfgCount (s : State) (f : Fld) : State := s.count f Reg.CFG_ERR_CNT_SAT

/-- CFG_SCODE records a refusal or an abort (R508, R515). -/
def State.cfgScode (s : State) (c : Code) (pt reg : Nat) : State :=
  ((s.setFld Reg.CFG_SCODE_CODE c.num).setFld Reg.CFG_SCODE_PT pt).setFld Reg.CFG_SCODE_REG reg

/-- A packet is refused and the stream goes on (R515). -/
def State.cfgRefuse (s : State) (c : Code) (pt reg : Nat) : State := (s.cfgScode c pt reg).noteRefusal srcCfg 0 reqCfg c

/-- A host command or a register write is recorded and answered (Table 14-15). -/
def State.cfgRecord (s : State) (req addr cmd : Nat) (c : Code) : State :=
  let s := ((s.setFld Reg.CFG_HCMDSTAT_CODE c.num).setFld Reg.CFG_HCMDSTAT_CMD cmd).setFld Reg.CFG_HCMDSTAT_REQ req
  (s.noteRefusal srcCfg (addr - Reg.CFG_CTL) req c).respond req addr c

/-! ## The stream -/

/-- The sources of a stream (CFG_STAT.SRC). -/
def srcIdle : Nat := 0
def srcBoot : Nat := 1
def srcSlot : Nat := 2
def srcData : Nat := 3

/-- The source of the stream that runs. -/
def State.cfgSrc (s : State) : Nat := s.fld Reg.CFG_STAT_SRC

/-- The stream reads the NOR (R509). -/
def State.fromNor (s : State) : Bool :=
  s.cfgSrc == srcBoot || (s.cfgSrc == srcSlot && !s.on (Reg.CFG_SLOT_SRC (s.fld Reg.CFG_STAT_SLOT)))

/-- The words of a page of the NOR (R553): an erased page reads ones. -/
def blankPage : Nat := 2 ^ 2048 - 1

/-- Page `p` of the NOR as a number, its first byte lowest. -/
def State.norPage (s : State) (p : Nat) : Nat := Tbl.get blankPage s.nor p

/-- Byte `a` of the NOR. -/
def State.norByte (s : State) (a : Nat) : Nat := bitsOf (s.norPage (a / 256)) (8 * (a % 256)) 8

/-- The word of four bytes of the NOR from address `a`. -/
def State.norWord (s : State) (a : Nat) : Word :=
  BitVec.ofNat 32 (s.norByte a + s.norByte (a + 1) * 2 ^ 8 + s.norByte (a + 2) * 2 ^ 16 + s.norByte (a + 3) * 2 ^ 24)

/-- The device is a listener (Table 15-1). -/
def State.listener (s : State) : Bool := s.fld Reg.RSC_STRAPS_BOOTSEL == 1

/-- A burst of up to 4 KiB is read into the FIFO of a stream from the NOR when it holds less than a burst, while the NOR serves no
store and no raw command (R539, R562). -/
def State.cfgFill (s : State) : State :=
  let x := s.cfg
  if !s.fromNor || s.listener || decide (1024 ≤ x.fifo.length) || s.hk.holdEn || s.hk.raw.isSome then s
  else
    let n := min 1024 (x.room / 4)
    s.setCfg { x with
      fifo := x.fifo ++ (List.range n).map (fun i => s.norWord (x.addr + 4 * i))
      addr := x.addr + 4 * n
      room := x.room - 4 * n }

/-- The stream's state as it is between streams; input that was read ahead from the NOR was never read. -/
def State.cfgIdle (s : State) : State :=
  let x := s.cfg
  let fifo := if s.fromNor then [] else x.fifo
  let s := s.setCfg { x with fifo, addr := 0, room := 0, plain := [], chunk := [], slot := 0, seq := 0, sid := 0, last := false,
                             frame := [], pkt := none, brought := 0, cwr := none }
  let s := (s.setFld Reg.CFG_STAT_SRC srcIdle).setBit Reg.CFG_STAT_SYNCED false
  ((s.setBit Reg.CFG_STAT_FMODE false).setBit Reg.CFG_STAT_ENC false).setFld Reg.CFG_STAT_SLOT 0

/-- A stream from `src` begins: it waits for its sync word (R509). -/
def State.cfgBegin (s : State) (src slot addr room : Nat) : State :=
  let s := s.setCfg { s.cfg with addr, room, done := none }
  (s.setFld Reg.CFG_STAT_SRC src).setFld Reg.CFG_STAT_SLOT slot

/-- The logical region of the frame address, as CFG_ERR incidents name it. -/
def State.farArg (s : State) : Nat := farRegion (s.fld Reg.CFG_FAR_FAR) + 32

/-- CFG_FAR advances (R518). -/
def State.farStep (s : State) : State :=
  let f := s.fld Reg.CFG_FAR_FAR
  if farOk f then s.setFld Reg.CFG_FAR_FAR (farNext f) else s

/-- A frame is discarded by its address or its region (R518, R519). -/
def State.frameSkip (s : State) (c : Code) (pt : Nat) (addr : Bool) : State :=
  let l := s.farArg
  let s := (s.cfgRefuse c pt 0).cfgCount Reg.CFG_SKIPCNT_COUNT
  if addr then s.cfgErr ceAddr l else s

/-- A frame is discarded for its CRC, or because it is not whole (R516); one sent to an invalid address is discarded for that too
(R518). -/
def State.frameBad (s : State) (pt : Nat) (short : Bool) : State :=
  let l := s.farArg
  let s := (s.cfgScode .eCrc pt 0).cfgCount Reg.CFG_CRCCNT_COUNT
  let s := match s.physicalOf (farRegion (s.fld Reg.CFG_FAR_FAR)) with
    | some p => s.setBitOf Reg.CFG_FERR_FERR p
    | none => s
  let s := s.cfgErr ceCrc l
  let s := if short then s.cfgErr ceShort l else s
  if farOk (s.fld Reg.CFG_FAR_FAR) then s.farStep else s.frameSkip .eArg pt true

/-- A partial frame is discarded (R516). -/
def State.dropPartial (s : State) : State :=
  if s.cfg.frame.isEmpty then s else (s.setCfg { s.cfg with frame := [] }).frameBad 2 true

/-- A frame that has passed its check goes to the address in CFG_FAR (R518–R521). -/
def State.frameAccept (s : State) (pt : Nat) (words : List Word) : State :=
  let far := s.fld Reg.CFG_FAR_FAR
  if !farOk far then s.frameSkip .eArg pt true
  else match s.physicalOf (farRegion far) with
    | none => (s.frameSkip .eArg pt true).farStep
    | some p =>
      let st := s.rstate p
      if st ≠ .blank ∧ st ≠ .held ∧ st ≠ .configuring then (s.frameSkip .eState pt false).farStep
      else
        let s := if st = .configuring then s
          else
            let s := s.enterConfiguring p
            s.setCfg { s.cfg with brought := withBit s.cfg.brought p }
        let used := match spareAt (farCol far) (farMinor far) with
          | some j => s.on (Reg.ST_SUB_USED p j)
          | none => false
        let s :=
          if used then s.cfgCount Reg.CFG_SKIPCNT_COUNT
          else (s.writeFrame p (farCol far) (farMinor far) words).cfgCount Reg.CFG_FRAMES_COUNT
        s.farStep

/-- A frame of 65 words: its check, then its fate (R516). -/
def State.frameWhole (s : State) (pt : Nat) (words : List Word) : State :=
  if crc32c (wordsNum (words.take 64)) 256 = (words.getD 64 0).toNat then s.frameAccept pt words else s.frameBad pt false

/-- Every region that this stream brought into CONFIGURING and has not committed returns to BLANK (R508). -/
def State.returnRegions (s : State) (mask : Nat) : State :=
  (List.range 24).foldl (fun s r => if hasBit mask r && s.rstate r == .configuring then s.enterBlank r else s) s

/-- The stream ends by an abort that leaves `c` in CFG_SCODE (R508). -/
def State.cfgEnd (s : State) (c : Code) : State :=
  let s := s.dropPartial
  let mask := s.cfg.brought
  let s := (s.cfgIdle).returnRegions mask
  (s.setCfg { s.cfg with done := some c }).setBit Reg.CFG_EVT_ABORT true

/-- The stream aborts with code `c`, at a packet of type `pt`, and with error bit `e` if there is one (R508). -/
def State.cfgAbort (s : State) (c : Code) (pt reg : Nat) (e : Option Nat) : State :=
  let s := s.dropPartial
  let s := s.cfgScode c pt reg
  let s := match e with
    | some i => s.cfgErr i 0
    | none => s
  s.cfgEnd c

/-! ## The parser -/

/-- The kinds of packet, one for each command of the table. -/
inductive Pkt where
  | sync | nop | far | idmask | ctl | keysel | regmap | frame | commit | start | end_ | fdata | fmask | fzero | cwr | bad
  deriving DecidableEq, Repr

/-- The sync word (R506). -/
def syncWord : Nat := 0x96245A3C

/-- The kind of the packet whose header is `w` and whose second word is `d` (Tables 14-1 to 14-3, R507). -/
def pktKind (w : Nat) (d : Nat) : Pkt :=
  match w / 2 ^ 28 with
  | 0 => if w = 0 then .nop else .bad
  | 1 =>
    if w % 2 ^ 16 ≠ 0 ∨ bitsOf w 24 4 ≠ 0 then .bad
    else match bitsOf w 16 8 with
      | 0 => .far
      | 1 => match d % 16 with
        | 1 => .frame
        | 2 => .commit
        | 3 => .start
        | 4 => .end_
        | _ => .bad
      | 2 => .idmask
      | 3 => .ctl
      | 4 => .keysel
      | 5 => .regmap
      | _ => .bad
  | 2 => if bitsOf w 20 8 = 0 ∧ w % 2 ^ 20 ≠ 0 then .fdata else .bad
  | 3 => if bitsOf w 20 8 = 0 ∧ w % 2 ^ 20 ≠ 0 then .fmask else .bad
  | 4 => if bitsOf w 20 8 = 0 ∧ w % 2 ^ 20 ≠ 0 then .fzero else .bad
  | 5 => if bitsOf w 26 2 = 0 ∧ w % 4 = 0 then .cwr else .bad
  | 9 => if w = syncWord then .sync else .bad
  | _ => .bad

/-- The words of a packet before what FDATA, FMASK and FZERO carry. -/
def pktWords (w : Nat) : Nat := if w / 2 ^ 28 = 1 ∨ w / 2 ^ 28 = 5 then 2 else 1

/-- The words that wait to be parsed: authenticated plaintext in an encrypted section, the FIFO elsewhere (R530). -/
def State.cfgWords (s : State) : List Word := if s.on Reg.CFG_STAT_ENC then s.cfg.plain else s.cfg.fifo

/-- `n` words have been parsed (CFG_SPOS counts the stream's own bytes). -/
def State.cfgTook (s : State) (n : Nat) : State :=
  let x := s.cfg
  if s.on Reg.CFG_STAT_ENC then s.setCfg { x with plain := x.plain.drop n }
  else (s.setCfg { x with fifo := x.fifo.drop n }).setFld Reg.CFG_SPOS_POS (s.fld Reg.CFG_SPOS_POS + 4 * n)

/-- REQ_AUTH as it reads (R531). -/
def State.reqAuth (s : State) : Bool := s.on Reg.CFG_CTL_REQ_AUTH || s.lcState == 2

/-- What is accepted outside an encrypted section under REQ_AUTH (R531). -/
def Pkt.plainOk : Pkt → Bool
  | .sync | .nop | .idmask | .keysel | .end_ => true
  | _ => false

/-- What applies on every device (R511). -/
def Pkt.always : Pkt → Bool
  | .sync | .nop | .idmask | .keysel | .end_ => true
  | _ => false

/-- The packets apply to this device (R511). -/
def State.cfgApplies (s : State) : Bool := hasBit (s.fld Reg.CFG_IDMASK_MASK) (s.fld Reg.RSC_STRAPS_DEVID)

/-- What is at the front of a running stream that stands at a packet boundary: the kind of packet, its header, its second
word; nothing while the packet has not come whole, or while a CWR waits for its response (R514). -/
def State.cfgFront (s : State) : Option (Pkt × Nat × Nat) :=
  if !s.on Reg.CFG_STAT_SYNCED || s.cfg.pkt.isSome || s.cfg.cwr.isSome then none
  else match s.cfgWords with
    | [] => none
    | w :: t =>
      if pktWords w.toNat ≤ (w :: t).length then some (pktKind w.toNat ((t.headD 0).toNat), w.toNat, (t.headD 0).toNat) else none

/-- After a step of the parser: the end of an encrypted section (R530), and a source that has run out (R539, R555). -/
def State.cfgAfter (s : State) : State :=
  if s.cfg.cwr.isSome then s
  else if !s.on Reg.CFG_STAT_SYNCED then
    if s.fromNor && s.cfg.fifo.isEmpty && decide (s.cfg.room < 4) then s.cfgAbort .eArg 0 0 (some ceTrunc) else s
  else
    let x := s.cfg
    let stuck := s.cfgFront.isNone
    if s.on Reg.CFG_STAT_ENC && x.last && x.plain.isEmpty && x.pkt.isNone && x.frame.isEmpty then
      s.setBit Reg.CFG_STAT_ENC false
    else if s.on Reg.CFG_STAT_ENC && x.last && (stuck || x.plain.isEmpty) then s.cfgAbort .eAuth 0 0 (some ceAuth)
    else if s.fromNor && decide (x.room < 4) && stuck && (!s.on Reg.CFG_STAT_ENC || x.fifo.isEmpty) then
      s.cfgAbort .eArg 0 0 (some ceTrunc)
    else s

/-- One packet is parsed, if it is of the kind named: the header's check (R507), R531, the end of a partial frame (R516), then
`act` on the state with the packet's words taken, its header and second word, if it applies (R511). -/
def State.cfgPacket (s : State) (k : Pkt) (act : State → Nat → Nat → State) : State :=
  let s := s.cfgFill
  match s.cfgFront with
  | none => if s.cfg.pkt.isSome then s else s.cfgAfter
  | some (p, w, d) =>
    if p ≠ k ∧ p ≠ .bad then s
    else
      let pt := w / 2 ^ 28
      let reg := if pt = 1 then bitsOf w 16 8 else 0
      let s := if pt = 2 then s else s.dropPartial
      let s := s.cfgTook (pktWords w)
      if p = .bad then s.cfgAbort .eArg pt reg (some ceSyntax)
      else if s.reqAuth && !s.on Reg.CFG_STAT_ENC && !p.plainOk then s.cfgAbort .eAuth pt reg (some ceAuth)
      else
        let s := if p.always || s.cfgApplies then act s w d else s
        s.cfgAfter

/-- Words before the sync word are discarded and counted; the sync word starts the stream (R506, R512). -/
def State.cfgSync (s : State) : State :=
  let s := s.cfgFill
  if s.on Reg.CFG_STAT_SYNCED then s
  else
    let x := s.cfg
    let pre := x.fifo.takeWhile (fun w => w.toNat != syncWord)
    let s := s.countBy Reg.CFG_PRECNT_COUNT Reg.CFG_ERR_CNT_SAT pre.length
    match x.fifo.drop pre.length with
    | [] => (s.setCfg { x with fifo := [] }).cfgAfter
    | _ :: t =>
      let s := s.setCfg { x with fifo := t, done := none, brought := 0 }
      let s := if s.cfgSrc = srcIdle then s.setFld Reg.CFG_STAT_SRC srcData else s
      let s := ((s.setFld Reg.CFG_SPOS_POS 0).setFld Reg.CFG_FAR_FAR 0).setFld Reg.CFG_IDMASK_MASK 0xFF
      let s := (s.setBit Reg.CFG_STAT_FMODE false).setBit Reg.CFG_STAT_SYNCED true
      if s.lcState = 4 then s.cfgAbort .eLock 9 0 none else s

/-! ## Frame data (R513, R516, R517) -/

/-- A frame data packet begins. -/
def State.cfgFrameHead (s : State) (pt w : Nat) (applies : Bool) : State :=
  let fm := s.on Reg.CFG_STAT_FMODE
  let s := if applies && !fm then s.cfgRefuse .eState pt 0 else s
  s.setCfg { s.cfg with pkt := some ⟨pt, w % 2 ^ 20, applies && fm⟩ }

/-- The words of a FDATA packet that have come, gathered into frames. -/
def State.takeFdata (s : State) : Nat → State
  | 0 => s
  | fuel + 1 =>
    match s.cfg.pkt with
    | none => s
    | some p =>
      let have_ := s.cfgWords
      let n := min (min p.left have_.length) (65 - s.cfg.frame.length)
      if n = 0 then s
      else
        let words := s.cfg.frame ++ have_.take n
        let s := s.cfgTook n
        let s := s.setCfg { s.cfg with
          pkt := if p.left = n then none else some { p with left := p.left - n }
          frame := if p.applies && decide (words.length < 65) then words else [] }
        let s := if p.applies && words.length == 65 then s.frameWhole 2 words else s
        s.takeFdata fuel

/-- The data words of a masked frame (R517). -/
def expandMask (m : Nat) : List Nat → List Word → List Word
  | [], _ => []
  | i :: is, ws => if hasBit m i then ws.headD 0 :: expandMask m is ws.tail else 0 :: expandMask m is ws

/-- The masked frames of a FMASK packet that have come whole. -/
def State.takeFmask (s : State) : Nat → State
  | 0 => s
  | fuel + 1 =>
    match s.cfg.pkt with
    | none => s
    | some p =>
      match s.cfgWords with
      | a :: b :: t =>
        let m := a.toNat + b.toNat * 2 ^ 32
        let n := ((List.range 64).filter (hasBit m)).length
        if t.length < n + 1 then s
        else
          let s := s.cfgTook (n + 3)
          let s := s.setCfg { s.cfg with pkt := if p.left = 1 then none else some { p with left := p.left - 1 } }
          let s := if p.applies then s.frameWhole 3 (expandMask m (List.range 64) t ++ [t.getD n 0]) else s
          s.takeFmask fuel
      | _ => s

/-- The frames of a FZERO packet. -/
def State.takeFzero (s : State) : Nat → State
  | 0 => s
  | n + 1 => (s.frameAccept 4 (List.replicate 64 0 ++ [BitVec.ofNat 32 zeroCrc])).takeFzero n

/-- What has come of the frame data packet in progress. -/
def State.cfgData (s : State) : State :=
  let s := s.cfgFill
  match s.cfg.pkt with
  | none => s
  | some p =>
    if p.pt = 2 then s.takeFdata (s.cfgWords.length + 1)
    else if p.pt = 3 then s.takeFmask (s.cfgWords.length + 1)
    else s

/-- A frame data packet of type `pt`, FDATA or FMASK: its header if it is at the front, then what has come of it. -/
def State.cfgFrames (s : State) (k : Pkt) (pt : Nat) : State :=
  let mine := fun (s : State) => (s.cfg.pkt.map (·.pt)) == some pt
  if mine s then s.cfgData.cfgAfter
  else if s.cfg.pkt.isSome then s
  else
    let s := s.cfgFill
    match s.cfgFront with
    | some (p, w, _) =>
      if p ≠ k then (if p = .bad then s.cfgPacket k (fun s _ _ => s) else s)
      else
        let s := if pt = 2 then s else s.dropPartial
        let s := s.cfgTook 1
        if s.reqAuth && !s.on Reg.CFG_STAT_ENC then s.cfgAbort .eAuth pt 0 (some ceAuth)
        else ((s.cfgFrameHead pt w s.cfgApplies).cfgData).cfgAfter
    | none => s.cfgAfter

/-- A FZERO packet. -/
def State.cfgZero (s : State) (w : Nat) : State :=
  if s.on Reg.CFG_STAT_FMODE then s.takeFzero (w % 2 ^ 20) else s.cfgRefuse .eState 4 0

/-! ## Registers of the stream -/

/-- The outcome of a write to CFG_CTL (R531, R680). -/
def State.cfgCtlCode (s : State) (value : Nat) : Code :=
  let auth := hasBit value 0 || s.lcState == 2
  if s.on Reg.CFG_CTL_LOCK && (auth != s.reqAuth || hasBit value 1 != s.on Reg.CFG_CTL_RDBK_DIS) then .eLock else .ok

/-- A write to CFG_CTL. -/
def State.cfgCtlWrite (s : State) (value : Nat) : State × Code :=
  let c := s.cfgCtlCode value
  if c ≠ .ok then (s, c)
  else
    let s := (s.setBit Reg.CFG_CTL_REQ_AUTH (hasBit value 0)).setBit Reg.CFG_CTL_RDBK_DIS (hasBit value 1)
    let s := if hasBit value 2 then s.setBit Reg.CFG_CTL_LOCK true else s
    (s.setBit Reg.CFG_CTL_EVT_EN (hasBit value 8), .ok)

/-- Physical region `p` shows what maps to it (Table 4-21). -/
def State.lmapFollow (s : State) (p : Nat) : State :=
  match (List.range 24).find? (fun l => s.physicalOf l == some p) with
  | some l => (s.setFld (Reg.REG_LMAP_LOGICAL p) l).setBit (Reg.REG_LMAP_MAPPED p) true
  | none => s.setBit (Reg.REG_LMAP_MAPPED p) false

/-- The outcome of mapping logical region `l` (R535). -/
def State.mapCode (s : State) (l p : Nat) (none_ : Bool) : Code :=
  if 24 ≤ l ∨ 24 ≤ p then .eArg
  else
    let oldOk := match s.physicalOf l with
      | some q => s.rstate q == .off || s.rstate q == .blank || s.rstate q == .failed
      | none => true
    let newOk := none_ || s.rstate p == .off || s.rstate p == .blank
    if oldOk && newOk then .ok else .eState

/-- Logical region `l` is mapped to physical region `p`, or to none (R535). -/
def State.mapRegion (s : State) (value : Nat) : State × Code :=
  let l := bitsOf value 0 5
  let p := bitsOf value 8 5
  let none_ := hasBit value 16
  let c := s.mapCode l p none_
  if c ≠ .ok then (s, c)
  else
    let old := s.physicalOf l
    let s := if none_ then s
      else (List.range 24).foldl (fun s k =>
        if k != l && s.physicalOf k == some p then s.setBit (Reg.CFG_REGMAP_NONE k) true else s) s
    let s := if none_ then s.setBit (Reg.CFG_REGMAP_NONE l) true
      else (s.setFld (Reg.CFG_REGMAP_PHYSICAL l) p).setBit (Reg.CFG_REGMAP_NONE l) false
    let s := match old with
      | some q => s.lmapFollow q
      | none => s
    (if none_ then s else s.lmapFollow p, .ok)

/-- Key slot `k` is ready: CFG_KEYSTAT shows it (R529, R614). -/
def State.keyReady (s : State) (k : Nat) : Bool := hasBit (s.fld Reg.CFG_KEYSTAT_READY) k

/-- REGW to CFG_KEYSEL (R529). -/
def State.keySel (s : State) (d : Nat) : State :=
  let k := d % 4
  if s.on Reg.CFG_STAT_ENC then s.cfgAbort .eState 1 4 none
  else if k = 0 then s
  else if k = 3 then s.cfgAbort .eArg 1 4 none
  else if !s.keyReady (k - 1) then s.cfgAbort .eLock 1 4 (some ceLock)
  else
    let s := s.setCfg { s.cfg with slot := k - 1, seq := 0, sid := 0, last := false, plain := [], chunk := [] }
    (s.setFld Reg.CFG_KEYSEL_SEL d).setBit Reg.CFG_STAT_ENC true

/-- COMMIT of logical region `l` (R526). -/
def State.cfgCommit (s : State) (l : Nat) : State :=
  match s.physicalOf l with
  | none => s.cfgRefuse .eArg 1 1
  | some p =>
    if s.rstate p ≠ .configuring then s.cfgRefuse .eState 1 1
    else if hasBit (s.fld Reg.CFG_FERR_FERR) p then s.cfgRefuse .eCrc 1 1
    else
      let s := (s.commit p).setBit Reg.CFG_EVT_COMMIT true
      s.setCfg { s.cfg with brought := withoutBit s.cfg.brought p }

/-- END (R527). -/
def State.cfgFinish (s : State) : State :=
  let open_ := (List.range 24).any (fun r => hasBit s.cfg.brought r && s.rstate r == .configuring)
  let s := if open_ then s.cfgErr ceOpen 0 else s
  let s := s.cfgIdle
  (s.setCfg { s.cfg with done := some (if open_ then .eState else .ok) }).setBit Reg.CFG_EVT_END true

/-! ## Chunks (R530) -/

/-- Bytes of words, lowest first. -/
def wordsBytes (l : List Word) : List Nat :=
  (l.map (fun w => [w.toNat % 256, bitsOf w.toNat 8 8, bitsOf w.toNat 16 8, bitsOf w.toNat 24 8])).flatten

/-- Words of bytes. -/
def bytesWords : List Nat → List Word
  | a :: b :: c :: d :: t => BitVec.ofNat 32 (a + b * 2 ^ 8 + c * 2 ^ 16 + d * 2 ^ 24) :: bytesWords t
  | _ => []

/-- The bytes of a key, lowest first. -/
def keyBytes (k : Nat) : List Nat := (List.range 32).map (fun i => bitsOf k (8 * i) 8)

/-- Field `lo … hi` of a chunk's header, in words (Table 14-9). -/
def chunkNum (l : List Word) (i n : Nat) : Nat := wordsNum ((l.drop i).take n)

/-- The length of a chunk's ciphertext is allowed (Table 14-9). -/
def chunkLenOk (n : Nat) : Bool := n % 4 == 0 && decide (4 ≤ n) && decide (n ≤ 65536)

/-- A chunk that has come whole: the checks of R530, and its plaintext. -/
def State.chunkWhole (s : State) (l : List Word) : State :=
  let x := s.cfg
  let len := chunkNum l 1 1
  let flags := chunkNum l 5 1
  let sid := chunkNum l 6 2
  let bytes := wordsBytes l
  let plain := match Tbl.get none x.keys x.slot with
    | some k => gcmOpen (keyBytes k) ((bytes.drop 8).take 12) (bytes.take 32) ((bytes.drop 32).take len) (bytes.drop (32 + len))
    | none => none
  match (if chunkNum l 0 1 = x.seq ∧ (x.seq = 0 ∨ sid = x.sid) ∧ flags < 2 then plain else none) with
  | none => s.cfgAbort .eAuth 0 0 (some ceAuth)
  | some p =>
    (s.setCfg { x with chunk := [], seq := x.seq + 1, sid, last := flags == 1, plain := x.plain ++ bytesWords p }).cfgAfter

/-- Words of the chunk are taken in; a whole one is checked (R530, R614). -/
def State.cfgChunk (s : State) : State :=
  let s := s.cfgFill
  if !(s.on Reg.CFG_STAT_SYNCED && s.on Reg.CFG_STAT_ENC) || s.cfg.last then s
  else if !s.keyReady s.cfg.slot then s.cfgAbort .eLock 0 0 (some ceLock)
  else
    let x := s.cfg
    let head := x.chunk ++ x.fifo.take (8 - x.chunk.length)
    let total := if head.length < 8 then 8 else 12 + chunkNum head 1 1 / 4
    if 8 ≤ head.length && !chunkLenOk (chunkNum head 1 1) then s.cfgAbort .eAuth 0 0 (some ceAuth)
    else
      let n := min x.fifo.length (total - x.chunk.length)
      let l := x.chunk ++ x.fifo.take n
      let s := (s.setCfg { x with chunk := l, fifo := x.fifo.drop n }).setFld Reg.CFG_SPOS_POS (s.fld Reg.CFG_SPOS_POS + 4 * n)
      if 8 ≤ head.length && l.length == total then s.chunkWhole l else s.cfgAfter

/-! ## Host commands -/

/-- Bytes of a write to CFG_DATA as words. -/
def dataWords (v : Nat) (n : Nat) : List Word := (List.range (n / 4)).map (fun i => BitVec.ofNat 32 (bitsOf v (32 * i) 32))

/-- The boot state (Table 15-2). -/
def State.bootState (s : State) : Nat := s.fld Reg.HK_BOOTSTAT_STATE

/-- Table 15-2's states that other rules name. -/
def bsHostWait : Nat := 7
def bsBackoff : Nat := 8
def bsHeld : Nat := 9
def bsBooted : Nat := 10
def bsHostOnly : Nat := 11
def bsRescue : Nat := 12
def bsListen : Nat := 13

/-- The device accepts a new stream from CFG_DATA (Table 15-1, R560, R561, R564). -/
def State.hostStreams (s : State) : Bool := !s.hk.cleaning && decide (7 ≤ s.bootState) && decide (s.bootState ≤ 12)

/-- A stream from CFG_DATA begins; in a boot state that waits for one it is the host attempt (R558, R560, R561). -/
def State.hostBegin (s : State) : State :=
  let s := s.cfgBegin srcData 0 0 0
  if s.bootState < 7 ∨ s.bootState = 10 ∨ 11 < s.bootState then s else { s with hk := { s.hk with attempt := 3 } }

/-- A write of `n` bytes to the CFG_DATA aperture (R509, R510). -/
def State.cfgDataWrite (s : State) (req addr n v : Nat) : State :=
  let c : Code :=
    if n % 4 ≠ 0 then .eArg
    else if s.fromNor then .eBusy
    else if s.cfgSrc = srcIdle ∧ !s.hostStreams then .eState
    else if 16384 < s.cfg.fifo.length + n / 4 then .eBusy
    else .ok
  let s :=
    if c ≠ .ok then s
    else
      let s := if s.cfgSrc = srcIdle then s.hostBegin else s
      s.setCfg { s.cfg with fifo := s.cfg.fifo ++ dataWords v n }
  (s.noteRefusal srcCfg (addr - Reg.CFG_CTL) req c).respond req addr c

/-- The stream of slot `k` starts (R539). -/
def State.slotBegin (s : State) (k : Nat) : State :=
  s.cfgBegin srcSlot k (s.fld (Reg.CFG_SLOTADDR_ADDR k))
    (if s.on (Reg.CFG_SLOT_SRC k) then 0 else s.fld (Reg.CFG_SLOTLEN_LEN k))

/-- PR_START of logical region `l` by slot `k` at its region tick (R536, R537): answers the outcome. -/
def State.prStart (s : State) (l k : Nat) : State × Code :=
  if s.cfgSrc ≠ srcIdle then (s, .eBusy)
  else match s.physicalOf l with
    | none => (s, .eArg)
    | some p =>
      if !s.on (Reg.CFG_SLOT_VALID k) then (s, .eArg)
      else if s.rstate p ≠ .running ∧ s.rstate p ≠ .frozen ∧ s.rstate p ≠ .held then (s, .eState)
      else
        let s := s.enterConfiguring p
        let s := s.slotBegin k
        (s.setCfg { s.cfg with brought := withBit s.cfg.brought p }, .ok)

/-- The host command ABORT (R528): CFG_SCODE keeps its value. -/
def State.cfgHostAbort (s : State) : State :=
  let s := if s.cfgSrc = srcIdle then s else s.cfgEnd (.ofNum (s.fld Reg.CFG_SCODE_CODE))
  s.returnRegions (2 ^ 24 - 1)

/-- A write to CFG_HCMD (Table 14-14). -/
def State.cfgHcmd (s : State) (req value : Nat) : State :=
  let cmd := bitsOf value 0 4
  let k := bitsOf value 12 4
  let c : Code :=
    match cmd with
    | 1 => .ok
    | 2 => if s.cfg.pr.isSome then .eBusy else .ok
    | 3 => if s.cfgSrc ≠ srcIdle then .eBusy else if !s.on (Reg.CFG_SLOT_VALID k) then .eArg else .ok
    | _ => .eArg
  let s :=
    if c ≠ .ok then s
    else match cmd with
      | 1 => s.cfgHostAbort
      | 2 => (s.setCfg { s.cfg with pr := some ⟨bitsOf value 4 5, k, s.now, req, s.tick.aligned⟩ }).tookAligned.setBit Reg.CFG_HCMDSTAT_PEND true
      | _ => s.slotBegin k
  s.cfgRecord req Reg.CFG_HCMD cmd c

/-- The host's PR_START takes effect at the present instant: at the first region tick of its region from the fourth tick on, or
while the tick is stopped (R536). -/
def State.prDue (s : State) (p : PrPend) : Bool :=
  !s.ticking || (s.alignedDue p.arrival && (match s.physicalOf p.region with
    | some r => s.regionTickAt r s.now
    | none => true))

/-- What R172 puts before the host's PR_START `p` at the present tick has acted: action entries, and a tick-aligned command of its
region that arrived before it. -/
def State.prTurn (s : State) (p : PrPend) : Bool :=
  !s.ticking || (match s.physicalOf p.region with
    | some r => (List.range 64).all (fun i => !s.actBefore r i) &&
        (match (s.rgn r).pend with
          | some q => !s.alignedDue q.arrival || decide (p.seq < q.seq)
          | none => true)
    | none => true)

/-- The host's PR_START acts (R536): its outcome replaces that of its acceptance. -/
def State.prEffect (s : State) : State :=
  match s.cfg.pr with
  | none => s
  | some p =>
    if !s.prDue p || !s.prTurn p then s
    else
      let s := (s.setCfg { s.cfg with pr := none }).setBit Reg.CFG_HCMDSTAT_PEND false
      let (s, c) := s.prStart p.region p.slot
      let s := ((s.setFld Reg.CFG_HCMDSTAT_CODE c.num).setFld Reg.CFG_HCMDSTAT_CMD 2).setFld Reg.CFG_HCMDSTAT_REQ p.req
      s.noteRefusal srcCfg (Reg.CFG_HCMD - Reg.CFG_CTL) p.req c

/-! ## Readback (R547) -/

/-- The shared target that takes its place in word `w` of frame (`col`, `minor`): the word is a select of one of its destinations
(R160). -/
def State.selectTarget (s : State) (r col minor w : Nat) : Option Nat :=
  if col ≠ 41 ∨ 64 ≤ w then none
  else if 26 ≤ minor ∧ 64 * (minor - 26) + w < 136 then s.targetOf r 4 ((64 * (minor - 26) + w) / 34)
  else if 29 ≤ minor ∧ minor < 156 ∧ w % 2 = 1 then
    let d := s.frame r 41 minor (w - 1)
    if hasBit d 31 && listDestOk d then s.targetOf r (rxClass d) (rxUnit d) else none
  else none

/-- Word `w` of a frame as it reads back (R160, R516, R547): a word with one flipped bit is corrected. -/
def State.readbackWord (s : State) (r col minor w : Nat) : Nat :=
  match s.selectTarget r col minor w with
  | some t => 15 * 2 ^ 18 + t * 2 ^ 10
  | none =>
    let k := frameKey r col minor w
    if w = 64 then s.frame r col minor 64 ^^^ zeroCrc
    else if flipCount (Tbl.get 0 s.frameMarks k) ≤ 1 then (Tbl.get (0 : Word) s.frames k).toNat
    else s.frame r col minor w

/-- A write to CFG_RBFAR. -/
def State.cfgReadback (s : State) (req value : Nat) : State :=
  let far := value % 2 ^ 22
  let (c, p) : Code × Nat :=
    if s.on Reg.CFG_CTL_RDBK_DIS || s.lcState == 2 then (.eLock, 0)
    else if !farOk far then (.eArg, 0)
    else match s.physicalOf (farRegion far) with
      | none => (.eArg, 0)
      | some p => if s.rstate p = .off then (.eState, 0) else (.ok, p)
  let s := (s.setFld Reg.CFG_RBSTAT_CODE c.num).setBit Reg.CFG_RBSTAT_VALID (c == .ok)
  let s :=
    if c ≠ .ok then s
    else
      let s := s.setFld Reg.CFG_RBFAR_FAR far
      (List.range 65).foldl (fun s w => s.setFld (Reg.CFG_RBDATA_DATA w) (s.readbackWord p (farCol far) (farMinor far) w)) s
  s.cfgRecord req Reg.CFG_RBFAR 0 c

end Sys2Proof.Machine
end

