-- ==== Sys2Proof/Machine/Region.lean ====
section
/-! DEFINITION. The meanings of the region commands (chapter 4), of what completes in a region's wave (chapter 2), and of the
action entries that act on regions and engines. -/

namespace Sys2Proof.Machine

/-! ## Region commands (Table 4-14) -/

/-- A write of command `cmd` to REG_CMD of region `r`. -/
def State.regionCmd (s : State) (req r cmd : Nat) : State := if validRegion r then s.regionCmdWrite req r cmd else s

/-- REG_CMD_POWER_ON (R169). -/
def execRegCmdPowerOn (req r : Nat) (s : State) : Answer := answer s (s.regionCmd req r cmdPowerOn)

/-- REG_CMD_POWER_OFF (R20). -/
def execRegCmdPowerOff (req r : Nat) (s : State) : Answer := answer s (s.regionCmd req r cmdPowerOff)

/-- REG_CMD_START (R168, R170). -/
def execRegCmdStart (req r : Nat) (s : State) : Answer := answer s (s.regionCmd req r cmdStart)

/-- REG_CMD_STOP (R168, R170). -/
def execRegCmdStop (req r : Nat) (s : State) : Answer := answer s (s.regionCmd req r cmdStop)

/-- REG_CMD_RESET (R168). -/
def execRegCmdReset (req r : Nat) (s : State) : Answer := answer s (s.regionCmd req r cmdReset)

/-- REG_CMD_ISOLATE (R166). -/
def execRegCmdIsolate (req r : Nat) (s : State) : Answer := answer s (s.regionCmd req r cmdIsolate)

/-- REG_CMD_UNISOLATE (R171). -/
def execRegCmdUnisolate (req r : Nat) (s : State) : Answer := answer s (s.regionCmd req r cmdUnisolate)

/-- REG_CMD_CLEAR (R200). -/
def execRegCmdClear (req r : Nat) (s : State) : Answer := answer s (s.regionCmd req r cmdClear)

/-- REGION_POWER_RAMP_DONE (R169, R334): the region leaves OFF. -/
def execRegionPowerRampDone (r : Nat) (s : State) : Answer :=
  answer s (
    if validRegion r && s.on (Reg.REG_STATUS_PEND r) then
      let s := s.setBit (Reg.REG_STATUS_PEND r) false
      if (s.rgn r).failed then s.enterState r .failed else s.enterBlank r
    else s)

/-! ## What is due at a tick boundary (R172) -/

/-- A PR_START of the host is due in region `r` at the present tick (R536). -/
def State.prDueFor (s : State) (r : Nat) : Bool :=
  match s.cfg.pr with
  | some p => s.ticking && s.physicalOf p.region == some r && s.prDue p
  | none => false

/-- Something that R172 puts before the boundary commands of region `r` is due at the present tick. -/
def State.dueFor (s : State) (r : Nat) : Bool :=
  s.pendDue r .start || s.pendDue r .stop || s.pendDue r .resume || s.prDueFor r || (List.range 64).any (s.actBefore r)

/-- The pending command of region `r` is of kind `k`, and acts now: what R172 puts before it has acted. -/
def State.pendGoes (s : State) (r : Nat) (k : TickCmd) : Bool :=
  s.pendDue r k && (List.range 64).all (fun i => !s.actBefore r i) &&
    !(s.prDueFor r && (match s.cfg.pr, (s.rgn r).pend with
      | some p, some q => decide (p.seq < q.seq)
      | _, _ => false))

/-- Something is due at the present tick that has not acted: the tick goes on until it has (R81, R168, R172, R260). -/
def State.anyDue (s : State) : Bool :=
  (List.range 64).any s.actTodo || (List.range 24).any s.dueFor ||
    (match s.cfg.pr with
      | some p => s.ticking && s.prDue p
      | none => false) ||
    (List.range 96).any (fun e => (s.eng e).sched.any (fun q => q.2.1 == s.now))

/-- The boundary commands that were held back for what comes before them act once nothing does any more (R172). -/
def State.releaseHeld (s : State) : State :=
  (List.range 24).foldl (fun s r => if (s.rgn r).held && !s.dueFor r then s.applyBoundary r else s) s

/-- A FROZEN region's tick waits for a RESUME, or for a START or an entry that acts as one, that is due at it (R62). -/
def State.resumeDue (s : State) (r : Nat) : Bool :=
  s.rstate r == .frozen &&
    (s.pendDue r .start || s.pendDue r .resume ||
      (List.range 64).any (fun i => s.actUnderWay i 2 && hasBit (s.actWork i).remaining r && s.regionTickAt r s.now))

/-! ## Waves -/

/-- NULL_WAVE_COMPLETE (R47, R98): the region presents the captured state and the sampled tokens. -/
def execNullWaveComplete (r : Nat) (s : State) : Answer :=
  answer s (if validRegion r && (s.rgn r).phase == .nullWave then s.setRgn r { s.rgn r with phase := .evaluating } else s)

/-- Every engine of region `r` presents window-done for the next region tick: no task whose window ends there is outstanding
where the check is on (R51, R264). -/
def State.windowDone (s : State) (r : Nat) : Bool :=
  (List.range 4).all (fun k => !s.on (Reg.ENG_DBG_WINCHK r k) ||
    (s.eng (4 * r + k)).tasks.all (fun t => t.ended || !reached t.due (s.nextRegionTick r)))

/-- A task whose missed window made the region tick at tick `m` of region `r` an overrun is outstanding still (R264). -/
def State.missedLeft (s : State) (r m : Nat) : Bool :=
  (List.range 4).any (fun k => s.on (Reg.ENG_DBG_WINCHK r k) &&
    (s.eng (4 * r + k)).tasks.any (fun t => t.ended && decide ((m + 2 ^ 64 - t.due) % 2 ^ 64 < s.tdiv r)))

/-- A wave of region `r` runs on to DONE: in RUNNING, and in FROZEN the wave that was in progress (R57, R62). -/
def State.waveRuns (s : State) (r : Nat) : Bool := s.rstate r == .running || s.rstate r == .frozen

/-- The done tree of region `r` reports DONE now: its wave is complete, or the engines that missed their windows are done at last in a
wave that was complete before (R51, R264). -/
def State.doneComes (s : State) (r : Nat) : Bool :=
  s.waveRuns r && s.windowDone r && (s.rgn r).ovrOpen.all (fun m => !s.missedLeft r m) &&
    match (s.rgn r).phase with
    | .evaluating => s.fabricDone r
    | .done => (s.rgn r).ovrOpen.isSome
    | _ => false

/-- The slack of an overrun is known at the DONE that comes `at5ps` after its region tick, once the engines that missed their windows
are done too (R53, R63). -/
def State.overrunDone (s : State) (r at5ps : Nat) : State :=
  match (s.rgn r).ovrOpen with
  | some m =>
    if s.missedLeft r m then s
    else (s.setRgn r { s.rgn r with ovrOpen := none }).recordOverrun r m (-(at5ps : Int))
  | none => s

/-- REGION_DONE (R47, R49–R53, R62): the region done tree reports DONE `at5ps` after the latest region tick. -/
def execRegionDone (r at5ps : Nat) (s : State) : Answer :=
  answer s (
    if validRegion r && s.doneComes r then
      let x := s.rgn r
      let s := if x.phase = .done then s else s.setRgn r { x with phase := .done, doneAt := at5ps }
      s.overrunDone r at5ps
    else s)

/-! ## Tick-aligned commands at their region tick -/

/-- REGION_START_EFFECT (R168, R180, R540). -/
def execRegionStartEffect (r : Nat) (s : State) : Answer :=
  answer s (
    if s.pendGoes r .start then
      let req := (s.rgn r).pend.elim 0 (·.req)
      let (s, c) := (s.clearPend r).startEffect r
      (s.regionRefuse r cmdStart req c).releaseHeld
    else s)

/-- REGION_STOP_EFFECT (R168). -/
def execRegionStopEffect (r : Nat) (s : State) : Answer :=
  answer s (
    if s.pendGoes r .stop then
      let req := (s.rgn r).pend.elim 0 (·.req)
      let (s, c) := (s.clearPend r).stopEffect r
      (s.regionRefuse r cmdStop req c).releaseHeld
    else s)

/-- REGION_RESUME_EFFECT (R62). -/
def execRegionResumeEffect (r : Nat) (s : State) : Answer :=
  answer s (
    if s.pendGoes r .resume then
      let req := (s.rgn r).pend.elim 0 (·.req)
      let s := s.clearPend r
      (if s.rstate r = .frozen then s.resumeTick r
        else s.noteRefusal srcTick (Reg.TR_CTL r - Reg.TICK_CTL) req .eState).releaseHeld
    else s)

/-! ## Action entries on regions and engines -/

/-- The requester ID of the action table. -/
def reqAction : Nat := 0x13

/-- An entry's refusal by a region is logged and names it (R683). -/
def State.actRefusal (s : State) (r : Nat) (c : Code) : State := s.noteRefusal (srcRegion r) 0 reqAction c

/-- ACT_REGION_START (R683): START, or RESUME for a FROZEN region. -/
def execActRegionStart (i : Nat) (s : State) : Answer :=
  answer s (
    if s.actGoes i 2 then
      (s.actRegions i (fun s r =>
        let (s, c) := s.startEffect r
        (s.actRefusal r c, c))).releaseHeld
    else s)

/-- ACT_REGION_STOP (R683). -/
def execActRegionStop (i : Nat) (s : State) : Answer :=
  answer s (
    if s.actGoes i 3 then
      (s.actRegions i (fun s r =>
        let (s, c) := s.stopEffect r
        (s.actRefusal r c, c))).releaseHeld
    else s)

/-- A TARANTELLA entry acts on region `r` (R73, R74): LEVEL and EN, in force from this region tick. -/
def State.tarEntry (s : State) (i r : Nat) : State × Code :=
  let a := s.fld (Reg.ACT_ARG1_ARG i)
  let level := a % 32
  if hasBit a 8 && s.rstate r != .running then (s, .eState)
  else
    let s := s.setFld (Reg.TAR_CTL_LEVEL r) level
    if hasBit a 8 then
      let s := s.setBit (Reg.TAR_CTL_EN r) true
      (s.setRgn r { s.rgn r with tarLevel := level }, .ok)
    else (s.tarOff r, .ok)

/-- ACT_TARANTELLA (R73, R683). -/
def execActTarantella (i : Nat) (s : State) : Answer :=
  answer s (
    if s.actGoes i 8 then
      (s.actRegions i (fun s r =>
        let (s, c) := s.tarEntry i r
        (s.actRefusal r c, c))).releaseHeld
    else s)

/-- ACT_ENGINE_TASK (R260): the task is released at the target tick. -/
def execActEngineTask (i : Nat) (s : State) : Answer :=
  answer s (
    if s.actReady i 5 then
      let e := s.fld (Reg.ACT_ARG0_ARG i)
      let (s, c) := s.engRelease e (s.fld (Reg.ACT_ARG1_ARG i))
      (s.noteRefusal (srcEngine e) 0x30000 reqAction c).actDone i c
    else s)

end Sys2Proof.Machine
end

