-- ==== Sys2Proof/Machine/Tick.lean ====
section
/-! DEFINITION. The meanings of the tick unit's commands and events that touch the tick unit alone (chapter 2). -/

namespace Sys2Proof.Machine

/-- TICK_START (R38, R682). -/
def execTickStart (req : Nat) (startOnSync : Bool) (s : State) : Answer := answer s (s.tickStart req startOnSync)

/-- TICK_STOP (R42). -/
def execTickStop (req : Nat) (startOnSync : Bool) (s : State) : Answer := answer s (s.tickStop req startOnSync)

/-- A write of the whole of TICK_COUNT (R40, R84). -/
def State.tickCountWrite (s : State) (req value : Nat) : State :=
  if s.tickIdle then ((s.setFld Reg.TICK_COUNT_COUNT value).actRecheck).tickRecord req Reg.TICK_COUNT .ok
  else s.tickRecord req Reg.TICK_COUNT .eState

/-- TICK_COUNT_WRITE (R40, R84). -/
def execTickCountWrite (req : Nat) (value : BitVec 64) (s : State) : Answer := answer s (s.tickCountWrite req value.toNat)

/-- PLL_RELOCK (R43): the slot PLL is locked to REFCLK again. -/
def execPllRelock (s : State) : Answer := answer s (s.setBit Reg.TICK_STATUS_PLL_LOCK true)

/-- SLACK_WINDOW_END (R54, R55): once at the tick that ends a window. -/
def execSlackWindowEnd (r : Nat) (s : State) : Answer :=
  answer s (if validRegion r && s.ticking && s.windowEndsAt r s.now && (s.rgn r).winEnd != some s.now then s.endWindow r
    else s)

/-- TR_CTL_WRITE (R45): TDIV, PHASE and the other fields beside RESUME. -/
def execTrCtlWrite (req r : Nat) (value : BitVec 32) (s : State) : Answer :=
  answer s (if validRegion r then s.trCtlWrite req r (withoutBit value.toNat 16) else s)

/-- REGION_RESUME (R62): a write of TR_CTL with RESUME = 1. -/
def execRegionResume (req r : Nat) (value : BitVec 32) (s : State) : Answer :=
  answer s (if validRegion r then s.trCtlWrite req r (withBit value.toNat 16) else s)

/-- TR_CLR_OVERRUN_COUNTERS (R56). -/
def execTrClrOverrunCounters (req r : Nat) (s : State) : Answer :=
  answer s (if validRegion r then s.trClrWrite req r 1 else s)

/-- TR_CLR_HISTOGRAM (R55). -/
def execTrClrHistogram (req r : Nat) (s : State) : Answer := answer s (if validRegion r then s.trClrWrite req r 2 else s)

/-- TR_CLR_SLK_MIN_ALL (R54). -/
def execTrClrSlkMinAll (req r : Nat) (s : State) : Answer := answer s (if validRegion r then s.trClrWrite req r 4 else s)

/-- The voltage loop runs: enabled, in LOOP, and not stopped by failed frames (R65, R70). -/
def State.loopRuns (s : State) : Bool := s.on Reg.AVS_CTL_EN && !s.on Reg.AVS_CTL_MODE && !s.tick.avs.stopped

/-- AVS_INTERVAL (R65–R68, R71). -/
def execAvsInterval (s : State) : Answer := answer s (if s.loopRuns then s.avsInterval else s)

/-- AVS_FRAME_RESPONSE (R70). -/
def execAvsFrameResponse (good : Bool) (s : State) : Answer := answer s (s.avsResponse good)

/-- AVS_CTL_WRITE (R70, R72). -/
def execAvsCtlWrite (req : Nat) (value : BitVec 32) (s : State) : Answer := answer s (s.avsCtlWrite req value.toNat)

/-- AVS_VSET_WRITE (R72). -/
def execAvsVsetWrite (req : Nat) (value : BitVec 32) (s : State) : Answer := answer s (s.avsVsetWrite req value.toNat)

/-- TARANTELLA_CTL_WRITE (R73, R74). -/
def execTarantellaCtlWrite (req r : Nat) (value : BitVec 32) (s : State) : Answer :=
  answer s (if validRegion r then s.tarCtlWrite req r value.toNat else s)

/-- TARANTELLA_TIMEOUT (R74): after TMAX ms of continuous running. -/
def execTarantellaTimeout (r : Nat) (s : State) : Answer :=
  answer s (if validRegion r && s.on (Reg.TAR_CTL_EN r) then (s.tarOff r).setBit (Reg.TAR_CTL_TIMEOUT r) true else s)

/-- TR_FLOOR_WRITE (R76): FLOOR, without LOCK. -/
def execTrFloorWrite (req r : Nat) (value : BitVec 32) (s : State) : Answer :=
  answer s (if validRegion r then s.trFloorWrite req r (withoutBit value.toNat 16) else s)

/-- TR_FLOOR_LOCK (R76): a write of TR_FLOOR with LOCK = 1. -/
def execTrFloorLock (req r : Nat) (value : BitVec 32) (s : State) : Answer :=
  answer s (if validRegion r then s.trFloorWrite req r (withBit value.toNat 16) else s)

/-- The offsets of an action entry's registers (Table 2-14). -/
def actOffset (off : Nat) : Bool := [0, 4, 8, 0x10, 0x14, 0x18].contains off

/-- ACTION_ENTRY_WRITE (R80). -/
def execActionEntryWrite (req i off : Nat) (value : BitVec 64) (s : State) : Answer :=
  answer s (if i < 64 && actOffset off then
      s.actWrite req i off (if off = 0 then withoutBit (withoutBit value.toNat 0) 1 else value.toNat)
    else s)

/-- ACTION_ARM (R77, R78, R80). -/
def execActionArm (req i : Nat) (value : BitVec 32) (s : State) : Answer :=
  answer s (if i < 64 then s.actWrite req i 0 (withBit (withoutBit value.toNat 1) 0) else s)

/-- ACTION_CANCEL (R79). -/
def execActionCancel (req i : Nat) (value : BitVec 32) (s : State) : Answer :=
  answer s (if i < 64 then s.actWrite req i 0 (withBit value.toNat 1) else s)

/-- The response to the write that entry `i` issued into the network, if it has arrived (R83). -/
def State.actResponse (s : State) (i : Nat) : Option NetDone :=
  s.net.done.find? (fun d => d.node == hkNode && d.rid == 0x13 && d.ref == i)

/-- ACT_REG_WRITE_RESPONSE (R83): the response to a write issued into the network. -/
def execActRegWriteResponse (i : Nat) (s : State) : Answer :=
  answer s (
    match s.actResponse i with
    | some d =>
      let s := { s with net := { s.net with done := s.net.done.erase d } }
      if s.actType i == 1 && s.actState i == .issued then s.actFinish i d.code else s
    | none => s)

/-- ACT_FLAG_PULSE (R82, Table 2-16). -/
def execActFlagPulse (i : Nat) (s : State) : Answer :=
  answer s (if s.actReady i 6 then
      let p : FlagPulse := ⟨i, s.fld (Reg.ACT_ARG0_ARG i), s.fld (Reg.ACT_ARG1_ARG i) + 1, s.now⟩
      ({ s with tick := { s.tick with flags := s.tick.flags ++ [p] } }).actDone i .ok
    else s)

/-- The pulse may end now: its width in ticks has passed, and no less than 25.6 ns lie in the ticks since its rise (R82).
With the tick stopped the ticks no longer measure it. -/
def State.flagMayEnd (s : State) (p : FlagPulse) : Bool :=
  let gone := (s.now + 2 ^ 64 - p.rise) % 2 ^ 64
  !s.ticking || (decide (p.width ≤ gone) && decide (25600 ≤ (gone + 1) * s.slots * 800))

/-- Remove the first pulse of entry `i`, if it may end. -/
def dropPulse (mayEnd : FlagPulse → Bool) (i : Nat) : List FlagPulse → List FlagPulse
  | [] => []
  | p :: t => if p.entry = i then if mayEnd p then t else p :: t else p :: dropPulse mayEnd i t

/-- FLAG_PULSE_END (R82). -/
def execFlagPulseEnd (i : Nat) (s : State) : Answer :=
  answer s { s with tick := { s.tick with flags := dropPulse s.flagMayEnd i s.tick.flags } }

/-- A write of TICK_SYNC_CTL: ARM arms the next edge, SEEN and IGNORED are cleared by 1 (R85, Table 2-18). -/
def State.syncCtlWrite (s : State) (req value : Nat) : State :=
  let s := if hasBit value 0 then (s.setBit Reg.TICK_SYNC_CTL_ARM true).setBit Reg.TICK_SYNC_CTL_ARMED true else s
  let s := if hasBit value 2 then s.setBit Reg.TICK_SYNC_CTL_SEEN false else s
  let s := if hasBit value 3 then s.setBit Reg.TICK_SYNC_CTL_IGNORED false else s
  s.tickRecord req Reg.TICK_SYNC_CTL .ok

/-- TICK_SYNC_ARM (R85). -/
def execTickSyncArm (req : Nat) (s : State) : Answer := answer s (s.syncCtlWrite req 1)

/-- A sync edge, as sampled (R85–R87). Once RUN = 1 has been written the tick counts as not stopped, before its first boundary too:
DESIGN CHOICE (log entry 48). -/
def State.syncEdge (s : State) : State :=
  if !s.on Reg.TICK_SYNC_CTL_ARMED then s
  else if s.tickIdle && s.on Reg.TICK_CTL_START_ON_SYNC && s.on Reg.TICK_STATUS_PLL_LOCK then
    let s := (s.setBit Reg.TICK_SYNC_CTL_ARMED false).setBit Reg.TICK_SYNC_CTL_ARM false
    { s with tick := { s.tick with syncLoad := true } }
  else (s.setBit Reg.TICK_SYNC_CTL_IGNORED true).raise srcTick .notice 0x68 0

/-- TICK_SYNC_EDGE (R85, R87). -/
def execTickSyncEdge (s : State) : Answer := answer s s.syncEdge

/-- A beacon mismatch or miss of peer port `p` (R88): the port's bit, an incident of severity FAULT, and the alarm. -/
def State.beaconFault (s : State) (p : Nat) (miss : Bool) : State :=
  let s := if miss then s.setBitOf Reg.TICK_BCN_STATUS_MISS p else s.setBitOf Reg.TICK_BCN_STATUS_MISMATCH p
  (s.raise srcTick .fault 0x69 (p + 256 * bit miss)).setAlarm

/-- The beacon of peer port `p` is overdue: 65,536 + D + 16 ticks after the previous one (R88). The ticks are counted from the
previous beacon's arrival, and there is no miss before the first beacon: DESIGN CHOICE (log entry 47). -/
def State.beaconOverdue (s : State) (p : Nat) : Bool :=
  let last := Tbl.get 0 s.tick.lastBeacon p
  match s.peerHead p with
  | some n => last != 0 && decide (65536 + s.fld (Reg.LG_DOFS_D (n / 8)) + 16 ≤ (s.now + 2 ^ 64 + 1 - last) % 2 ^ 64)
  | none => false

/-- BEACON_MISS (R88). -/
def execBeaconMiss (p : Nat) (s : State) : Answer :=
  answer s (if p < 7 && s.ticking && s.on Reg.TICK_BCN_STATUS_BCN_EN && s.beaconOverdue p then
      let s := { s with tick := { s.tick with
        lastBeacon := Tbl.put 0 s.tick.lastBeacon p (Tbl.get 0 s.tick.lastBeacon p + 65536) } }
      s.beaconFault p true
    else s)

/-- TICK_MARK_PULSE_END (R89): the pulse ends after WIDTH REFCLK periods. -/
def execTickMarkPulseEnd (s : State) : Answer := answer s { s with tick := { s.tick with markHigh := false } }

end Sys2Proof.Machine
end

