-- ==== Sys2Proof/Machine/Boundary.lean ====
section
/-! DEFINITION. The tick boundary: the end of a tick and the beginning of the next, the stop and the start of the tick (R37–R48,
R85, R172). -/

namespace Sys2Proof.Machine

/-- The time of a tick, in units of 5 ps. -/
def State.tickTime (s : State) : Nat := s.slots * 160

/-- The tick that ends enters the time since each region's latest region tick, and the counter advances (R39). -/
def State.endTick (s : State) : State :=
  let t := s.tickTime
  let s := (List.range 24).foldl (fun s r =>
    if s.rstate r == .running || s.rstate r == .frozen then s.setRgn r { s.rgn r with elapsed := (s.rgn r).elapsed + t } else s) s
  s.setFld Reg.TICK_COUNT_COUNT ((s.now + 1) % 2 ^ 64)

/-- What the boundary reports of region `r`, FROZEN, whose region tick is that of a RESUME (R62, R68, R131). -/
def State.awaitResume (s : State) (r : Nat) (env : BoundaryInputs) : State :=
  let s := s.tecTick r env.tec
  s.setRgn r { s.rgn r with late := (env.late.filter (fun b => b.1 == r)).map (·.2) }

/-- Every region whose region tick this is has it, but for a FROZEN one that a RESUME is about to start again (R44, R62). -/
def State.regionTicks (s : State) (env : BoundaryInputs) : State :=
  let old := s
  ((List.range 24).foldl (fun s r =>
    if !old.regionTickAt r old.now then s
    else if old.resumeDue r then s.awaitResume r env
    else s.regionTick old r env) s).spineSnaps

/-- TICK_MARK rises at a tick whose number is a multiple of 2^MLOG (R89). -/
def State.markTick (s : State) : State :=
  if s.on Reg.TICK_MARK_CTL_EN && s.now % 2 ^ s.fld Reg.TICK_MARK_CTL_MLOG == 0 then
    { s with tick := { s.tick with markHigh := true } }
  else s

/-- Entry `i` is due at the present tick, and none of its regions has a region tick at it (R683). -/
def State.actWaits (s : State) (i : Nat) : Bool :=
  ([2, 3, 8].any (fun t => s.actDueNow i t) &&
      !(List.range 24).any (fun r => hasBit (s.actWork i).remaining r && s.regionTickAt r s.now)) ||
    (s.actDueNow i 4 && (match s.physicalOf (s.fld (Reg.ACT_ARG0_ARG i)) with
      | some r => !s.regionTickAt r s.now
      | none => false))

/-- An entry that is performed after its target tick shows ISSUED from that tick (R683). -/
def State.actIssue (s : State) : State :=
  (List.range 64).foldl (fun s i =>
    if s.actWaits i then (s.actSet i .issued .ok).setActWork i (s.actWork i) else s) s

/-- The commands that waited for the boundary act, each region's after what R172 puts before them. -/
def State.boundaryCmds (s : State) : State :=
  (List.range 24).foldl (fun s r =>
    if (s.rgn r).boundary.isEmpty then s
    else if s.dueFor r then s.setRgn r { s.rgn r with held := true }
    else s.applyBoundary r) s

/-- A tick begins with the number that TICK_COUNT holds. -/
def State.beginTick (s : State) (env : BoundaryInputs) : State :=
  ((((((s.setBalls env.balls).regionTicks env).markTick).actIssue).boundaryCmds).bankBoundary).beacons

/-- The time since a FROZEN region's latest region tick once the tick has stopped: beyond what the meter can record, so that
the slack it records at a RESUME is open (assumption 6). -/
def unmeasured : Nat := 2 ^ 40

/-- The tick stops at this boundary: no tick begins (R42, R168). -/
def State.stopTicks (s : State) : State :=
  let s := s.setBit Reg.TICK_STATUS_RUNNING false
  let s := (List.range 24).foldl (fun s r => s.pendAtStop r) s
  let s := (List.range 24).foldl (fun s r =>
    if s.rstate r == .frozen then s.setRgn r { s.rgn r with elapsed := unmeasured } else s) s
  let s := { s with tick := { s.tick with stopPending := false, starting := s.tick.restart, restart := false } }
  (s.boundaryCmds).bankBoundary

/-- The first tick of a start begins (R38, R85). -/
def State.firstTick (s : State) (env : BoundaryInputs) : State :=
  let s := { s with tick := { s.tick with starting := false } }
  ((s.setBit Reg.TICK_STATUS_RUNNING true).markCheck).beginTick env

/-! ## Clean state (R557) -/

/-- Region `r` is taken to BLANK, unless it is OFF or FAILED. -/
def State.cleanRegion (s : State) (r : Nat) : State :=
  let s := match s.rstate r with
    | .running | .frozen | .held => s.regionApply r cmdReset
    | .configuring => s.regionApply r cmdIsolate
    | _ => s
  match s.rstate r with
  | .held | .isolated => s.regionApply r cmdClear
  | _ => s

/-- Clean state, at a tick boundary or while the tick is stopped: regions BLANK, the tick stopped, CFG_REGMAP the identity. -/
def State.cleanNow (s : State) : State :=
  let s := { s with hk := { s.hk with cleaning := false } }
  let s := (List.range 24).foldl State.cleanRegion s
  let s := s.setBit Reg.TICK_CTL_RUN false
  let s := { s with tick := { s.tick with starting := false, restart := false, syncLoad := false } }
  let s := if s.ticking then s.stopTicks else s
  let s := (List.range 24).foldl (fun s l => s.wr (Reg.CFG_REGMAP l) (resetOf (Reg.CFG_REGMAP l))) s
  (List.range 24).foldl State.lmapFollow s

/-- Housekeeping asks for a clean state: its region commands act at the next tick boundary while the tick runs (R165). -/
def State.cleanState (s : State) : State := if s.ticking then { s with hk := { s.hk with cleaning := true } } else s.cleanNow

/-- TICK_BOUNDARY (R39, R42, R172), once all that is due at the present tick has acted. -/
def execTickBoundary (env : BoundaryInputs) (s : State) : Answer :=
  answer s (
    if !s.ticking || s.anyDue then s
    else if s.hk.cleaning then s.endTick.cleanNow
    else if s.tick.stopPending then s.endTick.stopTicks
    else s.endTick.beginTick env)

/-- TICK_FIRST_BOUNDARY (R38, R682). A stop that was accepted before it takes effect at it. -/
def execTickFirstBoundary (env : BoundaryInputs) (s : State) : Answer :=
  answer s (
    if s.ticking || !s.tick.starting then s
    else if s.tick.stopPending then s.stopTicks
    else s.firstTick env)

/-- TICK_SYNC_LOAD (R84, R85). RUN becomes 1 with the start: DESIGN CHOICE (log entry 50). -/
def execTickSyncLoad (env : BoundaryInputs) (s : State) : Answer :=
  answer s (
    if !s.tick.syncLoad then s
    else
      let s := { s with tick := { s.tick with syncLoad := false } }
      if s.ticking then s
      else
        let s := s.setFld Reg.TICK_COUNT_COUNT (s.fld Reg.TICK_SYNC_LOAD_LOAD)
        let s := (s.setBit Reg.TICK_SYNC_CTL_SEEN true).setBit Reg.TICK_CTL_RUN true
        (s.actRecheck).firstTick env)

/-- PLL_LOCK_LOST (R43), once all that is due at the present tick has acted. A loss while a start is scheduled is treated like one while
the tick runs, and a scheduled load is dropped: DESIGN CHOICE (log entry 51). -/
def execPllLockLost (s : State) : Answer :=
  answer s (
    if s.anyDue then s else
    let runs := s.ticking || s.tick.starting
    let s := s.setBit Reg.TICK_STATUS_PLL_LOCK false
    let s := { s with tick := { s.tick with syncLoad := false } }
    if !runs then s
    else
      let s := (s.setBit Reg.TICK_STATUS_PLL_LOST true).raise srcTick .fatal 0x65 0
      let s := if s.ticking then s.endTick else s
      let s := (List.range 24).foldl (fun s r => if s.rstate r == .running then s.freezePolicy r else s) s
      let s := (s.setBit Reg.TICK_CTL_RUN false).stopTicks
      { s with tick := { s.tick with starting := false } })

end Sys2Proof.Machine
end

