-- ==== Sys2Proof/Machine/JournalOps.lean ====
section
/-! DEFINITION. The settings journal: records, their place in the NOR, the hold-up check, stores (chapter 15). -/

namespace Sys2Proof.Machine

/-! ## Incidents and records -/

/-- The BOOT event (Tables 18-4 and 15-12): what happened, its status, the NOR address where one applies. -/
def State.bootEvent (s : State) (what : Nat) (c : Code) (addr : Nat) : State :=
  let sev : Sev := match what with
    | 1 => .notice
    | 2 | 6 | 7 => .degraded
    | 4 => .info
    | _ => .fault
  s.raise srcHk sev 0x6C (what + c.num * 2 ^ 4 + addr * 2 ^ 32)

/-- The state with housekeeping changed. -/
def State.setHk (s : State) (x : HkSt) : State := { s with hk := x }

/-- The fields of a record (Table 15-7). -/
def recType (v : Nat) : Nat := v % 2 ^ 8
def recSeq (v : Nat) : Nat := bitsOf v 32 32
def recByte (v i : Nat) : Nat := bitsOf v (8 * i) 8

/-- The key of a record: TYPE, DEVID, PART, in rising order (R567). -/
def recKey (v : Nat) : Nat := recType v * 64 + bitsOf v 8 3 * 8 + bitsOf v 11 3

/-- The key of a type, device and part. -/
def keyOf (type dev part : Nat) : Nat := type * 64 + dev * 8 + part

/-- A page that is blank, dead or a valid record (R566). -/
def pageBlank (v : Nat) : Bool := v == blankPage
def recValid (v : Nat) : Bool :=
  decide (1 ≤ recType v) && decide (recType v ≤ 4) && bitsOf v 16 16 == 1 &&
    (recType v == 2 || bitsOf v 11 3 == 0) && crc32c (v % 2 ^ 2016) 252 == bitsOf v 2016 32

/-- A record of bytes 0–3 and 8–251 of `v` with sequence number `seq`, CRC filled in (Table 15-9). -/
def recMake (v seq : Nat) : Nat :=
  let b := v % 2 ^ 32 + seq % 2 ^ 32 * 2 ^ 32 + bitsOf v 64 1952 * 2 ^ 64
  b + crc32c b 252 * 2 ^ 2016

/-- SEQ `a` is later than `b`, modulo 2^32 (R567, R372). -/
def seqLater (a b : Nat) : Bool :=
  let d := (a + 2 ^ 32 - b) % 2 ^ 32
  d != 0 && decide (d < 2 ^ 31)

/-- Page `p` (0–511) of the two journal sectors, as this device has read it: a listener knows what it has heard (R563). -/
def State.journalPage (s : State) (p : Nat) : Nat :=
  if s.listener then Tbl.get blankPage s.hk.heard p else s.norPage p

/-- The valid records of the journal with their pages; on a listener, its own (R563). -/
def State.records (s : State) : List (Nat × Nat) :=
  let pages := if s.listener then s.hk.heard else s.nor
  pages.filter (fun e => decide (e.1 < 512) && recValid e.2 && (!s.listener || bitsOf e.2 8 3 == s.devid))

/-- The latest record among some. -/
def latestOf : List (Nat × Nat) → Option (Nat × Nat)
  | [] => none
  | e :: t => match latestOf t with
    | some f => if seqLater (recSeq e.2) (recSeq f.2) then some e else some f
    | none => some e

/-- The record in force of a key, with its page (R567). -/
def State.inForce (s : State) (k : Nat) : Option (Nat × Nat) := latestOf (s.records.filter (fun e => recKey e.2 == k))

/-- The SEQ of the next record (R567). -/
def State.nextSeq (s : State) : Nat :=
  match latestOf s.records with
  | some e => (recSeq e.2 + 1) % 2 ^ 32
  | none => 1

/-- The active sector (R569). -/
def State.activeSector (s : State) : Nat :=
  match latestOf s.records with
  | some e => e.1 / 256
  | none => 0

/-- The pages of a sector up to its last page that is not blank. -/
def State.usedPages (s : State) (sector : Nat) : Nat :=
  ((List.range 256).reverse.find? (fun i => !pageBlank (s.journalPage (256 * sector + i)))).elim 0 (· + 1)

/-- The page of the active sector for the next store: after a chip reset, one page is passed over (R569). -/
def State.storePage (s : State) : Nat :=
  match s.hk.next with
  | some n => n
  | none => s.usedPages s.activeSector + 1

/-- A page of the NOR takes the value `v`. -/
def State.setNor (s : State) (p v : Nat) : State := { s with nor := Tbl.put blankPage s.nor p v }

/-! ## Bodies (Table 15-8) -/

/-- Bytes `i` and on of a number placed in a record. -/
def at_ (i x : Nat) : Nat := x * 2 ^ (8 * i)

/-- The head of a record of this device. -/
def State.recHead (s : State) (type part : Nat) : Nat := type + at_ 1 (s.devid + part * 8) + at_ 2 1

/-- The BOOTCOUNT record after a success or a failed round (R559). -/
def State.bootCountRec (s : State) (booted : Bool) : Nat :=
  let old := (s.inForce (keyOf 4 s.devid 0)).elim 0 (fun e => bitsOf e.2 64 32)
  let boots := if booted then min (2 ^ 32 - 1) (old + 1) else old
  s.recHead 4 0 + at_ 8 boots + at_ 12 (s.fld Reg.HK_BOOTCNT_ATTEMPTS) +
    at_ 14 (s.fld Reg.HK_BOOTSTAT_SRC + s.fld Reg.HK_BOOTSTAT_FAILCODE * 2 ^ 4)

/-- The spares of a class that a region has. -/
def spareCount (kind : Nat) : Nat := (sparesOf kind).length

/-- The retired positions of a class in region `r`. -/
def State.classFailed (s : State) (r kind : Nat) : List Nat :=
  (s.selfTest.map.filter (fun e => e.1 == r && e.2.1 == kind)).map (·.2.2)

/-- Some class of region `r` holds more retired positions than it has spares, or the region is marked as a whole (R603, R604). -/
def State.overFailed (s : State) (r : Nat) : Bool :=
  !(s.classFailed r 3).isEmpty || [0, 1, 2].any (fun k => decide (spareCount k < (s.classFailed r k).length))

/-- Insert into a rising list. -/
def insertNat (x : Nat) : List Nat → List Nat
  | [] => [x]
  | y :: t => if x ≤ y then x :: y :: t else y :: insertNat x t

/-- The FAILMAP entries of this device in their order (R603), as Table 15-8 codes them. -/
def State.failEntries (s : State) : List Nat :=
  (List.range 24).flatMap (fun r =>
    if s.overFailed r then [r + 3 * 2 ^ 5]
    else [0, 1, 2].flatMap (fun k =>
      ((s.classFailed r k).foldr insertNat []).map (fun i => r + k * 2 ^ 5 + i * 2 ^ 8)))

/-- The FAILMAP record of a part: at most 58 entries (R603). -/
def State.failmapRec (s : State) (part : Nat) : Nat :=
  let es := (s.failEntries.drop (58 * part)).take 58
  s.recHead 2 part + at_ 8 es.length + at_ 12 ((es.reverse).foldl (fun v e => v * 2 ^ 32 + e) 0)

/-- The content of part `p` has changed since the record in force (R603); a part without a record is empty. -/
def State.partChanged (s : State) (p : Nat) : Bool :=
  let new := bitsOf (s.failmapRec p) 64 1952
  match s.inForce (keyOf 2 s.devid p) with
  | some e => bitsOf e.2 64 1952 != new
  | none => new != 0

/-- The lowest part of FAILMAP that has to be stored is queued, if no store of a part waits already (R599, R603). -/
def State.storeFailmap (s : State) : State :=
  if !s.on Reg.ST_CTL_AUTOFM then s
  else
    let stores := s.hk.cur.toList ++ s.hk.queue
    if stores.any (fun x => match x.what with
      | .failmap _ => true
      | _ => false) then s
    else match (List.range 8).find? s.partChanged with
      | some p => s.queueFailmap p
      | none => s.setBit Reg.ST_STAT_FMAP_PEND false

/-- The entries of the log that a summary lists after its first: severity DEGRADED or more, newest first (Table 18-7). -/
def State.newestEntries (s : State) : List (Nat × Nat) :=
  let w := s.fld Reg.IL_STAT_WPTR
  let newer := (s.log.entries.filter (fun e => decide (e.1 < w))).reverse
  let older := (s.log.entries.filter (fun e => decide (w ≤ e.1))).reverse
  let frozen := if s.on Reg.IL_STAT_FRZ_ACT then 256 else 0
  (newer.filter (fun e => decide (frozen ≤ e.1))) ++ (older.filter (fun e => decide (frozen ≤ e.1))) ++
    (newer ++ older).filter (fun e => decide (e.1 < frozen))

/-- Entry 0 of a NOR_SUMMARY: the newest entry of the highest severity present (Table 18-7). -/
def State.worstEntry (s : State) : Option (Nat × Nat) :=
  let top := s.log.entries.foldl (fun m e => max m (e.2 % 8)) 0
  s.newestEntries.find? (fun e => e.2 % 8 == top)

/-- The INCIDENT_SUMMARY record (Tables 15-8 and 18-7). -/
def State.summaryRec (s : State) (fatal : Option Nat) : Nat :=
  let first : Option (Nat × Nat) := match fatal with
    | some v => some ((s.newestEntries.find? (fun e => e.2 == v)).getD (4096, v))
    | none => s.worstEntry
  let rest := s.newestEntries.filter (fun e => decide (3 ≤ e.2 % 8) && first.map (·.1) != some e.1)
  let es := (first.toList ++ rest).take 12
  s.recHead 3 0 + at_ 8 s.lovage.pm + at_ 40 s.now + at_ 48 es.length + at_ 52 (s.fld Reg.IL_LOST_COUNT) +
    at_ 56 (s.fld Reg.IL_TOTAL_COUNT % 2 ^ 32) + at_ 60 ((es.reverse).foldl (fun v e => v * 2 ^ 128 + e.2) 0)

/-- What a store programs, before SEQ and CRC. -/
def State.storeBody (s : State) (w : StoreWhat) : Nat :=
  match w with
  | .bootCount b => s.bootCountRec b
  | .failmap p => s.failmapRec p
  | .summary f => s.summaryRec f
  | .record v => v
  | .compaction => 0

/-! ## The hold-up check (R573) -/

/-- The energy of the check in µJ as a fraction: readings in 0.5 mV. None where it is not positive. -/
def holdEnergy (v1 v2 : Nat) : Option (Nat × Nat) :=
  let u := v2 - 20
  if v1 + 2 ≤ v2 ∨ u ≤ 5400 then none else some (99 * (u * u - 5400 * 5400), 40000 * (v1 + 2 - v2))

/-- One hold-up check with readings `v1` and `v2`: recorded, and whether it passes. The energy that a check reports where the
formula gives none above 0 is not stated; with no fall of the voltage neither is its outcome (assumption 33). -/
def State.holdCheck (s : State) (v1 v2 : Nat) : State × Bool :=
  let s := (s.setFld Reg.HK_HOLDMEAS_V1 v1).setFld Reg.HK_HOLDMEAS_V2 v2
  let (s, pass) := match holdEnergy v1 v2 with
    | some (a, b) =>
      (s.setFld Reg.HK_HOLDSTAT_EAVAIL (min 65535 (a / b)), decide (5 * s.fld Reg.HK_HOLDCFG_EREC * b ≤ 4 * a))
    | none =>
      let e := (s.freeBits 16).toNat
      let t := s.tookFree
      let t := t.setFld Reg.HK_HOLDSTAT_EAVAIL e
      if v1 + 2 ≤ v2 then (t.tookFree, t.freeBool) else (t, false)
  let s := s.setBit Reg.HK_HOLDSTAT_PASS pass
  (if pass then s else
    if s.fld Reg.HK_HOLDFAIL_COUNT + 1 < 2 ^ 32 then s.setFld Reg.HK_HOLDFAIL_COUNT (s.fld Reg.HK_HOLDFAIL_COUNT + 1) else s,
   pass)

/-! ## Pages -/

/-- A journal page is marked dead: all its bytes are programmed to 0 (R570). -/
def State.markDead (s : State) (p : Nat) : State := (s.setNor p 0).bootEvent 6 .ok (256 * p)

/-- The first blank page of a sector from page `n` on: pages that are not blank are marked dead and skipped, at most
`k` of them in a row with those that failed before (R570). -/
def State.findPage (s : State) : Nat → Nat → Nat → Nat → State × Nat × Nat
  | 0, _, n, k => (s, n, k)
  | fuel + 1, sector, n, k =>
    let p := 256 * sector + n
    if 256 ≤ n ∨ 4 ≤ k ∨ pageBlank (s.journalPage p) then (s, n, k)
    else (s.markDead p).findPage fuel sector (n + 1) (k + 1)

/-- The keys that have a record in force, in rising order. -/
def State.keys (s : State) : List Nat := (s.records.map (fun e => recKey e.2)).foldr insertNat [] |>.eraseDups

/-- Every page of a sector erased. -/
def State.eraseSector (s : State) (sector : Nat) : State :=
  { s with nor := s.nor.filter (fun e => e.1 / 256 != sector) }

/-- The lowest key whose record in force has not been copied into the active sector: a compaction goes on while there is one
(R571). -/
def State.copyNext (s : State) : Option (Nat × Nat) :=
  (s.keys.find? (fun k => (s.inForce k).any (fun e => e.1 / 256 != s.activeSector))).bind s.inForce

/-- The active sector has no page left (R571). -/
def State.sectorFull (s : State) : Bool := s.copyNext.isNone && decide (256 ≤ s.storePage)

/-- A compaction that begins must erase its sector first, which no stream may see (R562). -/
def State.compactErases (s : State) : Bool := s.sectorFull && s.usedPages (1 - s.activeSector) != 0

/-! ## Stores -/

/-- The running store has its outcome, and waits for its NOR operation to end. -/
def State.storeOutcome (s : State) (x : HkStore) (c : Code) : State :=
  s.setHk { s.hk with cur := some { x with outcome := some c }, waiting := false }

/-- A listener's store goes to its outbox (R565). -/
def State.toOutbox (s : State) (x : HkStore) : State :=
  let v := recMake (s.storeBody x.what) s.nextSeq
  let h := s.hk
  if h.outbox.length < 4 then
    let s := s.setHk { h with outbox := h.outbox ++ [v] }
    ((s.setBit Reg.HK_JSTAT_OUTBOX true).setBit Reg.HK_EVT_OUTBOX true).storeOutcome x .ok
  else ((s.setBit Reg.HK_JSTAT_OUTLOST true).bootEvent 7 .ok 0).storeOutcome x .eNoSpace

/-- What is programmed next: of a compaction under way, the record in force of the next key; at the head of the other sector, of
the lowest key; else what the store holds (R571). -/
def State.programBody (s : State) (x : HkStore) : Nat × Bool :=
  match (if s.sectorFull then s.keys.head?.bind s.inForce else s.copyNext) with
  | some e => (e.2, true)
  | none => (s.storeBody x.what, false)

/-- The program of a page has gone well: that of a copy lets the store go on to its next page (R571). -/
def State.programOk (s : State) (x : HkStore) (copy : Bool) : State :=
  if copy then s.setHk { s.hk with cur := some { x with tries := 0, bad := 0 }, holdEn := false } else s.storeOutcome x .ok

/-- The running store programs page `n` of a sector, or the first blank one after it, with `v`; it reads back as `back`, or exactly
(R570). A sector that ends meanwhile is compacted at the next try; `next` counts pages of the active sector, which the first copy
into the other sector makes active. -/
def State.storeProgram (s : State) (x : HkStore) (sector n v : Nat) (copy : Bool) (back : Option Nat) : State :=
  let (s, n, bad) := s.findPage 5 sector n x.bad
  let next := fun (k : Nat) => if sector = s.activeSector then some k else s.hk.next
  if 4 ≤ bad then (s.setHk { s.hk with next := next n }).storeOutcome x .eNoSpace
  else if 256 ≤ n then s.setHk { s.hk with cur := some { x with bad := 0 }, next := next n, holdEn := false }
  else
    let p := 256 * sector + n
    let v := recMake v s.nextSeq
    if back.all (fun w => w % 2 ^ 2048 == v) then ((s.setNor p v).setHk { s.hk with next := some (n + 1) }).programOk x copy
    else
      let s := (s.markDead p).setHk { s.hk with next := next (n + 1) }
      if 4 ≤ bad + 1 then s.storeOutcome x .eNoSpace
      else s.setHk { s.hk with cur := some { x with bad := bad + 1 }, holdEn := false }

/-- The summary store of a FATAL incident starts: the gap begins (R653). -/
def State.summaryStarts (s : State) (x : HkStore) : State :=
  match x.what with
  | .summary (some _) => s.setHk { s.hk with sumRecent := true }
  | _ => s

/-- The NOR serves another operation, or a compaction waits for a stream to end (R562). -/
def State.storeBlocked (s : State) : Bool :=
  s.hk.raw.isSome || (s.compactErases && s.fromNor)

/-- HOLD_SENSE measures: it is in analogue mode (R634). -/
def State.holdSenses (s : State) : Bool := s.on (Reg.CP_CFG_ANA 48)

/-- Nothing is left to program: the store was the rest of a compaction, which is complete (R571). -/
def State.storeIdle (s : State) (x : HkStore) : Bool := x.what == .compaction && s.copyNext.isNone

/-- One try of the running store with readings `v1` and `v2`; the page programmed reads back as `back`, or exactly (R570,
R571, R573, R575). Each copy of a compaction is a store of its own, with its own check. Without HOLD_SENSE the check is refused
(R634). No page of a NOR that has failed NOR_INIT can be programmed. -/
def State.storeTry (s : State) (v1 v2 : Nat) (back : Option Nat) : State :=
  match s.hk.cur with
  | none => s
  | some x =>
    if x.outcome.isSome ∨ s.storeBlocked then s
    else
      let s := if x.tries = 0 ∧ x.bad = 0 then s.summaryStarts x else s
      if s.listener then s.toOutbox x
      else if !s.hk.norOk then s.storeOutcome x .eNoSpace
      else if s.storeIdle x then s.storeOutcome x .ok
      else if !s.holdSenses then s.storeOutcome x .eState
      else
        let (s, pass) := s.holdCheck v1 v2
        if !pass then
          if s.fld Reg.HK_HOLDCFG_TRIES ≤ x.tries + 1 then s.storeOutcome { x with tries := x.tries + 1 } .eHold
          else s.setHk { s.hk with cur := some { x with tries := x.tries + 1 }, waiting := true, holdEn := false }
        else
          let s := s.setHk { s.hk with holdEn := true, waiting := false }
          let (v, copy) := s.programBody x
          if s.sectorFull then
            let other := 1 - s.activeSector
            (if x.bad = 0 then s.eraseSector other else s).storeProgram x other x.bad v copy back
          else s.storeProgram x s.activeSector s.storePage v copy back

/-- The next internal store begins. -/
def State.nextStore (s : State) : State :=
  let h := s.hk
  match h.queue with
  | [] => (s.setHk { h with cur := none, waiting := false, holdEn := false }).setBit Reg.HK_JSTAT_BUSY false
  | x :: t => (s.setHk { h with cur := some x, queue := t, waiting := false, holdEn := false }).setBit Reg.HK_JSTAT_BUSY true

/-- What a store's end means for those that asked for it (R599, R653, Table 13-6). -/
def State.storeTell (s : State) (w : StoreWhat) (c : Code) : State :=
  match w with
  | .failmap _ =>
    if c = .ok then s.storeFailmap
    else (s.setTest { s.selfTest with restore := true }).stErr 6 0
  | .summary none => s.rescueOver c
  | _ => s

/-- The running store ends (R562, R570, R583). -/
def State.storeDone (s : State) : State :=
  match s.hk.cur with
  | none => s
  | some x => match x.outcome with
    | none => s
    | some c =>
      let cmd := match x.what with
        | .record _ => 1
        | _ => 0
      let s := (s.setFld Reg.HK_JSTAT_CODE c.num).setFld Reg.HK_JSTAT_CMD cmd
      let s := if c = .ok then s.setBit Reg.HK_EVT_STORE_DONE true else s.setBit Reg.HK_EVT_STORE_FAIL true
      let s := if c = .eHold ∨ c = .eNoSpace then s.bootEvent 5 c 0 else s
      (s.nextStore).storeTell x.what c

/-- A FATAL incident queues a summary store, or has it wait for the gap to pass (R653). -/
def State.fatalStore (s : State) (entry : Nat) : State :=
  let h := s.hk
  if h.sumRecent then
    if h.sumWaits.isSome then s
    else (s.setHk { h with sumWaits := some entry }).setBit Reg.IL_STAT_SUM_PEND true
  else (s.queueStore (.summary (some entry))).1

/-! ## Settings and FAILMAP at the start (R568, R604) -/

/-- The SETTINGS in force are applied. -/
def State.applySettings (s : State) : State :=
  match s.inForce (keyOf 1 s.devid 0) with
  | none => s
  | some e =>
    let v := e.2
    let erec := bitsOf v 128 16
    let s := s.setHk { s.hk with
      ssvid := bitsOf v 64 16, ssid := bitsOf v 80 16, regpwr := bitsOf v 96 24, preferB := hasBit v 120 }
    if 180 ≤ erec ∧ erec ≤ 4095 then s.setFld Reg.HK_HOLDCFG_EREC erec else s

/-- The entries of the FAILMAP parts in force. -/
def State.storedFailed (s : State) : List (Nat × Nat × Nat) :=
  (List.range 8).flatMap (fun p => match s.inForce (keyOf 2 s.devid p) with
    | none => []
    | some e => (List.range (min 58 (bitsOf e.2 64 32))).map (fun j =>
        let w := bitsOf e.2 (96 + 32 * j) 32
        (w % 2 ^ 5, bitsOf w 5 3, bitsOf w 8 9)))

/-- Retired user positions of a class are assigned to the lowest-numbered spares that are not retired (R604). -/
def State.assignSpares (s : State) (r kind : Nat) : List Nat → State
  | [] => s
  | i :: t =>
    match s.freeSpare r kind with
    | some j =>
      (((s.setFld (Reg.ST_SUB_POS r j) i).setBit (Reg.ST_SUB_USED r j) true).setBit (Reg.ST_SUB_PERM r j) true).assignSpares
        r kind t
    | none => s

/-- FAILMAP is applied to one region (R604). -/
def State.applyFailed (s : State) (r : Nat) : State :=
  let s := s.setRgn r { s.rgn r with failed := s.overFailed r }
  [0, 1, 2].foldl (fun s k =>
    let all := (s.classFailed r k).foldr insertNat []
    let s := all.foldl (fun s i => match spareOfIndex k i with
      | some j => s.setBit (Reg.ST_SUB_RETIRED r j) true
      | none => s) s
    s.assignSpares r k (all.filter (fun i => decide (i < userCount k)))) s

/-- FAILMAP as it stands in the journal is applied (R604). -/
def State.applyFailmap (s : State) : State :=
  let ok := fun (e : Nat × Nat × Nat) => decide (e.1 < 24) &&
    (e.2.1 == 3 || (decide (e.2.1 < 3) && decide (e.2.2 < userCount e.2.1 + spareCount e.2.1)))
  let m := (s.storedFailed.filter ok).eraseDups
  let s := s.setTest { s.selfTest with map := m }
  (List.range 24).foldl (fun s r => if m.any (fun e => e.1 == r) then s.applyFailed r else s) s

end Sys2Proof.Machine
end

