-- ==== Sys2Proof/Machine/ResetOps.lean ====
section
/-! DEFINITION. Resets of the chip, Lovage's states and its post-mortem word, the start after a reset (Table 1-6, chapters 15, 18
and 19). -/

namespace Sys2Proof.Machine

/-! ## The post-mortem word (R652) -/

/-- The reasons of Table 18-6. -/
def pmFatal : Nat := 1
def pmPower : Nat := 2
def pmResetN : Nat := 3
def pmRescue : Nat := 4
def pmLifeCycle : Nat := 5
def pmTrip : Nat := 6

/-- The word holds a FATAL incident that software has not acknowledged. -/
def State.pmHeld (s : State) : Bool := hasBit s.lovage.pm 79

/-- The word with its CRC filled in. -/
def pmSeal (v : Nat) : Nat := v % 2 ^ 224 + crc32c (v % 2 ^ 224) 28 * 2 ^ 224

/-- An event writes the post-mortem word: its reason, and the incident for a FATAL one (R652, Table 18-6). -/
def State.pmWrite (s : State) (reason : Nat) (i : Option Incident) : State :=
  let old := s.lovage.pm
  let writes := min 65535 (bitsOf old 112 16 + 1)
  let v :=
    if s.pmHeld ∧ reason ≠ pmFatal then old % 2 ^ 112 + writes * 2 ^ 112 + bitsOf old 128 96 * 2 ^ 128
    else
      let about := match i with
        | some i => (i.sev.num + 128) * 2 ^ 72 + i.src * 2 ^ 80 + i.code * 2 ^ 96 + i.arg.toNat * 2 ^ 128
        | none => 0
      s.now + reason * 2 ^ 64 + about + writes * 2 ^ 112 + s.fld Reg.AVS_STATUS_VCMD * 2 ^ 192 + s.fld Reg.PWR_TMAX_TEMP * 2 ^ 208
  { s with lovage := { s.lovage with pm := pmSeal v } }

/-! ## NOR operations that power loss cuts off (R578) -/

/-- The page that the running store has just programmed, while its program and read-back last (R574). -/
def State.storingPage (s : State) : Option Nat :=
  if s.hk.holdEn && (s.hk.cur.bind (·.outcome)) == some .ok then s.hk.next.map (fun n => 256 * s.activeSector + n - 1) else none

/-- An operation is cut off: each bit to be programmed may or may not read 0; a sector being erased holds anything. -/
def State.norCut (s : State) : State :=
  match s.hk.raw with
  | none => match s.storingPage with
    | some p =>
      let w := (s.freeBits 2048).toNat
      (s.tookFree).setNor p (s.norPage p ||| w)
    | none => s
  | some (.program p v) =>
    let w := (s.freeBits 2048).toNat
    (s.tookFree).setNor p (v ||| (s.norPage p &&& w))
  | some (.erase p) =>
    (List.range 256).foldl (fun s i =>
      let w := (s.freeBits 2048).toNat
      (s.tookFree).setNor (p / 256 * 256 + i) w) s

/-! ## Chip reset (Table 1-6) -/

/-- Everything is reset except Lovage, with the word of WAKE's options that it holds (R633), the fuses, the NOR and the test
access port (R609); the surroundings stay as they are. -/
def State.chipReset (s : State) : State :=
  let s := s.norCut
  let wake := Reg.CP_CFG 47
  let s' : State := { State.reset with
    pending := s.pending, freeCount := s.freeCount, out := s.out, nor := s.nor, fuses := s.fuses, jtag := s.jtag
    lovage := { s.lovage with trip := none, stbyPrev := false }
    pins := { PinsSt.reset with balls := s.pins.balls, io := s.pins.io, supply := s.pins.supply }
    hk := { HkSt.reset with refclk := s.hk.refclk } }
  s'.wr wake (s.rd wake)

/-- Housekeeping unwraps the keys (R614). -/
def State.unwrapKeys (s : State) : State :=
  if s.lcState = 1 ∨ s.lcState = 2 then
    (List.range 2).foldl (fun s k =>
      match Tbl.get none s.fuses.keys k with
      | some key =>
        if hasBit s.fuses.kill k then s
        else (s.setCfg { s.cfg with keys := Tbl.put none s.cfg.keys k (some key) }).setBitOf Reg.CFG_KEYSTAT_READY k
      | none => s) s
  else s

/-- The POWER event (Tables 18-4 and 19-9). -/
def State.powerEvent (s : State) (kind index value : Nat) : State :=
  let sev : Sev := match kind with
    | 2 | 4 => .info
    | 6 => .fault
    | _ => .degraded
  s.raise srcHk sev 0x6E (kind + index % 32 * 2 ^ 8 + value % 2 ^ 16 * 2 ^ 16)

/-- The neighbouring router ports of every OFF region take ABSORB (R22, R166, R346). -/
def State.absorbOff (s : State) : State :=
  (List.range 24).foldl (fun s r => if (s.rstate r).absorbs then s.setAbsorb r true else s) s

/-- The device starts (R549, R614, R626, R672): the straps are latched, housekeeping runs, the banks monitor their supplies. -/
def State.start (s : State) : State :=
  let strap := fun (i n : Nat) => (List.range n).foldl (fun v k => v + bit (s.cpBall (i + k)) * 2 ^ k) 0
  let s := (s.setFld Reg.RSC_STRAPS_DEVID (strap 19 3)).setFld Reg.RSC_STRAPS_BOOTSEL (strap 22 2)
  let s := s.setBit Reg.CFG_STAT_LISTEN (s.fld Reg.RSC_STRAPS_BOOTSEL == 1)
  let s := (s.setFld Reg.CFG_KEYSTAT_KILLED (s.fuses.kill % 4)).unwrapKeys
  let s := (s.setHk { s.hk with up := true }).absorbOff
  let s := s.pins.supply.foldl (fun s e => s.bankSupply e.1 e.2) s
  match s.lovage.trip with
  | some (sensor, temp) => s.powerEvent 6 sensor temp
  | none => s

/-- A chip reset by the device itself, from which it starts again at once. -/
def State.restart (s : State) : State := (s.chipReset).start

/-! ## Lovage (Table 19-7) -/

/-- Lovage enters STBY from RUN or HOLDUP. -/
def State.enterStby (s : State) : State :=
  { s with lovage := { s.lovage with st := .stby, stbyPrev := true, stbyCnt := min 65535 (s.lovage.stbyCnt + 1) } }

/-- PWROK or a main rail is lost (Table 1-6, R574, R652): everything but Lovage resets; while HOLD_EN is high, housekeeping and the
NOR finish their store first. -/
def State.powerLoss (s : State) : State :=
  if s.lovage.st ≠ .run then s
  else
    let s := s.pmWrite pmPower none
    if s.hk.holdEn then
      let x := s.hk
      let s := (s.setHk { x with cur := none }).chipReset
      { s with
        hk := { s.hk with holdEn := true, cur := x.cur, next := x.next }
        lovage := { s.lovage with st := .holdup } }
    else (s.chipReset).enterStby

/-- The thermal trip's chip reset (R672). -/
def State.tripReset (s : State) : State :=
  let t := s.lovage.trip
  let s := s.chipReset
  { s with lovage := { s.lovage with trip := t, tripHold := true } }

end Sys2Proof.Machine
end

