-- ==== Sys2Proof/Machine/BootOps.lean ====
section
/-! DEFINITION. Galliard, listeners, raw access to the NOR (chapter 15). -/

namespace Sys2Proof.Machine

/-- The requester ID of housekeeping. -/
def reqHk : Nat := 0x12

/-- BOOT takes a state (Table 15-2). -/
def State.setBoot (s : State) (st : Nat) : State := s.setFld Reg.HK_BOOTSTAT_STATE st

/-- The boot mode (Table 15-1). -/
def State.bootMode (s : State) : Nat := s.fld Reg.RSC_STRAPS_BOOTSEL

/-! ## Image headers (R555) -/

/-- The base of image area A (1) or B (2), and its size (Table 15-4). -/
def imageBase (a : Nat) : Nat := if a = 1 then 0x100000 else 0x8100000
def imageSize (a : Nat) : Nat := if a = 1 then 0x8000000 else 0x7F00000

/-- The stream length of a header whose 32 bytes are `v`, if it is valid. -/
def headerLen (a v : Nat) : Option Nat :=
  let len := bitsOf v 32 32
  if v % 2 ^ 32 = 0x96241A6E ∧ 4 ≤ len ∧ len ≤ imageSize a - 32 ∧ bitsOf v 96 128 = 0 ∧ bitsOf v 224 32 = crc32c (v % 2 ^ 224) 28 then
    some len
  else none

/-- The header of an image area, as it stands in the NOR. -/
def State.imageHeader (s : State) (a : Nat) : Nat := s.norPage (imageBase a / 256) % 2 ^ 256

/-! ## Galliard (R558) -/

/-- An attempt fails: ATTEMPTS advances (R559). -/
def State.attempted (s : State) : State := s.count Reg.HK_BOOTCNT_ATTEMPTS Reg.HK_BOOTCNT_SAT

/-- The image of step `i` of a round: 1 A, 2 B. -/
def State.imageOf (s : State) (i : Nat) : Nat := if (i = 0) = s.hk.preferB then 2 else 1

/-- A host wait begins. -/
def State.hostWait (s : State) : State :=
  let s := s.cleanState
  (s.setHk { s.hk with step := 2, attempt := 0 }).setBoot bsHostWait

/-- The image attempt of the present step has failed with `c` (Table 15-6). -/
def State.imageFailed (s : State) (c : Code) : State :=
  let a := s.imageOf s.hk.step
  let s := ((s.setFld Reg.HK_BOOTSTAT_FAILCODE c.num).bootEvent 1 c (imageBase a)).attempted
  if s.hk.step = 0 then s.setHk { s.hk with step := 1, attempt := 0 } else s.hostWait

/-- The device has booted from `src`: 1 A, 2 B, 3 host (R558, R559). -/
def State.booted (s : State) (src : Nat) : State :=
  let s := ((s.setBoot bsBooted).setFld Reg.HK_BOOTSTAT_SRC src).setHk { s.hk with attempt := 0 }
  let s := (s.setBit Reg.HK_EVT_BOOTED true).bootEvent 4 .ok 0
  (s.queueStore (.bootCount true)).1

/-- A host wait or a back-off ends without success (R558, R560). -/
def State.waitEnded (s : State) (c : Code) : State :=
  let s := (s.setFld Reg.HK_BOOTSTAT_FAILCODE c.num).setHk { s.hk with attempt := 0 }
  if s.bootState = bsHostWait then
    let s := ((s.attempted).setBit Reg.HK_EVT_ROUND_FAIL true).bootEvent 2 c 0
    let s := ((s.queueStore (.bootCount false)).1).cleanState
    (s.setHk { s.hk with step := 3 }).setBoot bsBackoff
  else s.setHk { s.hk with round := min 6 (s.hk.round + 1), step := 0 }

/-- Every region that boot has powered has left OFF (R552). -/
def State.regionsUp (s : State) : Bool :=
  (List.range 24).all (fun r => !hasBit s.hk.regpwr r || s.rstate r != .off)

/-- Galliard is about to make an image attempt. -/
def State.imageDue (s : State) : Bool :=
  s.hk.up && !s.hk.cleaning && s.bootMode == 0 && decide (4 ≤ s.bootState) && (decide (s.bootState ≤ 6) || s.bootState == bsBackoff) &&
    decide (s.hk.step < 2) && s.hk.attempt == 0

/-- The image attempt of the present step (R555–R558): it begins once the clean state that it asks for has been reached. -/
def State.imageAttempt (s : State) : State :=
  if s.ticking then s.cleanState else
  let a := s.imageOf s.hk.step
  let s := (s.cleanState).setBoot (4 + a)
  if !s.hk.norOk then s.imageFailed .eUnsup
  else match headerLen a (s.imageHeader a) with
    | none => s.imageFailed .eCrc
    | some len => (s.cfgBegin srcBoot 0 (imageBase a + 32) len).setHk { s.hk with attempt := a }

/-- The stream of an attempt has ended with `c` (R556). -/
def State.attemptEnded (s : State) (c : Code) : State :=
  let a := s.hk.attempt
  let s := s.setCfg { s.cfg with done := none }
  if s.bootState = bsBooted then s.setHk { s.hk with attempt := 0 }
  else if c = .ok then s.booted a
  else if s.bootState = bsListen then
    let s := ((s.setFld Reg.HK_BOOTSTAT_FAILCODE c.num).bootEvent 1 c (imageBase a)).setHk { s.hk with attempt := 0 }
    s.setBoot bsHostOnly
  else if a < 3 then s.imageFailed c
  else if s.bootState = bsHostWait ∨ s.bootState = bsBackoff then s.waitEnded c
  else (s.setFld Reg.HK_BOOTSTAT_FAILCODE c.num).setHk { s.hk with attempt := 0 }

/-- A boot command's outcome (Table 15-11). -/
def State.bootRecord (s : State) (req : Nat) (c : Code) : State :=
  let s := (s.setFld Reg.HK_BOOTSTAT_CODE c.num).setFld Reg.HK_BOOTSTAT_REQ req
  (s.noteRefusal srcHk 0 req c).respond req Reg.HK_BOOTCTL c

/-- A write to HK_BOOTCTL (R561). -/
def State.bootCtl (s : State) (req value : Nat) : State :=
  let st := s.bootState
  match value % 16 with
  | 1 =>
    if s.bootMode = 0 ∧ 5 ≤ st ∧ st ≤ 8 then
      let s := if s.hk.attempt = 1 ∨ s.hk.attempt = 2 then
          let s := s.cfgHostAbort
          s.setHk { s.hk with attempt := 0 }
        else s
      (s.setBoot bsHeld).bootRecord req .ok
    else s.bootRecord req .eState
  | 2 =>
    if st = bsHeld then
      let s := s.setHk { s.hk with round := 0, step := 0, attempt := 0 }
      (s.setBoot (4 + s.imageOf 0)).bootRecord req .ok
    else s.bootRecord req .eState
  | _ => s.bootRecord req .eArg

/-! ## Listeners (R563–R565) -/

/-- `n` bytes `v` of the journal sectors are heard from address `a` on. -/
def State.hear (s : State) (a v : Nat) : Nat → State
  | 0 => s
  | n + 1 =>
    let s := s.hear a v n
    let b := a + n
    let old := Tbl.get blankPage s.hk.heard (b / 256)
    let lo := 8 * (b % 256)
    let new := old - bitsOf old lo 8 * 2 ^ lo + bitsOf v (8 * n) 8 * 2 ^ lo
    if b < 0x20000 then s.setHk { s.hk with heard := Tbl.put blankPage s.hk.heard (b / 256) new } else s

/-- `n` bytes `v` of the stream are heard (R534, R563). -/
def State.hearStream (s : State) (v n : Nat) : State :=
  let x := s.cfg
  let k := min (n / 4) (x.room / 4)
  if 16384 < x.fifo.length + k then s.cfgAbort .eBusy 0 0 (some ceListenOvf)
  else
    let s := s.setCfg { x with fifo := x.fifo ++ dataWords v (4 * k), room := x.room - 4 * k, addr := x.addr + 4 * k }
    s.setHk { s.hk with expect := s.hk.expect + n }

/-- A read of the header of image area `a` is heard, with what follows it in the read: a new stream begins (R563, R564). -/
def State.hearImage (s : State) (a v n : Nat) : State :=
  let s := if s.cfgSrc = srcIdle then s else s.cfgEnd (.ofNum (s.fld Reg.CFG_SCODE_CODE))
  let s := s.setCfg { s.cfg with fifo := [], done := none }
  let s := s.setHk { s.hk with seen := true, attempt := a, expect := imageBase a + 32 }
  let s := if s.bootState = bsHostOnly then s.setBoot bsListen else s
  match headerLen a (v % 2 ^ 256) with
  | none =>
    let s := s.attemptEnded .eCrc
    s.setHk { s.hk with expect := 0 }
  | some len => (s.cfgBegin srcBoot 0 (imageBase a + 32) len).hearStream (v / 2 ^ 256) (n - 32)

/-- A read of `n` bytes at address `a` is heard on the shared bus; they are `v`. -/
def State.busRead (s : State) (a n v : Nat) : State :=
  if a < 0x20000 then s.hear a v n
  else if (a = imageBase 1 ∨ a = imageBase 2) ∧ 32 ≤ n then s.hearImage (if a = imageBase 1 then 1 else 2) v n
  else if a = s.hk.expect ∧ s.cfgSrc = srcBoot then s.hearStream v n
  else s

/-! ## Journal commands (Table 15-9) -/

/-- A journal command's outcome: of one that completes at once, or of one refused. -/
def State.journalRecord (s : State) (req cmd : Nat) (c : Code) : State :=
  let s := ((s.setFld Reg.HK_JSTAT_CODE c.num).setFld Reg.HK_JSTAT_CMD cmd).setFld Reg.HK_JSTAT_REQ req
  (s.noteRefusal srcHk (Reg.HK_JCMD - Reg.HK_BOOTCTL) req c).respond req Reg.HK_JCMD c

/-- A write to HK_JCMD (R572). -/
def State.journalCmd (s : State) (req value : Nat) : State :=
  let cmd := value % 16
  if s.on Reg.HK_JSTAT_BUSY then s.journalRecord req cmd .eBusy
  else match cmd with
    | 1 =>
      let s := s.setHk { s.hk with cur := some ⟨.record s.hk.jbuf, 0, 0, none⟩, waiting := false }
      ((s.setBit Reg.HK_JSTAT_BUSY true).setFld Reg.HK_JSTAT_CMD 1).setFld Reg.HK_JSTAT_REQ req |>.respond req Reg.HK_JCMD .ok
    | 2 =>
      match s.inForce (keyOf (bitsOf value 4 8) (bitsOf value 12 3) (bitsOf value 16 3)) with
      | some e => (s.setHk { s.hk with jbuf := e.2 }).journalRecord req 2 .ok
      | none => s.journalRecord req 2 .eArg
    | 3 =>
      match s.hk.outbox with
      | [] => s.journalRecord req 3 .eState
      | _ :: t => ((s.setHk { s.hk with outbox := t }).setBit Reg.HK_JSTAT_OUTBOX (!t.isEmpty)).journalRecord req 3 .ok
    | _ => s.journalRecord req cmd .eArg

/-! ## Raw commands (R581, R582) -/

/-- A raw command's outcome. -/
def State.norRecord (s : State) (req cmd : Nat) (c : Code) : State :=
  let s := ((s.setFld Reg.HK_NORSTAT_CODE c.num).setFld Reg.HK_NORSTAT_CMD cmd).setFld Reg.HK_NORSTAT_REQ req
  (s.noteRefusal srcHk (Reg.HK_NORCMD - Reg.HK_BOOTCTL) req c).respond req Reg.HK_NORCMD c

/-- The outcome at arrival of a raw command (R565, R581, R582). -/
def State.norCode (s : State) (cmd : Nat) (force : Bool) : Code :=
  let a := s.fld Reg.HK_NORADDR_ADDR
  let align := if cmd = 3 then 0x10000 else 256
  if s.on Reg.HK_NORSTAT_BUSY then .eBusy
  else if s.listener then .eUnsup
  else if cmd = 0 ∨ 4 < cmd ∨ a % align ≠ 0 ∨ s.hk.norSize ≤ a then .eArg
  else if (cmd = 2 ∨ cmd = 3) ∧ (a < 0x20000 ∨ s.on Reg.HK_NORSTAT_RAW_LOCK) then .eLock
  else if cmd = 2 ∧ !force ∧ !pageBlank (s.norPage (a / 256)) then .eNotBlank
  else .ok

/-- A write to HK_NORCMD. -/
def State.norCmd (s : State) (req value : Nat) : State :=
  let cmd := value % 16
  let p := s.fld Reg.HK_NORADDR_ADDR / 256
  let c := s.norCode cmd (hasBit value 4)
  if c ≠ .ok then s.norRecord req cmd c
  else match cmd with
    | 1 => (s.setHk { s.hk with norbuf := s.norPage p }).norRecord req cmd .ok
    | 2 => ((s.setHk { s.hk with raw := some (.program p (s.norPage p &&& s.hk.norbuf)) }).setBit Reg.HK_NORSTAT_BUSY true).norRecord req cmd .ok
    | 3 => ((s.setHk { s.hk with raw := some (.erase p) }).setBit Reg.HK_NORSTAT_BUSY true).norRecord req cmd .ok
    | _ => (s.setBit Reg.HK_NORSTAT_BLANK (pageBlank (s.norPage p))).norRecord req cmd .ok

/-- A raw program or erase completes; a page programmed reads back as `back`, or as it should (R582). -/
def State.rawDone (s : State) (op : RawOp) (back : Option Nat) : State :=
  let (s, c) : State × Code := match op with
    | .program p v =>
      let w := (back.getD v) % 2 ^ 2048
      (s.setNor p w, if w = v then .ok else .eCrc)
    | .erase p => (s.eraseSector (p / 256), .ok)
  ((s.setHk { s.hk with raw := none }).setBit Reg.HK_NORSTAT_BUSY false).setFld Reg.HK_NORSTAT_CODE c.num

end Sys2Proof.Machine
end

