-- ==== Sys2Proof/Machine/SliceRun.lean ====
section
/-! DEFINITION. The self-test controller's sweep: which element comes next, when a handover may take place, commands to the
controller (chapter 16). -/

namespace Sys2Proof.Machine

/-! ## Commands -/

/-- A self-test command's outcome (Table 16-13). -/
def State.stRecord (s : State) (req cmd : Nat) (c : Code) : State :=
  let s := ((s.setFld Reg.ST_CMDSTAT_CODE c.num).setFld Reg.ST_CMDSTAT_CMD cmd).setFld Reg.ST_CMDSTAT_REQ req
  (s.noteRefusal srcSelfTest (Reg.ST_CMD - Reg.ST_CTL) req c).respond req Reg.ST_CMD c

/-! ## Elements -/

/-- The kind and position of element `p` of a region's part of the sweep (R586). -/
def sweepElem (p : Nat) : Nat × Nat := if p < 264 then (0, p) else if p < 362 then (1, p - 264) else (2, p - 362)

/-- The elements of a region's part of the sweep. -/
def sweepLen : Nat := 367

/-- The position exists (R568). -/
def posOk (kind idx : Nat) : Bool := decide (kind < 3) && decide (idx < userCount kind + spareCount kind)

/-- A spare that stands in, stands in for good or is retired is no element of a slice; neither is a retired position that no
spare holds (R584, R586). -/
def State.testable (s : State) (r kind idx : Nat) : Bool :=
  match spareOfIndex kind idx with
  | some j => s.spareFree r j
  | none => !s.selfTest.map.contains (r, kind, idx) || (s.holder r kind idx).isSome

/-- User block `b` is unused (R585). -/
def State.blockUnused (s : State) (r b : Nat) : Bool :=
  (List.range 64).all (fun n => mcMode (s.mcRaw r b n) == 0) && (List.range 4).all (fun k => !hasBit (s.rqCfg r b) (8 * k + 7))

/-- The controllers and ARB macrocells of block `b`, and its enabled channels. -/
def State.flowCells (s : State) (r b : Nat) : List Nat := (List.range 64).filter (fun n => isCtl (s.mcCfg r b n))

/-- Block `b` holds flow logic (chapter 16). -/
def State.holdsFlow (s : State) (r b : Nat) : Bool :=
  (List.range 64).any (fun n => decide (6 ≤ mcMode (s.mcCfg r b n))) || (List.range 4).any (s.rqOn r b)

/-- Block `b` has a stage with INITTOK = 1 (R592). -/
def State.hasToken (s : State) (r b : Nat) : Bool :=
  (s.flowCells r b).any (fun n => mcPort (s.mcCfg r b n) == 0 && hasBit (s.mcCfg r b n) 22)

/-- An element that is tested in place: a spare, or an unused block. -/
def State.testsInPlace (s : State) (r kind idx : Nat) : Bool :=
  (spareOfIndex kind idx).isSome || (kind == 0 && s.blockUnused r idx)

/-! ## Handovers -/

/-- Controller `n` of block `b` holds no token, and its handshakes are idle (R591). -/
def State.ctlQuiet (s : State) (r b n : Nat) : Bool :=
  let w := s.mcCfg r b n
  let x := s.flow r b n
  let nulls := (s.flowInputs r b n).all (fun v => v.rail == .null)
  !x.full && !x.acko && !x.acked &&
    (match mcPort w with
      | 0 => nulls && (s.ackIn r b n).rail == .null
      | 1 => nulls && !s.cell r b (n + 1 + mcWidth w)
      | _ => (s.ackIn r b n).rail == .null && s.cell r b n)

/-- Block `b` is quiescent (R591, R592). -/
def State.quiescent (s : State) (r b : Nat) : Bool :=
  s.rstate r == .held ||
    ((s.flowCells r b).all (s.ctlQuiet r b) &&
      (List.range 32).all (fun i =>
        mcMode (s.mcCfg r b (2 * i)) != 7 ||
          (s.arbGrant r b (2 * i) == .none && (s.arbReq r b (2 * i) false).rail == .null &&
            (s.arbReq r b (2 * i) true).rail == .null)) &&
      (List.range 4).all (fun k => !hasBit (s.rqPort r b).busy k))

/-- Engine `e` may move (R284). -/
def State.engMovable (s : State) (e : Nat) : Bool :=
  let x := s.eng e
  let nulls := !s.fabricOn (e / 4) || s.destNull (e / 4) 4 (e % 4) 0 32
  x.st == .idle && x.tasks.isEmpty && !x.so0.full && !x.so1.full && !x.si0.acko && !x.si1.acko && nulls &&
    (List.range 8).all (fun t => !x.tagBusy t) && x.swapPend.isNone

/-- A handover of a slice of region `r` may take place now: its kind, position and FLOWBLK, and the tick at which it became ready
(R587–R589, R595, R596). -/
def State.eligible (s : State) (r kind idx : Nat) (flow : Bool) (ready : Nat) : Bool :=
  let st := s.rstate r
  let due := decide (4 ≤ (s.now + 2 ^ 64 - ready) % 2 ^ 64)
  (if s.ticking then st == .running || st == .held else st == .held) &&
    (match kind with
      | 0 => !s.ticking || (due && s.regionTickAt r s.now &&
          (st == .held || (!s.on (Reg.TR_STATUS_STALE r) && (!flow || s.quiescent r idx))))
      | 1 => !s.ticking || (due && s.regionTickAt r s.now)
      | _ => s.engMovable (4 * r + idx))

/-- The front slice of region `r` may hand over, or hand back, now. -/
def State.sliceEligible (s : State) (r : Nat) : Bool :=
  s.eligible r (s.fld (Reg.ST_SLICE_KIND r)) (s.fld (Reg.ST_SLICE_INDEX r)) (s.on (Reg.ST_SLICE_FLOWBLK r))
    (Tbl.get 0 s.selfTest.ready r)

/-- The frames of block position `b`, all 40 of them, are copied: the first one that holds a fault (R229). -/
def State.copyFault (s : State) (r b : Nat) : Option Nat :=
  (List.range 40).find? (fun f => s.frameFaulty r (b / 8) (40 * (b % 8) + f))

/-- The element that takes the work of block position `b` holds the corrected frames with fresh check bits (R229): bits that have
flipped in the other element since they were copied stay behind. -/
def State.copyFresh (s : State) (r b : Nat) : State :=
  let lo := frameKey r (b / 8) (40 * (b % 8)) 0
  let hi := frameKey r (b / 8) (40 * (b % 8) + 40) 0
  { s with frameMarks := s.frameMarks.filter (fun e => !(decide (lo ≤ e.1) && decide (e.1 < hi))) }

/-- The flow logic of a block starts again from R116 in the element that takes its work (R591). -/
def State.flowFresh (s : State) (r b : Nat) : State :=
  let f := (s.rgn r).fab
  let out := fun (k : Nat) => k / 64 != b
  s.setFab r { f with flow := f.flow.filter (fun e => out e.1), arb := f.arb.filter (fun e => out e.1) }

/-- The work of the front slice of region `r` moves to its spare (R588). -/
def State.handover (s : State) (r : Nat) : State :=
  let kind := s.fld (Reg.ST_SLICE_KIND r)
  let idx := s.fld (Reg.ST_SLICE_INDEX r)
  let s := s.standIn r kind idx (s.fld (Reg.ST_SLICE_SPARE r))
  if kind = 0 then (s.copyFresh r idx).flowFresh r idx else s

/-- The work of a slice returns to its element: its kind, position, spare and FLOWBLK; the outcome. -/
def State.handBack (s : State) (r kind idx j out dur : Nat) : State :=
  let s := s.standBack r kind j
  let s := if kind = 0 then (s.copyFresh r idx).flowFresh r idx else s
  s.sliceOutcome r kind idx j out dur

/-- The outcome of a slice whose work has returned. -/
def backOutcome (parked once : Bool) : Nat := if parked then outAborted else if once then outTransient else outPass

/-! ## Starting -/

/-- The slices in progress allow one in region `r`: none runs there, or a block slice waits in WAIT_BACK and is the only one
(R586, R594). -/
def State.sliceRoom (s : State) (r : Nat) : Bool :=
  !s.slicing r ||
    (s.fld (Reg.ST_SLICE_KIND r) == 0 && s.slicePhase r == phWaitBack && Tbl.get (0, 0) s.selfTest.behind r == (0, 0))

/-- A block slice that waits in WAIT_BACK is set aside (R594). -/
def State.setAside (s : State) (r : Nat) : State :=
  if s.slicing r then
    let x := s.selfTest
    let v := (s.rd (Reg.ST_SLICE r)).toNat + bit (hasBit x.once r) * 2 ^ 32
    s.setTest { x with behind := Tbl.put (0, 0) x.behind r (v, Tbl.get 0 x.ready r), once := withoutBit x.once r }
  else s

/-- A slice of position `idx` enters phase `ph` with spare code `j`. -/
def State.sliceEnter (s : State) (r kind idx j ph : Nat) (targeted marking : Bool) : State :=
  let flow := kind == 0 && decide (idx < 256) && s.holdsFlow r idx
  let s := s.setAside r
  let v := ph + kind * 2 ^ 3 + idx * 2 ^ 8 + j * 2 ^ 17 + bit targeted * 2 ^ 21 + bit flow * 2 ^ 22
  let s := s.wr (Reg.ST_SLICE r) (BitVec.ofNat 64 v)
  let x := s.selfTest
  (s.setTest { x with marking := if marking then withBit x.marking r else x.marking }).sliceActive

/-- A slice of position `idx` starts (R584, R588, R592, R601). -/
def State.sliceStart (s : State) (r kind idx : Nat) (targeted : Bool) : State :=
  if s.testsInPlace r kind idx then s.sliceEnter r kind idx inPlace phTest targeted false
  else if kind = 0 ∧ !targeted ∧ s.rstate r = .running ∧ s.hasToken r idx then s.sliceOutcome r kind idx inPlace outSkipped 0
  else match s.freeSpare r kind with
    | some j => s.sliceEnter r kind idx j phCopy targeted false
    | none => s.sliceOutcome r kind idx inPlace outNoSpare 0

/-- Element `p` of the sweep gets a slice: with a block slice waiting, only what needs no spare block (R594). -/
def State.sweepTakes (s : State) (r p : Nat) : Bool :=
  let (kind, idx) := sweepElem p
  s.testable r kind idx && (!s.slicing r || kind != 0 || s.testsInPlace r kind idx)

/-- The next element of region `r` that gets a slice. -/
def State.sweepNext (s : State) (r : Nat) : Option Nat :=
  let n := Tbl.get 0 s.selfTest.pos r
  (List.range' n (sweepLen - n)).find? (s.sweepTakes r)

/-- Slices run in these states (R587). -/
def State.sliceable (s : State) (r : Nat) : Bool := validRegion r && (s.rstate r == .running || s.rstate r == .held)

/-- The region part of the sweep may begin a slice in region `r` now (R586, R587). -/
def State.sweepMay (s : State) (r : Nat) : Bool :=
  s.on Reg.ST_CTL_EN && s.sliceable r && s.sliceRoom r &&
    (s.slicing r || decide (((List.range 24).filter s.slicing).length < s.fld Reg.ST_CTL_PARM1 + 1)) &&
    (List.range r).all (fun q => !s.sliceable q || Tbl.get 0 s.selfTest.pos q != 0)

/-- The sweep ends when its parts have finished, and the next one begins (R586). -/
def State.sweepCheck (s : State) : State :=
  let x := s.selfTest
  let regions := (List.range 24).all (fun r =>
    !s.slicing r && (!s.sliceable r || decide (sweepLen ≤ Tbl.get 0 x.pos r)))
  if s.on Reg.ST_CTL_EN && regions && (!s.on Reg.ST_CTL_LANECHK || x.lanes == 128) && (!s.on Reg.ST_CTL_ANALOG || x.analog) &&
      !s.on Reg.ST_STAT_AN_BUSY then
    ((s.setTest { x with pos := [], lanes := 0, analog := false }).stCount ⟨Reg.ST_SWEEPS, 0, 32⟩).setBit ⟨Reg.ST_EVT, 0, 1⟩ true
  else s

/-- The outcome of a SLICE command (Table 16-14). -/
def State.sliceCode (s : State) (r kind idx : Nat) : Code :=
  if !validRegion r || !posOk kind idx then .eArg
  else if !s.sliceable r then .eState
  else if s.slicing r then .eBusy
  else if !s.testable r kind idx then .eArg
  else .ok

/-! ## ABORT (R597) -/

/-- ABORT of the slice that ST_SLICE of region `r` shows. -/
def State.abortFront (s : State) (r : Nat) : State :=
  let ph := s.slicePhase r
  let x := s.selfTest
  let d := (s.freeBits 32).toNat
  if ph = phCopy ∨ ph = phWaitOut ∨ (ph = phTest ∧ s.fld (Reg.ST_SLICE_SPARE r) = inPlace) then
    (s.tookFree).sliceFinish r outAborted d
  else if ph = phTest then (s.setTest { x with aborting := withBit x.aborting r }).setPhase r phRestore
  else if ph = phRestore then s.setTest { x with aborting := withBit x.aborting r }
  else if ph = phWaitBack then s.setPhase r phParked
  else s

/-- ABORT in region `r`. -/
def State.abortSlice (s : State) (r : Nat) : State :=
  let x := s.selfTest
  let b := Tbl.get (0, 0) x.behind r
  let s := if b = (0, 0) then s
    else s.setTest { x with behind := Tbl.put (0, 0) x.behind r (b.1 / 8 * 8 + phParked, b.2) }
  s.abortFront r

/-- ABORT of every slice (Table 13-6). Answers whether one ran. -/
def State.abortAll (s : State) : State × Bool :=
  ((List.range 24).foldl (fun t r => if t.slicing r then t.abortSlice r else t) s, (List.range 24).any s.slicing)

/-! ## Lanes -/

/-- The largest count that an eye check shows (LN_STEYE.WORST). -/
def eyeWorst (pts : List Nat) : Nat := min 0xFFFFFF (pts.foldl max 0)

/-- An eye check of lane `n` finds these counts at −PHASE, +PHASE, −VOFS, +VOFS (R606). -/
def State.eyeCheck (s : State) (n p0 p1 p2 p3 : Nat) : State :=
  let bad := fun (p : Nat) => decide (1 < p)
  let fails := bit (bad p0) + 2 * bit (bad p1) + 4 * bit (bad p2) + 8 * bit (bad p3)
  let v := 1 + 2 * bit (fails == 0) + fails * 4 + eyeWorst [p0, p1, p2, p3] * 2 ^ 8
  let s := s.wr (Reg.LN_STEYE n) (BitVec.ofNat 64 v)
  if fails = 0 then s else s.stErr 5 (128 + n)

end Sys2Proof.Machine
end

