-- ==== Sys2Proof/Machine/LifeCycle.lean ====
section
/-! DEFINITION. The life cycle: transitions, key slots (chapter 16). -/

namespace Sys2Proof.Machine

/-- A life-cycle command's outcome (Table 16-13). -/
def State.lcRecord (s : State) (req cmd : Nat) (c : Code) : State :=
  let s := ((s.setFld Reg.LC_CMDSTAT_CODE c.num).setFld Reg.LC_CMDSTAT_CMD cmd).setFld Reg.LC_CMDSTAT_REQ req
  (s.noteRefusal srcSelfTest (Reg.LC_CMD - Reg.ST_CTL) req c).respond req Reg.LC_CMD c

/-- A transition between two states is allowed (Table 16-11). -/
def lcAllowed (old new : Nat) : Bool :=
  (old == 0 && new == 1) || (old == 1 && (new == 2 || new == 3 || new == 4)) || (old == 2 && (new == 3 || new == 4)) ||
    (old == 3 && new == 4)

/-- A transition zeroises (Table 16-11). -/
def lcZeroises (old new : Nat) : Bool := (old == 1 || old == 2) && (new == 3 || new == 4)

/-- The last steps of a transition to `new` (R612): fuses, incident, chip reset. The chip reset clears what a transition that
zeroises has to clear: regions, cell pools, volatile keys. -/
def State.lcFinish (s : State) (new : Nat) : State :=
  let old := s.lcState
  let kill := if lcZeroises old new then 3 else s.fuses.kill
  let s := { s with fuses := { s.fuses with kill, states := withBit s.fuses.states new } }
  let s := s.raise srcHk .notice 0x6D (old + new * 2 ^ 4)
  (s.pmWrite pmLifeCycle none).restart

/-- No journal store runs or waits. -/
def State.storesEnded (s : State) : Bool := s.hk.cur.isNone && s.hk.queue.isEmpty

/-- A transition that has waited for the journal stores goes on once they have ended. -/
def State.lcResume (s : State) : State :=
  match s.selfTest.lc with
  | some new => if s.storesEnded then s.lcFinish new else s
  | none => s

/-- LC_CMD TRANSITION (R611, R612). -/
def State.lcTransition (s : State) (req new key : Nat) : State :=
  if key ≠ 0xC3 then s.lcRecord req 1 .eArg
  else if s.on Reg.LC_CMDSTAT_BUSY then s.lcRecord req 1 .eBusy
  else if !lcAllowed s.lcState new then s.lcRecord req 1 .eState
  else
    let s := s.lcRecord req 1 .ok
    if lcZeroises s.lcState new then
      let (s, _) := s.abortAll
      ((s.setTest { s.selfTest with lc := some new }).setBit Reg.LC_CMDSTAT_BUSY true).lcResume
    else s.lcFinish new

/-- LC_CMD KEY_PROG (R614): LC_KEYBUF is cleared whatever the outcome. -/
def State.keyProg (s : State) (req slot key : Nat) : State :=
  let k := ((List.range 8).map (fun i => s.fld (Reg.LC_KEYBUF_KEY i) * 2 ^ (32 * i))).sum
  let c : Code :=
    if key ≠ 0xC3 then .eArg
    else if s.on Reg.LC_CMDSTAT_BUSY then .eBusy
    else if s.lcState ≠ 1 then .eLock
    else if (Tbl.get none s.fuses.keys slot).isSome ∨ hasBit s.fuses.kill slot then .eState
    else .ok
  let s := (List.range 8).foldl (fun s i => s.setFld (Reg.LC_KEYBUF_KEY i) 0) s
  let s :=
    if c ≠ .ok then s
    else
      let s := { s with fuses := { s.fuses with keys := Tbl.put none s.fuses.keys slot (some k) } }
      (s.setCfg { s.cfg with keys := Tbl.put none s.cfg.keys slot (some k) }).setBitOf Reg.CFG_KEYSTAT_READY slot
  s.lcRecord req 2 c

/-- LC_CMD KEY_KILL (R614). -/
def State.keyKill (s : State) (req slot key : Nat) : State :=
  let c : Code := if key ≠ 0xC3 then .eArg else if s.on Reg.LC_CMDSTAT_BUSY then .eBusy else .ok
  let s :=
    if c ≠ .ok then s
    else
      let s := { s with fuses := { s.fuses with kill := withBit s.fuses.kill slot } }
      let s := (s.setCfg { s.cfg with keys := Tbl.put none s.cfg.keys slot none }).clrBitOf Reg.CFG_KEYSTAT_READY slot
      s.setBitOf Reg.CFG_KEYSTAT_KILLED slot
  s.lcRecord req 3 c

/-- A write to LC_CMD. -/
def State.lcCmd (s : State) (req value : Nat) : State :=
  let key := bitsOf value 24 8
  match value % 16 with
  | 1 => s.lcTransition req (bitsOf value 4 3) key
  | 2 => s.keyProg req (bitsOf value 8 1) key
  | 3 => s.keyKill req (bitsOf value 8 1) key
  | c => s.lcRecord req c .eArg

/-- LC_TRANSITION (R611, R612): TARGET and KEY. -/
def execLcTransition (req target : Nat) (key : BitVec 8) (s : State) : Answer := answer s (s.lcTransition req (target % 8) key.toNat)

/-- LC_KEY_PROG (R614): SLOT and KEY. -/
def execLcKeyProg (req slot : Nat) (key : BitVec 8) (s : State) : Answer := answer s (s.keyProg req (slot % 2) key.toNat)

/-- LC_KEY_KILL (R614): SLOT and KEY. -/
def execLcKeyKill (req slot : Nat) (key : BitVec 8) (s : State) : Answer := answer s (s.keyKill req (slot % 2) key.toNat)

end Sys2Proof.Machine
end

