-- ==== Sys2Proof/Machine/Boot.lean ====
section
/-! DEFINITION. The meanings of the boot, Galliard, journal and NOR commands and events (chapter 15). -/

namespace Sys2Proof.Machine

/-! ## Reset and start -/

/-- RESET_N_RISE (R549, R551, R614): with PWROK high and no trip held, the device starts. `refclk`: REFCLK is present. -/
def execResetNRise (refclk : Bool) (s : State) : Answer :=
  answer s (
    let s := { s with pins := { s.pins with balls := Tbl.put (pinRestsHigh 0) s.pins.balls 0 true } }
    if s.hk.up || s.lovage.st != .run || s.lovage.tripHold then s
    else (s.setHk { s.hk with refclk }).start)

/-- RESET_N_FALL (Table 1-6, R652): chip reset; the post-mortem word is written. -/
def execResetNFall (s : State) : Answer :=
  answer s (
    let s := { s with pins := { s.pins with balls := Tbl.put (pinRestsHigh 0) s.pins.balls 0 false } }
    if s.lovage.st ≠ .run then s else (s.pmWrite pmResetN none).chipReset)

/-- The least capacity of the NOR in bytes: 2 Gbit (R553). -/
def norLeast : Nat := 0x10000000

/-- NOR_INIT (R553): discovery finds a NOR of `size` bytes that meets R553, or not; at the start, and again at the start of each
round after a failure. -/
def execNorInit (ok : Bool) (size : Nat) (s : State) : Answer :=
  answer s (
    let first := s.bootState == 0
    let again := s.imageDue && s.hk.step == 0 && !s.hk.norOk
    if !s.hk.up || s.bootMode == 1 || !(first || again) then s
    else
      let s := if first then s.setBoot 1 else s
      let ok := ok && decide (norLeast ≤ size)
      let s := s.setHk { s.hk with norOk := ok, norSize := if ok then size else 0 }
      if ok then s else s.bootEvent 3 .eUnsup 0)

/-- A compaction that was cut off goes on, as an internal store (R571). -/
def State.resumeCompaction (s : State) : State :=
  if s.listener || s.copyNext.isNone then s else (s.queueStore .compaction).1

/-- JOURNAL_READ_AT_BOOT (R551, R567, R568, R571, R604, R484): settings and FAILMAP are applied, Retry Status ends. -/
def execJournalReadAtBoot (s : State) : Answer :=
  answer s (
    if !s.hk.up || s.hk.journal || (s.bootState != 1 && !(s.bootMode == 1 && s.bootState == 0)) then s
    else
      let t := if s.hk.norOk || s.listener then ((s.resumeCompaction).applySettings).applyFailmap else s
      let t := if s.hk.retry then t else t.setHk { t.hk with ssvid := s.hk.ssvid, ssid := s.hk.ssid }
      let s := (t.setHk { t.hk with journal := true, retry := false }).setBoot 2
      if s.lcState = 4 ∨ s.bootMode = 3 then s.setBoot bsRescue
      else if s.hk.refclk then s
      else s.setBoot 3)

/-- REFCLK_PRESENT (R551). -/
def execRefclkPresent (s : State) : Answer := answer s (s.setHk { s.hk with refclk := true })

/-- BOOT_REGION_POWER (R552, Table 15-1): POWER_ON to the regions of REGPWR. -/
def execBootRegionPower (s : State) : Answer :=
  answer s (
    if s.hk.up && s.hk.refclk && s.on Reg.TICK_STATUS_PLL_LOCK && (s.bootState == 2 || s.bootState == 3) then
      let s := (List.range 24).foldl (fun s r => if hasBit s.hk.regpwr r then s.regionCmdWrite reqHk r cmdPowerOn else s) s
      s.setBoot (match s.bootMode with
        | 0 => 4
        | 1 => bsListen
        | _ => bsHostOnly)
    else s)

/-! ## Galliard -/

/-- GALLIARD_IMAGE_ATTEMPT (R555–R558). -/
def execGalliardImageAttempt (s : State) : Answer :=
  answer s (if s.imageDue && s.regionsUp && s.cfgSrc == srcIdle then s.imageAttempt else s)

/-- GALLIARD_HOST_WAIT_END (R558, R560): the wait's time is over; it lasts while a host stream runs. -/
def execGalliardHostWaitEnd (s : State) : Answer :=
  answer s (
    let waits := (s.bootState == bsHostWait && s.hk.step == 2) || (s.bootState == bsBackoff && s.hk.step == 3)
    if s.hk.up && s.bootMode == 0 && waits && s.hk.attempt != 3 then s.waitEnded .eTmo else s)

/-- BOOT_STREAM_END (R556, R558, R560, R561, R564): the stream of an attempt has ended. -/
def execBootStreamEnd (s : State) : Answer :=
  answer s (
    match s.cfg.done with
    | none => s
    | some c => if s.hk.attempt = 0 || s.cfgSrc != srcIdle then s else s.attemptEnded c)

/-- BOOT_HOLD (R561). -/
def execBootHold (req : Nat) (s : State) : Answer := answer s (s.bootCtl req 1)

/-- BOOT_RESUME (R561). -/
def execBootResume (req : Nat) (s : State) : Answer := answer s (s.bootCtl req 2)

/-- LISTENER_NO_IMAGE_TIMEOUT (R564). -/
def execListenerNoImageTimeout (s : State) : Answer :=
  answer s (if s.bootState = bsListen ∧ !s.hk.seen then s.setBoot bsHostOnly else s)

/-- LISTENER_BUS_READ (R563): a read of `n` bytes `v` at address `a`. -/
def execListenerBusRead (a n v : Nat) (s : State) : Answer :=
  answer s (if s.hk.up && s.listener && s.bootState != bsRescue then s.busRead a n v else s)

/-! ## The journal -/

/-- JOURNAL_WRITE (R572, Table 15-9). -/
def execJournalWrite (req : Nat) (s : State) : Answer := answer s (s.journalCmd req 1)

/-- JOURNAL_READ (R567, Table 15-9). -/
def execJournalRead (req type dev part : Nat) (s : State) : Answer :=
  answer s (s.journalCmd req (2 + type % 2 ^ 8 * 2 ^ 4 + dev % 8 * 2 ^ 12 + part % 8 * 2 ^ 16))

/-- JOURNAL_OUTACK (R565). -/
def execJournalOutack (req : Nat) (s : State) : Answer := answer s (s.journalCmd req 3)

/-- JOURNAL_STORE (R565, R569–R573): the first try of the store that is due, or that on its next page. -/
def execJournalStore (v1 v2 : Nat) (back : Option Nat) (s : State) : Answer :=
  answer s (if s.hk.up && !s.hk.waiting then s.storeTry v1 v2 back else s)

/-- HOLDUP_RETRY (R575). -/
def execHoldupRetry (v1 v2 : Nat) (back : Option Nat) (s : State) : Answer :=
  answer s (if s.hk.up && s.hk.waiting then s.storeTry v1 v2 back else s)

/-- POWER_LOSS_DURING_STORE (R574): housekeeping completes the program and the read-back on VHOLD. -/
def execPowerLossDuringStore (s : State) : Answer := answer s (if s.hk.holdEn then s.powerLoss else s)

/-- NOR_OPERATION_COMPLETE (R562, R570, R574, R582): a page program with its read-back, or an erase, ends. A raw program reads back
as `back`, or as it should. After a loss of power, housekeeping resets; a thermal trip that waited resets the chip (R672). -/
def execNorOperationComplete (back : Option Nat) (s : State) : Answer :=
  answer s (
    if s.lovage.st = .holdup then ((s.setHk { s.hk with cur := none }).chipReset).enterStby
    else if (s.hk.cur.bind (·.outcome)).isSome then
      let s := s.storeDone
      if s.lovage.tripHold then s.tripReset else s.lcResume
    else match s.hk.raw with
      | some op => s.rawDone op back
      | none => s)

/-! ## Raw access -/

/-- NOR_RAW_READ (R581). -/
def execNorRawRead (req : Nat) (s : State) : Answer := answer s (s.norCmd req 1)

/-- NOR_RAW_PROGRAM (R582). -/
def execNorRawProgram (req : Nat) (force : Bool) (s : State) : Answer := answer s (s.norCmd req (2 + bit force * 2 ^ 4))

/-- NOR_RAW_ERASE (R581). -/
def execNorRawErase (req : Nat) (s : State) : Answer := answer s (s.norCmd req 3)

/-- NOR_RAW_BLANKCHK (R581). -/
def execNorRawBlankchk (req : Nat) (s : State) : Answer := answer s (s.norCmd req 4)

end Sys2Proof.Machine
end

