-- ==== Sys2Proof/Machine/Lane.lean ====
section
/-! DEFINITION. The meanings of the lane commands and events (chapter 11). -/

namespace Sys2Proof.Machine

/-- LANE_EN_SET (R427, R433): a write of LN_CTL with EN = 1. -/
def execLaneEnSet (req n : Nat) (value : BitVec 32) (s : State) : Answer :=
  answer s (if validLane n then s.laneCtlWrite req n (withBit value.toNat 0) else s)

/-- LANE_EN_CLEAR (R430): a write of LN_CTL with EN = 0. -/
def execLaneEnClear (req n : Nat) (value : BitVec 32) (mid : Bool) (s : State) : Answer :=
  answer s (if validLane n then s.laneCtlWrite req n (withoutBit value.toNat 0) mid else s)

/-- LANE_PWRUP_DONE (R437): the supply is on, and lane `n` leaves PWRUP. -/
def execLanePwrupDone (n : Nat) (s : State) : Answer :=
  answer s (
    if validLane n && s.laneState n == lnPwrup then
      let s := s.setLaneState n (if (s.lane n).loop.isSome then lnLoop else s.restState n)
      s.portEnable (s.portHead n)
    else s)

/-- LANE_TRAINING_FRAMES_SEEN (R427): WAIT ends. -/
def execLaneTrainingFramesSeen (n : Nat) (s : State) : Answer :=
  answer s (
    if validLane n && s.laneState n == lnWait && !s.portHeld (s.portHead n) then
      (s.enterTrain (s.portHead n)).setBit (Reg.LN_STATUS_SIGDET n) true
    else s)

/-- What training has set on a lane: the transmit coefficients, the receiver's codes, and whether the partner has asked for
precoding (R418, R427). -/
def State.trained (s : State) (n txeq rxeq : Nat) (partner : Bool) : State :=
  let half := s.on (Reg.LG_CFG_RATE (n / 8))
  let s := (s.wr (Reg.LN_TXEQ n) (BitVec.ofNat 64 (txeq % 2 ^ 22))).wr (Reg.LN_RXEQ n) (BitVec.ofNat 64 (rxeq % 2 ^ 24))
  (s.setBit (Reg.LN_STATUS_PC_TX n) (partner && !half)).setBit (Reg.LN_STATUS_PC_RX n)
    (hasBit (s.lane n).inForce 2 && !half)

/-- A lane enters data mode: no block sent or received, no ALIGN seen; what level precoding starts from the spec does not say. -/
def State.laneData (s : State) (n : Nat) : State :=
  let y := s.lane n
  (s.setLane n { y with good := 0, txBlocks := [], txLevel := (s.freeBits 2).toNat, rxLevel := (s.freeBits 4).toNat / 4, cw := none,
                        rxBlocks := [] }).tookFree

/-- LANE_TRAIN_DONE (R427): both receivers report ready on every lane of the port. `eq` gives, by lane, what training has set. -/
def execLaneTrainDone (n : Nat) (eq : List (Nat × Nat × Nat × Bool)) (s : State) : Answer :=
  answer s (
    let h := s.portHead n
    if validLane n && (s.portLanes h).all (fun m => s.laneState m == lnTrain) then
      let s := s.setPort h lnLock
      let s := (s.portLanes h).foldl (fun s m => s.laneData m) (s.setLink h { s.link h with txCount := 0 })
      eq.foldl (fun s e => if (s.portLanes h).contains e.1 then s.trained e.1 e.2.1 e.2.2.1 e.2.2.2 else s) s
    else s)

/-- The lanes of a port of more than one have been aligned (R425, R427): every ALIGN counter is known, and no lane is more than one
codeword ahead of another, which would take more skew than the tolerance of 20 ns. -/
def State.aligned (s : State) (h : Nat) : Bool :=
  let cws := (s.portLanes h).map (fun m => (s.lane m).cw)
  s.portWidth h == 1 || cws.all (fun a => cws.all (fun b => match a, b with
    | some x, some y => decide (x ≤ y + 1)
    | _, _ => false))

/-- A lane enters UP: the blocks of a codeword that the port's other lanes have still to bring are kept (R425). -/
def State.laneUp (s : State) (h n : Nat) : State :=
  let x := s.lane n
  let ahead := (s.portLanes h).any (fun m => match (s.lane m).cw, x.cw with
    | some y, some z => decide (y < z)
    | _, _ => false)
  s.setLane n { x with fails := 0, rxBlocks := if ahead then x.rxBlocks else [] }

/-- LANE_LOCK_DONE (R427): codeword lock on every lane, four good codewords in a row on each, and alignment; the port enters
UP. `skew` gives the lanes' leads in 0.1 ns (R425). -/
def execLaneLockDone (n : Nat) (skew : List (Nat × Nat)) (s : State) : Answer :=
  answer s (
    let h := s.portHead n
    if validLane n && (s.portLanes h).all (fun m => s.laneState m == lnLock && decide (4 ≤ (s.lane m).good)) && s.aligned h &&
        skew.all (fun e => decide (e.2 ≤ 200)) then
      let s := (s.portLanes h).foldl (fun s m => s.laneUp h m) (s.setPort h lnUp)
      let s := skew.foldl (fun s e => if (s.portLanes h).contains e.1 then s.setFld (Reg.LN_STATUS_SKEW e.1) e.2 else s) s
      s.linkEnter h
    else s)

/-- LANE_TRAINING_TIMEOUT (R427): the attempt is counted, and the port returns to WAIT. -/
def execLaneTrainingTimeout (n : Nat) (s : State) : Answer :=
  answer s (
    let h := s.portHead n
    if validLane n && (s.laneState n == lnTrain || s.laneState n == lnLock) then
      (s.portLanes h).foldl (fun s m => (s.laneCount m Reg.LN_TRNFAIL_COUNT 1).laneErr m 1) (s.setPort h lnWait)
    else s)

/-- LANE_DOWN (R428): lane `n` takes its port out of UP. `cause`: 0 loss of signal, 1 eight uncorrectable codewords in a row,
2 skew beyond tolerance, 3 training frames from the partner. -/
def execLaneDown (n cause : Nat) (mid : Bool) (s : State) : Answer :=
  answer s (
    if validLane n && s.laneState n == lnUp && decide (cause < 4) && (cause != 1 || decide (8 ≤ (s.lane n).fails)) then
      let s := if cause = 0 then s.setBit (Reg.LN_STATUS_SIGDET n) false else if cause = 2 then s.laneErr n 4 else s
      s.portDepart (s.portHead n) false mid
    else s)

/-- LANE_FREQ_CHECK (R421): the frequency offset that the receiver measured in the last 100 µs, in ppm and in magnitude. -/
def execLaneFreqCheck (n ppm : Nat) (mid : Bool) (s : State) : Answer :=
  answer s (
    if validLane n && s.laneState n == lnUp && decide (10 < ppm) then
      (s.laneErr n 3).portDepart (s.portHead n) false mid
    else s)

/-- A codeword of which `sym` symbols are in error: 16 and more stand for an uncorrectable one (R416, R417, Table 11-17). -/
def State.codeword (s : State) (n sym : Nat) : State :=
  let s := s.laneCount n Reg.LN_FECCW_COUNT 1
  let x := s.lane n
  if sym ≤ 15 then
    let s := s.setLane n { x with fails := 0, good := x.good + 1 }
    let s := s.laneCount n (fun n => Reg.LN_SYMHIST_COUNT n sym) 1
    if sym = 0 then s else (s.laneCount n Reg.LN_FECCE_COUNT 1).laneCount n Reg.LN_FECSYM_COUNT sym
  else
    let s := s.setLane n { x with fails := x.fails + 1, good := 0 }
    (s.laneCount n Reg.LN_FECUE_COUNT 1).laneErr n 2

/-- A block as the hub takes it (R415): a control block of a reserved CTYPE is as IDLE. -/
def hubBlock (b : Nat) : RxBlock :=
  match blockKind b with
  | .data v => .data v
  | _ => .control

/-- The number of a received codeword, by its first ALIGN block for this lane of its port, or by the one before it (R425, R427). -/
def State.codewordNumber (s : State) (n : Nat) (blocks : List Nat) : Option Nat :=
  let h := s.portHead n
  let code := bondCode (s.fld (Reg.LG_BOND_WIDTH (h / 8))) (h % 8)
  match blocks.findSome? (fun b => match blockKind b with
      | .align c l w => if l = n - h ∧ w = code then some c else none
      | _ => none) with
  | some c => some c
  | none => (s.lane n).cw.map (fun c => (c + 1) % 2 ^ 32)

/-- CODEWORD_RECEIVE (R413–R418, R420, R455): a codeword, as the levels that lane `n` has received for its message and its parity
symbols. It is decoded; in UP its blocks go to the hub, all of them marked errored if it is uncorrectable. The thirteenth such one since UP retrains
the link. -/
def execCodewordReceive (n message parity : Nat) (mid : Bool) (s : State) : Answer :=
  answer s (
    if !validLane n || !(s.laneState n == lnLock || s.laneState n == lnUp) then s
    else
      let h := s.portHead n
      let up := s.laneState n == lnUp
      let (v, last) := lineReceive (s.rxMode n) (s.lane n).rxLevel (codewordLevels message parity)
      let r := decodeBlocks v
      let blocks := (r.map (·.1)).getD []
      let s := s.setLane n { s.lane n with rxLevel := last, cw := s.codewordNumber n blocks }
      let s := s.codeword n ((r.map (·.2)).getD 16)
      let bad := (blocks.filter (fun b => blockKind b == .reserved)).length
      let s := if bad = 0 then s else (s.laneCount n Reg.LN_CTLBAD_COUNT bad).laneErr n 5
      let got := if r.isSome then blocks.map hubBlock else List.replicate 20 .errored
      let x := s.lane n
      if !up then s.setLane n { x with rxBlocks := got }
      else
        let s := s.setLane n { x with rxBlocks := x.rxBlocks ++ got }
        let s := s.mergeBlocks h ((s.lane n).rxBlocks.length)
        if r.isSome then s
        else
          let y := s.link h
          let s := s.setLink h { y with ue := y.ue + 1 }
          if 13 ≤ y.ue + 1 then (s.linkErr h idlLeak 0).portDepart h true mid else s)

/-- LANE_RETRAIN (R428, Table 11-12). -/
def execLaneRetrain (req n : Nat) (mid : Bool) (s : State) : Answer :=
  answer s (if validLane n then s.laneCmdWrite req n 1 mid else s)

/-- LANE_LOOP_NEAR (R434). -/
def execLaneLoopNear (req n : Nat) (s : State) : Answer := answer s (if validLane n then s.laneCmdWrite req n 2 else s)

/-- LANE_PRBS_TX (R434). -/
def execLanePrbsTx (req n : Nat) (s : State) : Answer := answer s (if validLane n then s.laneCmdWrite req n 3 else s)

/-- LANE_LOOP_EXIT (R434). -/
def execLaneLoopExit (req n : Nat) (s : State) : Answer := answer s (if validLane n then s.laneCmdWrite req n 4 else s)

/-- LANE_EYE_START (R436). -/
def execLaneEyeStart (req n : Nat) (s : State) : Answer := answer s (if validLane n then s.laneCmdWrite req n 5 else s)

/-- LANE_EYE_ABORT (R436). -/
def execLaneEyeAbort (req n : Nat) (s : State) : Answer := answer s (if validLane n then s.laneCmdWrite req n 6 else s)

/-- LANE_EYE_DONE (R436): the dwell ends with `count` disagreements. -/
def execLaneEyeDone (n count : Nat) (s : State) : Answer :=
  answer s (
    if validLane n && s.on (Reg.LN_EYESTAT_BUSY n) then
      if s.laneState n = lnUp then
        ((s.setFld (Reg.LN_EYESTAT_MISCNT n) (min count 0xFFFFFF)).setBit (Reg.LN_EYESTAT_BUSY n) false).setBit
          (Reg.LN_EYESTAT_DONE n) true
      else s.eyeAbort n
    else s)

/-- LANE_GROUP_CONFIG_WRITE (R423, R424): LG_CFG, LG_ROLE, LG_BOND or LG_PEER of group `g`. -/
def execLaneGroupConfigWrite (req g off : Nat) (value : BitVec 32) (s : State) : Answer :=
  answer s (if g < 16 && [0, 4, 8, 0xC].contains off then s.groupWrite req g off value.toNat else s)

/-- LANE_DOFS_WRITE (R433). -/
def execLaneDofsWrite (req g : Nat) (value : BitVec 32) (s : State) : Answer :=
  answer s (if g < 16 then s.dofsWrite req g value.toNat else s)

/-- LANE_CNTCLR (R438). -/
def execLaneCntclr (req n : Nat) (s : State) : Answer :=
  answer s (if validLane n then (s.laneCntclr n).respond req (Reg.LN_CNTCLR n) .ok else s)

/-- PRBS_CHECKER_LOCK (R434): the pattern checker of a lane in LOOP gains or loses lock; `errors` bit errors have come since
its last event while it was locked. -/
def execPrbsCheckerLock (n errors : Nat) (lock : Bool) (s : State) : Answer :=
  answer s (
    if validLane n && s.laneState n == lnLoop then
      let s := if s.on (Reg.LN_STATUS_PRBS_LOCK n) then s.laneCount n Reg.LN_PRBSERR_COUNT errors else s
      s.setBit (Reg.LN_STATUS_PRBS_LOCK n) lock
    else s)

end Sys2Proof.Machine
end

