-- ==== Sys2Proof/Machine/LogOps.lean ====
section
/-! DEFINITION. The incident log: taking incidents, entries, token buckets, commands (chapter 18). -/

namespace Sys2Proof.Machine

/-- The state with the log changed. -/
def State.setLog (s : State) (x : LogSt) : State := { s with log := x }

/-- A counter of the log advances by `n`. -/
def State.logCount (s : State) (f : Fld) (n : Nat) : State := s.countBy f Reg.IL_STAT_CNT_SAT n

/-- Drops of a source are counted, and the pending GAP mark is set (R641, R644). -/
def State.logLost (s : State) (src n : Nat) : State :=
  if n = 0 then s
  else
    let s := ((s.logCount Reg.IL_LOST_COUNT n).setFld Reg.IL_LOSTSRC_SRC src).setBit Reg.IL_LOSTSRC_VALID true
    s.setLog { s.log with gap := true }

/-- The first entry of the rolling part (R647). -/
def State.rollStart (s : State) : Nat := if s.on Reg.IL_STAT_FRZ_ACT then 256 else 0

/-- The summary and detail words of a new entry (Table 18-1). -/
def entryWord (i : Incident) (lap gap : Bool) : Nat :=
  i.sev.num + i.src * 2 ^ 3 + i.code * 2 ^ 13 + bit lap * 2 ^ 27 + bit gap * 2 ^ 28 + i.tick.toNat * 2 ^ 32 + i.arg.toNat * 2 ^ 64

/-- A new entry is written (step 7 of R644, R647). IL_PEND stays at 4,096 without CNT_SAT, which CNTCLR could not undo for it: DESIGN
CHOICE (log entry 52). -/
def State.logWrite (s : State) (i : Incident) : State :=
  let p := s.fld Reg.IL_STAT_WPTR
  let lap := decide (s.rollStart ≤ p) && s.on Reg.IL_STAT_LAP
  let x := s.log
  let s := s.setLog { x with
    entries := Tbl.put 0 x.entries p (entryWord i lap x.gap), newest := Tbl.put 0 x.newest i.src (p + 1), gap := false }
  let s :=
    if p = 4095 then
      ((s.setFld Reg.IL_STAT_WPTR s.rollStart).setBit Reg.IL_STAT_LAP (!s.on Reg.IL_STAT_LAP)).setBit Reg.IL_STAT_WRAPPED true
    else s.setFld Reg.IL_STAT_WPTR (p + 1)
  if s.fld Reg.IL_CTL_EVTSEV ≤ i.sev.num then s.setFld Reg.IL_PEND_COUNT (min 4096 (s.fld Reg.IL_PEND_COUNT + 1)) else s

/-- The newest entry of a source, if it still stands in the rolling part: its index and words (R645). -/
def State.newestOf (s : State) (src : Nat) : Option (Nat × Nat) :=
  match Tbl.get 0 s.log.newest src with
  | 0 => none
  | p + 1 =>
    let e := Tbl.get 0 s.log.entries p
    if s.rollStart ≤ p ∧ bitsOf e 3 10 = src ∧ e % 8 ≠ 0 then some (p, e) else none

/-- The entry that an incident coalesces into; `recent`: it was written less than CWIN before (R645). -/
def State.coalesces (s : State) (i : Incident) (recent : Bool) : Option (Nat × Nat) :=
  if s.fld Reg.IL_CTL_CWIN = 0 ∨ !recent then none
  else match s.newestOf i.src with
    | some (p, e) =>
      if e % 8 = i.sev.num ∧ bitsOf e 13 7 = i.code ∧ bitsOf e 64 64 = i.arg.toNat then some (p, e) else none
    | none => none

/-- The tokens of a source (R646). -/
def State.tokens (s : State) (src : Nat) : Nat :=
  match Tbl.get 0 s.log.tokens src with
  | 0 => s.fld Reg.IL_RATE_BURST
  | t + 1 => t

/-- The state with the tokens of a source set; a bucket of BURST tokens is full. -/
def State.setTokens (s : State) (src t : Nat) : State :=
  s.setLog { s.log with tokens := Tbl.put 0 s.log.tokens src (if s.fld Reg.IL_RATE_BURST ≤ t then 0 else t + 1) }

/-- The log takes an incident (R644). -/
def State.logTake (s : State) (i : Incident) (recent : Bool) : State :=
  let s := s.logCount Reg.IL_TOTAL_COUNT 1
  let fatal := i.sev == .fatal
  let s := if fatal ∨ s.fld Reg.IL_CTL_ALMSEV ≤ i.sev.num then s.setAlarm else s
  let s := if fatal then (s.pmWrite pmFatal (some i)).fatalQuench else s
  let (s, entry) : State × Nat :=
    if i.sev.num < s.fld Reg.IL_CTL_MINSEV then (s.logCount Reg.IL_BELOW_COUNT 1, entryWord i false false)
    else match s.coalesces i recent with
      | some (p, e) =>
        let e' := if bitsOf e 20 7 < 127 then e + 2 ^ 20 else e
        ((s.setLog { s.log with entries := Tbl.put 0 s.log.entries p e' }).logCount Reg.IL_COALCNT_COUNT 1, e')
      | none =>
        if !fatal ∧ s.tokens i.src = 0 then (s.logLost i.src 1, 0)
        else
          let s := if fatal then s else s.setTokens i.src (s.tokens i.src - 1)
          let p := s.fld Reg.IL_STAT_WPTR
          let s := s.logWrite i
          (s, Tbl.get 0 s.log.entries p)
  if fatal then s.fatalStore entry else s

/-- The sources (Table 18-2). -/
def allSources : List Nat :=
  (List.range 8) ++ (List.range 24).map srcRegion ++ (List.range 96).map srcEngine ++ (List.range 48).map srcNode ++
    (List.range 128).map srcLane ++ (List.range 4).map srcShard ++ (List.range 12).map srcBank

/-- A log command's or register write's outcome (Table 18-9). -/
def State.logRecord (s : State) (req addr cmd : Nat) (c : Code) : State :=
  let s := ((s.setFld Reg.IL_CMDSTAT_CODE c.num).setFld Reg.IL_CMDSTAT_CMD cmd).setFld Reg.IL_CMDSTAT_REQ req
  (s.noteRefusal srcHk (addr - Reg.HK_BOOTCTL) req c).respond req addr c

/-- A write of IL_RATE (R646): buckets that were full hold what they held, unless that is more than the new BURST. -/
def State.logRate (s : State) (req value : Nat) : State :=
  let burst := bitsOf value 0 8
  let refill := bitsOf value 16 16
  if burst = 0 ∨ refill = 0 then s.logRecord req Reg.IL_RATE 0 .eArg
  else
    let held := allSources.map (fun k => (k, s.tokens k))
    let s := (s.setFld Reg.IL_RATE_BURST burst).setFld Reg.IL_RATE_REFILL refill
    (held.foldl (fun s e => s.setTokens e.1 e.2) s).logRecord req Reg.IL_RATE 0 .ok

/-- A write of IL_CTL (Table 18-9). -/
def State.logCtl (s : State) (req value : Nat) : State :=
  let sevOk := fun (x : Nat) => decide (1 ≤ x) && decide (x ≤ 5)
  let alm := bitsOf value 4 3
  if sevOk (value % 8) && (alm == 3 || alm == 4) && sevOk (bitsOf value 8 3) && bitsOf value 24 8 != 0 then
    let s := ((s.setFld Reg.IL_CTL_MINSEV value).setFld Reg.IL_CTL_ALMSEV alm).setFld Reg.IL_CTL_EVTSEV (bitsOf value 8 3)
    let s := (s.setBit Reg.IL_CTL_EVT_EN (hasBit value 12)).setBit Reg.IL_CTL_FREEZE (hasBit value 13)
    ((s.setFld Reg.IL_CTL_CWIN (bitsOf value 16 8)).setFld Reg.IL_CTL_SUMGAP (bitsOf value 24 8)).logRecord req Reg.IL_CTL 0 .ok
  else s.logRecord req Reg.IL_CTL 0 .eArg

/-- IL_CMD CLEAR (R650). -/
def State.logClear (s : State) (req : Nat) : State :=
  let s := s.setLog .reset
  let s := ((s.setFld Reg.IL_STAT_WPTR 0).setBit Reg.IL_STAT_LAP true).setBit Reg.IL_STAT_WRAPPED false
  let s := s.setBit Reg.IL_STAT_FRZ_ACT (s.on Reg.IL_CTL_FREEZE)
  s.logWrite ⟨.info, srcLog, 0x6F, BitVec.ofNat 64 (req % 256 * 2 ^ 8), BitVec.ofNat 32 s.now⟩

/-- A write to IL_CMD (Table 18-9). `same`: an event that sets the alarm falls in the same housekeeping cycle (R651). -/
def State.logCmd (s : State) (req value : Nat) (same : Bool) : State :=
  let cmd := value % 16
  let a := Reg.IL_CMD
  match cmd with
  | 1 => (s.setFld Reg.IL_PEND_COUNT 0).logRecord req a cmd .ok
  | 2 => (s.logClear req).logRecord req a cmd .ok
  | 3 => (if same then s else { s with lovage := { s.lovage with alarm := false } }).logRecord req a cmd .ok
  | 4 =>
    let v := s.lovage.pm
    { s with lovage := { s.lovage with pm := if s.pmHeld then pmSeal (withoutBit v 79) else v } } |>.logRecord req a cmd .ok
  | 5 =>
    let s := [Reg.IL_LOST_COUNT, Reg.IL_COALCNT_COUNT, Reg.IL_BELOW_COUNT, Reg.IL_TOTAL_COUNT, Reg.IL_LOSTSRC_SRC].foldl
      (fun s f => s.setFld f 0) s
    ((s.setBit Reg.IL_LOSTSRC_VALID false).setBit Reg.IL_STAT_CNT_SAT false).logRecord req a cmd .ok
  | _ => s.logRecord req a cmd .eArg

end Sys2Proof.Machine
end

