-- ==== Sys2Proof/Machine/Log.lean ====
section
/-! DEFINITION. The meanings of the incident log's commands and events (chapter 18). -/

namespace Sys2Proof.Machine

/-- The severity of a number (Table 18-1). -/
def sevOf : Nat → Option Sev
  | 1 => some .info | 2 => some .notice | 3 => some .degraded | 4 => some .fault | 5 => some .fatal | _ => none

/-- INCIDENT_BUS_DELIVER (R641, R642): a unit delivers an incident. -/
def execIncidentBusDeliver (src sev code : Nat) (arg : BitVec 64) (s : State) : Answer :=
  answer s (match sevOf sev with
    | some v => if allSources.contains src && decide (code < 128) then s.raise src v code arg.toNat else s
    | none => s)

/-- INCIDENT_TAKE (R641, R644): the oldest incident of a bus port is taken; then the port delivers its drop count. -/
def execIncidentTake (src : Nat) (recent : Bool) (s : State) : Answer :=
  answer s (
    let p := s.busPort src
    match p.slots with
    | [] => s
    | i :: t => ((s.setBusPort src ⟨t, 0⟩).logTake i recent).logLost src p.drops)

/-- RATE_TOKEN_REFILL (R646). -/
def execRateTokenRefill (src : Nat) (s : State) : Answer := answer s (s.setTokens src (s.tokens src + 1))

/-- IL_RATE_WRITE (R646). -/
def execIlRateWrite (req : Nat) (value : BitVec 32) (s : State) : Answer := answer s (s.logRate req value.toNat)

/-- IL_ACK (R650). -/
def execIlAck (req : Nat) (s : State) : Answer := answer s (s.logCmd req 1 false)

/-- IL_CLEAR (R650). -/
def execIlClear (req : Nat) (s : State) : Answer := answer s (s.logCmd req 2 false)

/-- IL_ALMCLR (R651). -/
def execIlAlmclr (req : Nat) (same : Bool) (s : State) : Answer := answer s (s.logCmd req 3 same)

/-- IL_PM_ACK (R652). -/
def execIlPmAck (req : Nat) (s : State) : Answer := answer s (s.logCmd req 4 false)

/-- IL_CNTCLR (R650, Table 18-9). -/
def execIlCntclr (req : Nat) (s : State) : Answer := answer s (s.logCmd req 5 false)

/-- SUMMARY_GAP_EXPIRY (R653). -/
def execSummaryGapExpiry (s : State) : Answer :=
  answer s (
    let s := s.setHk { s.hk with sumRecent := false }
    match s.hk.sumWaits with
    | some e => (((s.setHk { s.hk with sumWaits := none }).setBit Reg.IL_STAT_SUM_PEND false).queueStore (.summary (some e))).1
    | none => s)

end Sys2Proof.Machine
end

