-- ==== Sys2Proof/Machine/Net.lean ====
section
/-! DEFINITION. The meanings of the network commands (chapter 9) that need neither the fabric nor a register access. -/

namespace Sys2Proof.Machine

/-- CREDIT_RETURN (R326). -/
def execCreditReturn (n p vc : Nat) (s : State) : Answer :=
  answer s (if validEnd n p && vc < 8 then s.creditBack n p vc else s)

/-- PORT_CREDIT_HANDSHAKE (R327). -/
def execPortCreditHandshake (n p : Nat) (s : State) : Answer :=
  answer s (if validPort n p then s.handshake n p else s)

/-- NI_REQUEST_ISSUE (R318, R324, R336): an initiator at interface `j` of node `n` issues a request. -/
def execNiRequestIssue (n j : Nat) (rid ref opc entry : Nat) (toRtr : Bool) (pri addr len : Nat) (data : Nat) (s : State) :
    Answer :=
  answer s (
    if niExists n j && (opc == opRd || opc == opWr || opc == opWrp) && entry < 64 && pri < 4 && 1 ≤ len && len ≤ 256 then
      (s.niIssue n j ⟨rid, ref, opc, entry, toRtr, pri, addr, len, data⟩).1
    else s)

/-- NI_TAG_QUARANTINE_END (R342). -/
def execNiTagQuarantineEnd (n j tag : Nat) (s : State) : Answer :=
  answer s (match Tbl.get none (s.ni n j).open_ tag with
    | some x =>
      if niExists n j && x.quarantine then
        let i := s.ni n j
        s.setNi n j { i with open_ := Tbl.put none i.open_ tag none }
      else s
    | none => s)

/-- The outcome of an entry write is recorded (Table 9-11). -/
def State.niRecord (s : State) (req n j e addr : Nat) (c : Code) : State :=
  (((s.setFld (Reg.NI_CMDSTAT_CODE n j) c.num).setFld (Reg.NI_CMDSTAT_REQ n j) req).setFld
    (Reg.NI_CMDSTAT_ENTRY n j) e).respond req addr c

/-- A write of the lower word of entry `e`: it waits for the upper word (R333). -/
def State.routeLower (s : State) (req n j e value : Nat) : State :=
  let c := s.nodeAccess n
  let a := Reg.NI_RT n j e
  if c ≠ .ok then s.nodeRefuse req n a c
  else
    let x := s.ni n j
    (s.setNi n j { x with lower := Tbl.put none x.lower e (some (BitVec.ofNat 32 value)) }).respond req a .ok

/-- A write of the upper word of entry `e` checks the whole entry and installs it (R333). An entry with VALID = 0 is
checked like any other. -/
def State.routeUpper (s : State) (req n j e value : Nat) : State :=
  let c := s.nodeAccess n
  let a := Reg.NI_RT n j e
  if c ≠ .ok then s.nodeRefuse req n (a + 4) c
  else
    let x := s.ni n j
    let low := (Tbl.get none x.lower e).elim ((s.rd a).toNat % 2 ^ 32) BitVec.toNat
    let v := low + value % 2 ^ 32 * 2 ^ 32
    let ok := routeEntryOk n (bitsOf v 0 42) (bitsOf v 42 6)
    let s := s.setNi n j { x with lower := Tbl.put none x.lower e none }
    let s := if ok then
        ((s.setFld (Reg.NI_RT_ROUTE n j e) (bitsOf v 0 42)).setFld (Reg.NI_RT_DST n j e) (bitsOf v 42 6)).setFld
          (Reg.NI_RT_VALID n j e) (bitsOf v 63 1)
      else s
    s.niRecord req n j e (a + 4) (if ok then .ok else .eArg)

/-- NI_ROUTE_ENTRY_WRITE (R333): a write of an entry's upper word. -/
def execNiRouteEntryWrite (req n j e : Nat) (upper : BitVec 32) (s : State) : Answer :=
  answer s (if niExists n j && e < 64 then s.routeUpper req n j e upper.toNat else s)

/-- CROSSING_PEER_RESET (R338, R340, R341): the far side of a bridged link, or the unit behind a local port, is in reset, and port `p`
has not met that yet. -/
def execCrossingPeerReset (n p : Nat) (s : State) : Answer :=
  answer s (
    let (m, k) := linkPeer n p
    if validPort n p && (portBridged n p || p == 4 || p == 5) && (s.end_ n p).live && !(s.end_ m k).live then s.peerReset n p
    else s)

/-! ## RESTORE -/

/-- A write of RTR_PCMD p (R346). -/
def State.rtrRestore (s : State) (req n p : Nat) (go : Bool) : State :=
  let a := Reg.RTR_PCMD n p
  let acc := s.nodeAccess n
  if acc ≠ .ok then s.nodeRefuse req n a acc
  else
    let busy := Tbl.get 0 s.net.restores (16 * n + p) != 0
    let c : Code :=
      if !go then .ok
      else if busy then .eBusy
      else if s.on (Reg.RTR_PSTAT_ABS_STATE n p) || !s.absorbing n p then .eState else .ok
    let s := if go && c == .ok then
        { s with net := { s.net with restores := Tbl.put 0 s.net.restores (16 * n + p) (req + 1) } }
      else s
    s.rtrRecord req n a c

/-- RTR_RESTORE (R346). -/
def execRtrRestore (req n p : Nat) (s : State) : Answer :=
  answer s (if validPort n p then s.rtrRestore req n p true else s)

/-- RTR_RESTORE_DONE (R327, R346): the handshake has completed, or 4,096 network cycles have passed without it. -/
def execRtrRestoreDone (n p : Nat) (s : State) : Answer :=
  answer s (
    let k := 16 * n + p
    let req := Tbl.get 0 s.net.restores k
    if !validPort n p || req == 0 then s
    else
      let (m, q) := linkPeer n p
      let far := s.endReady m q && !s.nodeOff n && !s.on (Reg.RTR_PSTAT_ABS_STATE n p)
      let s := { s with net := { s.net with restores := Tbl.put 0 s.net.restores k 0 } }
      let s := if far then
          let s := (s.setBit (Reg.RTR_PSTAT_ABS_TMO n p) false).setFld (Reg.RTR_PSTAT_TMOCNT n p) 0
          (((s.endInit n p).endInit m q).endUp n p).endUp m q
        else s
      let s := s.setFld (Reg.RTR_CMDSTAT_CODE n) (if far then Code.ok else Code.eTmo).num
      (s.setFld (Reg.RTR_CMDSTAT_REQ n) (req - 1)).setFld (Reg.RTR_CMDSTAT_OFFSET n) (Reg.RTR_PCMD n p - Reg.RTR_ID n))

/-! ## Fabric ports -/

/-- NIP_STRM_RECEIVE (R350): the STRM packet at the front of channel `vc` of region `r`'s interface reaches its port. -/
def execNipStrmReceive (r vc : Nat) (s : State) : Answer :=
  answer s (
    let n := regionNode r
    if !validRegion r then s
    else match niFront n (s.vcIn n 6 vc).q with
      | .packet [f] =>
        if f.opc ≠ opStrm then s
        else if f.poison then s.niPoisoned n 0 vc 1 f
        else
          let i := f.stat % 8
          let s := s.niPop n 0 vc 1
          let x := s.nip r i
          if s.nipRxMode r i = 0 ∨ 8 ≤ x.rx.length then s.nipDrop r i 1
          else (s.setNip r i { x with rx := x.rx ++ [(f.payload, f.stale)] }).nipPresent r i
      | _ => s)

end Sys2Proof.Machine
end

