-- ==== Sys2Proof/Machine/SelfTest.lean ====
section
/-! DEFINITION. The meanings of the self-test events and commands (chapter 16). -/

namespace Sys2Proof.Machine

/-! ## Slices -/

/-- SLICE_START (R586, R592, R601): the next element of region `r` in the sweep. -/
def execSliceStart (r : Nat) (s : State) : Answer :=
  answer s (
    if !s.sweepMay r then s
    else match s.sweepNext r with
      | none =>
        let s := if s.slicing r then s else s.setTest { s.selfTest with pos := Tbl.put 0 s.selfTest.pos r sweepLen }
        s.sweepCheck
      | some p =>
        let s := s.setTest { s.selfTest with pos := Tbl.put 0 s.selfTest.pos r (p + 1) }
        (s.sliceStart r (sweepElem p).1 (sweepElem p).2 false).sweepCheck)

/-- SLICE_COPY_DONE (R588, R229, R595, R596). -/
def execSliceCopyDone (r dur : Nat) (s : State) : Answer :=
  answer s (
    if !validRegion r || s.slicePhase r != phCopy then s
    else
      let b := s.fld (Reg.ST_SLICE_INDEX r)
      match if s.fld (Reg.ST_SLICE_KIND r) = 0 then s.copyFault r b else none with
      | some f => ((s.frameFault r (b / 8) (40 * (b % 8) + f)).sliceFinish r outCopyFault dur).sweepCheck
      | none => (s.setPhase r phWaitOut).sliceReady r)

/-- SLICE_HANDOVER (R588–R592, R595, R596, R207, R284): at an eligible boundary the work moves to the spare; a MARK_FAILED ends
with it (R602). -/
def execSliceHandover (r dur : Nat) (s : State) : Answer :=
  answer s (
    if !validRegion r || s.slicePhase r != phWaitOut || !s.sliceEligible r then s
    else
      let s := s.handover r
      if hasBit s.selfTest.marking r then (((s.retire r).sliceFinish r outFail dur).storeFailmap).sweepCheck
      else s.setPhase r phTest)

/-- SLICE_TEST_DONE (R588, R599, R600): a test that fails runs once more; one that fails twice retires its element. -/
def execSliceTestDone (r : Nat) (pass : Bool) (dur : Nat) (s : State) : Answer :=
  answer s (
    if !validRegion r || s.slicePhase r != phTest then s
    else
      let x := s.selfTest
      let once := hasBit x.once r
      if !pass && !once then s.setTest { x with once := withBit x.once r }
      else if !pass then (((s.retire r).sliceFinish r outFail dur).storeFailmap).sweepCheck
      else if s.fld (Reg.ST_SLICE_SPARE r) = inPlace then (s.sliceFinish r (backOutcome false once) dur).sweepCheck
      else s.setPhase r phRestore)

/-- SLICE_RESTORE_DONE (R588, R229): after a frame fault the work stays on the spare. -/
def execSliceRestoreDone (r dur : Nat) (s : State) : Answer :=
  answer s (
    if !validRegion r || s.slicePhase r != phRestore then s
    else
      let b := s.fld (Reg.ST_SLICE_INDEX r)
      let kind := s.fld (Reg.ST_SLICE_KIND r)
      match if kind = 0 then s.copyFault r b else none with
      | some f =>
        (((s.frameFault r (b / 8) (40 * (b % 8) + f)).sliceFinish r outCopyFault dur).setOrigin r kind 0).sweepCheck
      | none =>
        (s.setPhase r (if hasBit s.selfTest.aborting r then phParked else phWaitBack)).sliceReady r)

/-- A slice in this phase waits to hand back. -/
def waitsBack (ph : Nat) : Bool := ph == phWaitBack || ph == phParked

/-- SLICE_HAND_BACK (R588, R594–R597): the slice that ST_SLICE shows, or else the one set aside. -/
def execSliceHandBack (r dur : Nat) (s : State) : Answer :=
  answer s (
    if !validRegion r then s
    else
      let ph := s.slicePhase r
      let x := s.selfTest
      let b := Tbl.get (0, 0) x.behind r
      if waitsBack ph && s.sliceEligible r then
        let kind := s.fld (Reg.ST_SLICE_KIND r)
        let idx := s.fld (Reg.ST_SLICE_INDEX r)
        let j := s.fld (Reg.ST_SLICE_SPARE r)
        let out := backOutcome (ph == phParked) (hasBit x.once r)
        ((s.sliceClear r).handBack r kind idx j out dur).sweepCheck
      else if b ≠ (0, 0) ∧ s.eligible r 0 (bitsOf b.1 8 9) (hasBit b.1 22) b.2 then
        let s := s.setTest { x with behind := Tbl.put (0, 0) x.behind r (0, 0) }
        let out := backOutcome (b.1 % 8 == phParked) (hasBit b.1 32)
        (s.handBack r 0 (bitsOf b.1 8 9) (bitsOf b.1 17 4) out dur).sweepCheck
      else s)

/-- SLICE_WAIT_OUT_TIMEOUT (R594): a block that holds flow logic has waited for 1 s. -/
def execSliceWaitOutTimeout (r dur : Nat) (s : State) : Answer :=
  answer s (
    if validRegion r && s.slicePhase r == phWaitOut && s.fld (Reg.ST_SLICE_KIND r) == 0 && s.on (Reg.ST_SLICE_FLOWBLK r) then
      (s.sliceFinish r outSkipped dur).sweepCheck
    else s)

/-- SLICE_ENGINE_WAIT_TIMEOUT (R596). -/
def execSliceEngineWaitTimeout (r dur : Nat) (s : State) : Answer :=
  answer s (
    if validRegion r && s.slicePhase r == phWaitOut && s.fld (Reg.ST_SLICE_KIND r) == 2 then
      (s.sliceFinish r outSkipped dur).sweepCheck
    else s)

/-- FAILMAP_STORE_RETRY (R599). -/
def execFailmapStoreRetry (s : State) : Answer :=
  answer s (
    if s.selfTest.restore then (s.setTest { s.selfTest with restore := false }).storeFailmap else s)

/-- ACT_DRAIN_GRANT (R593). A handover needs no window in this model: the controller looks for quiescence at each region tick. -/
def execActDrainGrant (i : Nat) (s : State) : Answer :=
  answer s (
    if s.actReady i 9 then
      let r := s.fld (Reg.ACT_ARG0_ARG i) % 256
      let b := s.fld (Reg.ACT_ARG0_ARG i) / 256
      let v := Tbl.get (0, 0) s.selfTest.behind r
      let named := (s.slicing r && s.fld (Reg.ST_SLICE_KIND r) == 0 && s.fld (Reg.ST_SLICE_INDEX r) == b) ||
        (v != (0, 0) && bitsOf v.1 8 9 == b)
      let (s, c) : State × Code :=
        if !s.sliceable r then (s, .eState)
        else if named then (s, .ok)
        else if s.slicing r || v != (0, 0) then (s, .eBusy)
        else if !s.testable r 0 b then (s, .eArg)
        else (s.sliceStart r 0 b true, .ok)
      (s.noteRefusal srcSelfTest (Reg.ST_CMD - Reg.ST_CTL) reqAction c).actDone i c
    else s)

/-! ## Commands (Table 16-14) -/

/-- SELFTEST_SLICE (R587). -/
def State.stSlice (s : State) (req r kind idx : Nat) : State :=
  let c := s.sliceCode r kind idx
  let c : Code := if c = .ok ∧ Tbl.get (0, 0) s.selfTest.behind r ≠ (0, 0) then .eBusy else c
  let s := if c = .ok then s.sliceStart r kind idx true else s
  s.stRecord req 1 c

/-- SELFTEST_SLICE. -/
def execSelftestSlice (req r kind idx : Nat) (s : State) : Answer := answer s (s.stSlice req r kind idx)

/-- SELFTEST_ABORT (R597). -/
def State.stAbort (s : State) (req r : Nat) (all : Bool) : State :=
  if all then
    let (t, ran) := s.abortAll
    if ran then t.stRecord req 2 .ok else s.stRecord req 2 .eState
  else if !validRegion r then s.stRecord req 2 .eArg
  else if s.slicing r || Tbl.get (0, 0) s.selfTest.behind r != (0, 0) then (s.abortSlice r).stRecord req 2 .ok
  else s.stRecord req 2 .eState

/-- SELFTEST_ABORT. -/
def execSelftestAbort (req r : Nat) (all : Bool) (s : State) : Answer := answer s (s.stAbort req r all)

/-- SELFTEST_REGION_TEST (R598). -/
def State.stRegionTest (s : State) (req r : Nat) : State :=
  let c : Code := if !validRegion r then .eArg else if s.testing r || s.slicing r then .eBusy
    else if s.rstate r ≠ .blank then .eState else .ok
  let s := if c = .ok then
      let x := s.selfTest
      (s.setTest { x with testing := withBit x.testing r, once := withoutBit x.once r }).setBit ⟨Reg.ST_STAT, 6, 1⟩ true
    else s
  s.stRecord req 3 c

/-- SELFTEST_REGION_TEST. -/
def execSelftestRegionTest (req r : Nat) (s : State) : Answer := answer s (s.stRegionTest req r)

/-- REGION_TEST_DONE (R598, R599): the region is BLANK with every valid bit clear. A region that fails twice is listed as a whole. -/
def execRegionTestDone (r : Nat) (pass : Bool) (dur : Nat) (s : State) : Answer :=
  answer s (
    if !validRegion r || !s.testing r then s
    else
      let x := s.selfTest
      let once := hasBit x.once r
      if !pass && !once then s.setTest { x with once := withBit x.once r }
      else
        let s := (s.setTest { x with once := withoutBit x.once r }).testEnd r
        let s := (List.range 96).foldl (fun s m => s.clearValid r m) s
        let s := s.setBit ⟨Reg.ST_EVT, 3, 1⟩ true
        if pass then s.sliceOutcome r 3 0 inPlace (backOutcome false once) dur
        else ((s.listFailed r 3 0).sliceOutcome r 3 0 inPlace outFail dur).storeFailmap)

/-- The pins of the remote diode measure: they are in analogue mode (R634). -/
def State.diodeSenses (s : State) : Bool := s.on (Reg.CP_CFG_ANA 50) && s.on (Reg.CP_CFG_ANA 51)

/-- SELFTEST_ANALOG (R607, R634): the analogue part begins. -/
def State.stAnalog (s : State) (req : Nat) : State :=
  if s.on Reg.ST_STAT_AN_BUSY then s.stRecord req 4 .eBusy
  else if s.on Reg.ST_ACTL_DIODE_EN && !s.diodeSenses then s.stRecord req 4 .eState
  else (s.setBit Reg.ST_STAT_AN_BUSY true).stRecord req 4 .ok

/-- SELFTEST_ANALOG. -/
def execSelftestAnalog (req : Nat) (s : State) : Answer := answer s (s.stAnalog req)

/-- SELFTEST_MARK_FAILED (R602): a free spare is retired where it is; an element that works moves to a free spare for good, or
stays in use where there is none. -/
def State.stMarkFailed (s : State) (req r kind idx : Nat) : State :=
  let c : Code := if !validRegion r || !(kind == 3 || posOk kind idx) then .eArg else if !s.sliceable r then .eState
    else if s.slicing r || Tbl.get (0, 0) s.selfTest.behind r != (0, 0) then .eBusy else .ok
  let s :=
    if c ≠ .ok then s
    else if kind = 3 then (s.listFailed r 3 0).storeFailmap
    else
      let holds := match spareOfIndex kind idx with
        | some j => if s.on (Reg.ST_SUB_USED r j) then some (s.fld (Reg.ST_SUB_POS r j)) else none
        | none => some idx
      match holds, s.freeSpare r kind with
      | none, _ =>
        ((match spareOfIndex kind idx with
          | some j => s.retireSpare r j
          | none => s).listFailed r kind idx).storeFailmap
      | some p, some j => s.sliceEnter r kind p j phCopy true true
      | some _, none => (s.listFailed r kind idx).storeFailmap
  s.stRecord req 5 c

/-- SELFTEST_MARK_FAILED. -/
def execSelftestMarkFailed (req r kind idx : Nat) (s : State) : Answer := answer s (s.stMarkFailed req r kind idx)

/-- SELFTEST_EYE_CHECK (R606): the four points count `p0` to `p3` disagreements. -/
def State.stEyeCheck (s : State) (req n p0 p1 p2 p3 : Nat) : State :=
  let c : Code := if !validLane n then .eArg else if s.on (Reg.LN_STATUS_ST_HOLD n) then .eBusy
    else if s.laneState n ≠ lnUp then .eState else .ok
  (if c = .ok then s.eyeCheck n p0 p1 p2 p3 else s).stRecord req 6 c

/-- SELFTEST_EYE_CHECK. -/
def execSelftestEyeCheck (req n p0 p1 p2 p3 : Nat) (s : State) : Answer := answer s (s.stEyeCheck req n p0 p1 p2 p3)

/-! ## Lanes and analogue checks -/

/-- The lane part of the sweep has dealt with lane `n`. -/
def State.laneVisited (s : State) (n : Nat) : State := (s.setTest { s.selfTest with lanes := n + 1 }).sweepCheck

/-- LANE_SELFTEST_SLICE (R606, R435): the next lane of the sweep, whose eye check, in UP, counts `p0` to `p3`. -/
def execLaneSelftestSlice (n p0 p1 p2 p3 : Nat) (s : State) : Answer :=
  answer s (
    if !s.on Reg.ST_CTL_EN || !s.on Reg.ST_CTL_LANECHK || !validLane n || s.selfTest.lanes != n ||
        s.on (Reg.LN_STATUS_ST_HOLD n) then s
    else
      let st := s.laneState n
      if st = lnUp then (s.eyeCheck n p0 p1 p2 p3).laneVisited n
      else if st = lnOff ∨ st = lnWait then s.setBit (Reg.LN_STATUS_ST_HOLD n) true
      else s.laneVisited n)

/-- LANE_NEAR_SLICE_END (R435, R606): the checker found `errors`, and was locked throughout or not. -/
def execLaneNearSliceEnd (n errors : Nat) (locked : Bool) (s : State) : Answer :=
  answer s (
    if validLane n && s.on (Reg.LN_STATUS_ST_HOLD n) then
      let ok := locked && errors == 0
      let s := s.laneCount n Reg.LN_PRBSERR_COUNT errors
      let s := s.wr (Reg.LN_STLOOP n) (BitVec.ofNat 64 (1 + 2 * bit ok + min errors 0xFFFFFF * 2 ^ 8))
      let s := if ok then s else s.stErr 5 (128 + n)
      let x := s.lane n
      let s := (s.setBit (Reg.LN_STATUS_ST_HOLD n) false).setLane n { x with enPend := none }
      let s := match x.enPend with
        | some en => s.laneEnable n en
        | none => s
      s.laneVisited n
    else s)

/-- ANALOG_PART (R607, R608): how many of the three references disagree with both others (2: no two agree), the sensors and the
monitors out of limit, whether the diode, VCORE and hold-up checks fail, and the diode's reading in 0.1 °C. -/
def execAnalogPart (bg : Nat) (ts : BitVec 32) (sup : BitVec 20) (diode vcore hold : Bool) (temp : BitVec 16) (s : State) :
    Answer :=
  answer s (
    let asked := s.on Reg.ST_STAT_AN_BUSY
    let sweeps := s.on Reg.ST_CTL_EN && s.on Reg.ST_CTL_ANALOG && !s.selfTest.analog
    if (!asked && !sweeps) || s.hk.holdEn then s
    else
      let den := s.on Reg.ST_ACTL_DIODE_EN && s.diodeSenses
      let bits := bit (bg != 0) + 2 * bit (ts != 0) + 4 * bit (den && diode) + 8 * bit (sup != 0) + 16 * bit vcore + 32 * bit hold
      let f : Fld := ⟨Reg.ST_ASTAT, 0, 6⟩
      let s := (s.setFld f (s.fld f ||| bits)).setBit Reg.ST_ASTAT_BG_MAJ (bg == 1)
      let s := (s.setFld Reg.ST_TSMASK_TS ts.toNat).setFld Reg.ST_SUPMASK_SUP sup.toNat
      let s := if den then (s.setFld Reg.PWR_DIODE_TEMP temp.toNat).setBit Reg.PWR_DIODE_VALID true else s
      let s := if bits = 0 then s else s.stErr 4 0
      let s := (s.setBit Reg.ST_STAT_AN_BUSY false).setBit ⟨Reg.ST_EVT, 2, 1⟩ true
      if asked then s.sweepCheck else (s.setTest { s.selfTest with analog := true }).sweepCheck)

end Sys2Proof.Machine
end

