-- ==== Sys2Proof/Machine/Cfg.lean ====
section
/-! DEFINITION. The meanings of the configuration commands (chapter 14), and of the Pavane stages. -/

namespace Sys2Proof.Machine

/-- CFG_DATA_WRITE (R510). -/
def execCfgDataWrite (req off n : Nat) (v : Nat) (s : State) : Answer := answer s (s.cfgDataWrite req (0x31000 + off % 0x1000) n v)

/-- CFG_SYNC (R506, R512): the sync word that starts a stream, after the words before it; a sync word within a stream, which
has no effect. -/
def execCfgSync (s : State) : Answer :=
  answer s (if s.on Reg.CFG_STAT_SYNCED then s.cfgPacket .sync (fun s _ _ => s) else s.cfgSync)

/-- CFG_NOP (R506). -/
def execCfgNop (s : State) : Answer := answer s (s.cfgPacket .nop (fun s _ _ => s))

/-- CFG_REGW_FAR (R512, R518). -/
def execCfgRegwFar (s : State) : Answer := answer s (s.cfgPacket .far (fun s _ d => s.setFld Reg.CFG_FAR_FAR d))

/-- CFG_REGW_IDMASK (R511). -/
def execCfgRegwIdmask (s : State) : Answer := answer s (s.cfgPacket .idmask (fun s _ d => s.setFld Reg.CFG_IDMASK_MASK d))

/-- CFG_REGW_CTL (R512). -/
def execCfgRegwCtl (s : State) : Answer :=
  answer s (s.cfgPacket .ctl (fun s _ d =>
    let (s, c) := s.cfgCtlWrite d
    if c = .ok then s else s.cfgRefuse c 1 3))

/-- CFG_REGW_KEYSEL (R529). -/
def execCfgRegwKeysel (s : State) : Answer := answer s (s.cfgPacket .keysel (fun s _ d => s.keySel d))

/-- CFG_REGW_REGMAP (R535). -/
def execCfgRegwRegmap (s : State) : Answer :=
  answer s (s.cfgPacket .regmap (fun s _ d =>
    let (s, c) := s.mapRegion d
    if c = .ok then s else s.cfgRefuse c 1 5))

/-- CFG_CMD_FRAME (R513). -/
def execCfgCmdFrame (s : State) : Answer := answer s (s.cfgPacket .frame (fun s _ _ => s.setBit Reg.CFG_STAT_FMODE true))

/-- CFG_CMD_COMMIT (R526). -/
def execCfgCmdCommit (s : State) : Answer :=
  answer s (s.cfgPacket .commit (fun s _ d => (s.setBit Reg.CFG_STAT_FMODE false).cfgCommit (bitsOf d 8 5)))

/-- CFG_CMD_START (R512, Table 14-3). -/
def execCfgCmdStart (s : State) : Answer :=
  answer s (s.cfgPacket .start (fun s _ d =>
    let s := s.setBit Reg.CFG_STAT_FMODE false
    match s.physicalOf (bitsOf d 8 5) with
    | some p =>
      let (s, c) := s.capture reqCfg (fun s => s.regionCmdWrite reqCfg p cmdStart)
      if c = .ok then s else s.cfgScode c 1 1
    | none => s.cfgRefuse .eArg 1 1))

/-- CFG_CMD_END (R527). -/
def execCfgCmdEnd (s : State) : Answer := answer s (s.cfgPacket .end_ (fun s _ _ => s.cfgFinish))

/-- CFG_FDATA (R516). -/
def execCfgFdata (s : State) : Answer := answer s (s.cfgFrames .fdata 2)

/-- CFG_FMASK (R517). -/
def execCfgFmask (s : State) : Answer := answer s (s.cfgFrames .fmask 3)

/-- CFG_FZERO (R517). -/
def execCfgFzero (s : State) : Answer := answer s (s.cfgPacket .fzero (fun s w _ => s.cfgZero w))

/-- CFG_CHUNK (R530). -/
def execCfgChunk (s : State) : Answer := answer s s.cfgChunk

/-- CFG_HOST_ABORT (R528). -/
def execCfgHostAbort (req : Nat) (s : State) : Answer := answer s (s.cfgHcmd req 1)

/-- CFG_HOST_PR_START (R536). -/
def execCfgHostPrStart (req : Nat) (l : BitVec 5) (k : BitVec 4) (s : State) : Answer :=
  answer s (s.cfgHcmd req (2 + l.toNat * 2 ^ 4 + k.toNat * 2 ^ 12))

/-- PR_START_EFFECT (R536, R537). -/
def execPrStartEffect (s : State) : Answer :=
  answer s (match s.cfg.pr.bind (fun p => s.physicalOf p.region) with
    | some _ => if s.ticking then (s.prEffect).releaseHeld else s.prEffect
    | none => s.prEffect)

/-- CFG_HOST_RUN_SLOT (R539). -/
def execCfgHostRunSlot (req : Nat) (k : BitVec 4) (s : State) : Answer := answer s (s.cfgHcmd req (3 + k.toNat * 2 ^ 12))

/-- CFG_SLOT_FIRST_READ (R539): the first burst of a slot in NOR. -/
def execCfgSlotFirstRead (s : State) : Answer := answer s (if s.cfgSrc = srcSlot then s.cfgFill else s)

/-- CFG_REGMAP_W_WRITE (R535). -/
def State.regmapWrite (s : State) (req value : Nat) : State :=
  let (s, c) := s.mapRegion value
  s.cfgRecord req Reg.CFG_REGMAP_W 0 c

/-- CFG_REGMAP_W_WRITE (R535). -/
def execCfgRegmapWWrite (req : Nat) (value : BitVec 32) (s : State) : Answer := answer s (s.regmapWrite req value.toNat)

/-- CFG_READBACK (R547). -/
def execCfgReadback (req : Nat) (value : BitVec 32) (s : State) : Answer := answer s (s.cfgReadback req value.toNat)

/-- CFG_LISTENER_OVERFLOW (R534). -/
def execCfgListenerOverflow (s : State) : Answer :=
  answer s (if s.listener && s.cfgSrc != srcIdle then s.cfgAbort .eBusy 0 0 (some ceListenOvf) else s)

/-- PAVANE_STAGE_2 (R540). -/
def execPavaneStage2 (r : Nat) (s : State) : Answer := answer s (s.pavaneStage r 1)

/-- PAVANE_STAGE_3 (R540). -/
def execPavaneStage3 (r : Nat) (s : State) : Answer := answer s (s.pavaneStage r 2)

/-- ACT_PR_START (R536, R683). -/
def execActPrStart (i : Nat) (s : State) : Answer :=
  answer s (
    if s.actGoes i 4 then
      let l := s.fld (Reg.ACT_ARG0_ARG i)
      let p := s.physicalOf l
      if p.elim true (fun r => s.regionTickAt r s.now) then
        let (s, c) := s.prStart l (bitsOf (s.fld (Reg.ACT_ARG1_ARG i)) 0 4)
        ((p.elim (s.noteRefusal srcCfg 0 reqAction c) (fun r => s.actRefusal r c)).actDone i c).releaseHeld
      else if s.actState i = .armed then (s.actSet i .issued .ok).setActWork i (s.actWork i)
      else s
    else s)

end Sys2Proof.Machine
end

