-- ==== Sys2Proof/Machine/Engine.lean ====
section
/-! DEFINITION. The meanings of the engine commands (chapters 7 and 8), but for those of the stream ports, which read the
fabric. -/

namespace Sys2Proof.Machine

/-- An action entry has still to release a task of engine `e` at the present tick (R262). -/
def State.actReleases (s : State) (e : Nat) : Bool :=
  (List.range 64).any (fun i => s.actDueNow i 5 && s.fld (Reg.ACT_ARG0_ARG i) == e)

/-- ENG_TASK_RELEASE (R260–R262): the first release of engine `e` that is due, after the action entries' at that tick. -/
def execEngTaskRelease (e : Nat) (s : State) : Answer :=
  answer s (
    let x := s.eng e
    match x.sched.find? (fun q => q.2.1 == s.now) with
    | none => s
    | some q =>
      if !validEngine e || s.actReleases e then s
      else
        let (s, c) := (s.setEng e { x with sched := x.sched.erase q }).engRelease e q.1
        if c = .ok then s else s.engRecord q.2.2 e 0x30000 7 c)

/-- ENG_TASK_START (R237, R262, R542). -/
def execEngTaskStart (e : Nat) (s : State) : Answer :=
  answer s (if validEngine e && (s.eng e).st == .idle && !(s.eng e).tasks.isEmpty && s.engMayStart e then
      s.setEng e (s.eng e).startTask
    else s)

/-- ENG_STALLED_RETIRE (R248, R251, R252). -/
def execEngStalledRetire (e : Nat) (s : State) : Answer := answer s (if validEngine e then s.engRetry e else s)

/-! ## Instructions: engine `e`, in RUN, executes the one at PC -/

/-- ENG_INSTR_NOP (R286). -/
def execEngInstrNop (e : Nat) (s : State) : Answer := answer s (s.engInstr e .nop)

/-- ENG_INSTR_DONE (R310). -/
def execEngInstrDone (e : Nat) (s : State) : Answer := answer s (s.engInstr e .done)

/-- ENG_INSTR_HALT (R311). -/
def execEngInstrHalt (e : Nat) (s : State) : Answer := answer s (s.engInstr e .halt)

/-- ENG_INSTR_JMP (R308). -/
def execEngInstrJmp (e : Nat) (s : State) : Answer := answer s (s.engInstr e .jmp)

/-- ENG_INSTR_CALL (R308). -/
def execEngInstrCall (e : Nat) (s : State) : Answer := answer s (s.engInstr e .call)

/-- ENG_INSTR_RET (R308). -/
def execEngInstrRet (e : Nat) (s : State) : Answer := answer s (s.engInstr e .ret)

/-- ENG_INSTR_REP (R254). -/
def execEngInstrRep (e : Nat) (s : State) : Answer := answer s (s.engInstr e .rep)

/-- ENG_INSTR_LOOP (R255). -/
def execEngInstrLoop (e : Nat) (s : State) : Answer := answer s (s.engInstr e .loop)

/-- ENG_INSTR_NWAIT (R252). -/
def execEngInstrNwait (e : Nat) (s : State) : Answer := answer s (s.engInstr e .nwait)

/-- ENG_INSTR_MACM_MAC (R296). -/
def execEngInstrMacmMac (e : Nat) (s : State) : Answer := answer s (s.engInstr e .macmMac)

/-- ENG_INSTR_MACM_MSU (R296). -/
def execEngInstrMacmMsu (e : Nat) (s : State) : Answer := answer s (s.engInstr e .macmMsu)

/-- ENG_INSTR_MACM_MPY (R296). -/
def execEngInstrMacmMpy (e : Nat) (s : State) : Answer := answer s (s.engInstr e .macmMpy)

/-- ENG_INSTR_MACM_MPYN (R296). -/
def execEngInstrMacmMpyn (e : Nat) (s : State) : Answer := answer s (s.engInstr e .macmMpyn)

/-- ENG_INSTR_MACR_MAC (R297). -/
def execEngInstrMacrMac (e : Nat) (s : State) : Answer := answer s (s.engInstr e .macrMac)

/-- ENG_INSTR_MACR_MSU (R297). -/
def execEngInstrMacrMsu (e : Nat) (s : State) : Answer := answer s (s.engInstr e .macrMsu)

/-- ENG_INSTR_MACR_MPY (R297). -/
def execEngInstrMacrMpy (e : Nat) (s : State) : Answer := answer s (s.engInstr e .macrMpy)

/-- ENG_INSTR_MACR_MPYN (R297). -/
def execEngInstrMacrMpyn (e : Nat) (s : State) : Answer := answer s (s.engInstr e .macrMpyn)

/-- ENG_INSTR_ADD (R298). -/
def execEngInstrAdd (e : Nat) (s : State) : Answer := answer s (s.engInstr e .add)

/-- ENG_INSTR_SUB (R298). -/
def execEngInstrSub (e : Nat) (s : State) : Answer := answer s (s.engInstr e .sub)

/-- ENG_INSTR_AND (R298). -/
def execEngInstrAnd (e : Nat) (s : State) : Answer := answer s (s.engInstr e .and)

/-- ENG_INSTR_OR (R298). -/
def execEngInstrOr (e : Nat) (s : State) : Answer := answer s (s.engInstr e .or)

/-- ENG_INSTR_XOR (R298). -/
def execEngInstrXor (e : Nat) (s : State) : Answer := answer s (s.engInstr e .xor)

/-- ENG_INSTR_SHL (R299). -/
def execEngInstrShl (e : Nat) (s : State) : Answer := answer s (s.engInstr e .shl)

/-- ENG_INSTR_SHR (R299). -/
def execEngInstrShr (e : Nat) (s : State) : Answer := answer s (s.engInstr e .shr)

/-- ENG_INSTR_ASR (R299). -/
def execEngInstrAsr (e : Nat) (s : State) : Answer := answer s (s.engInstr e .asr)

/-- ENG_INSTR_CMP (R303). -/
def execEngInstrCmp (e : Nat) (s : State) : Answer := answer s (s.engInstr e .cmp)

/-- ENG_INSTR_NEG (R298). -/
def execEngInstrNeg (e : Nat) (s : State) : Answer := answer s (s.engInstr e .neg)

/-- ENG_INSTR_ABS (R298). -/
def execEngInstrAbs (e : Nat) (s : State) : Answer := answer s (s.engInstr e .abs)

/-- ENG_INSTR_ADDA (R300). -/
def execEngInstrAdda (e : Nat) (s : State) : Answer := answer s (s.engInstr e .adda)

/-- ENG_INSTR_SUBA (R300). -/
def execEngInstrSuba (e : Nat) (s : State) : Answer := answer s (s.engInstr e .suba)

/-- ENG_INSTR_NEGA (R300). -/
def execEngInstrNega (e : Nat) (s : State) : Answer := answer s (s.engInstr e .nega)

/-- ENG_INSTR_ABSA (R300). -/
def execEngInstrAbsa (e : Nat) (s : State) : Answer := answer s (s.engInstr e .absa)

/-- ENG_INSTR_CLRA (R300). -/
def execEngInstrClra (e : Nat) (s : State) : Answer := answer s (s.engInstr e .clra)

/-- ENG_INSTR_ASRA (R300). -/
def execEngInstrAsra (e : Nat) (s : State) : Answer := answer s (s.engInstr e .asra)

/-- ENG_INSTR_SHLA (R300). -/
def execEngInstrShla (e : Nat) (s : State) : Answer := answer s (s.engInstr e .shla)

/-- ENG_INSTR_SATA (R300). -/
def execEngInstrSata (e : Nat) (s : State) : Answer := answer s (s.engInstr e .sata)

/-- ENG_INSTR_LDA (R300). -/
def execEngInstrLda (e : Nat) (s : State) : Answer := answer s (s.engInstr e .lda)

/-- ENG_INSTR_LDAL (R300). -/
def execEngInstrLdal (e : Nat) (s : State) : Answer := answer s (s.engInstr e .ldal)

/-- ENG_INSTR_MOVA (R301). -/
def execEngInstrMova (e : Nat) (s : State) : Answer := answer s (s.engInstr e .mova)

/-- ENG_INSTR_CMPA (R303). -/
def execEngInstrCmpa (e : Nat) (s : State) : Answer := answer s (s.engInstr e .cmpa)

/-- ENG_INSTR_LD (R292). -/
def execEngInstrLd (e : Nat) (s : State) : Answer := answer s (s.engInstr e .ld)

/-- ENG_INSTR_ST (R292). -/
def execEngInstrSt (e : Nat) (s : State) : Answer := answer s (s.engInstr e .st)

/-- ENG_INSTR_STA (R302). -/
def execEngInstrSta (e : Nat) (s : State) : Answer := answer s (s.engInstr e .sta)

/-- ENG_INSTR_LD2 (R302). -/
def execEngInstrLd2 (e : Nat) (s : State) : Answer := answer s (s.engInstr e .ld2)

/-- ENG_INSTR_LDI (R294). -/
def execEngInstrLdi (e : Nat) (s : State) : Answer := answer s (s.engInstr e .ldi)

/-- ENG_INSTR_ADDI (R294). -/
def execEngInstrAddi (e : Nat) (s : State) : Answer := answer s (s.engInstr e .addi)

/-- ENG_INSTR_CMPI (R303). -/
def execEngInstrCmpi (e : Nat) (s : State) : Answer := answer s (s.engInstr e .cmpi)

/-- ENG_INSTR_MOV (R294). -/
def execEngInstrMov (e : Nat) (s : State) : Answer := answer s (s.engInstr e .mov)

/-- ENG_INSTR_MAXI (R304). -/
def execEngInstrMaxi (e : Nat) (s : State) : Answer := answer s (s.engInstr e .maxi)

/-- ENG_INSTR_MINI (R304). -/
def execEngInstrMini (e : Nat) (s : State) : Answer := answer s (s.engInstr e .mini)

/-- ENG_INSTR_STREAM (R306). -/
def execEngInstrStream (e : Nat) (s : State) : Answer := answer s (s.engInstr e .stream)

/-- ENG_INSTR_NRD (R307). -/
def execEngInstrNrd (e : Nat) (s : State) : Answer := answer s (s.engInstr e .nrd)

/-- ENG_INSTR_NWR (R307). -/
def execEngInstrNwr (e : Nat) (s : State) : Answer := answer s (s.engInstr e .nwr)

/-- ENG_INSTR_NWRN (R307). -/
def execEngInstrNwrn (e : Nat) (s : State) : Answer := answer s (s.engInstr e .nwrn)

/-! ## The network port -/

/-- Bytes of a number as words to store at consecutive addresses. -/
def wordsAt (buf v : Nat) : Nat → List (Nat × Nat)
  | 0 => []
  | n + 1 => (buf, v % 2 ^ 16) :: wordsAt (buf + 2) (v / 2 ^ 16) n

/-- Packets of the posted writes issued after the one of tag `t` on channel `vc`. -/
def laterPosted (t vc : Nat) : List (Nat × Nat × Nat) → Nat
  | [] => 0
  | p :: rest =>
    if p.1 = t then ((rest.filter (fun q => q.2.1 == vc)).map (fun q => q.2.2)).sum else laterPosted t vc rest

/-- The last flit of the posted write of tag `t` has left the interface (R251). -/
def State.postedLeft (s : State) (e t : Nat) : Bool :=
  match (s.eng e).posted.find? (fun p => p.1 == t) with
  | none => true
  | some p =>
    let q := Tbl.get [] (s.ni (regionNode (e / 4)) 0).txq p.2.1
    decide ((q.filter (fun f => f.rid == 0x40 + e && f.opc == opWrp && f.fidx == f.nfl)).length ≤
      laterPosted t p.2.1 (s.eng e).posted)

/-- ENG_NETWORK_RESPONSE (R251–R253): tag `t` of engine `e` completes. -/
def execEngNetworkResponse (e t : Nat) (s : State) : Answer :=
  answer s (
    if !validEngine e then s
    else match Tbl.get none (s.eng e).tags t with
    | none => s
    | some g =>
      if g.opc = opWrp then if s.postedLeft e t then s.freeEngTag e t .ok else s
      else
        match s.net.done.find? (fun d => d.node == regionNode (e / 4) && d.rid == 0x40 + e && d.ref == t) with
        | none => s
        | some d =>
          let s := { s with net := { s.net with done := s.net.done.erase d } }
          let s := if g.opc = opRd ∧ d.code = .ok then s.engStore e (wordsAt g.buf d.data (g.len / 2)) else s
          s.freeEngTag e t d.code)

/-! ## ENG_CTL -/

/-- A write of a register of engine `e` by a requester, if the region lets it through (R33). -/
def State.engGate (s : State) (req e addr : Nat) (act : State → State) : State :=
  if !validEngine e then s
  else
    let c := s.regionAccess (e / 4)
    if c = .ok then act s else s.windowRefuse req (e / 4) addr c

/-- A write of ENG_CTL with these fields. -/
def State.engCtl (s : State) (req e value : Nat) : State :=
  s.engGate req e (Reg.ENG_CTL (e / 4) (e % 4)) (fun s => s.engCtlWrite req e value)

/-- ENG_HALT (R272). -/
def execEngHalt (req e : Nat) (s : State) : Answer := answer s (s.engCtl req e 1)

/-- ENG_RESUME (R272). -/
def execEngResume (req e : Nat) (s : State) : Answer := answer s (s.engCtl req e 2)

/-- ENG_STEP (R272). -/
def execEngStep (req e : Nat) (s : State) : Answer := answer s (s.engCtl req e 3)

/-- ENG_ABORT (R269, R272). -/
def execEngAbort (req e : Nat) (s : State) : Answer := answer s (s.engCtl req e 4)

/-- ENG_CLEAR (R272). -/
def execEngClear (req e : Nat) (s : State) : Answer := answer s (s.engCtl req e 5)

/-- ENG_SWAPREQ (R267). -/
def execEngSwapreq (req e : Nat) (taskEnd : Bool) (entry : BitVec 12) (s : State) : Answer :=
  answer s (s.engCtl req e (6 + bit taskEnd * 2 ^ 12 + entry.toNat * 2 ^ 16))

/-- ENG_RELEASE (R260). -/
def execEngRelease (req e : Nat) (task : BitVec 6) (s : State) : Answer := answer s (s.engCtl req e (7 + task.toNat * 2 ^ 4))

/-! ## Memories and the register view -/

/-- The bytes from offset `off` on, `n` of them, lie in one of the engine's memories (R238, R239). -/
def engMemOk (off n : Nat) : Bool :=
  decide (off + n ≤ 0x8000) || (decide (0x10000 ≤ off) && decide (off + n ≤ 0x20000))

/-- The code words that bytes `off` to `off + n - 1` touch: offsets, with the bytes' mask of each that is covered. -/
def engCodeWords (off n : Nat) : List (Nat × Nat) :=
  let w := if off < 0x8000 then 4 else 2
  let first := off / w * w
  (List.range ((off + n + w - 1 - first) / w)).map (fun i => (first + w * i, w))

/-- A read of `n` bytes at `off` by a host or network requester (R213, R240, R241): the bytes, and OK or E_ECC. -/
def State.engMemRead (s : State) (e off n : Nat) : State × Nat × Code :=
  let b := engBase e
  let (s, ue) := s.engCheckAll e finderHost ((engCodeWords off n).map (fun w => b + w.1))
  if ue then (s, 0, .eEcc) else (s, s.bytes (b + off) n, .ok)

/-- Bytes written with byte enables. -/
def State.setBytesEn (s : State) (a v en : Nat) : Nat → State
  | 0 => s
  | n + 1 => (if hasBit en 0 then s.setByte a (v % 256) else s).setBytesEn (a + 1) (v / 256) (en / 2) n

/-- A write of `n` bytes with byte enables by a host or network requester (R209, R213, R240, R241): refused with E_STATE
if it touches the active bank, and without effect if a code word that it covers in part is uncorrectable. -/
def State.engMemWrite (s : State) (e off n value en : Nat) : State × Code :=
  let b := engBase e
  let x := s.eng e
  let enabledAt := fun (o : Nat) => decide (off ≤ o) && decide (o < off + n) && hasBit en (o - off)
  let touches := (List.range n).any (fun i => hasBit en i && decide (off + i < 0x8000) && (off + i) / 0x4000 == x.bank)
  if touches then (s, .eState)
  else
    let words := (engCodeWords off n).filter (fun w => (List.range w.2).any (fun i => enabledAt (w.1 + i)))
    let whole := fun (w : Nat × Nat) => (List.range w.2).all (fun i => enabledAt (w.1 + i))
    let (s, ue) := s.engCheckAll e finderHost ((words.filter (fun w => !whole w)).map (fun w => b + w.1))
    if ue then (s, .eEcc)
    else (words.foldl (fun s w => s.setMark (b + w.1) 0) (s.setBytesEn (b + off) value en n), .ok)

/-- A host or network write to an engine's memories, with its refusal recorded (R241). -/
def State.engMemAccess (s : State) (req e off n value en : Nat) : State :=
  s.engGate req e (engBase e + off) (fun s =>
    if !engMemOk off n then s.respond req (engBase e + off) .eArg
    else
      let (s, c) := s.engMemWrite e off n value en
      (if c = .eState then s.engRecord req e off 0 c else s).respond req (engBase e + off) c)

/-- ENG_MEMORY_HOST_WRITE (R241). -/
def execEngMemoryHostWrite (req e off n value be : Nat) (s : State) : Answer :=
  answer s (if n ≤ 256 then s.engMemAccess req e off n value be else s)

/-- The register view's entry at offset `o` from its start, as (register code) for the 16-bit registers (Table 7-20). -/
def viewReg (o : Nat) : Option Nat :=
  if o % 4 ≠ 0 then none
  else if o < 0xC0 then some (o / 4)
  else if o = 0xE0 then some rcLC else if o = 0xE4 then some 49 else if o = 0xE8 then some 50
  else if o = 0xEC then some rcWOFS else if o = 0xF0 then some rcST else none

/-- What a read of the register view returns at offset `o` (Table 7-20); none where it has no entry. Entry 0 of a stack is
its oldest one. -/
def EngSt.view (x : EngSt) (o : Nat) : Option Word64 :=
  let word := fun (n : Nat) => some (BitVec.ofNat 64 n)
  match viewReg o with
  | some c => word (x.reg c)
  | none =>
    if 0xC0 ≤ o ∧ o < 0xE0 ∧ o % 8 = 0 then some (BitVec.ofInt 64 (x.accInt ((o - 0xC0) / 8)))
    else if o = 0xF4 then word x.pc
    else if 0x100 ≤ o ∧ o < 0x110 ∧ o % 4 = 0 then
      match x.loops.reverse[(o - 0x100) / 8]? with
      | some l => word (if o % 8 = 0 then l.start + l.stop * 2 ^ 16
          else l.saved + (match l.step with | 0 => 0 | 1 => 1 | 2 => 2 | _ => 3) * 2 ^ 16)
      | none => word 0
    else if 0x120 ≤ o ∧ o < 0x130 ∧ o % 4 = 0 then word (x.calls.reverse.getD ((o - 0x120) / 4) 0)
    else if o = 0x140 then word (x.si0.data + bit x.si0.full * 2 ^ 16)
    else if o = 0x144 then word (x.si1.data + bit x.si1.full * 2 ^ 16)
    else if o = 0x148 then word (x.so0.data + bit x.so0.full * 2 ^ 16)
    else if o = 0x14C then word (x.so1.data + bit x.so1.full * 2 ^ 16)
    else none

/-- The register view may be read (R277). -/
def EngSt.viewable (x : EngSt) : Bool := x.st == .idle || x.st == .halt || x.st == .fault

/-- A write of `value` to the register view at offset `o` (R277, Table 7-20): bits not listed, and the RO entries, keep
their values. -/
def EngSt.setView (x : EngSt) (o value : Nat) : EngSt :=
  match viewReg o with
  | some c =>
    x.setReg c (if c = rcLC then value % 2 ^ 13 else if c = rcWOFS then value % 8 else if c = rcST then value % 512 else value)
  | none =>
    if 0xC0 ≤ o ∧ o < 0xE0 ∧ o % 8 = 0 then x.setAcc ((o - 0xC0) / 8) (value % 2 ^ 40 : Nat)
    else if o = 0xF4 then { x with pc := value % 4096 }
    else x

/-- The entry of the register view that offset `o` lies in, and its bytes: an accumulator has 64 bits, every other entry 32
(Table 7-20). -/
def viewEntry (o : Nat) : Nat × Nat := if 0xC0 ≤ o ∧ o < 0xE0 then (o / 8 * 8, 8) else (o / 4 * 4, 4)

/-- `n` bytes of a number replaced at byte `off` by those of `v`. -/
def putBytes (old off n v : Nat) : Nat := putBits old (8 * off) (8 * n) v

/-- A write of `n` bytes to the register view of engine `e` at offset `o` (R4, R7, R277): one half of an accumulator leaves the other
as it is. -/
def State.engViewWrite (s : State) (req e o n value : Nat) : State :=
  let a := engBase e + 0x31000 + o
  let (k, w) := viewEntry o
  s.engGate req e a (fun s =>
    let x := s.eng e
    match x.view k with
    | none => s.respond req a .ok
    | some old =>
      if !widthOk w (o - k) n then s.respond req a .eArg
      else if x.st = .idle ∨ x.st = .halt then
        (s.setEng e (x.setView k (putBytes old.toNat (o - k) n value))).respond req a .ok
      else (s.engRecord req e (0x31000 + o) 0 .eState).respond req a .eState)

/-- ENG_REGISTER_VIEW_WRITE (R277): 64 bits of data for an accumulator, 32 for any other entry. -/
def execEngRegisterViewWrite (req e off : Nat) (value : BitVec 64) (s : State) : Answer :=
  answer s (s.engViewWrite req e off (viewEntry off).2 value.toNat)

/-- A write of ENG_CNTCLR (Table 7-19). -/
def State.engCntclrWrite (s : State) (req e value : Nat) : State :=
  let r := e / 4
  let k := e % 4
  let a := Reg.ENG_CNTCLR r k
  s.engGate req e a (fun s =>
    let sat := Reg.ENG_ERR_CNT_SAT r k
    let s := if hasBit value 0 then
        ((((s.wr (Reg.ENG_TASKDONE r k) 0).wr (Reg.ENG_TASKLATE r k) 0).wr (Reg.ENG_TASKDISC r k) 0).wr
          (Reg.ENG_TASKREF r k) 0).setBit sat false
      else s
    let s := if hasBit value 1 then (s.wr (Reg.ENG_RETIRED r k) 0).setBit sat false else s
    s.respond req a .ok)

/-- ENG_CNTCLR_TASK (R261, Table 7-19). -/
def execEngCntclrTask (req e : Nat) (s : State) : Answer := answer s (s.engCntclrWrite req e 1)

/-- ENG_CNTCLR_RET (R236, Table 7-19). -/
def execEngCntclrRet (req e : Nat) (s : State) : Answer := answer s (s.engCntclrWrite req e 2)

end Sys2Proof.Machine
end

