-- ==== Sys2Proof/Machine/Idlis.lean ====
section
/-! DEFINITION. The meanings of the link commands (chapter 12), and of an action entry that marks a capture queue. -/

namespace Sys2Proof.Machine

/-! ## Parsing, delivery, transmission, credit -/

/-- The link headed by lane `n` is UP and in SYNC. -/
def State.linkSync (s : State) (n : Nat) : Bool := s.linkUpAt n && s.on (Reg.LN_IDL_STAT_SYNC n)

/-- What comes next in the stream of the link is a packet of `len` bytes with this value and these marks. -/
def State.nextIs (s : State) (n len v : Nat) (errored cut room : Bool) : Bool :=
  (s.nextUnit n).any (fun u => u.1 == len && u.2.v == v && u.2.errored == errored && u.2.cut == cut && u.2.room == room)

/-- IDLIS_PACKET_RECEIVE (R439, R441, R446): the next packet of the stream, if it has come whole and is the one named. FILL before a
packet goes in any case. -/
def execIdlisPacketReceive (n len v : Nat) (errored cut room : Bool) (s : State) : Answer :=
  answer s (
    if !s.linkSync n then s
    else if s.nextIs n len v errored cut room then s.linkParse n
    else s.setRx n (skipFill (s.link n).rx (s.link n).rxPos))

/-- IDLIS_RESYNC (R441): a link in HUNT searches what has come. -/
def execIdlisResync (n : Nat) (s : State) : Answer :=
  answer s (if s.linkUpAt n && !s.inSync n then s.linkHunt n else s)

/-- IDLIS_DELIVERY (R447). -/
def execIdlisDelivery (n : Nat) (s : State) : Answer := answer s (if validLane n then s.deliverHeld n else s)

/-- IDLIS_PACKET_TRANSMIT (R440, R452): in the current data block, or after a `pause` of so many control blocks. -/
def execIdlisPacketTransmit (n : Nat) (pause : Option Nat) (s : State) : Answer :=
  answer s (if s.linkUpAt n then s.linkTransmit n pause else s)

/-- IDLIS_CREDIT_RECEIVE (R452): the next packet of the stream, a CREDIT with this LIMIT. -/
def execIdlisCreditReceive (n limit : Nat) (s : State) : Answer :=
  answer s (
    if s.linkSync n && (s.nextPkt n).any (fun p => p.type == typCredit && p.stamp == limit) then s.linkParse n else s)

/-- IDLIS_CREDIT_SEND (R453). -/
def execIdlisCreditSend (n : Nat) (s : State) : Answer := answer s (if s.linkUpAt n then s.sendCredit n else s)

/-- The link counters and LN_IDL_ERR clear (R481). -/
def State.idlisCntclr (s : State) (n : Nat) : State :=
  ((List.range 16).foldl (fun s k => s.setFld (Reg.LN_IDLCNT_COUNT n k) 0) s).wr (Reg.LN_IDL_ERR n) 0

/-- IDLIS_CNTCLR (R481): a write of 1 to LN_IDL_CNTCLR.ALL. -/
def execIdlisCntclr (req n : Nat) (s : State) : Answer :=
  answer s (
    if validLane n && s.portHead n == n then (s.idlisCntclr n).laneRecord req n (Reg.LN_IDL_CNTCLR n) 0 .ok
    else s)

/-! ## DRIVE -/

/-- DRIVE_FRAME_ARRIVAL (R456): the STRM packet at the front of channel `vc` of hub `g`'s interface. -/
def execDriveFrameArrival (g vc : Nat) (s : State) : Answer :=
  answer s (
    if 16 ≤ g then s
    else
      let n := hubNode g
      match niFront n (s.vcIn n 6 vc).q with
      | .packet [f] =>
        if f.opc ≠ opStrm then s
        else if f.poison then s.niPoisoned n 0 vc 1 f
        else
          let h := 8 * g + f.stat % 8
          let s := s.niPop n 0 vc 1
          if !(s.laneRole h == rolePin && s.on (Reg.LN_PIN_CFG_DRV_EN h) && s.linkUpAt h) then s.linkCount h cntDrvDisc
          else s.driveFrame h (s.fullTick f.tag) f.stale (f.payload % 2 ^ (8 * s.frameLen h))
      | _ => s)

/-- DRIVE_PACKET_GAP_CLOSE (R457). -/
def execDrivePacketGapClose (n : Nat) (s : State) : Answer :=
  answer s (
    match (s.link n).drive with
    | some d =>
      if validLane n && s.tickCome ((d.last + s.driveStep n + s.fld (Reg.LN_PIN_CFG2_FGAP n)) % 2 ^ 64) then s.driveClose n
      else s
    | none => s)

/-- DRIVE_DEADLINE_DISCARD (R450): the first packet of the transmit buffer whose delivery tick has come. -/
def execDriveDeadlineDiscard (n : Nat) (s : State) : Answer :=
  answer s (
    let x := s.link n
    match x.txq.find? (s.expired n) with
    | some p =>
      if validLane n then (s.setLink n { x with txq := x.txq.erase p }).linkReject n cntDrvLate idlDrvLate (256 + p.type) else s
    | none => s)

/-! ## CAPTURE -/

/-- CAPTURE_DELIVERY (R460, R461). -/
def execCaptureDelivery (n : Nat) (s : State) : Answer :=
  answer s (if s.isHead n rolePin then s.captureForward n else s)

/-- CAPTURE_CREDIT_WAIT_TIMEOUT (R461). -/
def execCaptureCreditWaitTimeout (n : Nat) (s : State) : Answer :=
  answer s (
    if s.isHead n rolePin && s.fld (Reg.LN_PIN_CFG2_CWAIT n) != 0 && (s.frontPkt n typCapture).isSome then
      let s := s.linkReject n cntCapDrop idlCapDrop (256 + typCapture)
      (s.setLink n { s.link n with cap := [] }).popReady n
    else s)

/-! ## Store links -/

/-- STORE_REQUEST_SEND (R463, R467). -/
def execStoreRequestSend (id : Nat) (s : State) : Answer :=
  answer s (
    match s.storeTx id with
    | some t => if t.stage = .waiting then s.storeSend t else s
    | none => s)

/-- STORE_COMPLETION_RECEIVE (R465): the next packet of the stream, a CPL or a CPLD with this tag, status and data. -/
def execStoreCompletionReceive (n tag status : Nat) (data : Option (Nat × Nat)) (s : State) : Answer :=
  answer s (
    if s.isHead n roleStore && s.linkSync n && (s.nextPkt n).any (fun p =>
        (p.type == typCpl || p.type == typCpld) && p.storeTag == tag && p.storeStatus == status && p.body == data) then
      s.linkParse n
    else s)

/-- STORE_TRANSACTION_TIMEOUT (R466, R467). -/
def execStoreTransactionTimeout (n tag : Nat) (s : State) : Answer :=
  answer s (if s.isHead n roleStore then s.storeTimeout n tag else s)

/-- STORE_TAG_QUARANTINE_END (R466). -/
def execStoreTagQuarantineEnd (n tag : Nat) (s : State) : Answer :=
  answer s (if validLane n then s.setLink n { s.link n with stoQuar := (s.link n).stoQuar.filter (· != tag) } else s)

/-- A write of 1 to LN_STO_CMD.RESTORE (R467). -/
def State.storeRestore (s : State) (req n : Nat) : State :=
  if s.on (Reg.LN_STO_STAT_ISO n) then
    ((s.setBit (Reg.LN_STO_STAT_ISO n) false).setLink n { s.link n with stoFails := 0 }).laneRecord req n (Reg.LN_STO_CMD n) 0 .ok
  else s.laneRecord req n (Reg.LN_STO_CMD n) 0 .eState

/-- STORE_LINK_RESTORE (R467). -/
def execStoreLinkRestore (req n : Nat) (s : State) : Answer :=
  answer s (if validLane n && s.portHead n == n then s.storeRestore req n else s)

/-! ## Peer links -/

/-- FWD_DELIVERY (R470, R471). -/
def execFwdDelivery (n : Nat) (s : State) : Answer :=
  answer s (
    match s.frontPkt n typFwd with
    | some (_, p) => if validLane n then (s.popReady n).forward n p else s
    | none => s)

/-- The packet at the front of an interface's channel is an access to a tunnel aperture (R472): its flits. -/
def State.tunnelFront (s : State) (g vc : Nat) : Option (Flit × List Flit) :=
  match niFront (hubNode g) (s.vcIn (hubNode g) 6 vc).q with
  | .packet (f :: fs) =>
    if (f.isRequest || f.opc == opWrp) && bitsOf f.payload 44 4 == 1 then some (f, fs) else none
  | _ => none

/-- TUNNEL_ACCESS (R472). -/
def execTunnelAccess (g vc : Nat) (s : State) : Answer :=
  answer s (
    if 16 ≤ g then s
    else match s.tunnelFront g vc with
      | some (f, fs) =>
        if (f :: fs).any (·.poison) then s.niPoisoned (hubNode g) 0 vc (fs.length + 1) f
        else (s.niPop (hubNode g) 0 vc (fs.length + 1)).tunnel g f (packetBody (f :: fs))
      | none => s)

/-- TUN_REQ_DELIVERY (R473). -/
def execTunReqDelivery (n : Nat) (s : State) : Answer :=
  answer s (
    match s.frontPkt n typTunReq with
    | some (_, p) =>
      if !validLane n then s
      else
        let (t, done) := s.tunnelRequest n p
        if done then t.popReady n else s
    | none => s)

/-- TUN_REMOTE_RESPONSE (R473, R474): the network's response to the first transaction that has one. -/
def execTunRemoteResponse (n : Nat) (s : State) : Answer :=
  answer s (
    let g := n / 8
    let x := s.link n
    let mine := fun (d : NetDone) (r : Nat × Nat × Bool) => d.node == hubNode g && d.rid == 0xA0 + g && d.ref == tunnelRef n r.1
    match x.remote.find? (fun r => s.net.done.any (fun d => mine d r)) with
    | none => s
    | some r =>
      match s.net.done.find? (fun d => mine d r) with
      | none => s
      | some d =>
        if !validLane n then s
        else
          let s := { s with net := { s.net with done := s.net.done.erase d } }
          let s := s.setLink n { x with remote := x.remote.erase r }
          if r.2.2 || !s.linkUpAt n then s
          else if r.2.1 % 16 = opRd ∧ d.code = .ok then s.tunnelReply n r.1 .ok (some (r.2.1 / 16 + 1, d.data))
          else s.tunnelReply n r.1 d.code none)

/-- TUN_RSP_DELIVERY (R474): a TUN_RSP or a TUN_CPL. -/
def execTunRspDelivery (n : Nat) (s : State) : Answer :=
  answer s (
    match (s.frontPkt n typTunRsp).or (s.frontPkt n typTunCpl) with
    | some (_, p) => if validLane n then (s.popReady n).tunnelResponse n p else s
    | none => s)

/-- TUNNEL_XTAG_TIMEOUT (R474). -/
def execTunnelXtagTimeout (n k : Nat) (s : State) : Answer :=
  answer s (
    let x := s.link n
    match Tbl.get none x.xtags k with
    | some t =>
      if t.quarantine || !validLane n then s
      else (s.setLink n { x with xtags := Tbl.put none x.xtags k (some { t with quarantine := true }) }).hubAnswer (n / 8) t.head .eTmo 0
    | none => s)

/-- XTAG_QUARANTINE_END (R474). -/
def execXtagQuarantineEnd (n k : Nat) (s : State) : Answer :=
  answer s (
    let x := s.link n
    match Tbl.get none x.xtags k with
    | some t => if t.quarantine && validLane n then s.setLink n { x with xtags := Tbl.put none x.xtags k none } else s
    | none => s)

/-- PEER_TRIGGER_SEND (R475): at a tick at which a sent level changes, or whose number is a multiple of 4,096. -/
def execPeerTriggerSend (n : Nat) (s : State) : Answer :=
  answer s (
    let x := s.link n
    let l := s.trigLevels n
    if s.isHead n rolePeer && s.linkUpAt n && s.ticking && (l != x.trig || (s.now % 4096 == 0 && x.trigTick != some s.now)) then
      (s.setLink n { x with trig := l, trigTick := some s.now }).linkQueue n
        (controlPkt typTrig false (s.ownSdev n) (s.stampNow + l * 2 ^ 32))
    else s)

/-- TRIG_DELIVERY (R476). -/
def execTrigDelivery (n : Nat) (s : State) : Answer :=
  answer s (
    match s.frontPkt n typTrig with
    | some (_, p) =>
      if !validLane n then s
      else
        let s := s.popReady n
        match s.peerPort n with
        | some k => { s with pins := { s.pins with peer := Tbl.put 0 s.pins.peer k (p.byte 8) } }
        | none => s
    | none => s)

/-! ## QUEUE_MARK (R369, R462) -/

/-- A capture port's buffer with a marker before the first of its last words that were sampled at or after its tick. -/
def markBuffer (tick code : Nat) (l : List CapItem) : List CapItem :=
  let later := fun (c : CapItem) => match c with
    | .word _ _ _ stamp _ _ => decide (tick ≤ stamp)
    | .marker _ _ => false
  let tail := (l.reverse.takeWhile later).reverse
  l.take (l.length - tail.length) ++ .marker code tick :: tail

/-- A marker placed in the stream of a capture port: one that lands among the items released by an idle tick is one of them. -/
def CqpSt.mark (x : CqpSt) (tick code : Nat) : CqpSt :=
  let l := markBuffer tick code x.wbuf
  { x with wbuf := l, idle := if (l.take x.idle) = x.wbuf.take x.idle then x.idle else x.idle + 1 }

/-- A marker segment for queue `q` that a producer without buffered words sends at once. -/
def State.sendMark (s : State) (n entry rid q code tick : Nat) : State :=
  s.niPost n 0 entry opCap capturePri rid 0 0 false 7 (capHeader q false false true code tick)

/-- A marker with `code` for queue `q` at target tick `tick` (R369). The queue's PROD says who places it: a region interface, in the
stream of its capture port that writes the queue; a lane hub, in the stream of a PIN lane that feeds it; for any other producer the
shard. An interface or hub without such a stream sends the marker by itself; one of a region that is OFF cannot. -/
def State.queueMark (s : State) (q code tick : Nat) : State :=
  let prod := s.qfld q Reg.QM_QDESC0_PROD
  if 0x20 ≤ prod ∧ prod < 0x38 then
    let r := prod - 0x20
    match (List.range 8).find? (fun i => s.cqpWMode r i != 0 && s.fld (Reg.CQP_CFG_WQ r i) == q) with
    | some i => s.setCqp r i ((s.cqp r i).mark tick code)
    | none => if s.rstate r = .off then s else s.sendMark (regionNode r) (56 + q / 256) prod q code tick
  else if 0xA0 ≤ prod ∧ prod < 0xB0 then
    let g := prod - 0xA0
    match (s.captureLanes q).filter (fun n => n / 8 == g) with
    | n :: _ => s.setLink n { s.link n with ready := placeMark tick code (s.link n).ready }
    | [] => s.sendMark (hubNode g) (s.fld (Reg.LN_PIN_CFG_ROUTE (8 * g))) prod q code tick
  else s.setQueue q { s.queue q with marks := (s.queue q).marks ++ [(code, tick)] }

/-- ACT_QUEUE_MARK (R82, R369). -/
def execActQueueMark (i : Nat) (s : State) : Answer :=
  answer s (
    if s.actReady i 7 then
      let q := s.fld (Reg.ACT_ARG0_ARG i) % 1024
      if s.qstate q ≠ qActive then (s.noteRefusal (srcShard (q / 256)) 0 0x13 .eState).actDone i .eState
      else (s.queueMark q (s.fld (Reg.ACT_ARG1_ARG i) % 2 ^ 16) s.now).actDone i .ok
    else s)

end Sys2Proof.Machine
end

