-- ==== Sys2Proof/Machine/Power.lean ====
section
/-! DEFINITION. The meanings of the power and thermal events (chapter 19), and of JTAG instructions (R609, R610). -/

namespace Sys2Proof.Machine

/-- PWROK_RISE (R662): Lovage enters RUN; with RESET_N high already, the device starts. -/
def execPwrokRise (refclk : Bool) (s : State) : Answer :=
  answer s (
    if s.lovage.st ≠ .stby then s
    else
      let s := { s with lovage := { s.lovage with st := .run } }
      let s := s.setHk { s.hk with refclk }
      if s.cpBall 0 && !s.lovage.tripHold then s.start else s)

/-- MAIN_POWER_LOSS (R663, R667). -/
def execMainPowerLoss (s : State) : Answer := answer s s.powerLoss

/-- VSTBY is lost: everything on the chip is (Table 1-6). -/
def State.standbyLoss (s : State) : State :=
  let s := s.chipReset
  let s := s.wr (Reg.CP_CFG 47) (resetOf (Reg.CP_CFG 47))
  { s with lovage := { LovageSt.reset with st := .off }, jtag := 1 }

/-- VSTBY_LOSS (R667). -/
def execVstbyLoss (s : State) : Answer := answer s s.standbyLoss

/-- VSTBY_RISE (R662). -/
def execVstbyRise (s : State) : Answer := answer s (if s.lovage.st = .off then { s with lovage := .reset } else s)

/-- The window of monitor `n` in µV, and its failure threshold in mV (Table 19-5). -/
def State.monitorWindow (s : State) (n : Nat) : Nat × Nat :=
  let pct := fun (nom : Nat) => (nom * 940, nom * 1060)
  match n with
  | 0 => ((s.fld Reg.AVS_STATUS_VCMD - 40) * 1000, (s.fld Reg.AVS_STATUS_VCMD + 40) * 1000)
  | 1 => pct 750
  | 2 => pct 800
  | 3 | 5 => pct 900
  | 4 => pct 1200
  | 6 => pct 1800
  | 7 => (1620000, 1980000)
  | _ =>
    let nom := nominalMv (bitsOf (s.bank (n - 8)).set 0 2)
    (nom * 900, nom * 1100)

/-- The failure threshold of a main rail in mV (Table 19-5). -/
def railFails (n : Nat) : Nat := [550, 638, 680, 765, 1020, 765, 1530].getD n 0

/-- A monitor's reading enters PWR_RAIL (R665, R673). -/
def State.railSample (s : State) (n mv : Nat) : State :=
  let mv := if n < 8 then mv else s.fld (Reg.IOB_VMON_MV (n - 8))
  let (lo, hi) := s.monitorWindow n
  let low := decide (mv * 1000 < lo)
  let high := decide (hi < mv * 1000)
  let was := s.on (Reg.PWR_RAIL_LOW n) || s.on (Reg.PWR_RAIL_HIGH n)
  let s := ((s.setFld (Reg.PWR_RAIL_MV n) mv).setBit (Reg.PWR_RAIL_LOW n) low).setBit (Reg.PWR_RAIL_HIGH n) high
  let out := low || high
  if out && !was then
    let s := (s.setBit (Reg.PWR_RAIL_OOR n) true).setBit Reg.PWR_STAT_RAIL_EV true
    if n < 8 then s.powerEvent 3 n mv else s
  else if was && !out && decide (n < 8) then s.powerEvent 4 n mv
  else s

/-- SUPPLY_MONITOR_SAMPLE (R634, R665, R667, R673): supply `n` (20: VHOLD, through HOLD_SENSE) has the value `mv`, and has had it for
10 µs. -/
def execSupplyMonitorSample (n mv : Nat) (s : State) : Answer :=
  answer s (
    if !s.hk.up ∨ 20 < n then s
    else if n = 20 then (if mv < 3000 ∧ s.holdSenses then (s.setBit Reg.PWR_STAT_HOLD_LOW true).powerEvent 5 0 mv else s)
    else if n < 7 ∧ mv < railFails n then s.powerLoss
    else if n = 7 ∧ mv < 1500 then s.standbyLoss
    else s.railSample n mv)

/-- A temperature register as a signed number. -/
def tempOf (x : Nat) : Int := if x < 2 ^ 15 then x else (x : Int) - 2 ^ 16

/-- The hottest sensor, and its reading. -/
def hottest : List (Nat × Nat) → Nat × Nat
  | [] => (0, 0)
  | [e] => e
  | e :: t =>
    let m := hottest t
    if tempOf e.2 < tempOf m.2 then m else e

/-- A thermal trip (R672): guarded banks quench, the alarm and the post-mortem word, chip reset, which waits for a store. -/
def State.trip (s : State) (sensor temp : Nat) : State :=
  let s := (List.range 6).foldl (fun s b => s.quench b allPins 6 true) s
  let s := s.setAlarm.pmWrite pmTrip none
  let s := { s with lovage := { s.lovage with trip := some (sensor, temp), tripHold := true } }
  if s.hk.holdEn then s else s.tripReset

/-- THERMAL_SAMPLE (R670–R672): the 32 sensors, in 0.1 °C. -/
def execThermalSample (temps : List (BitVec 16)) (s : State) : Answer :=
  answer s (
    if !s.hk.up || s.lovage.tripHold then s
    else
      let xs := (List.range 32).map (fun k => (k, (temps.getD k 0).toNat))
      let tripped := xs.find? (fun e => decide (1200 ≤ tempOf e.2) && decide (1200 ≤ tempOf (s.fld (Reg.PWR_TS_TEMP e.1))))
      let s := xs.foldl (fun s e => s.setFld (Reg.PWR_TS_TEMP e.1) e.2) s
      let (k, t) := hottest xs
      let s := (s.setFld Reg.PWR_TMAX_TEMP t).setFld Reg.PWR_TMAX_SENSOR k
      let s := if tempOf t ≥ 10 * (s.fld Reg.PWR_CTL_TWARN : Int) ∧ !s.on Reg.PWR_STAT_TWARN_ACT then
          ((s.setBit Reg.PWR_STAT_TWARN_ACT true).setBit Reg.PWR_STAT_TWARN_EV true).powerEvent 1 k t
        else s
      match tripped with
      | some e => s.trip e.1 e.2
      | none => s)

/-- THERMAL_WARNING_CLEAR (R671). -/
def execThermalWarningClear (s : State) : Answer :=
  answer s (
    let below := (List.range 32).all (fun k =>
      decide (tempOf (s.fld (Reg.PWR_TS_TEMP k)) < 10 * ((s.fld Reg.PWR_CTL_TWARN : Int) - 5)))
    if s.on Reg.PWR_STAT_TWARN_ACT && below then
      (s.setBit Reg.PWR_STAT_TWARN_ACT false).powerEvent 2 (s.fld Reg.PWR_TMAX_SENSOR) (s.fld Reg.PWR_TMAX_TEMP)
    else s)

/-- THERMAL_TRIP_HOLD_END (R672). -/
def execThermalTripHoldEnd (s : State) : Answer :=
  answer s (
    if s.lovage.tripHold && !s.hk.up then
      let s := { s with lovage := { s.lovage with tripHold := false } }
      if s.lovage.st = .run ∧ s.cpBall 0 then s.start else s
    else s)

/-- WAKE_CHANGE (R669): the comparator's level at WAKE. -/
def execWakeChange (level : Bool) (s : State) : Answer :=
  answer s (
    if s.lovage.st = .off ∨ s.cpBall 47 = level then s
    else
      let s := { s with pins := { s.pins with balls := Tbl.put (pinRestsHigh 47) s.pins.balls 47 level } }
      if s.lovage.st = .stby then { s with lovage := { s.lovage with wakeSeen := true } } else s)

/-- A write of PWR_CTL (Table 19-11). -/
def State.pwrCtl (s : State) (req value : Nat) : State :=
  let t := value % 256
  let c : Code := if 60 ≤ t ∧ t ≤ 110 then .ok else .eArg
  let s := if c = .ok then s.setFld Reg.PWR_CTL_TWARN t else s
  ((s.setFld Reg.PWR_CMDSTAT_CODE c.num).setFld Reg.PWR_CMDSTAT_REQ req).respond req Reg.PWR_CTL c

/-- PWR_CTL_WRITE (R671). -/
def execPwrCtlWrite (req : Nat) (value : BitVec 32) (s : State) : Answer := answer s (s.pwrCtl req value.toNat)

/-- What IDCODE returns: the upper half of the Revision ID, the part's number and the maker's (Table 16-9). -/
def idcode : Nat := stepping / 16 * 2 ^ 28 + 0x9624 * 2 ^ 12 + 0x52B * 2 + 1

/-- What the data register that the JTAG instruction selects returns, where the spec gives it: that of IDCODE (Table 16-9). -/
def State.jtagCapture (s : State) : Option Nat := if s.jtag = 1 then some idcode else none

/-- JTAG_INSTRUCTION (R609, R610, Table 16-9). -/
def execJtagInstruction (code : BitVec 8) (s : State) : Answer :=
  answer s (
    let own := code == 0x40 || code == 0x41
    let known := decide (code.toNat ≤ 6) || (own && (s.lcState == 0 || s.lcState == 3))
    { s with jtag := if known then code.toNat else 0xFF })

/-- RETRY_STATUS_TIMEOUT (R484). -/
def execRetryStatusTimeout (s : State) : Answer := answer s (s.setHk { s.hk with retry := false })

end Sys2Proof.Machine
end

