-- ==== Sys2Proof/Machine/View.lean ====
section
/-! DEFINITION. What a read of a register returns: the value held in the register file, or, for a register that shows other state of
the machine, that state (the register maps of all chapters). -/

namespace Sys2Proof.Machine

/-! ## Finding a register -/

/-- A register at an address: its description, the address of the instance, and how many bytes into it the address lies. -/
structure RegAt where
  desc : RegDesc
  base : Nat
  off : Nat
  deriving DecidableEq, Repr

/-- Interface 1 exists at node 40 only (Table 9-8), and QM_APCTL in shard QM0 (R404): the same place elsewhere is unassigned. -/
def unassignedInst (a : Nat) : Bool :=
  [1, 2, 3].any (fun h => a / 4 == Reg.QM_APCTL h / 4) || decide (Reg.RTR_ID 0 ≤ a) && decide (a < Reg.RTR_ID 48) && decide (0x1800 ≤ (a - Reg.RTR_ID 0) % 0x2000) &&
    decide ((a - Reg.RTR_ID 0) / 0x2000 ≠ cfgNode)

/-- The first register of the list that holds address `a`. -/
def findIn (a : Nat) : List RegDesc → Option RegAt
  | [] => none
  | d :: t =>
    match instOffset d.base d.dims d.bytes a with
    | some o => some ⟨d, a - o, o⟩
    | none => findIn a t

/-- A word of a log entry: it is read as a 64-bit register (R648). -/
def logWordDesc : RegDesc := ⟨"log entry", 0x50000, [(8192, 8)], 8, 0, [⟨0, 64, .ro⟩]⟩

/-- The register that holds C-window address `a`, if one does. -/
def findReg (a : Nat) : Option RegAt :=
  if unassignedInst a then none
  else if 0x50000 ≤ a ∧ a < 0x60000 then some ⟨logWordDesc, a - a % 8, a % 8⟩
  else findIn a Reg.all

/-! ## Views, unit by unit -/

/-- The bits `f 0`, `f 1`, … as a number of `n` bits. -/
def bitsFrom (f : Nat → Bool) (n : Nat) : Nat := ((List.range n).map (fun i => bit (f i) * 2 ^ i)).sum

/-- NET_ABS (Table 9-8): the nodes with a port in ABSORB. -/
def State.netAbs (s : State) : Nat := bitsFrom (fun n => (List.range 6).any (fun p => s.absorbing n p)) 48

/-- The NOR serves an operation or a stream: its bus moves. -/
def State.norBusMoves (s : State) : Bool := s.hk.raw.isSome || s.hk.holdEn || s.fromNor

/-- The level at the ball of control pin `n`: what the device drives, the wired level of an open-drain line, else what the board
drives (R632, R633, R636). While a serial bus moves, the level of a line that the device drives on it is open, and free. -/
def State.pinLevel (s : State) (n : Nat) : Bool :=
  let free := hasBit (s.freeBits 64).toNat n
  let xspi := !s.listener
  if n = 3 then s.tick.markHigh
  else if 12 ≤ n ∧ n ≤ 15 then s.flagLevel (n - 12)
  else if n = 16 then s.cpBall n && !s.lovage.alarm
  else if n = 17 ∨ n = 18 then s.cpBall n && !s.irqPin (n - 17)
  else if n = 24 ∧ xspi then s.norBusMoves && free
  else if n = 25 ∧ xspi then !s.norBusMoves || free
  else if 26 ≤ n ∧ n ≤ 33 ∧ xspi then if s.norBusMoves then free else s.cpBall n
  else if n = 35 ∧ xspi then s.bootState != 0
  else if n = 36 then s.on Reg.AVS_CTL_EN && free
  else if n = 37 then !s.on Reg.AVS_CTL_EN || free
  else if n = 49 then s.hk.holdEn
  else s.cpBall n

/-- What CP_RAW and CP_FILT show of pin `n`, by a level: nothing in analogue mode (R634). -/
def State.pinRead (s : State) (level : Nat → Bool) (n : Nat) : Bool := !s.on (Reg.CP_CFG_ANA n) && level n

/-- Housekeeping, from its base on. -/
def State.viewHk (s : State) (o v : Nat) : Nat :=
  if 0x900 ≤ o ∧ o < 0xA00 then s.fld (Reg.HSEM_OWNER ((o - 0x900) / 4))
  else if o = 0x24 ∧ s.hk.journal then putBits (putBits v 9 1 s.activeSector) 10 9 (256 - s.storePage)
  else if o = 0x1100 then bitsFrom (s.pinRead s.pinLevel) 52
  else if o = 0x1108 then bitsFrom (s.pinRead (fun n => if hasFilter n then s.filtOut n else s.pinLevel n)) 52
  else if o = 0x1500 then s.tlStat
  else if o = 0x3010 then putBits (putBits v 15 1 (bit s.lovage.alarm)) 16 1 (bit s.pmHeld)
  else if o = 0x4004 then putBits v 4 1 (bit s.lovage.trip.isSome)
  else if o = 0x400C then
    bit (s.cpBall 47) + bit s.lovage.wakeSeen * 2 + bit s.lovage.stbyPrev * 4 + s.lovage.stbyCnt * 2 ^ 16
  else if 0x4060 ≤ o ∧ o < 0x4090 then putBits v 0 16 (s.fld (Reg.IOB_VMON_MV ((o - 0x4060) / 4)))
  else v

/-- The tick unit. -/
def State.viewTick (s : State) (o v : Nat) : Nat :=
  if o = 4 then
    putBits v 2 1 (bit (s.tickIdle && s.on Reg.TICK_CTL_START_ON_SYNC && s.on Reg.TICK_SYNC_CTL_ARMED))
  else if o = 0x44 then if s.on Reg.AVS_CTL_MODE then v else s.tick.avs.volts
  else if 0x1000 ≤ o ∧ o < 0x2800 ∧ o % 0x100 = 4 then putBits v 4 1 (bit (s.participates ((o - 0x1000) / 0x100)))
  else v

/-- The configuration controller. -/
def State.viewCfg (s : State) (o v : Nat) : Nat :=
  if o = 0 then putBits v 0 1 (bit s.reqAuth)
  else if o = 4 then putBits (putBits v 6 1 (bit (!s.cfg.frame.isEmpty))) 16 15 (16384 - s.cfg.fifo.length)
  else v

/-- The self-test controller. -/
def State.viewSt (s : State) (o v : Nat) : Nat :=
  if o = 0xC00 then s.lcState + bit (s.lcState == 0 || s.lcState == 3) * 8 else v

/-- A lane's window. -/
def State.viewLane (s : State) (n o v : Nat) : Nat :=
  if 0x200 ≤ o ∧ o < 0x400 ∧ s.portHead n ≠ n then 0
  else if o = 0x1014 ∧ n % 8 = 0 then
    bitsFrom (fun i => s.laneSum (n + i)) 8 + bitsFrom (fun i => s.laneState (n + i) == lnUp) 8 * 2 ^ 8
  else if o = 0x274 then putBits v 0 11 (s.storeSent n).length
  else if o = 0x284 then (s.link n).xtags.length + (s.link n).remote.length * 2 ^ 16
  else v

/-- A shard's window. -/
def State.viewShard (s : State) (h o v : Nat) : Nat :=
  if o = 0x14 then putBits v 0 17 (s.freeCells h)
  else if o = 0x38 then s.pagesUsed h
  else if o = 0x40 then (s.shard h).freePages.length
  else if o = 0x60 then s.rsv h
  else if 0x10000 ≤ o ∧ o < 0x18000 then
    let q := 256 * h + (o - 0x10000) / 0x80
    match o % 0x80 with
    | 0x18 => putBits (putBits v 5 1 (bit (!(s.queue q).pages.isEmpty))) 6 1 (bit ((s.spillGroup q).isSome && !s.pageAvailable q))
    | 0x1C => s.held q
    | 0x50 => s.qpages q
    | _ => v
  else v

/-- A host port. -/
def State.viewHost (s : State) (p o v : Nat) : Nat :=
  if o = 0x44 then s.fld (Reg.HP_DBELL_DB p)
  else if o = 0x80 then bitsFrom (s.srcActive p) 64
  else v

/-- The code of an engine's state (Table 7-12). -/
def EngState.num : EngState → Nat
  | .idle => 0 | .run => 1 | .stall => 2 | .halt => 3 | .fault => 4

/-- ENG_STATUS of engine `e` (Table 7-17). -/
def State.engStatus (s : State) (e : Nat) : Nat :=
  let x := s.eng e
  x.st.num + x.bank * 2 ^ 3 + bit x.swapPend.isSome * 2 ^ 4 + bit x.haltPend * 2 ^ 5 + x.wait * 2 ^ 6 + bit x.rep * 2 ^ 11 +
    x.loops.length * 2 ^ 12 + bit (s.holder (e / 4) 2 (e % 4)).isSome * 2 ^ 14 + x.pc * 2 ^ 16 + x.calls.length * 2 ^ 28

/-- ENG_TASKQ of engine `e` (Table 7-19). -/
def State.engTaskq (s : State) (e : Nat) : Nat :=
  let x := s.eng e
  x.tasks.length + bit x.cur * 2 ^ 8 + (if x.cur then (x.tasks.head?.map (·.idx)).getD 0 else 0) * 2 ^ 16

/-- A region's window. -/
def State.viewRegion (s : State) (r o v : Nat) : Nat :=
  if o = 0x10 then s.regErr r
  else if 0x80 ≤ o ∧ o < 0x100 then s.tgtWord r ((o - 0x80) / 4)
  else if 0x100 ≤ o ∧ o < 0x120 then bitsFrom (fun i => s.blkSum r ((o - 0x100) / 4 * 32 + i)) 32
  else if 0x120 ≤ o ∧ o < 0x12C then bitsFrom (fun i => s.bmSum r ((o - 0x120) / 4 * 32 + i)) 32
  else if o = 0x12C then bitsFrom (s.engSum r) 4
  else if 0x400 ≤ o ∧ o < 0xA00 ∧ o % 0x10 = 8 then
    let m := (o - 0x400) / 0x10
    putBits (putBits v 10 1 (bit (s.holder r 1 m).isSome)) 16 10
      ((List.range 512).filter (fun i => s.rowValid r m i)).length
  else if o = 0xC08 then putBits v 0 1 (bit (s.scrubbing r))
  else if 0x2000 ≤ o ∧ o < 0x20C4 then s.frame r 41 1 ((o - 0x2000) / 4)
  else if 0x100000 ≤ o then
    let k := (o - 0x100000) / 0x40000
    match (o - 0x100000) % 0x40000 with
    | 0x30008 => s.engStatus (4 * r + k)
    | 0x30020 => s.engTaskq (4 * r + k)
    | 0x30038 => putBits v 16 4 (bitsFrom (fun t => (Tbl.get none (s.eng (4 * r + k)).tags t).isSome) 4)
    | _ => v
  else v

/-- A word of the log unit at offset `o`: summary words, then detail words (chapter 18). -/
def State.logWord (s : State) (o : Nat) : Nat := Tbl.get 0 s.log.entries (o % 0x8000 / 8) / 2 ^ (64 * (o / 0x8000)) % 2 ^ 64

/-- What the register instance at address `a` shows, outside the rescue window. -/
def State.view (s : State) (a : Nat) : Nat :=
  let v := (s.rd a).toNat
  if a < 0x20000 then s.viewHk (a - 0x10000) v
  else if a < 0x30000 then s.viewTick (a - 0x20000) v
  else if a < 0x40000 then s.viewCfg (a - 0x30000) v
  else if a < 0x50000 then s.viewSt (a - 0x40000) v
  else if a < 0x60000 then s.logWord (a - 0x50000)
  else if a < 0x90000 then if a = Reg.NET_SUM then s.netSum else s.netAbs
  else if a < 0x100000 then v
  else if a < 0x200000 then s.viewLane ((a - 0x100000) / 0x2000) ((a - 0x100000) % 0x2000) v
  else if a < 0x300000 then s.viewShard ((a - 0x200000) / 0x40000) ((a - 0x200000) % 0x40000) v
  else if a < 0x320000 then s.viewHost ((a - 0x300000) / 0x10000) ((a - 0x300000) % 0x10000) v
  else s.viewRegion ((a - 0x1000000) / 0x200000) ((a - 0x1000000) % 0x200000) v

/-- What a read of the whole register returns: the view, with write-only fields and reserved bits 0 (R6, R8). -/
def State.readAt (s : State) (x : RegAt) : Nat := (x.desc.read (BitVec.ofNat 64 (s.view x.base))).toNat

/-! ## Reads of registers (R4, R5, R9) -/

/-- The RC fields of a register that has been read clear (R9). -/
def State.readDone (s : State) (x : RegAt) : State := s.wr x.base (x.desc.clearRc (s.rd x.base))

/-- A read of `n` bytes (4 or 8) by a requester that has found register `x`: a whole register or a half of one (R4, R5, R9). A read
of the pins takes a free value: that of the lines of a bus that moves. -/
def State.readRegister (s : State) (req : Nat) (x : RegAt) (n : Nat) : State × Nat :=
  let (t, v) := s.readHalf req x.base x.desc.bytes x.off n (s.readAt x)
  let t := if x.base = Reg.CP_RAW ∨ x.base = Reg.CP_FILT then t.tookFree else t
  (t.readDone x, v)

end Sys2Proof.Machine
end

