-- ==== Sys2Proof/Machine/RegWrite.lean ====
section
/-! DEFINITION. A write to a register: the registers that a command of their own describes act by it; the others take the value
field by field by their access codes (Table 0-2), after the checks of their unit; the outcome is recorded where the unit keeps
status, and answered (R4–R13, R680, R687). -/

namespace Sys2Proof.Machine

/-! ## The value written -/

/-- The bits that a write to the other half of a register leaves as they are only if it writes them back. -/
def RegDesc.rwMask (d : RegDesc) : Word64 :=
  d.fields.foldl (fun m f => match f.access with
    | .rw | .rwl => m ||| fieldMask f.lo f.width
    | _ => m) 0

/-- The whole value of a register written by `n` bytes `v`: a half of 64 bits leaves the other half as it stands, with no 1
in an event or command bit of it (R4, R34). -/
def State.wholeValue (s : State) (x : RegAt) (n v : Nat) : Nat :=
  if x.desc.bytes = n then v % 2 ^ (8 * n)
  else
    let old := (s.rd x.base &&& x.desc.rwMask).toNat
    if x.off = 0 then old / 2 ^ 32 * 2 ^ 32 + v % 2 ^ 32 else old % 2 ^ 32 + v % 2 ^ 32 * 2 ^ 32

/-- The register takes the value by its fields' access codes (R8). -/
def State.plainWrite (s : State) (x : RegAt) (v : Nat) : State :=
  s.wr x.base (x.desc.write (s.rd x.base) (BitVec.ofNat 64 v))

/-- Where bit `i` of the value is 1, it clears the counters of fields `fs` (R10). -/
def State.clearing (s : State) (v i : Nat) (fs : List Fld) : State :=
  if hasBit v i then fs.foldl (fun s f => s.setFld f 0) s else s

/-! ## Tick unit -/

/-- A write of a tick-unit register that has no command of its own (Table 2-5). -/
def State.tickPlain (s : State) (req : Nat) (x : RegAt) (v : Nat) : State :=
  let a := x.base
  let c := s.tickPlainCode a v false
  let s :=
    if c ≠ .ok then s
    else
      let s := s.plainWrite x v
      if a = Reg.TICK_MARK_CTL ∧ !hasBit v 16 then { s with tick := { s.tick with markHigh := false } }
      else s
  s.tickRecord req a c

/-- A write of a tick-unit register. -/
def State.tickWrite (s : State) (req : Nat) (x : RegAt) (v : Nat) : State :=
  let a := x.base
  let o := a - Reg.TICK_CTL
  if a = Reg.TICK_CTL then if hasBit v 0 then s.tickStart req (hasBit v 1) else s.tickStop req (hasBit v 1)
  else if a = Reg.TICK_COUNT then s.tickCountWrite req v
  else if a = Reg.TICK_SYNC_CTL then s.syncCtlWrite req v
  else if a = Reg.AVS_CTL then s.avsCtlWrite req v
  else if a = Reg.AVS_VSET then s.avsVsetWrite req v
  else if 0x8000 ≤ o then s.actWrite req ((o - 0x8000) / 0x20) (o % 0x20) v
  else if 0x1000 ≤ o then
    let r := (o - 0x1000) / 0x100
    match o % 0x100 with
    | 0x00 => s.trCtlWrite req r v
    | 0x08 => s.trFloorWrite req r v
    | 0x0C => s.tarCtlWrite req r v
    | 0x30 => s.trClrWrite req r v
    | _ => s.tickPlain req x v
  else s.tickPlain req x v

/-! ## Regions -/

/-- The outcome of a write of a region-control register that has no command of its own (Tables 4-12, 6-4). -/
def regionPlainCode (o v : Nat) : Code :=
  if o = 0x40 then
    if v % 2 ^ 8 = 0 ∨ bitsOf v 8 5 < 8 ∨ 24 < bitsOf v 8 5 then .eArg else .ok
  else if o = 0xC04 then if v % 2 ^ 16 < 64 then .eArg else .ok
  else .ok

/-- What a write of 1 to the SAT bit of a region-control register clears. -/
def State.regionClears (s : State) (r o v : Nat) : State :=
  if o = 0x10 then s.clearing v 11 [Reg.REG_ERRCNT_COUNT r]
  else if o = 0xC08 then s.clearing v 3 [Reg.SCR_CFGCE_COUNT r, Reg.SCR_CFGUE_COUNT r, Reg.SCR_SWEEPS_COUNT r]
  else if 0x180 ≤ o ∧ o < 0x1C0 ∧ o % 8 = 4 then
    let i := (o - 0x180) / 8
    s.clearing v 2 [Reg.NIP_STAT_TXCNT r i, Reg.NIP_STAT_RXCNT r i]
  else if 0x1C0 ≤ o ∧ o < 0x200 ∧ o % 8 = 4 then
    let i := (o - 0x1C0) / 8
    s.clearing v 2 [⟨Reg.CQP_STAT r i, 16, 8⟩, ⟨Reg.CQP_STAT r i, 24, 8⟩]
  else if 0x400 ≤ o ∧ o < 0xA00 ∧ o % 0x10 = 8 then s.clearing v 6 [Reg.BM_COLLCNT_COUNT r ((o - 0x400) / 0x10)]
  else if 0xE00 ≤ o ∧ o < 0x1100 ∧ o % 8 = 0 then
    let m := (o - 0xE00) / 8
    s.clearing v 4 [Reg.BM_ECCSTAT_CECNT r m, Reg.BM_ECCSTAT_UECNT r m]
  else if 0x1100 ≤ o ∧ o < 0x1120 ∧ o % 8 = 0 then
    let k := (o - 0x1100) / 8
    s.clearing v 4 [Reg.ENG_ECCSTAT_CECNT r k, Reg.ENG_ECCSTAT_UECNT r k]
  else if 0x8000 ≤ o ∧ o < 0x9000 ∧ o % 0x10 = 0 then s.clearing v 9 [Reg.BLK_ERRCNT_COUNT r ((o - 0x8000) / 0x10)]
  else s

/-- A write of a region-control register that has no command of its own. The scrubber starts a new sweep where EN sets it
going (R221). -/
def State.regionPlain (s : State) (req r : Nat) (x : RegAt) (v : Nat) : State :=
  let o := (x.base - Reg.REG_CMD 0) % 0x200000
  let c := regionPlainCode o v
  let s :=
    if c ≠ .ok then s
    else
      let starts := o == 0xC00 && hasBit v 0 && !s.on (Reg.SCR_CTL_EN r)
      let s := (s.plainWrite x v).regionClears r o v
      if starts then s.setScr r .reset else s
  s.respond req x.base c

/-- A write of a register in a region's window (R33). REG_CMD itself is served in every state (Table 4-14). -/
def State.regionWrite (s : State) (req : Nat) (x : RegAt) (v : Nat) : State :=
  let r := (x.base - Reg.REG_CMD 0) / 0x200000
  let o := (x.base - Reg.REG_CMD 0) % 0x200000
  if o = 0 then s.regionCmdWrite req r v
  else if 0x100000 ≤ o then
    let e := 4 * r + (o - 0x100000) / 0x40000
    match (o - 0x100000) % 0x40000 with
    | 0x30000 => s.engCtl req e v
    | 0x30034 => s.engCntclrWrite req e v
    | _ => s.engGate req e x.base (fun s => (s.plainWrite x v).respond req x.base .ok)
  else match s.controlGate r with
    | .ok =>
      if 0x400 ≤ o ∧ o < 0xA00 ∧ o % 0x10 = 4 then s.bmCmdWrite req r ((o - 0x400) / 0x10) v
      else s.regionPlain req r x v
    | c => s.windowRefuse req r x.base c

/-! ## Network -/

/-- A write of a router register (R343, R352, Table 9-10). -/
def State.routerWrite (s : State) (req n : Nat) (x : RegAt) (v : Nat) : State :=
  let o := (x.base - Reg.RTR_ID 0) % 0x2000
  if 0x100 ≤ o ∧ o < 0x160 ∧ o % 0x10 = 4 then s.rtrRestore req n ((o - 0x100) / 0x10) (hasBit v 0)
  else
    let c : Code := if o = 4 ∧ v % 2 ^ 8 = 0 then .eArg else .ok
    let s :=
      if c ≠ .ok then s
      else
        let s := s.plainWrite x v
        if o = 0x10 then
          s.clearing v 7 ([Reg.RTR_CRCCNT_COUNT n, Reg.RTR_MALFCNT_COUNT n, Reg.RTR_ROUTECNT_COUNT n, Reg.RTR_DISCCNT_COUNT n] ++
            (List.range 6).map (fun p => Reg.RTR_PFLITS_COUNT n p))
        else s
    s.rtrRecord req n x.base c

/-- A write of a register of interface `j`: `n` bytes `v` as they arrive, for the two words of a route entry (R333). -/
def State.niWrite (s : State) (req k j : Nat) (x : RegAt) (n v : Nat) : State :=
  let o := (x.base - Reg.RTR_ID 0) % 0x800
  if 0x400 ≤ o ∧ o < 0x600 then
    let e := (o - 0x400) / 8
    if n = 8 then
      let i := s.ni k j
      (s.setNi k j { i with lower := Tbl.put none i.lower e (some (BitVec.ofNat 32 v)) }).routeUpper req k j e (v / 2 ^ 32)
    else if x.off = 0 then s.routeLower req k j e v
    else s.routeUpper req k j e v
  else
    let t := v % 2 ^ 14
    let c : Code := if o = 0 ∧ (t = 0 ∨ 16000 < t) then .eArg else .ok
    let s :=
      if c ≠ .ok then s
      else
        let s := s.plainWrite x v
        if o = 8 then s.clearing v 6 [Reg.NI_TMOCNT_COUNT k j, Reg.NI_LATECNT_COUNT k j, Reg.NI_MALFCNT_COUNT k j] else s
    s.respond req x.base c

/-- A write of a register of a node block (R352). -/
def State.nodeWrite (s : State) (req : Nat) (x : RegAt) (n v : Nat) : State :=
  let k := (x.base - Reg.RTR_ID 0) / 0x2000
  let o := (x.base - Reg.RTR_ID 0) % 0x2000
  let c := s.nodeAccess k
  if c ≠ .ok then s.nodeRefuse req k x.base c
  else if o < 0x1000 then s.routerWrite req k x (s.wholeValue x n v)
  else if 0x400 ≤ o % 0x800 then s.niWrite req k ((o - 0x1000) / 0x800) x n v
  else s.niWrite req k ((o - 0x1000) / 0x800) x n (s.wholeValue x n v)

/-! ## Shards -/

/-- A write of a register of queue `q`, at offset `o` of its block (Tables 10-2 to 10-6). -/
def State.queueRegWrite (s : State) (req q o : Nat) (x : RegAt) (v good : Nat) : State :=
  if o < 0x10 then s.queueDescWrite req q (o / 4) v
  else if o = 0x10 then s.queueCtl req q v good
  else
    let s := s.plainWrite x v
    let s :=
      if o = 0x18 then
        s.clearing v 10 ([Reg.QM_QWAITCNT_COUNT, Reg.QM_QEXHCNT_COUNT, Reg.QM_QTRPKT_COUNT, Reg.QM_QTRBYTE_COUNT,
          Reg.QM_QDROP_COUNT].map (fun f => f (q / 256) (q % 256)))
      else s
    s.respond req x.base .ok

/-- The outcome of a write of a shard register that has no command of its own (Table 10-22). -/
def shardPlainCode (o v : Nat) : Code :=
  if o = 0 then if v % 2 ^ 13 = 0 ∨ 4096 < v % 2 ^ 13 then .eArg else .ok
  else if o = 0x18 then if v % 2 ^ 4 = 0 ∨ bitsOf v 8 8 = 0 then .eArg else .ok
  else .ok

/-- A write of a shard register. -/
def State.shardWrite (s : State) (req : Nat) (x : RegAt) (v good : Nat) : State :=
  let h := (x.base - Reg.QM_CTL 0) / 0x40000
  let o := (x.base - Reg.QM_CTL 0) % 0x40000
  if 0x3F000 ≤ o then
    let c : Code := if o = 0x3F000 ∧ bitsOf v 16 16 < 64 then .eArg else .ok
    let s := if c ≠ .ok then s
      else
        let s := s.plainWrite x v
        if o = 0x3F004 then s.clearing v 3 [Reg.QM_CECNT_COUNT h, Reg.QM_UECNT_COUNT h] else s
    s.respond req x.base c
  else if 0x10000 ≤ o then s.queueRegWrite req (256 * h + (o - 0x10000) / 0x80) (o % 0x80) x v good
  else if o = 4 then s.shardCmd req h v
  else if o = 0x54 then s.noticeCons req h v
  else if o = 0x20 then s.pageRange req h false v
  else if o = 0x28 then s.pageRange req h true v
  else
    let c := shardPlainCode o v
    let s := if c ≠ .ok then s
      else
        let s := s.plainWrite x v
        if o = 0xC then s.clearing v 7 [Reg.QM_NLOST_COUNT h, Reg.QM_SRCBAD_COUNT h, Reg.QM_PGLOST_COUNT h] else s
    s.shardRecord req h x.base c

/-! ## Lanes -/

/-- The outcome of a write of a lane register that has no command of its own, at offset `o` of lane `n` (Tables 11-14, 12-11,
R433, R481). -/
def State.lanePlainCode (s : State) (n o v : Nat) : Code :=
  if o = 0x20 then
    if s.on (Reg.LN_EYESTAT_BUSY n) then .eBusy
    else if v % 4 = 3 ∨ (s.on (Reg.LG_CFG_RATE (n / 8)) ∧ v % 4 ≠ 1) then .eArg else .ok
  else if o = 0x260 ∨ o = 0x264 then
    if s.laneState n = lnUp then .eState
    else if o = 0x264 ∧ bitsOf v 16 8 = 0 then .eArg else .ok
  else if o = 0x270 then
    if v % 2 ^ 10 = 0 ∨ 1000 < v % 2 ^ 10 ∨ bitsOf v 16 4 = 0 then .eArg else .ok
  else if o = 0x280 then if v % 2 ^ 14 = 0 ∨ 16000 < v % 2 ^ 14 then .eArg else .ok
  else .ok

/-- A write of a lane register that has no command of its own: another queue for its packets asks for that queue's credit again
(R461). -/
def State.lanePlain (s : State) (n o : Nat) (x : RegAt) (v : Nat) : State :=
  let q := v % 1024
  let changes := o == 0x260 && q != s.fld (Reg.LN_PIN_CFG_QUEUE n)
  let s := s.plainWrite x v
  if changes then s.setCapCredit q { s.capCredit q with resync := true } else s

/-- A write of a register in a lane's window (R481). -/
def State.laneWrite (s : State) (req : Nat) (x : RegAt) (v : Nat) : State :=
  let n := (x.base - Reg.LN_CTL 0) / 0x2000
  let o := (x.base - Reg.LN_CTL 0) % 0x2000
  if 0x1000 ≤ o then
    if o ≤ 0x100C then s.groupWrite req (n / 8) (o - 0x1000) v
    else if o = 0x1010 then s.dofsWrite req (n / 8) v
    else s.respond req x.base .ok
  else if 0x200 ≤ o ∧ s.portHead n ≠ n then s.respond req x.base .ok
  else match o with
    | 0x000 => s.laneCtlWrite req n v
    | 0x004 => s.laneCmdWrite req n v
    | 0x028 => (if hasBit v 0 then s.laneCntclr n else s).respond req x.base .ok
    | 0x20C => (if hasBit v 0 then s.idlisCntclr n else s).laneRecord req n x.base 0 .ok
    | 0x278 => if hasBit v 0 then s.storeRestore req n else s.laneRecord req n x.base 0 .ok
    | _ =>
      let c := s.lanePlainCode n o v
      let s := if c = .ok then s.lanePlain n o x v else s
      if 0x200 ≤ o ∨ o = 0x20 then s.laneRecord req n x.base 0 c else s.respond req x.base c

/-! ## Host ports -/

/-- Bits written 1 to HP_DBSET ring the port's doorbells (R503). -/
def State.doorbell (s : State) (p v : Nat) : State :=
  s.setFld (Reg.HP_DBELL_DB p) (s.fld (Reg.HP_DBELL_DB p) ||| v % 2 ^ 16)

/-- Bits written 1 to HP_VACK set the pending bits of their vectors again, where these are active (R502). -/
def State.vackWrite (s : State) (p v : Nat) : State :=
  s.setFld (Reg.HP_VPEND_PEND p) (s.fld (Reg.HP_VPEND_PEND p) ||| (v % 2 ^ 64 &&& s.vecMask p))

/-- A write of a host-port register (Table 13-10). -/
def State.hostWrite (s : State) (req : Nat) (x : RegAt) (v : Nat) : State :=
  let p := (x.base - Reg.HP_STATUS 0) / 0x10000
  let o := (x.base - Reg.HP_STATUS 0) % 0x10000
  let s :=
    if o = 0x44 then s.doorbell p v
    else if o = 0x90 then s.vackWrite p v
    else
      let s := s.plainWrite x v
      if o = 4 then s.clearing v 7 [Reg.HP_RERRCNT_COUNT p, Reg.HP_WERRCNT_COUNT p] else s
  s.respond req x.base .ok

/-! ## Configuration controller -/

/-- A write of a register of the configuration controller (Table 14-15, R680). -/
def State.cfgWrite (s : State) (req : Nat) (x : RegAt) (v : Nat) : State :=
  let a := x.base
  if a = Reg.CFG_CTL then
    let (s, c) := s.cfgCtlWrite v
    s.cfgRecord req a 0 c
  else if a = Reg.CFG_HCMD then s.cfgHcmd req v
  else if a = Reg.CFG_RBFAR then s.cfgReadback req v
  else if a = Reg.CFG_REGMAP_W then s.regmapWrite req v
  else
    let new := x.desc.write (s.rd a) (BitVec.ofNat 64 v)
    let c : Code := if Reg.CFG_SLOT 0 ≤ a ∧ a < Reg.CFG_SLOT 16 ∧ s.on Reg.CFG_CTL_LOCK ∧ new ≠ s.rd a then .eLock else .ok
    let s := if c ≠ .ok then s
      else
        let s := s.plainWrite x v
        if a = Reg.CFG_ERR then
          s.clearing v 10 [Reg.CFG_FRAMES_COUNT, Reg.CFG_CRCCNT_COUNT, Reg.CFG_SKIPCNT_COUNT, Reg.CFG_PRECNT_COUNT]
        else s
    s.cfgRecord req a 0 c

/-! ## Housekeeping -/

/-- A write of a semaphore (R496, R498): its owner frees it by writing its own ID; any other write is refused. -/
def State.semWrite (s : State) (req n v : Nat) : State :=
  let own := s.fld (Reg.HSEM_OWNER n)
  let a := Reg.HSEM n
  if own ≠ 0 ∧ own = req ∧ v % 256 = req then (s.setFld (Reg.HSEM_OWNER n) 0).respond req a .ok
  else
    let s := ((s.setFld Reg.HSEM_STAT_CODE Code.eState.num).setFld Reg.HSEM_STAT_SEM n).setFld Reg.HSEM_STAT_REQ req
    (s.noteRefusal srcHk (a - Reg.HK_BOOTCTL) req .eState).respond req a .eState

/-- A write of a register of an I/O bank, at offset `o` of its block. -/
def State.bankWrite (s : State) (req b o : Nat) (x : RegAt) (v : Nat) (f : WriteFacts) : State :=
  if o = 0 then s.bankCtlWrite req b v f.recent (!f.together)
  else
    let s := s.plainWrite x v
    (if o = 8 then s.clearing v 11 [Reg.IOB_QCNT_COUNT b] else s).respond req x.base .ok

/-- The outcome of a write of HK_HOLDCFG (Table 15-11). -/
def holdCfgCode (v : Nat) : Code :=
  if v % 2 ^ 12 < 180 ∨ bitsOf v 12 8 = 0 ∨ bitsOf v 20 4 = 0 then .eArg else .ok

/-- A write of a register of housekeeping. -/
def State.hkWrite (s : State) (req : Nat) (x : RegAt) (v : Nat) (f : WriteFacts) : State :=
  let a := x.base
  let o := a - Reg.HK_BOOTCTL
  let plain := (s.plainWrite x v).respond req a .ok
  if o = 0 then s.bootCtl req v
  else if o = 0x20 then s.journalCmd req v
  else if o = 0x28 then s.norCmd req v
  else if o = 8 then ((s.plainWrite x v).clearing v 16 [Reg.HK_BOOTCNT_ATTEMPTS]).respond req a .ok
  else if o = 0x10 then
    let c := holdCfgCode v
    (if c = .ok then s.plainWrite x v else s).respond req a c
  else if o < 0x800 then plain
  else if o < 0x900 then s.semWrite req ((o - 0x800) / 4) v
  else if o < 0x1000 then plain
  else if o < 0x1100 then s.cpCfgWrite req ((o - 0x1000) / 4) v
  else if 0x1400 ≤ o ∧ o < 0x1500 then s.tlMapWrite req ((o - 0x1400) / 4) v
  else if o = 0x1510 then (s.plainWrite x v).cpRecord req a .ok
  else if 0x2000 ≤ o ∧ o < 0x3000 then s.bankWrite req ((o - 0x2000) / 0x40) (o % 0x40) x v f
  else if a = Reg.IL_CTL then s.logCtl req v
  else if a = Reg.IL_RATE then s.logRate req v
  else if a = Reg.IL_CMD then s.logCmd req v f.same
  else if a = Reg.PWR_CTL then s.pwrCtl req v
  else if a = Reg.LV_STAT ∧ hasBit v 1 then { s with lovage := { s.lovage with wakeSeen := false } }.respond req a .ok
  else plain

/-! ## Self-test controller -/

/-- A write of ST_CMD (Table 16-14). -/
def State.stCmd (s : State) (req v : Nat) (eye : List Nat) : State :=
  let r := bitsOf v 4 5
  let kind := bitsOf v 9 2
  let idx := bitsOf v 16 9
  match v % 16 with
  | 1 => s.stSlice req r kind idx
  | 2 => s.stAbort req r (hasBit v 11)
  | 3 => s.stRegionTest req r
  | 4 => s.stAnalog req
  | 5 => s.stMarkFailed req r kind idx
  | 6 => s.stEyeCheck req idx (eye.getD 0 0) (eye.getD 1 0) (eye.getD 2 0) (eye.getD 3 0)
  | c => s.stRecord req c .eArg

/-- A write of a register of the self-test controller. -/
def State.stWrite (s : State) (req : Nat) (x : RegAt) (v : Nat) (f : WriteFacts) : State :=
  let a := x.base
  if a = Reg.ST_CMD then s.stCmd req v f.eye
  else if a = Reg.LC_CMD then s.lcCmd req v
  else if a = Reg.ST_CTL then
    if bitsOf v 24 8 = 0 then s.respond req a .eArg
    else ((s.plainWrite x v).setBit Reg.ST_STAT_SWEEP (hasBit v 0)).respond req a .ok
  else if Reg.LC_KEYBUF 0 ≤ a ∧ a < Reg.LC_KEYBUF 8 then (s.wr a (BitVec.ofNat 64 (v % 2 ^ 32))).respond req a .ok
  else
    let s := s.plainWrite x v
    let s := if a = Reg.ST_ERR then
        s.clearing v 8 [Reg.ST_SWEEPS_COUNT, Reg.ST_SLICES_COUNT, Reg.ST_FAILS_COUNT, Reg.ST_TRANS_COUNT, Reg.ST_SKIPS_COUNT]
      else s
    s.respond req a .ok

/-! ## Any register -/

/-- A write of `n` bytes `v` by requester `req` to register `x`. -/
def State.regWrite (s : State) (req : Nat) (x : RegAt) (n v : Nat) (f : WriteFacts) : State :=
  let a := x.base
  let w := s.wholeValue x n v
  if a < 0x20000 then s.hkWrite req x w f
  else if a < 0x30000 then s.tickWrite req x w
  else if a < 0x40000 then s.cfgWrite req x w
  else if a < 0x50000 then s.stWrite req x w f
  else if a < 0x90000 then s.respond req a .ok
  else if a < 0x100000 then s.nodeWrite req x n v
  else if a < 0x200000 then s.laneWrite req x w
  else if a < 0x300000 then s.shardWrite req x w f.good
  else if a < 0x320000 then s.hostWrite req x w
  else s.regionWrite req x w

end Sys2Proof.Machine
end

