-- ==== Sys2Proof/Machine/Access.lean ====
section
/-! DEFINITION. An access of any size to a place of the C-window, as the unit that owns it serves it: registers, block memories,
engine memories and register views, the notice rings, the buffers of housekeeping, the configuration stream, unassigned offsets
(R4, R7, R25, R31–R34); and the places of the shards' own address spaces (R358). -/

namespace Sys2Proof.Machine

/-- A range of memory or a register at an address of the C-window. -/
inductive Place where
  | reg (x : RegAt)
  | bm (r m off : Nat)
  | engMem (e off : Nat)
  | engView (e off : Nat)
  | ring (a : Nat)
  | cfgData (a : Nat)
  | jbuf (off : Nat)
  | norbuf (off : Nat)
  | unassigned
  deriving DecidableEq, Repr

/-- The register at an address, or nothing. -/
def regPlace (a : Nat) : Place :=
  match findReg a with
  | some x => .reg x
  | none => .unassigned

/-- What lies at C-window address `a` (Tables 1-12 to 1-14). -/
def placeOf (a : Nat) : Place :=
  if 0x1000000 ≤ a then
    let r := (a - 0x1000000) / 0x200000
    let o := (a - 0x1000000) % 0x200000
    if 24 ≤ r then .unassigned
    else if o < 0x10000 then regPlace a
    else if o < 0x70000 then .bm r ((o - 0x10000) / 0x1000) (o % 0x1000)
    else if o < 0x100000 then .unassigned
    else
      let e := 4 * r + (o - 0x100000) / 0x40000
      let f := (o - 0x100000) % 0x40000
      if f < 0x8000 ∨ (0x10000 ≤ f ∧ f < 0x20000) then .engMem e f
      else if 0x31000 ≤ f ∧ f < 0x31200 then .engView e (f - 0x31000)
      else regPlace a
  else if 0x200000 ≤ a ∧ a < 0x300000 ∧ 0x20000 ≤ a % 0x40000 ∧ a % 0x40000 < 0x30000 then .ring a
  else if 0x31000 ≤ a ∧ a < 0x32000 then .cfgData a
  else if 0x10100 ≤ a ∧ a < 0x10200 then .jbuf (a - 0x10100)
  else if 0x10200 ≤ a ∧ a < 0x10300 then .norbuf (a - 0x10200)
  else regPlace a

/-- What the state of a region or of a router's region lets an access to its window be answered with (Table 4-13, R25, R33,
R352). -/
def State.gate (s : State) (a : Nat) : Code :=
  if 0x1000000 ≤ a then
    let r := (a - 0x1000000) / 0x200000
    let c := s.regionAccess r
    if (a - 0x1000000) % 0x200000 < 0x10000 ∧ c = .eRst then .ok else c
  else if 0x90000 ≤ a ∧ a < 0xF0000 then s.nodeAccess ((a - 0x90000) / 0x2000)
  else .ok

/-! ## Semaphores -/

/-- An acquiring read of semaphore `n` (R495). -/
def State.semRead (s : State) (req n : Nat) : State × Nat :=
  let own := s.fld (Reg.HSEM_OWNER n)
  if own = 0 then (s.setFld (Reg.HSEM_OWNER n) req, req + 2 ^ 8)
  else if own = req then (s, req + 2 ^ 8 + 2 ^ 9)
  else (s, own)

/-- The semaphore whose acquiring register is at an address, if one is. -/
def semAt (a : Nat) : Option Nat := if Reg.HSEM 0 ≤ a ∧ a < Reg.HSEM 64 then some ((a - Reg.HSEM 0) / 4) else none

/-! ## Reads -/

/-- A read of a register (R4, R5, R9). -/
def State.regRead (s : State) (req : Nat) (x : RegAt) (n : Nat) : State × Nat × Code :=
  if !widthOk x.desc.bytes x.off n then (s, 0, .eArg)
  else match semAt x.base with
    | some k =>
      let (s, v) := s.semRead req k
      (s, v, .ok)
    | none =>
      let (s, v) := s.readRegister req x n
      (s, v, .ok)

/-- A read of an engine's register view (R4, R5, R277). -/
def State.viewRead (s : State) (req e o n : Nat) : State × Nat × Code :=
  let x := s.eng e
  let (k, w) := viewEntry o
  if !x.viewable then (s, 0, .eState)
  else match x.view k with
    | none => (s, 0, .ok)
    | some v =>
      if widthOk w (o - k) n then
        let (s, v) := s.readHalf req (engBase e + 0x31000 + k) w (o - k) n v.toNat
        (s, v % 2 ^ (8 * n), .ok)
      else (s, 0, .eArg)

/-- A read of `n` bytes at C-window address `a` by requester `req`: what the unit answers. -/
def State.accRead (s : State) (req a n : Nat) : State × Nat × Code :=
  let c := s.gate a
  if c ≠ .ok then (s, 0, c)
  else match placeOf a with
    | .reg x => s.regRead req x n
    | .bm r m off => if off + n ≤ 0x1000 then s.maintRead r m off n finderHost else (s, 0, .eArg)
    | .engMem e off => if engMemOk off n then s.engMemRead e off n else (s, 0, .eArg)
    | .engView e o => s.viewRead req e o n
    | .ring a => (s, s.bytes a n, .ok)
    | .jbuf off => if off + n ≤ 256 then (s, s.hk.jbuf / 2 ^ (8 * off) % 2 ^ (8 * n), .ok) else (s, 0, .eArg)
    | .norbuf off => if off + n ≤ 256 then (s, s.hk.norbuf / 2 ^ (8 * off) % 2 ^ (8 * n), .ok) else (s, 0, .eArg)
    | .cfgData _ | .unassigned => (s, 0, .ok)

/-! ## Writes -/

/-- A write of `n` bytes `v` at C-window address `a` by requester `req`, answered by the unit. -/
def State.accWrite (s : State) (req a n v : Nat) (f : WriteFacts) : State :=
  match placeOf a with
  | .reg x => if widthOk x.desc.bytes x.off n then s.regWrite req x n v f else s.respond req a .eArg
  | .bm r m off => s.bmAccess req r m off n true v (2 ^ n - 1)
  | .engMem e off => s.engMemAccess req e off n v (2 ^ n - 1)
  | .engView e o => s.engViewWrite req e o n v
  | .cfgData a => s.cfgDataWrite req a n v
  | .jbuf off =>
    if off + n ≤ 256 then (s.setHk { s.hk with jbuf := putBytes s.hk.jbuf off n v }).respond req a .ok else s.respond req a .eArg
  | .norbuf off =>
    if off + n ≤ 256 then (s.setHk { s.hk with norbuf := putBytes s.hk.norbuf off n v }).respond req a .ok else s.respond req a .eArg
  | .ring _ | .unassigned => s.respond req a (s.gate a)

/-- A write whose outcome goes back some other way than as a response of its own. -/
def State.accWriteCode (s : State) (req a n v : Nat) (f : WriteFacts) : State × Code :=
  s.capture req (fun s => s.accWrite req a n v f)

/-- Nothing decides the outcome beside the state. -/
def plainFacts : WriteFacts := ⟨false, false, 0, false, []⟩

/-! ## Direct register commands -/

/-- A read of `n` bytes of a register reaches its requester. -/
def State.regReadCmd (s : State) (req a n : Nat) : State :=
  let (s, v, c) := s.accRead req a n
  if c = .ok then s.emit (.readData req a v) else s.respond req a c

/-- REGISTER_WRITE (R4–R10, R680). -/
def execRegisterWrite (req addr n : Nat) (value : BitVec 64) (facts : WriteFacts) (s : State) : Answer :=
  answer s (if 0x10000 ≤ addr && addr < 0x4000000 then s.accWrite req addr n value.toNat facts else s)

/-- Address `a` is byte `off` of a 64-bit register: an accumulator of a register view is one (Table 7-20). -/
def wideAt (a off : Nat) : Bool :=
  match placeOf a with
  | .reg x => x.desc.bytes == 8 && x.off == off
  | .engView _ o => viewEntry o == (o - off, 8)
  | _ => false

/-- REG64_LOWER_WORD_READ (R5, R35). -/
def execReg64LowerWordRead (req addr : Nat) (s : State) : Answer :=
  answer s (if 0x10000 ≤ addr && wideAt addr 0 then s.regReadCmd req addr 4 else s)

/-- REG64_UPPER_WORD_READ (R5, R35). -/
def execReg64UpperWordRead (req addr : Nat) (s : State) : Answer :=
  answer s (if 0x10000 ≤ addr && wideAt addr 4 then s.regReadCmd req addr 4 else s)

/-- RC_FIELD_READ (R9): a read of a whole register; one that does not complete leaves its RC fields as they are. -/
def execRcFieldRead (req addr : Nat) (ok : Bool) (s : State) : Answer :=
  answer s (
    match findReg addr with
    | some x => if ok && decide (0x10000 ≤ addr) && x.off == 0 then s.regReadCmd req addr x.desc.bytes else s
    | none => s)

/-- HSEM_ACQUIRE (R495, R497): with `both`, the two host ports read the semaphore in one housekeeping cycle. -/
def execHsemAcquire (req n : Nat) (both : Bool) (s : State) : Answer :=
  answer s (
    if 64 ≤ n then s
    else if both then
      let first := s.fld Reg.HSEM_STAT_ALT + 1
      let (s, v) := s.semRead first n
      let (s, w) := s.semRead (3 - first) n
      let s := s.setBit Reg.HSEM_STAT_ALT (first == 1)
      (s.emit (.readData first (Reg.HSEM n) v)).emit (.readData (3 - first) (Reg.HSEM n) w)
    else
      let (s, v) := s.semRead req n
      s.emit (.readData req (Reg.HSEM n) v))

/-- HSEM_RELEASE (R496). -/
def execHsemRelease (req n : Nat) (value : BitVec 32) (s : State) : Answer :=
  answer s (if n < 64 then s.semWrite req n value.toNat else s)

/-- HP_VACK_WRITE (R502). -/
def execHpVackWrite (req p : Nat) (value : BitVec 64) (s : State) : Answer :=
  answer s (if p < 2 then (s.vackWrite p value.toNat).respond req (Reg.HP_VACK p) .ok else s)

/-- HP_DBSET_WRITE (R503). -/
def execHpDbsetWrite (req p : Nat) (value : BitVec 32) (s : State) : Answer :=
  answer s (if p < 2 then (s.doorbell p value.toNat).respond req (Reg.HP_DBSET p) .ok else s)

/-! ## The address space of a shard (R358) -/

/-- A write to a place of shard `h`'s space. -/
def State.shardSpaceWrite (s : State) (req h a n v : Nat) (f : WriteFacts) : State × Code :=
  if a < 0x40000 then s.accWriteCode req (0x200000 + 0x40000 * h + a) n v f
  else if (0x10000000 ≤ a ∧ a < 0x20000000) ∨ (0x20000000 ≤ a ∧ a < 0x21000000) then (s, .eArg)
  else (s, .ok)

/-- A read of `n` bytes at byte `off` of the shard's cells (Table 10-1): uncorrectable words answer with E_ECC. -/
def State.cellsRead (s : State) (h off n : Nat) : State × Nat × Code :=
  let first := off / 8
  let (s, ue) := (List.range ((off + n + 7) / 8 - first)).foldl (fun (acc : State × Bool) i =>
    let (s, u) := acc.1.checkCell h ((first + i) / 32) ((first + i) % 32)
    (s, acc.2 || u)) (s, false)
  if ue then (s, 0, .eEcc) else (s, s.bytes (poolCell h 0 + off) n, .ok)

/-- A read of a place of shard `h`'s space other than a read port. -/
def State.shardSpaceRead (s : State) (req h a n : Nat) : State × Nat × Code :=
  if a < 0x40000 then s.accRead req (0x200000 + 0x40000 * h + a) n
  else if 0x20000000 ≤ a ∧ a + n ≤ 0x21000000 then s.cellsRead h (a - 0x20000000) n
  else (s, 0, .ok)

end Sys2Proof.Machine
end

