-- ==== Sys2Proof/Machine/Bank.lean ====
section
/-! DEFINITION. The meanings of the commands of banks, control pins and trigger lines (chapter 17) that read no fabric
signal. -/

namespace Sys2Proof.Machine

/-- The word boundary of a deserialiser passes over the bits that BITSLIP leaves out; each eight bits left form a word
(R625). -/
def GearSt.receive (g : GearSt) (bits : List Bool) : GearSt × List Nat :=
  let k := min g.slip bits.length
  let all := g.bits ++ bits.drop k
  let word := fun (l : List Bool) => ((List.range 8).map (fun i => bit (l.getD i false) * 2 ^ i)).sum
  if 8 ≤ all.length then ({ g with bits := all.drop 8, slip := g.slip - k }, [word (all.take 8)])
  else ({ g with bits := all, slip := g.slip - k }, [])

/-- The oldest word of an input FIFO is presented once the handshake before it has ended (R625). -/
def GearSt.present (g : GearSt) : GearSt := if !g.tok && !g.iack && !g.inq.isEmpty then { g with tok := true } else g

/-- GEARED_INPUT_WORD (R625). -/
def execGearedInputWord (b q : Nat) (bits : BitVec 8) (s : State) : Answer :=
  answer s (
    if !validBank b || !s.gearedIn b q || ((s.bank b).pin (2 * q)).hold.isSome then s
    else
      let x := s.bank b
      let (g, ws) := (x.gear q).receive ((List.range 8).map (fun i => bits.toNat.testBit i))
      match ws with
      | w :: _ =>
        if 4 ≤ g.inq.length then (s.setBank b (x.setGear q g)).bankEvent b 10
        else s.setBank b (x.setGear q { g with inq := g.inq ++ [w] }.present)
      | [] => s.setBank b (x.setGear q g))

/-- BANK_BITSLIP (R625). -/
def execBankBitslip (req b pair : Nat) (s : State) : Answer :=
  answer s (if validBank b then s.bankCtlWrite req b (4 + pair % 32 * 2 ^ 8) false true else s)

/-- BANK_QUENCH (R630). -/
def execBankQuench (req b : Nat) (together : Bool) (s : State) : Answer :=
  answer s (if validBank b then s.bankCtlWrite req b 1 false (!together) else s)

/-- BANK_QCLR (R631). -/
def execBankQclr (req b : Nat) (recent : Bool) (s : State) : Answer :=
  answer s (if validBank b then s.bankCtlWrite req b 2 recent true else s)

/-- CURRENT_LIMIT_EVENT (R628, R630): a driver of a guarded bank has been at its limit for 20 ns. -/
def execCurrentLimitEvent (b p : Nat) (together : Bool) (s : State) : Answer :=
  answer s (
    let drives := match s.pinDrive b p with
      | .level _ => true
      | _ => false
    if guarded b && p < 48 && drives then
      s.quench b (if hasBit (s.bank b).set 3 then allPins else 2 ^ p) 3 (!together)
    else s)

/-- BANK_SUPPLY_COLLAPSE (R626, R627, R630). -/
def execBankSupplyCollapse (b mv : Nat) (together : Bool) (s : State) : Answer :=
  answer s (
    if validBank b && decide (mv * 100 < nominalMv (bitsOf (s.bank b).set 0 2) * 80) then
      let s := s.supplyChange b mv
      if guarded b && s.hk.up then s.quench b allPins 4 (!together) else s
    else s)

/-- BANK_SUPPLY_OUT_OF_RANGE (R626, R627). -/
def execBankSupplyOutOfRange (b mv : Nat) (s : State) : Answer := answer s (if validBank b then s.supplyChange b mv else s)

/-- BANK_SUPPLY_RETURN (R627). -/
def execBankSupplyReturn (b mv : Nat) (s : State) : Answer := answer s (if validBank b then s.supplyChange b mv else s)

/-- RESET_N, PWROK and WAKE, whose changes are commands of their own. -/
def ownPin (n : Nat) : Bool := n == 0 || n == 1 || n == 47

/-- CONTROL_PIN_INPUT_CHANGE (R635). -/
def execControlPinInputChange (n : Nat) (level : Bool) (s : State) : Answer :=
  answer s (if n < 52 && !ownPin n then s.setCpBall n level else s)

/-- CP_CFG_WRITE (R635, R639). -/
def execCpCfgWrite (req n : Nat) (value : BitVec 32) (s : State) : Answer :=
  answer s (if n < 52 then s.cpCfgWrite req n value.toNat else s)

/-- TL_MAP_WRITE (R637, R639). -/
def execTlMapWrite (req src : Nat) (value : BitVec 32) (s : State) : Answer :=
  answer s (if src < 64 then s.tlMapWrite req src value.toNat else s)

/-- PIN_FILTER_SETTLE (R635). -/
def execPinFilterSettle (n : Nat) (s : State) : Answer := answer s (if hasFilter n then s.filterSettle n else s)

end Sys2Proof.Machine
end

