-- ==== Sys2Proof/Machine/HostOps.lean ====
section
/-! DEFINITION. The host ports' requests (chapter 13): the checks at arrival, the way into the network, the responses and the
completions (R33, R36, R486–R490); where a C-window or Q-window address lies in the network (R315). -/

namespace Sys2Proof.Machine

/-! ## Addresses in the network -/

/-- A place in the network: the route table entry of its node, the router's own block rather than a unit, the address there. -/
structure NetTarget where
  entry : Nat
  toRtr : Bool
  addr : Nat
  deriving DecidableEq, Repr

/-- The hub of lane group `g` serves the windows of its lanes (R480). -/
def cTarget (a : Nat) : Option NetTarget :=
  if a < 0x10000 then none
  else if a < 0x30000 then some ⟨hkNode, false, a⟩
  else if a < 0x40000 then some ⟨cfgNode, false, a⟩
  else if a < 0x50000 then some ⟨48, false, a⟩
  else if a < 0x60000 then some ⟨hkNode, false, a⟩
  else if a < 0x80000 then none
  else if a < 0x90000 then some ⟨hkNode, false, a⟩
  else if a < 0xF0000 then some ⟨(a - 0x90000) / 0x2000, true, (a - 0x90000) % 0x2000⟩
  else if a < 0x100000 then some ⟨hkNode, false, a⟩
  else if a < 0x200000 then some ⟨hubNode ((a - 0x100000) / 0x10000), false, (a - 0x100000) % 0x10000⟩
  else if a < 0x300000 then some ⟨shardNode ((a - 0x200000) / 0x40000), false, (a - 0x200000) % 0x40000⟩
  else if a < 0x320000 then some ⟨hostNode ((a - 0x300000) / 0x10000), false, a⟩
  else if a < 0x1000000 then none
  else if a < 0x4000000 then some ⟨regionNode ((a - 0x1000000) / 0x200000), false, (a - 0x1000000) % 0x200000⟩
  else none

/-- The region window that a C-window address lies in, with the node block of the region's router (R33, R352). -/
def cRegion (a : Nat) : Option Nat :=
  if 0x1000000 ≤ a ∧ a < 0x4000000 then some ((a - 0x1000000) / 0x200000)
  else if 0x90000 ≤ a ∧ a < 0xF0000 then
    let n := (a - 0x90000) / 0x2000
    if isRegionNode n then some (nodeRegion n) else none
  else none

/-- The place of a Q-window address outside the external-store aperture (Table 1-15). -/
def qTarget (a : Nat) : Option NetTarget :=
  if a < 0x40000000 then
    let q := a / 0x100000
    some ⟨shardNode (q / 256), false, 0x10000000 + q % 256 * 0x100000 + a % 0x100000⟩
  else if a < 0x40900000 then
    let i := (a - 0x40000000) / 0x1000
    some ⟨regionNode (i / 96), false, 0x10000 + i % 96 * 0x1000 + a % 0x1000⟩
  else if 0x41000000 ≤ a ∧ a < 0x41600000 then
    let e := (a - 0x41000000) / 0x10000
    some ⟨regionNode (e / 4), false, 0x100000 + e % 4 * 0x40000 + 0x10000 + a % 0x10000⟩
  else if 0x44000000 ≤ a ∧ a < 0x48000000 then
    some ⟨shardNode ((a - 0x44000000) / 0x1000000), false, 0x20000000 + (a - 0x44000000) % 0x1000000⟩
  else none

/-- The region whose memories a Q-window address mirrors. -/
def qRegion (a : Nat) : Option Nat :=
  if 0x40000000 ≤ a ∧ a < 0x40900000 then some ((a - 0x40000000) / 0x1000 / 96)
  else if 0x41000000 ≤ a ∧ a < 0x41600000 then some ((a - 0x41000000) / 0x10000 / 4)
  else none

/-- The end of the entry of Tables 1-12 to 1-14 that holds a C-window address (R36). -/
def cEnd (a : Nat) : Nat :=
  let up := fun (base size : Nat) => base + ((a - base) / size + 1) * size
  if a < 0x60000 then up 0 0x10000
  else if a < 0x80000 then 0x80000
  else if a < 0x90000 then 0x90000
  else if a < 0xF0000 then up 0x90000 0x2000
  else if a < 0x100000 then 0x100000
  else if a < 0x200000 then up 0 0x2000
  else if a < 0x300000 then up 0 0x40000
  else if a < 0x320000 then up 0 0x10000
  else if a < 0x1000000 then 0x1000000
  else
    let o := a % 0x200000
    if o < 0x10000 then up 0 0x10000
    else if o < 0x70000 then up 0 0x1000
    else if o < 0x100000 then a - o + 0x100000
    else
      let f := o % 0x40000
      if f < 0x8000 then up 0 0x4000
      else if f < 0x10000 then up 0 0x10000
      else if f < 0x20000 then up 0 0x8000
      else if f < 0x30000 then a - f + 0x30000 else up 0 0x10000

/-- The end of the entry of Table 1-15 that holds a Q-window address (R36). -/
def qEnd (a : Nat) : Nat :=
  if a < 0x40000000 then (a / 0x100000 + 1) * 0x100000
  else if a < 0x40900000 then (a / 0x1000 + 1) * 0x1000
  else if a < 0x41000000 then 0x41000000
  else if a < 0x41600000 then (a / 0x10000 + 1) * 0x10000
  else if a < 0x44000000 then 0x44000000
  else if a < 0x48000000 then (a / 0x1000000 + 1) * 0x1000000
  else if a < 0x800000000 then 0x800000000
  else 0x1000000000

/-! ## Records of a port (R487, R488, R505) -/

/-- The severities of Table 13-11. -/
def hostSev (i : Nat) : Sev :=
  match i with
  | 2 => .fault
  | 4 => .degraded
  | 5 | 6 => .info
  | _ => .notice

/-- Error bit `i` of port `p` occurs (R505). -/
def State.hostErr (s : State) (p i : Nat) : State :=
  s.errBit ⟨Reg.HP_ERR p, i, 1⟩ (hasBit (s.fld (Reg.HP_ERRCTL_MASK p)) i) (srcHost p) (hostSev i) i
    (fun s => (s.rd (Reg.HP_WSTAT p)).toNat + (s.rd (Reg.HP_WADDR p)).toNat % 2 ^ 32 * 2 ^ 32)

/-- What any status other than OK means beside the completion (Tables 6-2, 13-3). -/
def State.hostCode (s : State) (p : Nat) (c : Code) : State :=
  if c = .eEcc then (s.hostErr p 2).emit (.aer p) else if c = .eTmo then s.hostErr p 3 else s

/-- A read of port `p` ends in Completer Abort (R488). -/
def State.hostAbort (s : State) (p addr : Nat) (c : Code) : State :=
  let s := (s.hostCode p c).count (Reg.HP_RERRCNT_COUNT p) (Reg.HP_ERR_CNT_SAT p)
  (s.hostErr p 0).emit (.abort p addr)

/-- A write of port `p` has ended with a status other than OK (R487). -/
def State.hostWriteBad (s : State) (p : Nat) (qwin : Bool) (addr : Nat) (c : Code) : State :=
  let s := ((s.setFld (Reg.HP_WSTAT_CODE p) c.num).setBit (Reg.HP_WSTAT_WIN p) qwin).setFld (Reg.HP_WADDR_OFFSET p) addr
  let s := (s.hostCode p c).count (Reg.HP_WERRCNT_COUNT p) (Reg.HP_ERR_CNT_SAT p)
  s.hostErr p 1

/-! ## Requests -/

/-- The state with the ports' requests changed. -/
def State.setTxs (s : State) (l : List HostTx) : State := { s with host := { s.host with txs := l } }

/-- `n` bytes from `a` on, cut into pieces of at most 256 bytes in ascending order (R486): addresses and lengths. -/
def splitParts : Nat → Nat → Nat → List (Nat × Nat)
  | 0, _, _ => []
  | k + 1, a, n =>
    if n = 0 then []
    else
      let l := min n 256
      (a, l) :: splitParts k (a + l) (n - l)

/-- The network requests that a host request is made of. -/
def HostTx.parts (t : HostTx) : List (Nat × Nat) := splitParts 18 t.addr t.n

/-- The reference of part `k` of a request. -/
def HostTx.ref (t : HostTx) (k : Nat) : Nat := t.id * 32 + k

/-- The priority of a host port's packets; the spec does not state it. -/
def hostPri : Nat := (Config.implBits 2 1).toNat

/-- A part of a request is answered: bytes at its place, or the first status other than OK. -/
def HostTx.answer (t : HostTx) (k : Nat) (c : Code) (data : Nat) : HostTx :=
  match t.parts[k]? with
  | some (a, l) =>
    { t with left := t.left - 1, code := if t.code = .ok then c else t.code
             data := if t.write ∨ c ≠ .ok then t.data else putBytes t.data (a - t.addr) l data }
  | none => t

/-- The address is one of the external-store aperture (Table 1-15). -/
def apertureAddr (a : Nat) : Bool := decide (0x800000000 ≤ a) && decide (a < 0x1000000000)

/-- Part `k` of a request leaves the port: into the network; to housekeeping, for a semaphore; to the external store. Answers
whether it could, and the request as it then stands. -/
def State.hostPart (s : State) (t : HostTx) (k : Nat) : State × HostTx × Bool :=
  match t.parts[k]? with
  | none => (s, t, false)
  | some (a, l) =>
    let sent := { t with issued := t.issued + 1 }
    match (if t.qwin then none else semAt a), (if t.qwin then qTarget a else cTarget a) with
    | some n, _ =>
      if t.write then
        let (s, c) := s.capture (t.port + 1) (fun s => s.semWrite (t.port + 1) n t.data)
        (s, sent.answer k c 0, true)
      else
        let (s, v) := s.semRead (t.port + 1) n
        (s, sent.answer k .ok v, true)
    | none, some g =>
      let data := t.data / 2 ^ (8 * (a - t.addr)) % 2 ^ (8 * l)
      let (s, ok) := s.niIssue (hostNode t.port) 0
        ⟨t.port + 1, t.ref k, if t.write then opWr else opRd, g.entry, g.toRtr, hostPri, g.addr, l, if t.write then data else 0⟩
      (s, if ok then sent else t, ok)
    | none, none =>
      if t.qwin ∧ apertureAddr a then (s.apertureRead (t.port + 1) (a - 0x800000000) l (some (t.ref k)), sent, true)
      else (s, sent.answer k .ok 0, true)

/-- A request is a semaphore access: it waits until every earlier write of its port has been answered (R489). -/
def HostTx.waits (t : HostTx) : Bool := !t.write || (!t.qwin && (semAt t.addr).isSome)

/-- The parts of a request leave one after the other, from part `k` on. -/
def State.hostParts (s : State) (t : HostTx) : Nat → State × HostTx
  | 0 => (s, t)
  | fuel + 1 =>
    if t.parts.length ≤ t.issued then (s, t)
    else
      let (s, t, ok) := s.hostPart t t.issued
      if ok then s.hostParts t fuel else (s, t)

/-- Requests of port `p` leave in their order, from the front of `todo` (R489): a read after the writes before it have been
answered, a write while fewer than 32 are outstanding. `writes`: writes before it that have not been answered. -/
def State.hostFeed (s : State) (p writes : Nat) (done : List HostTx) : List HostTx → State
  | [] => s.setTxs done
  | t :: rest =>
    if t.port ≠ p then s.hostFeed p writes (done ++ [t]) rest
    else if t.parts.length ≤ t.issued then s.hostFeed p (writes + bit (t.write && t.left != 0)) (done ++ [t]) rest
    else if (t.waits && writes != 0) || 32 ≤ writes then s.setTxs (done ++ t :: rest)
    else
      let (s, t) := s.hostParts t 18
      if t.parts.length ≤ t.issued then s.hostFeed p (writes + bit (t.write && t.left != 0)) (done ++ [t]) rest
      else s.setTxs (done ++ t :: rest)

/-- The responses that the interface holds for port `p` are taken; those for no request are discarded (R24). -/
def State.hostCollect (s : State) (p : Nat) : State :=
  let mine := s.net.done.filter (fun d => d.node == hostNode p && d.rid == p + 1)
  let s := { s with net := { s.net with done := s.net.done.filter (fun d => !(d.node == hostNode p && d.rid == p + 1)) } }
  s.setTxs (s.host.txs.map (fun t =>
    mine.foldl (fun t d => if t.port = p ∧ d.ref / 32 = t.id then t.answer (d.ref % 32) d.code d.data else t) t))

/-- A request that has all its answers completes (R487, R488). -/
def State.hostEnd (s : State) (t : HostTx) : State :=
  if t.write then if t.code = .ok then s else s.hostWriteBad t.port t.qwin t.addr t.code
  else if t.code = .ok then s.emit (.readData (t.port + 1) t.addr (t.data % 2 ^ (8 * t.n)))
  else s.hostAbort t.port t.addr t.code

/-- Requests complete: writes as they are answered, reads of one port in their order (R489). `blocked`: ports with an earlier read
that is still open. -/
def State.hostComplete (s : State) (blocked : List Nat) (kept : List HostTx) : List HostTx → State
  | [] => s.setTxs kept
  | t :: rest =>
    let overrun := t.left = 0 ∧ t.parts.length ≤ t.issued
    if overrun ∧ (t.write ∨ !blocked.contains t.port) then (s.hostEnd t).hostComplete blocked kept rest
    else s.hostComplete (if t.write then blocked else t.port :: blocked) (kept ++ [t]) rest

/-- Port `p` takes what has come, completes what is overrun, and lets go out what may. -/
def State.hostPump (s : State) (p : Nat) : State :=
  let s := s.hostCollect p
  let s := s.hostFeed p 0 [] s.host.txs
  let s := s.hostCollect p
  s.hostComplete [] [] s.host.txs

/-- The pumps run until a round changes nothing: a completed write lets a read go out, which a place outside the network answers
at once. -/
def State.hostRun (s : State) (p : Nat) : Nat → State
  | 0 => s
  | k + 1 =>
    let t := s.hostPump p
    if t.host.txs = s.host.txs then t else t.hostRun p k

/-- The port whose interface is at node `n`. -/
def portOfNode (n : Nat) : Option Nat := if n = 0 then some 0 else if n = 7 then some 1 else none

/-- The host port at a node goes on. -/
def State.hostServe (s : State) (n : Nat) : State :=
  match portOfNode n with
  | some p => s.hostRun p (s.host.txs.length + 1)
  | none => s

/-! ## Arrival -/

/-- A request of port `p` is taken. -/
def State.hostTake (s : State) (p : Nat) (write qwin : Bool) (addr n data : Nat) : State :=
  let t : HostTx := { id := s.host.nextId, port := p, write, qwin, addr, n, data, issued := 0, left := 0, code := .ok }
  let t := { t with left := t.parts.length }
  let s := { s with host := { s.host with txs := s.host.txs ++ [t], nextId := s.host.nextId + 1 } }
  s.hostServe (hostNode p)

/-- A request of port `p` is answered by the port itself, in its place among the others: as a request that is overrun. -/
def State.hostAnswer (s : State) (p : Nat) (write qwin : Bool) (addr n data : Nat) (c : Code) : State :=
  let t : HostTx := { id := s.host.nextId, port := p, write, qwin, addr, n, data, issued := 0, left := 0, code := c }
  let s := { s with host := { s.host with txs := s.host.txs ++ [{ t with issued := t.parts.length }],
                                          nextId := s.host.nextId + 1 } }
  s.hostServe (hostNode p)

/-- What the port itself answers to a C-window or Q-window access (R33, R36, R486, R404): OK lets it go on. -/
def State.hostCheck (s : State) (write qwin : Bool) (addr n : Nat) : Code :=
  let fits := decide (addr + n ≤ (if qwin then qEnd addr else cEnd addr))
  let regOk := qwin || (match placeOf addr with
    | .reg x => widthOk x.desc.bytes x.off n
    | _ => true)
  if !fits || !regOk then .eArg
  else if qwin && write && apertureAddr addr then .eArg
  else match (if qwin then qRegion addr else cRegion addr) with
    | some r => match s.rstate r with
      | .off => .eState
      | .isolated | .failed => .eIso
      | _ => .ok
    | none => .ok

/-- An access of port `p` to the C-window above the rescue window, or to the Q-window. A region window that does not answer is
logged (R33). -/
def State.hostAccess (s : State) (p : Nat) (write qwin : Bool) (addr n data : Nat) : State :=
  let c := s.hostCheck write qwin addr n
  if c = .ok then s.hostTake p write qwin addr n data
  else
    let s := if c = .eState ∨ c = .eIso then s.raise (srcHost p) .notice 0x60 (addr % 2 ^ 32 + (p + 1) * 2 ^ 32) else s
    s.hostAnswer p write qwin addr n 0 c

end Sys2Proof.Machine
end

