-- ==== Sys2Proof/Machine/NetRx.lean ====
section
/-! DEFINITION. Requests that reach a unit through the network and the responses that come back (R319, R321, R329, R335): the
router's own block, the interfaces, and the writes that the tick unit and the configuration controller issue (R83, R514). -/

namespace Sys2Proof.Machine

/-! ## Serving a request -/

/-- The C-window address of place `a` of the unit behind interface `j` of node `n`; none if nothing is assigned there (R7,
R315, R480). The shards have an address space of their own. -/
def unitPlace (n j a : Nat) : Option Nat :=
  if isRegionNode n then if a < 0x200000 then some (0x1000000 + 0x200000 * nodeRegion n + a) else none
  else match (List.range 16).find? (fun g => hubNode g == n) with
    | some g => if a < 0x10000 then some (0x100000 + 0x10000 * g + a) else none
    | none =>
      let inside := fun (lo hi : Nat) => decide (lo ≤ a) && decide (a < hi)
      if n = hkNode then
        if inside 0x10000 0x30000 || inside 0x50000 0x60000 || inside 0x80000 0x90000 then some a else none
      else if n = cfgNode then
        if j = 0 && inside 0x30000 0x40000 || j == 1 && inside 0x40000 0x50000 then some a else none
      else match portOfNode n with
        | some p => if inside (0x300000 + 0x10000 * p) (0x310000 + 0x10000 * p) then some a else none
        | none => none

/-- The shard at a node. -/
def nodeShard (n : Nat) : Option Nat := (List.range 4).find? (fun h => shardNode h == n)

/-- A unit serves a write of `len` bytes. -/
def State.unitWrite (s : State) (n j req a len v : Nat) (f : WriteFacts) : State × Code :=
  match nodeShard n with
  | some h => s.shardSpaceWrite req h a len v f
  | none => match unitPlace n j a with
    | some c => s.accWriteCode req c len v f
    | none => (s, Code.ok)

/-- A unit serves a read of `len` bytes. -/
def State.unitRead (s : State) (n j req a len : Nat) : State × Nat × Code :=
  match nodeShard n with
  | some h => s.shardSpaceRead req h a len
  | none => match unitPlace n j a with
    | some c => s.accRead req c len
    | none => (s, 0, .ok)

/-- The queue and the offset of a read port's address within a shard (Table 10-1). -/
def portAt (h a : Nat) : Option (Nat × Nat) :=
  if 0x10000000 ≤ a ∧ a < 0x20000000 then some (256 * h + (a - 0x10000000) / 0x100000, a % 0x100000) else none

/-- The queue whose append aperture holds an address of a shard's space (Table 10-1). -/
def appendAt (h a : Nat) : Option Nat := if 0x100000 ≤ a ∧ a < 0x200000 then some (256 * h + (a - 0x100000) / 0x1000) else none

/-- A RD that has arrived is answered, or waits at its queue (R319, R383). -/
def State.serveRead (s : State) (n j : Nat) (f : Flit) : State :=
  let a := f.payload % 2 ^ 48
  let len := f.blen + 1
  match (nodeShard n).bind (fun h => portAt h a) with
  | some (q, off) =>
    if off + len ≤ 0x100000 then (s.portRead f.rid (some f) q (s.qfld q Reg.QM_QRP_POS) off len).unpark (q / 256)
    else s.niSend n j (responseFlits n f .eArg 0)
  | none =>
    let (s, v, c) := s.unitRead n j f.rid a len
    s.niSend n j (responseFlits n f c v)

/-- The response to header `f` has left ahead of what the write did, which has put the router or the interface that it leaves by out
of service: a transition made by a write takes effect within 1 µs (R165, R687). `old` is the state before the write. -/
def State.answerAhead (s old : State) (n : Nat) (f : Flit) (c : Code) : State :=
  let fs := responseFlits n f c 0
  match hopTo n (routeCode (returnRoute f.route f.hops) 0) with
  | some _ => s.sendAhead n (old.leadUp n fs) fs
  | none => (s.niResponse n (if routeCode (returnRoute f.route f.hops) 0 = 5 then 1 else 0) f.tag c 0).hostServe n

/-- A WR or WRP that has arrived is applied; a WR is answered (R319). A WRP to an append aperture is discarded and sets SRC_BAD
(R368). -/
def State.serveWrite (s : State) (n j : Nat) (f : Flit) (body : Nat) (facts : WriteFacts) : State :=
  let len := f.blen + 1
  match (if f.opc = opWrp then (nodeShard n).bind (fun h => appendAt h (body % 2 ^ 48)) else none) with
  | some q => s.queueDrop q true
  | none =>
  let (t, c) := s.unitWrite n j f.rid (body % 2 ^ 48) len (body / 2 ^ 64 % 2 ^ (8 * len)) facts
  if f.opc ≠ opWr then t
  else if s.linkUp n (6 + j) && !t.linkUp n (6 + j) then t.answerAhead s n f c
  else t.niSend n j (responseFlits n f c 0)

/-- A credit notice has arrived (R366, R367, Table 10-9). -/
def State.creditCome (s : State) (body : Nat) : State :=
  if bitsOf body 16 8 ≠ 1 then s
  else
    let q := body % 1024
    let c := s.capCredit q
    let limit := bitsOf body 64 64
    s.setCapCredit q { c with limit, resync := c.resync || decide (limit < c.sent) }

/-- Packets that commands of their own take: STRM at a region or a hub, CAP and append writes at a shard, accesses to a hub's
tunnel apertures. -/
def ownCommand (n : Nat) (f : Flit) : Bool :=
  let hub := (List.range 16).any (fun g => hubNode g == n)
  let a := f.payload % 2 ^ 48
  (f.opc == opStrm && (isRegionNode n || hub)) ||
    ((nodeShard n).isSome && (f.opc == opCap || (f.opc == opWr && decide (0x100000 ≤ a) && decide (a < 0x200000)))) ||
    (hub && (f.isRequest || f.opc == opWrp) && bitsOf a 44 4 == 1)

/-- A whole packet has been taken from the front of channel `vc`. -/
def State.niDeliver (s : State) (n j : Nat) (f : Flit) (body : Nat) (facts : WriteFacts) : State :=
  if f.opc = opRd then s.serveRead n j f
  else if f.opc = opWr ∨ f.opc = opWrp then s.serveWrite n j f body facts
  else if f.opc = opRsp ∨ f.opc = opRspd then
    s.niResponse n j f.tag (.ofNum f.stat) (if f.opc = opRspd then body % 2 ^ (8 * (f.blen + 1)) else 0)
  else if f.opc = opEvt then s.creditCome body
  else s

/-- NI_PACKET_RECEIVE (R319, R321, R341, R342): the packet at the front of channel `vc` of interface `j` of node `n`. -/
def execNiPacketReceive (n j vc : Nat) (facts : WriteFacts) (s : State) : Answer :=
  answer s (
    if !niExists n j || 8 ≤ vc then s
    else match niFront n (s.vcIn n (6 + j) vc).q with
      | .waiting => s
      | .malformed k head => (s.niMalformed n j vc k head).hostServe n
      | .packet fs =>
        match fs with
        | [] => s
        | f :: _ =>
          if ownCommand n f then s
          else if fs.any (·.poison) then (s.niPoisoned n j vc fs.length f).hostServe n
          else ((s.niPop n j vc fs.length).niDeliver n j f (packetBody fs) facts).hostServe n)

/-- The register block of router `n` serves a request (R335, R352). -/
def State.routerServe (s : State) (n : Nat) (f : Flit) (facts : WriteFacts) : State :=
  let off := f.payload % 2 ^ 48
  let len := f.blen + 1
  let a := 0x90000 + 0x2000 * n + off
  if f.opc = opRd then
    let (s, v, c) := if off < 0x2000 then s.accRead f.rid a len else (s, 0, .ok)
    s.routerAnswer n f c v
  else if f.opc = opWr ∨ f.opc = opWrp then
    let (s, c) := if off < 0x2000 then s.accWriteCode f.rid a len (f.payload / 2 ^ 64 % 2 ^ (8 * len)) facts else (s, Code.ok)
    if f.opc = opWr then s.routerAnswer n f c 0 else s
  else s

/-- ROUTER_HEAD_FLIT (R218, R329, R330, R335, R340, R344, R345). Port 8 is the router's own source of answers. -/
def execRouterHeadFlit (n p vc : Nat) (facts : WriteFacts) (s : State) : Answer :=
  answer s (
    if (validPort n p || (n < 48 && p == 8)) && decide (vc < 8) then
      match s.routeFront n p vc with
      | (s, none) => s
      | (s, some f) => s.routerServe n f facts
    else s)

/-- OUTPUT_PORT_ARBITRATION (R323, R325, R326): one network cycle of output port `p` of node `n`. Ports 6 and 7 are the
interfaces' sides of L0 and L1: the interface sends on channel `sel`, or, for `sel` ≥ 8, from fabric port `sel` - 8. `corrupt`: the
bits of the flit that the link turns over. -/
def execOutputPortArbitration (n p sel corrupt : Nat) (s : State) : Answer :=
  answer s (
    if n ≥ 48 ∨ !s.linkUp n p then s
    else if p < 6 then if validPort n p then s.outputCycle n p corrupt else s
    else if p = 6 ∨ (p = 7 ∧ n = cfgNode) then
      if sel < 8 then (s.hostServe n).niCycle n (p - 6) sel corrupt
      else if p = 6 ∧ isRegionNode n ∧ sel < 16 then s.nipCycle (nodeRegion n) (sel - 8) corrupt
      else s
    else s)

/-- NI_REQUEST_TIMEOUT (R342). -/
def execNiRequestTimeout (n j tag : Nat) (s : State) : Answer :=
  answer s (if niExists n j then (s.niTimeout n j tag).hostServe n else s)

/-! ## Action-table writes (R83) -/

/-- The requester ID of action-table writes, and their priority in the network, which the spec does not state. -/
def reqTick : Nat := 0x13
def tickPri : Nat := (Config.implBits 2 3).toNat

/-- A REG_WRITE entry writes `v` at address `a` of the tick unit, at the boundary: it alone may change the period of a running
tick (R40). -/
def State.actTickWrite (s : State) (a v : Nat) : State × Code :=
  if a = Reg.TICK_PERIOD then
    let c : Code := s.tickPlainCode a v true
    let s := match findReg a with
      | some x => if c = Code.ok then (s.plainWrite x v).markCheck else s
      | none => s
    s.capture reqTick (fun s => s.tickRecord reqTick a c)
  else s.accWriteCode reqTick a 4 v plainFacts

/-- Entry `i` is a REG_WRITE whose packet has found no free tag of the interface at its tick, and has not entered the network
yet: it is ISSUED from its tick on (R683). -/
def State.actUnsent (s : State) (i : Nat) : Bool :=
  decide (i < 64) && s.actType i == 1 && s.actState i == .issued && (s.actWork i).remaining == 1

/-- ACT_REG_WRITE (R83, R683): entry `i` at its tick, or once a tag is free. A place outside every unit takes the write at once
(R7). -/
def execActRegWrite (i : Nat) (s : State) : Answer :=
  answer s (
    if !(s.actReady i 1 || s.actUnsent i) then s
    else
      let a := s.fld (Reg.ACT_ARG0_ARG i)
      let v := s.fld (Reg.ACT_ARG1_ARG i)
      if 0x20000 ≤ a ∧ a < 0x30000 then
        let (s, c) := s.actTickWrite a v
        s.actDone i c
      else match cTarget a with
        | none => s.actDone i .ok
        | some g =>
          let (t, sent) := s.niIssue hkNode 0 ⟨reqTick, i, opWr, g.entry, g.toRtr, tickPri, g.addr, 4, v⟩
          let (u, left) := if sent then (t.setFld (Reg.ACT_EXEC_EXEC i) t.now, 0) else (s, 1)
          (u.actSet i .issued .ok).setActWork i { s.actWork i with remaining := left })

/-! ## The configuration stream's writes (R514) -/

/-- The priority of the controller's packets, which the spec does not state. -/
def cfgPri : Nat := (Config.implBits 2 2).toNat

/-- The response to the outstanding write of the stream, if it has come. -/
def State.cwrResponse (s : State) (k : Nat) : Option NetDone :=
  s.net.done.find? (fun d => d.node == cfgNode && d.rid == reqCfg && d.ref == k)

/-- The response has come: the stream goes on. -/
def State.cwrEnd (s : State) (d : NetDone) : State :=
  let s := { s with net := { s.net with done := s.net.done.filter (fun d => !(d.node == cfgNode && d.rid == reqCfg)) } }
  let s := s.setCfg { s.cfg with cwr := none }
  let s := if d.code = .ok then s else (s.cfgScode d.code 5 0).cfgErr ceCwr 0
  s.cfgAfter

/-- A CWR packet of header `w` and data `d`. -/
def State.cwrBegin (s : State) (w d : Nat) : State :=
  let a := w % 2 ^ 26
  if a < 0x10000 ∨ (0x30000 ≤ a ∧ a < 0x40000) then s.cfgRefuse .eArg 5 0
  else match cTarget a with
    | none => s
    | some g =>
      let k := s.cfg.cwrNext
      let (s, _) := s.niIssue cfgNode 0 ⟨reqCfg, k, opWr, g.entry, g.toRtr, cfgPri, g.addr, 4, d⟩
      s.setCfg { s.cfg with cwr := some k, cwrNext := k + 1 }

/-- CFG_CWR (R514): the packet at the front, or the response to the one before it. -/
def execCfgCwr (s : State) : Answer :=
  answer s (match s.cfg.cwr with
    | some k =>
      match s.cwrResponse k with
      | some d => s.cwrEnd d
      | none => s
    | none =>
      if (freeTag (s.ni cfgNode 0).open_).isNone then s else s.cfgPacket .cwr State.cwrBegin)

end Sys2Proof.Machine
end

