-- ==== Sys2Proof/Machine/HostPort.lean ====
section
/-! DEFINITION. The meanings of the host ports' commands (chapter 13): configuration requests, memory requests by BAR, the rescue
window and its commands, MSI-X, the port's resets and its link. -/

namespace Sys2Proof.Machine

/-- Port `p` exists, its link is up and the device is out of RESET_N. -/
def State.portUp (s : State) (p : Nat) : Bool := decide (p < 2) && s.hk.up && s.on (Reg.HP_STATUS_LINK_UP p)

/-! ## Configuration requests (R483, R484) -/

/-- The bits of a configuration register that State holds, and a mask of them; the places of these bits are those of PCI
Express. -/
def State.cfgHeld (s : State) (p : Nat) (reg : ConfigReg) : Nat × Nat :=
  match reg with
  | .ident => (0x1C7B + 0x9624 * 2 ^ 16, 2 ^ 32 - 1)
  | .classRev => (stepping + 0x120000 * 2 ^ 8, 2 ^ 32 - 1)
  | .subsystem => (s.hk.ssvid + s.hk.ssid * 2 ^ 16, 2 ^ 32 - 1)
  | .command => (bit (s.on (Reg.HP_STATUS_BME p)) * 2 ^ 2, 2 ^ 2)
  | .power => (if s.on (Reg.HP_STATUS_D3HOT p) then 3 else 0, 3)
  | .msix => (bit (s.on (Reg.HP_STATUS_MSIX_EN p)) * 2 ^ 31 + bit (s.on (Reg.HP_STATUS_FMASK p)) * 2 ^ 30, 2 ^ 31 + 2 ^ 30)
  | .other => (0, 0)

/-- A read of a configuration register: what State does not hold is free. -/
def State.cfgSpaceRead (s : State) (p : Nat) (reg : ConfigReg) : State :=
  let (v, mask) := s.cfgHeld p reg
  let free := (s.freeBits 32).toNat
  (s.tookFree).emit (.config p false (v + (free &&& (2 ^ 32 - 1 - mask))))

/-- A write of a configuration register. -/
def State.cfgSpaceWrite (s : State) (p : Nat) (reg : ConfigReg) (v : Nat) : State :=
  match reg with
  | .command => s.setBit (Reg.HP_STATUS_BME p) (hasBit v 2)
  | .power => s.setBit (Reg.HP_STATUS_D3HOT p) (v % 4 == 3)
  | .msix => (s.setBit (Reg.HP_STATUS_MSIX_EN p) (hasBit v 31)).setBit (Reg.HP_STATUS_FMASK p) (hasBit v 30)
  | .ident | .classRev | .subsystem | .other => s

/-- HOST_CONFIG_REQUEST (R483, R484, R502). -/
def execHostConfigRequest (p : Nat) (write : Bool) (reg : ConfigReg) (value : BitVec 32) (s : State) : Answer :=
  answer s (
    if !s.portUp p then s
    else if s.hk.retry then s.emit (.config p true 0)
    else if write then (s.cfgSpaceWrite p reg value.toNat).emit (.config p false 0)
    else s.cfgSpaceRead p reg)

/-! ## The rescue window (R492, R493) -/

/-- What a register of the rescue window shows to port `p` (Table 13-5). -/
def State.rescueValue (s : State) (p a : Nat) : Nat :=
  if a = Reg.RSC_ID then 0x9624 + stepping * 2 ^ 16
  else if a = Reg.RSC_PORT then p
  else if a = Reg.RSC_STRAPS then putBits (s.rd a).toNat 8 3 s.lcState
  else if a = Reg.RSC_STATUS then
    bit s.lovage.alarm + bit (s.on Reg.TICK_STATUS_RUNNING) * 2 + bit (s.view Reg.NET_ABS != 0) * 4 + s.bootState % 16 * 2 ^ 4
  else if a = Reg.RSC_TICK then s.now
  else if Reg.RSC_REGSTATE 0 ≤ a ∧ a < Reg.RSC_REGSTATE 3 then
    let i := (a - Reg.RSC_REGSTATE 0) / 4
    ((List.range 8).map (fun j => s.fld (Reg.REG_STATUS_STATE (8 * i + j)) * 2 ^ (4 * j))).sum
  else if a = Reg.RSC_CMDSTAT then (s.rd a).toNat
  else if Reg.RSC_PM 0 ≤ a ∧ a < Reg.RSC_PM 8 then bitsOf s.lovage.pm (8 * (a - Reg.RSC_PM 0)) 32
  else if Reg.RSC_SEMOWN 0 ≤ a ∧ a < Reg.RSC_SEMOWN 64 then s.fld (Reg.HSEM_OWNER ((a - Reg.RSC_SEMOWN 0) / 4))
  else 0

/-- The register at an offset of the rescue window, and what it shows: the log's mirror is read as the log is (R648). -/
def State.rescueAt (s : State) (p a : Nat) : Option (RegAt × Nat) :=
  if 0x8000 ≤ a then some (⟨logWordDesc, a - a % 8, a % 8⟩, s.logWord (a - 0x8000 - a % 8))
  else (findReg a).map (fun x => (x, s.rescueValue p x.base))

/-- A read of the rescue window by port `p` (R4, R5, R492). -/
def State.rescueRead (s : State) (p a n : Nat) : State :=
  match s.rescueAt p a with
  | some (x, v) =>
    if widthOk x.desc.bytes x.off n then
      let (s, w) := s.readHalf (p + 1) x.base x.desc.bytes x.off n v
      s.emit (.readData (p + 1) a w)
    else s.hostAbort p a .eArg
  | none => s.emit (.readData (p + 1) a 0)

/-- The quench of the guarded banks in a mask (R630): cause CMDQ. -/
def State.rescueQuench (s : State) (mask : Nat) (together : Bool) : State :=
  (List.range 6).foldl (fun s b => if hasBit mask b then s.quench b allPins 5 (!together) else s) s

/-- A semaphore is freed by force (R500). -/
def State.semForce (s : State) (p sem : Nat) : State × Code :=
  let own := s.fld (Reg.HSEM_OWNER sem)
  if own = 0 then (s, .eState)
  else ((s.setFld (Reg.HSEM_OWNER sem) 0).raise srcHk .notice 0x6B (sem + own * 2 ^ 8 + (p + 1) * 2 ^ 16), .ok)

/-- What a rescue command does, and its outcome; none while it is not known yet (Table 13-6). -/
def State.rescueDo (s : State) (p cmd arg : Nat) (together : Bool) : State × Option Code :=
  let region := fun (code : Nat) =>
    let (t, c) := s.capture (256 + p + 1) (fun s => s.regionCmdWrite (256 + p + 1) arg code)
    (t, if c = .ok ∧ (t.rgn arg).boundary.contains (code, 256 + p + 1) then none else some c)
  let noted := fun (r : State × Code) => (r.1.noteRefusal srcHk Reg.RSC_CMD (p + 1) r.2, some r.2)
  match cmd with
  | 1 => region cmdIsolate
  | 2 => region cmdReset
  | 3 => noted (s.semForce p arg)
  | 4 => (s.rescueQuench arg together, some .ok)
  | 5 =>
    let (t, ran) := s.abortAll
    if ran then (t, some .ok) else noted (s, .eState)
  | 6 =>
    let (t, c) := s.queueStore (.summary none)
    (t, if c = .ok then none else some c)
  | _ => ({ s with host := { s.host with resetDue := true } }, some .ok)

/-- ARG is in range (Table 13-6). -/
def rescueArgOk (cmd arg : Nat) : Bool :=
  match cmd with
  | 1 | 2 => decide (arg < 24)
  | 3 => decide (arg < 64)
  | 4 => decide (0 < arg) && decide (arg < 64)
  | 5 | 6 | 7 => arg == 0
  | _ => false

/-- Port `p` writes a rescue command (R493). -/
def State.rescueCmd (s : State) (p key cmd arg : Nat) (together : Bool) : State :=
  if key ≠ 0xA5 ∨ !rescueArgOk cmd arg then s.rescueCode cmd (p + 1) .eArg
  else if s.host.rescue.isSome ∧ cmd ≠ 7 then s.rescueCode cmd (p + 1) .eBusy
  else
    match s.rescueDo p cmd arg together with
    | (s, some c) => s.rescueCode cmd (p + 1) c
    | (s, none) =>
      let s := { s with host := { s.host with rescue := some (cmd, p + 1) } }
      (s.setBit Reg.RSC_CMDSTAT_BUSY true).rescueCode cmd (p + 1) .ok

/-- An access of port `p` to the rescue window: a write other than of RSC_CMD is discarded. -/
def State.rescueAccess (s : State) (p : Nat) (write : Bool) (a n v : Nat) (together : Bool) : State :=
  if !write then s.rescueRead p a n
  else if a = Reg.RSC_CMD ∧ n = 4 then s.rescueCmd p (bitsOf v 24 8) (bitsOf v 0 4) (bitsOf v 8 8) together
  else s

/-- The port decodes its BARs (R485). -/
def State.decodes (s : State) (p : Nat) : Bool := !s.on (Reg.HP_STATUS_D3HOT p)

/-- RESCUE_ACCESS (R492, R493). -/
def execRescueAccess (p : Nat) (write : Bool) (addr n v : Nat) (together : Bool) (s : State) : Answer :=
  answer s (
    if !s.portUp p || 0x10000 ≤ addr || n = 0 then s
    else if !s.decodes p then s.emit (.unsupported p addr)
    else s.rescueAccess p write addr n v together)

/-- RESCUE_TIMEOUT (R655): housekeeping has not answered. -/
def execRescueTimeout (p : Nat) (write : Bool) (addr : Nat) (s : State) : Answer :=
  answer s (if s.portUp p && s.decodes p && decide (addr < 0x10000) && !write then s.hostAbort p addr .ok else s)

/-- A rescue command of port `p` by name (R493). -/
def State.rescueNamed (s : State) (p cmd arg : Nat) (together : Bool) : State :=
  if s.portUp p && s.decodes p then s.rescueCmd p 0xA5 cmd arg together else s

/-- RESCUE_REGION_ISOLATE (R173). -/
def execRescueRegionIsolate (p r : Nat) (s : State) : Answer := answer s (s.rescueNamed p 1 r false)

/-- RESCUE_REGION_RESET (R173). -/
def execRescueRegionReset (p r : Nat) (s : State) : Answer := answer s (s.rescueNamed p 2 r false)

/-- SEM_FORCE (R497, R500). -/
def execSemForce (p sem : Nat) (s : State) : Answer := answer s (s.rescueNamed p 3 sem false)

/-- RESCUE_QUENCH (R630). -/
def execRescueQuench (p mask : Nat) (together : Bool) (s : State) : Answer := answer s (s.rescueNamed p 4 mask together)

/-- ST_ABORT (R597). -/
def execStAbort (p : Nat) (s : State) : Answer := answer s (s.rescueNamed p 5 0 false)

/-- NOR_SUMMARY (R653). -/
def execNorSummary (p : Nat) (s : State) : Answer := answer s (s.rescueNamed p 6 0 false)

/-- CHIP_RESET (R494). -/
def execChipReset (p : Nat) (s : State) : Answer := answer s (s.rescueNamed p 7 0 false)

/-- CHIP_RESET_ASSERT (R494, R652, Table 1-6). -/
def execChipResetAssert (s : State) : Answer :=
  answer s (if s.host.resetDue then (s.pmWrite pmRescue none).restart else s)

/-! ## Memory requests -/

/-- Entry `v` of port `p`'s MSI-X table. -/
def State.msixEntry (s : State) (p v : Nat) : Nat := Tbl.get msixReset s.host.msix (64 * p + v)

/-- Byte `a` of BAR 4: the MSI-X table, the Pending Bit Array (Table 13-2). -/
def State.msixByte (s : State) (p a : Nat) : Nat :=
  if a < 0x400 then s.msixEntry p (a / 16) / 2 ^ (8 * (a % 16)) % 256
  else if 0x8000 ≤ a ∧ a < 0x8008 then s.fld (Reg.HP_VPEND_PEND p) / 2 ^ (8 * (a - 0x8000)) % 256
  else 0

/-- A write of byte `a` of BAR 4: an entry holds its address, its data and its mask bit. -/
def State.msixPut (s : State) (p a b : Nat) : State :=
  if a < 0x400 then
    let v := putBytes (s.msixEntry p (a / 16)) (a % 16) 1 b % 2 ^ 97
    { s with host := { s.host with msix := Tbl.put msixReset s.host.msix (64 * p + a / 16) v } }
  else s

/-- An access of port `p` to BAR 4. -/
def State.msixAccess (s : State) (p : Nat) (write : Bool) (a n v : Nat) : State :=
  if write then (List.range n).foldl (fun s i => s.msixPut p (a + i) (v / 2 ^ (8 * i) % 256)) s
  else s.hostAnswer p false false a n (((List.range n).map (fun i => s.msixByte p (a + i) * 2 ^ (8 * i))).sum) .ok

/-- The size of a BAR; 0 where there is none (Table 13-2). -/
def barSize (bar : Nat) : Nat :=
  match bar with
  | 0 => 0x4000000
  | 2 => 0x1000000000
  | 4 => 0x10000
  | _ => 0

/-- A memory request of port `p` (R485, R486, R492). -/
def State.hostRequest (s : State) (p : Nat) (write : Bool) (bar addr n v : Nat) : State :=
  if !s.portUp p || n = 0 || 4096 < n then s
  else if !s.decodes p || barSize bar < addr + n then s.emit (.unsupported p addr)
  else if bar = 4 then s.msixAccess p write addr n v
  else if bar = 0 ∧ addr < 0x10000 then s.rescueAccess p write addr n v false
  else s.hostAccess p write (bar == 2) addr n (v % 2 ^ (8 * n))

/-- HOST_READ (R25, R33, R485, R486, R488, R489). -/
def execHostRead (p bar addr n : Nat) (s : State) : Answer := answer s (s.hostRequest p false bar addr n 0)

/-- HOST_WRITE (R25, R33, R485–R487, R489). -/
def execHostWrite (p bar addr n v : Nat) (s : State) : Answer := answer s (s.hostRequest p true bar addr n v)

/-- HOST_Q_WINDOW_READ (R486). -/
def execHostQWindowRead (p addr n : Nat) (s : State) : Answer := answer s (s.hostRequest p false 2 addr n 0)

/-! ## Interrupts -/

/-- MSIX_MESSAGE_SEND (R502): the pending message of vector `v`. -/
def execMsixMessageSend (p v : Nat) (s : State) : Answer :=
  answer s (
    let e := s.msixEntry p v
    let free := s.portUp p && s.on (Reg.HP_STATUS_BME p) && s.on (Reg.HP_STATUS_MSIX_EN p) && !s.on (Reg.HP_STATUS_FMASK p) &&
      !hasBit e 96
    let pend := s.fld (Reg.HP_VPEND_PEND p)
    if free && decide (v < 64) && hasBit pend v then
      (s.setFld (Reg.HP_VPEND_PEND p) (withoutBit pend v)).emit (.msix p v (e % 2 ^ 64) (bitsOf e 64 32))
    else s)

/-! ## Link and resets -/

/-- The fields of HP_STATUS that follow the link. -/
def State.setLinkStatus (s : State) (p : Nat) (up : Bool) (speed width : Nat) : State :=
  ((s.setBit (Reg.HP_STATUS_LINK_UP p) up).setFld (Reg.HP_STATUS_SPEED p) speed).setFld (Reg.HP_STATUS_WIDTH p) width

/-- HOST_LINK_UP (R482, R502, Table 13-10). -/
def execHostLinkUp (p : Nat) (speed : BitVec 3) (width : BitVec 4) (s : State) : Answer :=
  answer s (
    if p < 2 ∧ s.hk.up ∧ !s.portUp p ∧ 1 ≤ speed.toNat ∧ speed.toNat ≤ 5 ∧ [1, 2, 4, 8].contains width.toNat then
      s.setLinkStatus p true speed.toNat width.toNat
    else s)

/-- HOST_LINK_DOWN (R505): the link leaves L0 other than by a reset. -/
def execHostLinkDown (p : Nat) (s : State) : Answer :=
  answer s (if s.portUp p then (s.setLinkStatus p false 0 0).hostErr p 4 else s)

/-- HOST_PORT_RESET (R24, R338, R498, R504): a Function Level Reset, which leaves the link as it is, or a hot or link-down reset. The
port's requests in the network end with E_RST, and nothing takes them. -/
def execHostPortReset (p : Nat) (flr : Bool) (s : State) : Answer :=
  answer s (
    if 2 ≤ p ∨ !s.hk.up ∨ (flr ∧ !s.portUp p) then s
    else
      let (up, speed, width) := if flr then (true, s.fld (Reg.HP_STATUS_SPEED p), s.fld (Reg.HP_STATUS_WIDTH p)) else (false, 0, 0)
      let h := s.host
      let s := { s with
        regs := s.regs.filter (fun e => !(decide (Reg.HP_STATUS p ≤ e.1) && decide (e.1 < Reg.HP_STATUS p + 0x10000)))
        host := { h with txs := h.txs.filter (fun t => t.port != p), vecActive := Tbl.put 0 h.vecActive p 0,
                         msix := h.msix.filter (fun e => e.1 / 64 != p) } }
      let s := (s.niReset (hostNode p) 0).hostCollect p
      (s.setLinkStatus p up speed width).hostErr (1 - p) (if flr then 5 else 6))

end Sys2Proof.Machine
end

