-- ==== Sys2Proof/Machine/Dispatch.lean ====
section
/-! DEFINITION. The dispatch: one arm per command, each a direct call of the command's meaning. -/

namespace Sys2Proof.Machine

def exec (i : Instr) (s : State) : Host.Outcome State Fault Refusal :=
  match i with
  | .registerWrite req addr n value facts => Sys2Proof.Machine.execRegisterWrite req addr n value facts s
  | .reg64LowerWordRead req addr => Sys2Proof.Machine.execReg64LowerWordRead req addr s
  | .reg64UpperWordRead req addr => Sys2Proof.Machine.execReg64UpperWordRead req addr s
  | .rcFieldRead req addr ok => Sys2Proof.Machine.execRcFieldRead req addr ok s
  | .tickStart req startOnSync => Sys2Proof.Machine.execTickStart req startOnSync s
  | .tickFirstBoundary env => Sys2Proof.Machine.execTickFirstBoundary env s
  | .tickStop req startOnSync => Sys2Proof.Machine.execTickStop req startOnSync s
  | .tickBoundary env => Sys2Proof.Machine.execTickBoundary env s
  | .tickCountWrite req value => Sys2Proof.Machine.execTickCountWrite req value s
  | .pllLockLost => Sys2Proof.Machine.execPllLockLost s
  | .pllRelock => Sys2Proof.Machine.execPllRelock s
  | .nullWaveComplete r => Sys2Proof.Machine.execNullWaveComplete r s
  | .regionDone r at5ps => Sys2Proof.Machine.execRegionDone r at5ps s
  | .slackWindowEnd r => Sys2Proof.Machine.execSlackWindowEnd r s
  | .trCtlWrite req r value => Sys2Proof.Machine.execTrCtlWrite req r value s
  | .regionResume req r value => Sys2Proof.Machine.execRegionResume req r value s
  | .regionResumeEffect r => Sys2Proof.Machine.execRegionResumeEffect r s
  | .trClrOverrunCounters req r => Sys2Proof.Machine.execTrClrOverrunCounters req r s
  | .trClrHistogram req r => Sys2Proof.Machine.execTrClrHistogram req r s
  | .trClrSlkMinAll req r => Sys2Proof.Machine.execTrClrSlkMinAll req r s
  | .avsInterval => Sys2Proof.Machine.execAvsInterval s
  | .avsFrameResponse good => Sys2Proof.Machine.execAvsFrameResponse good s
  | .avsCtlWrite req value => Sys2Proof.Machine.execAvsCtlWrite req value s
  | .avsVsetWrite req value => Sys2Proof.Machine.execAvsVsetWrite req value s
  | .tarantellaCtlWrite req r value => Sys2Proof.Machine.execTarantellaCtlWrite req r value s
  | .tarantellaTimeout r => Sys2Proof.Machine.execTarantellaTimeout r s
  | .trFloorWrite req r value => Sys2Proof.Machine.execTrFloorWrite req r value s
  | .trFloorLock req r value => Sys2Proof.Machine.execTrFloorLock req r value s
  | .actionEntryWrite req entry off value => Sys2Proof.Machine.execActionEntryWrite req entry off value s
  | .actionArm req entry value => Sys2Proof.Machine.execActionArm req entry value s
  | .actionCancel req entry value => Sys2Proof.Machine.execActionCancel req entry value s
  | .actRegWrite entry => Sys2Proof.Machine.execActRegWrite entry s
  | .actRegWriteResponse entry => Sys2Proof.Machine.execActRegWriteResponse entry s
  | .actRegionStart entry => Sys2Proof.Machine.execActRegionStart entry s
  | .actRegionStop entry => Sys2Proof.Machine.execActRegionStop entry s
  | .actPrStart entry => Sys2Proof.Machine.execActPrStart entry s
  | .actEngineTask entry => Sys2Proof.Machine.execActEngineTask entry s
  | .actFlagPulse entry => Sys2Proof.Machine.execActFlagPulse entry s
  | .flagPulseEnd entry => Sys2Proof.Machine.execFlagPulseEnd entry s
  | .actQueueMark entry => Sys2Proof.Machine.execActQueueMark entry s
  | .actTarantella entry => Sys2Proof.Machine.execActTarantella entry s
  | .actDrainGrant entry => Sys2Proof.Machine.execActDrainGrant entry s
  | .tickSyncArm req => Sys2Proof.Machine.execTickSyncArm req s
  | .tickSyncEdge => Sys2Proof.Machine.execTickSyncEdge s
  | .tickSyncLoad env => Sys2Proof.Machine.execTickSyncLoad env s
  | .beaconMiss p => Sys2Proof.Machine.execBeaconMiss p s
  | .illegalDetected r kind unit sig detected => Sys2Proof.Machine.execIllegalDetected r kind unit sig detected s
  | .flowStageLatch r b n => Sys2Proof.Machine.execFlowStageLatch r b n s
  | .flowStageRelease r b n => Sys2Proof.Machine.execFlowStageRelease r b n s
  | .samplePortHandshake r b n => Sys2Proof.Machine.execSamplePortHandshake r b n s
  | .offerTokenAcknowledged r b n => Sys2Proof.Machine.execOfferTokenAcknowledged r b n s
  | .arbRequest r b n sideB => Sys2Proof.Machine.execArbRequest r b n sideB s
  | .arbRelease r b n => Sys2Proof.Machine.execArbRelease r b n s
  | .requestHeaderTaken r b => Sys2Proof.Machine.execRequestHeaderTaken r b s
  | .arbiterGrant r t => Sys2Proof.Machine.execArbiterGrant r t s
  | .arbiterResponseComplete r t => Sys2Proof.Machine.execArbiterResponseComplete r t s
  | .arbiterTimeout r t => Sys2Proof.Machine.execArbiterTimeout r t s
  | .regCmdPowerOn req r => Sys2Proof.Machine.execRegCmdPowerOn req r s
  | .regionPowerRampDone r => Sys2Proof.Machine.execRegionPowerRampDone r s
  | .regCmdPowerOff req r => Sys2Proof.Machine.execRegCmdPowerOff req r s
  | .regCmdStart req r => Sys2Proof.Machine.execRegCmdStart req r s
  | .regionStartEffect r => Sys2Proof.Machine.execRegionStartEffect r s
  | .regCmdStop req r => Sys2Proof.Machine.execRegCmdStop req r s
  | .regionStopEffect r => Sys2Proof.Machine.execRegionStopEffect r s
  | .regCmdReset req r => Sys2Proof.Machine.execRegCmdReset req r s
  | .regCmdIsolate req r => Sys2Proof.Machine.execRegCmdIsolate req r s
  | .regCmdUnisolate req r => Sys2Proof.Machine.execRegCmdUnisolate req r s
  | .regCmdClear req r => Sys2Proof.Machine.execRegCmdClear req r s
  | .bmPortRequest r m p near upsets => Sys2Proof.Machine.execBmPortRequest r m p near upsets s
  | .bmPortRequestNull r m p => Sys2Proof.Machine.execBmPortRequestNull r m p s
  | .bmPortResponseAck r m p => Sys2Proof.Machine.execBmPortResponseAck r m p s
  | .bmMaintenanceAccess req r m off n write value be upsets => Sys2Proof.Machine.execBmMaintenanceAccess req r m off n write value be upsets s
  | .bmClear req r m => Sys2Proof.Machine.execBmClear req r m s
  | .bmClearDone r m => Sys2Proof.Machine.execBmClearDone r m s
  | .scrubStep r upsets frameUpsets => Sys2Proof.Machine.execScrubStep r upsets frameUpsets s
  | .scrubFrameWriteback r => Sys2Proof.Machine.execScrubFrameWriteback r s
  | .poolScrubStep h upsets => Sys2Proof.Machine.execPoolScrubStep h upsets s
  | .engTaskRelease e => Sys2Proof.Machine.execEngTaskRelease e s
  | .engTaskStart e => Sys2Proof.Machine.execEngTaskStart e s
  | .engStalledRetire e => Sys2Proof.Machine.execEngStalledRetire e s
  | .engInstrNop e => Sys2Proof.Machine.execEngInstrNop e s
  | .engInstrDone e => Sys2Proof.Machine.execEngInstrDone e s
  | .engInstrHalt e => Sys2Proof.Machine.execEngInstrHalt e s
  | .engInstrJmp e => Sys2Proof.Machine.execEngInstrJmp e s
  | .engInstrCall e => Sys2Proof.Machine.execEngInstrCall e s
  | .engInstrRet e => Sys2Proof.Machine.execEngInstrRet e s
  | .engInstrRep e => Sys2Proof.Machine.execEngInstrRep e s
  | .engInstrLoop e => Sys2Proof.Machine.execEngInstrLoop e s
  | .engInstrNwait e => Sys2Proof.Machine.execEngInstrNwait e s
  | .engInstrMacmMac e => Sys2Proof.Machine.execEngInstrMacmMac e s
  | .engInstrMacmMsu e => Sys2Proof.Machine.execEngInstrMacmMsu e s
  | .engInstrMacmMpy e => Sys2Proof.Machine.execEngInstrMacmMpy e s
  | .engInstrMacmMpyn e => Sys2Proof.Machine.execEngInstrMacmMpyn e s
  | .engInstrMacrMac e => Sys2Proof.Machine.execEngInstrMacrMac e s
  | .engInstrMacrMsu e => Sys2Proof.Machine.execEngInstrMacrMsu e s
  | .engInstrMacrMpy e => Sys2Proof.Machine.execEngInstrMacrMpy e s
  | .engInstrMacrMpyn e => Sys2Proof.Machine.execEngInstrMacrMpyn e s
  | .engInstrAdd e => Sys2Proof.Machine.execEngInstrAdd e s
  | .engInstrSub e => Sys2Proof.Machine.execEngInstrSub e s
  | .engInstrAnd e => Sys2Proof.Machine.execEngInstrAnd e s
  | .engInstrOr e => Sys2Proof.Machine.execEngInstrOr e s
  | .engInstrXor e => Sys2Proof.Machine.execEngInstrXor e s
  | .engInstrShl e => Sys2Proof.Machine.execEngInstrShl e s
  | .engInstrShr e => Sys2Proof.Machine.execEngInstrShr e s
  | .engInstrAsr e => Sys2Proof.Machine.execEngInstrAsr e s
  | .engInstrCmp e => Sys2Proof.Machine.execEngInstrCmp e s
  | .engInstrNeg e => Sys2Proof.Machine.execEngInstrNeg e s
  | .engInstrAbs e => Sys2Proof.Machine.execEngInstrAbs e s
  | .engInstrAdda e => Sys2Proof.Machine.execEngInstrAdda e s
  | .engInstrSuba e => Sys2Proof.Machine.execEngInstrSuba e s
  | .engInstrNega e => Sys2Proof.Machine.execEngInstrNega e s
  | .engInstrAbsa e => Sys2Proof.Machine.execEngInstrAbsa e s
  | .engInstrClra e => Sys2Proof.Machine.execEngInstrClra e s
  | .engInstrAsra e => Sys2Proof.Machine.execEngInstrAsra e s
  | .engInstrShla e => Sys2Proof.Machine.execEngInstrShla e s
  | .engInstrSata e => Sys2Proof.Machine.execEngInstrSata e s
  | .engInstrLda e => Sys2Proof.Machine.execEngInstrLda e s
  | .engInstrLdal e => Sys2Proof.Machine.execEngInstrLdal e s
  | .engInstrMova e => Sys2Proof.Machine.execEngInstrMova e s
  | .engInstrCmpa e => Sys2Proof.Machine.execEngInstrCmpa e s
  | .engInstrLd e => Sys2Proof.Machine.execEngInstrLd e s
  | .engInstrSt e => Sys2Proof.Machine.execEngInstrSt e s
  | .engInstrSta e => Sys2Proof.Machine.execEngInstrSta e s
  | .engInstrLd2 e => Sys2Proof.Machine.execEngInstrLd2 e s
  | .engInstrLdi e => Sys2Proof.Machine.execEngInstrLdi e s
  | .engInstrAddi e => Sys2Proof.Machine.execEngInstrAddi e s
  | .engInstrCmpi e => Sys2Proof.Machine.execEngInstrCmpi e s
  | .engInstrMov e => Sys2Proof.Machine.execEngInstrMov e s
  | .engInstrMaxi e => Sys2Proof.Machine.execEngInstrMaxi e s
  | .engInstrMini e => Sys2Proof.Machine.execEngInstrMini e s
  | .engInstrStream e => Sys2Proof.Machine.execEngInstrStream e s
  | .engInstrNrd e => Sys2Proof.Machine.execEngInstrNrd e s
  | .engInstrNwr e => Sys2Proof.Machine.execEngInstrNwr e s
  | .engInstrNwrn e => Sys2Proof.Machine.execEngInstrNwrn e s
  | .engStreamInputLatch e which => Sys2Proof.Machine.execEngStreamInputLatch e which s
  | .engStreamInputNull e which => Sys2Proof.Machine.execEngStreamInputNull e which s
  | .engStreamOutputAck e which => Sys2Proof.Machine.execEngStreamOutputAck e which s
  | .engNetworkResponse e t => Sys2Proof.Machine.execEngNetworkResponse e t s
  | .engHalt req e => Sys2Proof.Machine.execEngHalt req e s
  | .engResume req e => Sys2Proof.Machine.execEngResume req e s
  | .engStep req e => Sys2Proof.Machine.execEngStep req e s
  | .engAbort req e => Sys2Proof.Machine.execEngAbort req e s
  | .engClear req e => Sys2Proof.Machine.execEngClear req e s
  | .engSwapreq req e taskEnd entry => Sys2Proof.Machine.execEngSwapreq req e taskEnd entry s
  | .engRelease req e task => Sys2Proof.Machine.execEngRelease req e task s
  | .engMemoryHostWrite req e off n value be => Sys2Proof.Machine.execEngMemoryHostWrite req e off n value be s
  | .engRegisterViewWrite req e off value => Sys2Proof.Machine.execEngRegisterViewWrite req e off value s
  | .engCntclrTask req e => Sys2Proof.Machine.execEngCntclrTask req e s
  | .engCntclrRet req e => Sys2Proof.Machine.execEngCntclrRet req e s
  | .routerHeadFlit n p vc facts => Sys2Proof.Machine.execRouterHeadFlit n p vc facts s
  | .outputPortArbitration n p sel corrupt => Sys2Proof.Machine.execOutputPortArbitration n p sel corrupt s
  | .creditReturn n p vc => Sys2Proof.Machine.execCreditReturn n p vc s
  | .portCreditHandshake n p => Sys2Proof.Machine.execPortCreditHandshake n p s
  | .niRequestIssue n j rid ref opc entry toRtr pri addr len data => Sys2Proof.Machine.execNiRequestIssue n j rid ref opc entry toRtr pri addr len data s
  | .niPacketReceive n j vc facts => Sys2Proof.Machine.execNiPacketReceive n j vc facts s
  | .niRequestTimeout n j tag => Sys2Proof.Machine.execNiRequestTimeout n j tag s
  | .niTagQuarantineEnd n j tag => Sys2Proof.Machine.execNiTagQuarantineEnd n j tag s
  | .niRouteEntryWrite req n j e upper => Sys2Proof.Machine.execNiRouteEntryWrite req n j e upper s
  | .crossingPeerReset n p => Sys2Proof.Machine.execCrossingPeerReset n p s
  | .rtrRestore req n p => Sys2Proof.Machine.execRtrRestore req n p s
  | .rtrRestoreDone n p => Sys2Proof.Machine.execRtrRestoreDone n p s
  | .nipFlowTxLatch r entry => Sys2Proof.Machine.execNipFlowTxLatch r entry s
  | .nipStrmReceive r vc => Sys2Proof.Machine.execNipStrmReceive r vc s
  | .nipFlowRxAck r entry => Sys2Proof.Machine.execNipFlowRxAck r entry s
  | .queueDescWrite req q w value => Sys2Proof.Machine.execQueueDescWrite req q w value s
  | .queueEnable req q => Sys2Proof.Machine.execQueueEnable req q s
  | .queueDisable req q => Sys2Proof.Machine.execQueueDisable req q s
  | .queueCmdRead req q n => Sys2Proof.Machine.execQueueCmdRead req q n s
  | .queueCmdMark req q => Sys2Proof.Machine.execQueueCmdMark req q s
  | .queueRewind req q => Sys2Proof.Machine.execQueueRewind req q s
  | .queueReleaseToReadPoint req q => Sys2Proof.Machine.execQueueReleaseToReadPoint req q s
  | .queueReleaseToMark req q => Sys2Proof.Machine.execQueueReleaseToMark req q s
  | .queueFlush req q => Sys2Proof.Machine.execQueueFlush req q s
  | .queueReset req q good => Sys2Proof.Machine.execQueueReset req q good s
  | .capSegmentReceive h vc => Sys2Proof.Machine.execCapSegmentReceive h vc s
  | .queueAppend h vc => Sys2Proof.Machine.execQueueAppend h vc s
  | .noticePost q => Sys2Proof.Machine.execNoticePost q s
  | .creditNoticeSend q limit => Sys2Proof.Machine.execCreditNoticeSend q limit s
  | .noticeConsWrite req h value => Sys2Proof.Machine.execNoticeConsWrite req h value s
  | .queueReadPortRead req q off n => Sys2Proof.Machine.execQueueReadPortRead req q off n s
  | .storeApertureRead req a n => Sys2Proof.Machine.execStoreApertureRead req a n s
  | .exhaustWaitInterval q => Sys2Proof.Machine.execExhaustWaitInterval q s
  | .spillGroupStart q bad => Sys2Proof.Machine.execSpillGroupStart q bad s
  | .spillPageDone q => Sys2Proof.Machine.execSpillPageDone q s
  | .refillStart q => Sys2Proof.Machine.execRefillStart q s
  | .refillDone q => Sys2Proof.Machine.execRefillDone q s
  | .storeRetry id => Sys2Proof.Machine.execStoreRetry id s
  | .pageRangeWrite req h count value => Sys2Proof.Machine.execPageRangeWrite req h count value s
  | .qmReclaim req h => Sys2Proof.Machine.execQmReclaim req h s
  | .qmReclaimDone h => Sys2Proof.Machine.execQmReclaimDone h s
  | .cqpFlowWriteLatch r entry => Sys2Proof.Machine.execCqpFlowWriteLatch r entry s
  | .cqpSegmentSend r entry => Sys2Proof.Machine.execCqpSegmentSend r entry s
  | .cqpReadPairIssue r entry => Sys2Proof.Machine.execCqpReadPairIssue r entry s
  | .cqpReadPairResponse r entry => Sys2Proof.Machine.execCqpReadPairResponse r entry s
  | .cqpFlowReadAck r entry => Sys2Proof.Machine.execCqpFlowReadAck r entry s
  | .laneEnSet req n value => Sys2Proof.Machine.execLaneEnSet req n value s
  | .laneEnClear req n value mid => Sys2Proof.Machine.execLaneEnClear req n value mid s
  | .lanePwrupDone n => Sys2Proof.Machine.execLanePwrupDone n s
  | .laneTrainingFramesSeen n => Sys2Proof.Machine.execLaneTrainingFramesSeen n s
  | .laneTrainDone n eq => Sys2Proof.Machine.execLaneTrainDone n eq s
  | .laneLockDone n skew => Sys2Proof.Machine.execLaneLockDone n skew s
  | .laneTrainingTimeout n => Sys2Proof.Machine.execLaneTrainingTimeout n s
  | .laneDown n cause mid => Sys2Proof.Machine.execLaneDown n cause mid s
  | .laneFreqCheck n ppm mid => Sys2Proof.Machine.execLaneFreqCheck n ppm mid s
  | .codewordReceive n message parity mid => Sys2Proof.Machine.execCodewordReceive n message parity mid s
  | .laneRetrain req n mid => Sys2Proof.Machine.execLaneRetrain req n mid s
  | .laneLoopNear req n => Sys2Proof.Machine.execLaneLoopNear req n s
  | .lanePrbsTx req n => Sys2Proof.Machine.execLanePrbsTx req n s
  | .laneLoopExit req n => Sys2Proof.Machine.execLaneLoopExit req n s
  | .laneEyeStart req n => Sys2Proof.Machine.execLaneEyeStart req n s
  | .laneEyeAbort req n => Sys2Proof.Machine.execLaneEyeAbort req n s
  | .laneEyeDone n count => Sys2Proof.Machine.execLaneEyeDone n count s
  | .laneGroupConfigWrite req g off value => Sys2Proof.Machine.execLaneGroupConfigWrite req g off value s
  | .laneDofsWrite req g value => Sys2Proof.Machine.execLaneDofsWrite req g value s
  | .laneCntclr req n => Sys2Proof.Machine.execLaneCntclr req n s
  | .idlisPacketReceive n len v errored cut room => Sys2Proof.Machine.execIdlisPacketReceive n len v errored cut room s
  | .idlisDelivery n => Sys2Proof.Machine.execIdlisDelivery n s
  | .idlisPacketTransmit n pause => Sys2Proof.Machine.execIdlisPacketTransmit n pause s
  | .idlisCreditReceive n limit => Sys2Proof.Machine.execIdlisCreditReceive n limit s
  | .idlisCreditSend n => Sys2Proof.Machine.execIdlisCreditSend n s
  | .driveFrameArrival g vc => Sys2Proof.Machine.execDriveFrameArrival g vc s
  | .drivePacketGapClose n => Sys2Proof.Machine.execDrivePacketGapClose n s
  | .driveDeadlineDiscard n => Sys2Proof.Machine.execDriveDeadlineDiscard n s
  | .captureDelivery n => Sys2Proof.Machine.execCaptureDelivery n s
  | .captureCreditWaitTimeout n => Sys2Proof.Machine.execCaptureCreditWaitTimeout n s
  | .storeRequestSend id => Sys2Proof.Machine.execStoreRequestSend id s
  | .storeCompletionReceive n tag status data => Sys2Proof.Machine.execStoreCompletionReceive n tag status data s
  | .storeTransactionTimeout n tag => Sys2Proof.Machine.execStoreTransactionTimeout n tag s
  | .storeLinkRestore req n => Sys2Proof.Machine.execStoreLinkRestore req n s
  | .fwdDelivery n => Sys2Proof.Machine.execFwdDelivery n s
  | .tunnelAccess g vc => Sys2Proof.Machine.execTunnelAccess g vc s
  | .tunReqDelivery n => Sys2Proof.Machine.execTunReqDelivery n s
  | .tunRemoteResponse n => Sys2Proof.Machine.execTunRemoteResponse n s
  | .tunRspDelivery n => Sys2Proof.Machine.execTunRspDelivery n s
  | .tunnelXtagTimeout n k => Sys2Proof.Machine.execTunnelXtagTimeout n k s
  | .peerTriggerSend n => Sys2Proof.Machine.execPeerTriggerSend n s
  | .trigDelivery n => Sys2Proof.Machine.execTrigDelivery n s
  | .idlisCntclr req n => Sys2Proof.Machine.execIdlisCntclr req n s
  | .hostConfigRequest p write reg value => Sys2Proof.Machine.execHostConfigRequest p write reg value s
  | .hostRead p bar addr n => Sys2Proof.Machine.execHostRead p bar addr n s
  | .hostWrite p bar addr n v => Sys2Proof.Machine.execHostWrite p bar addr n v s
  | .hostQWindowRead p addr n => Sys2Proof.Machine.execHostQWindowRead p addr n s
  | .hostPortReset p flr => Sys2Proof.Machine.execHostPortReset p flr s
  | .hostLinkDown p => Sys2Proof.Machine.execHostLinkDown p s
  | .rescueAccess p write addr n v together => Sys2Proof.Machine.execRescueAccess p write addr n v together s
  | .rescueTimeout p write addr => Sys2Proof.Machine.execRescueTimeout p write addr s
  | .rescueRegionIsolate p r => Sys2Proof.Machine.execRescueRegionIsolate p r s
  | .rescueRegionReset p r => Sys2Proof.Machine.execRescueRegionReset p r s
  | .semForce p sem => Sys2Proof.Machine.execSemForce p sem s
  | .rescueQuench p mask together => Sys2Proof.Machine.execRescueQuench p mask together s
  | .stAbort p => Sys2Proof.Machine.execStAbort p s
  | .norSummary p => Sys2Proof.Machine.execNorSummary p s
  | .chipReset p => Sys2Proof.Machine.execChipReset p s
  | .chipResetAssert => Sys2Proof.Machine.execChipResetAssert s
  | .hsemAcquire req n both => Sys2Proof.Machine.execHsemAcquire req n both s
  | .hsemRelease req n value => Sys2Proof.Machine.execHsemRelease req n value s
  | .msixMessageSend p v => Sys2Proof.Machine.execMsixMessageSend p v s
  | .hpVackWrite req p value => Sys2Proof.Machine.execHpVackWrite req p value s
  | .hpDbsetWrite req p value => Sys2Proof.Machine.execHpDbsetWrite req p value s
  | .cfgDataWrite req off n v => Sys2Proof.Machine.execCfgDataWrite req off n v s
  | .cfgSync => Sys2Proof.Machine.execCfgSync s
  | .cfgNop => Sys2Proof.Machine.execCfgNop s
  | .cfgRegwFar => Sys2Proof.Machine.execCfgRegwFar s
  | .cfgRegwIdmask => Sys2Proof.Machine.execCfgRegwIdmask s
  | .cfgRegwCtl => Sys2Proof.Machine.execCfgRegwCtl s
  | .cfgRegwKeysel => Sys2Proof.Machine.execCfgRegwKeysel s
  | .cfgRegwRegmap => Sys2Proof.Machine.execCfgRegwRegmap s
  | .cfgCmdFrame => Sys2Proof.Machine.execCfgCmdFrame s
  | .cfgCmdCommit => Sys2Proof.Machine.execCfgCmdCommit s
  | .cfgCmdStart => Sys2Proof.Machine.execCfgCmdStart s
  | .cfgCmdEnd => Sys2Proof.Machine.execCfgCmdEnd s
  | .cfgFdata => Sys2Proof.Machine.execCfgFdata s
  | .cfgFmask => Sys2Proof.Machine.execCfgFmask s
  | .cfgFzero => Sys2Proof.Machine.execCfgFzero s
  | .cfgCwr => Sys2Proof.Machine.execCfgCwr s
  | .cfgChunk => Sys2Proof.Machine.execCfgChunk s
  | .cfgHostAbort req => Sys2Proof.Machine.execCfgHostAbort req s
  | .cfgHostPrStart req l k => Sys2Proof.Machine.execCfgHostPrStart req l k s
  | .prStartEffect => Sys2Proof.Machine.execPrStartEffect s
  | .cfgHostRunSlot req k => Sys2Proof.Machine.execCfgHostRunSlot req k s
  | .cfgSlotFirstRead => Sys2Proof.Machine.execCfgSlotFirstRead s
  | .cfgRegmapWWrite req value => Sys2Proof.Machine.execCfgRegmapWWrite req value s
  | .cfgReadback req value => Sys2Proof.Machine.execCfgReadback req value s
  | .cfgListenerOverflow => Sys2Proof.Machine.execCfgListenerOverflow s
  | .pavaneStage2 r => Sys2Proof.Machine.execPavaneStage2 r s
  | .pavaneStage3 r => Sys2Proof.Machine.execPavaneStage3 r s
  | .resetNRise refclk => Sys2Proof.Machine.execResetNRise refclk s
  | .resetNFall => Sys2Proof.Machine.execResetNFall s
  | .norInit ok size => Sys2Proof.Machine.execNorInit ok size s
  | .journalReadAtBoot => Sys2Proof.Machine.execJournalReadAtBoot s
  | .refclkPresent => Sys2Proof.Machine.execRefclkPresent s
  | .bootRegionPower => Sys2Proof.Machine.execBootRegionPower s
  | .galliardImageAttempt => Sys2Proof.Machine.execGalliardImageAttempt s
  | .galliardHostWaitEnd => Sys2Proof.Machine.execGalliardHostWaitEnd s
  | .bootStreamEnd => Sys2Proof.Machine.execBootStreamEnd s
  | .bootHold req => Sys2Proof.Machine.execBootHold req s
  | .bootResume req => Sys2Proof.Machine.execBootResume req s
  | .listenerNoImageTimeout => Sys2Proof.Machine.execListenerNoImageTimeout s
  | .listenerBusRead a n v => Sys2Proof.Machine.execListenerBusRead a n v s
  | .journalWrite req => Sys2Proof.Machine.execJournalWrite req s
  | .journalRead req type dev part => Sys2Proof.Machine.execJournalRead req type dev part s
  | .journalOutack req => Sys2Proof.Machine.execJournalOutack req s
  | .journalStore v1 v2 back => Sys2Proof.Machine.execJournalStore v1 v2 back s
  | .holdupRetry v1 v2 back => Sys2Proof.Machine.execHoldupRetry v1 v2 back s
  | .powerLossDuringStore => Sys2Proof.Machine.execPowerLossDuringStore s
  | .norRawRead req => Sys2Proof.Machine.execNorRawRead req s
  | .norRawProgram req force => Sys2Proof.Machine.execNorRawProgram req force s
  | .norRawErase req => Sys2Proof.Machine.execNorRawErase req s
  | .norRawBlankchk req => Sys2Proof.Machine.execNorRawBlankchk req s
  | .sliceStart r => Sys2Proof.Machine.execSliceStart r s
  | .sliceCopyDone r dur => Sys2Proof.Machine.execSliceCopyDone r dur s
  | .sliceHandover r dur => Sys2Proof.Machine.execSliceHandover r dur s
  | .sliceTestDone r pass dur => Sys2Proof.Machine.execSliceTestDone r pass dur s
  | .sliceRestoreDone r dur => Sys2Proof.Machine.execSliceRestoreDone r dur s
  | .sliceHandBack r dur => Sys2Proof.Machine.execSliceHandBack r dur s
  | .sliceWaitOutTimeout r dur => Sys2Proof.Machine.execSliceWaitOutTimeout r dur s
  | .sliceEngineWaitTimeout r dur => Sys2Proof.Machine.execSliceEngineWaitTimeout r dur s
  | .failmapStoreRetry => Sys2Proof.Machine.execFailmapStoreRetry s
  | .selftestSlice req r kind idx => Sys2Proof.Machine.execSelftestSlice req r kind idx s
  | .selftestAbort req r all => Sys2Proof.Machine.execSelftestAbort req r all s
  | .selftestRegionTest req r => Sys2Proof.Machine.execSelftestRegionTest req r s
  | .regionTestDone r pass dur => Sys2Proof.Machine.execRegionTestDone r pass dur s
  | .selftestAnalog req => Sys2Proof.Machine.execSelftestAnalog req s
  | .selftestMarkFailed req r kind idx => Sys2Proof.Machine.execSelftestMarkFailed req r kind idx s
  | .selftestEyeCheck req n p0 p1 p2 p3 => Sys2Proof.Machine.execSelftestEyeCheck req n p0 p1 p2 p3 s
  | .laneSelftestSlice n p0 p1 p2 p3 => Sys2Proof.Machine.execLaneSelftestSlice n p0 p1 p2 p3 s
  | .laneNearSliceEnd n errors locked => Sys2Proof.Machine.execLaneNearSliceEnd n errors locked s
  | .analogPart bg ts sup diode vcore hold temp => Sys2Proof.Machine.execAnalogPart bg ts sup diode vcore hold temp s
  | .lcTransition req target key => Sys2Proof.Machine.execLcTransition req target key s
  | .lcKeyProg req slot key => Sys2Proof.Machine.execLcKeyProg req slot key s
  | .lcKeyKill req slot key => Sys2Proof.Machine.execLcKeyKill req slot key s
  | .bankFlowOutputToken b p => Sys2Proof.Machine.execBankFlowOutputToken b p s
  | .bankFlowInputAck b p level => Sys2Proof.Machine.execBankFlowInputAck b p level s
  | .gearedOutputWord b q boundary => Sys2Proof.Machine.execGearedOutputWord b q boundary s
  | .gearedInputWord b q bits => Sys2Proof.Machine.execGearedInputWord b q bits s
  | .bankBitslip req b pair => Sys2Proof.Machine.execBankBitslip req b pair s
  | .bankQuench req b together => Sys2Proof.Machine.execBankQuench req b together s
  | .bankQclr req b recent => Sys2Proof.Machine.execBankQclr req b recent s
  | .currentLimitEvent b p together => Sys2Proof.Machine.execCurrentLimitEvent b p together s
  | .bankSupplyCollapse b mv together => Sys2Proof.Machine.execBankSupplyCollapse b mv together s
  | .bankSupplyOutOfRange b mv => Sys2Proof.Machine.execBankSupplyOutOfRange b mv s
  | .bankSupplyReturn b mv => Sys2Proof.Machine.execBankSupplyReturn b mv s
  | .controlPinInputChange n level => Sys2Proof.Machine.execControlPinInputChange n level s
  | .cpCfgWrite req n value => Sys2Proof.Machine.execCpCfgWrite req n value s
  | .tlMapWrite req src value => Sys2Proof.Machine.execTlMapWrite req src value s
  | .incidentBusDeliver src sev code arg => Sys2Proof.Machine.execIncidentBusDeliver src sev code arg s
  | .incidentTake src recent => Sys2Proof.Machine.execIncidentTake src recent s
  | .rateTokenRefill src => Sys2Proof.Machine.execRateTokenRefill src s
  | .ilRateWrite req value => Sys2Proof.Machine.execIlRateWrite req value s
  | .ilAck req => Sys2Proof.Machine.execIlAck req s
  | .ilClear req => Sys2Proof.Machine.execIlClear req s
  | .ilAlmclr req same => Sys2Proof.Machine.execIlAlmclr req same s
  | .ilPmAck req => Sys2Proof.Machine.execIlPmAck req s
  | .ilCntclr req => Sys2Proof.Machine.execIlCntclr req s
  | .summaryGapExpiry => Sys2Proof.Machine.execSummaryGapExpiry s
  | .pwrokRise refclk => Sys2Proof.Machine.execPwrokRise refclk s
  | .mainPowerLoss => Sys2Proof.Machine.execMainPowerLoss s
  | .vstbyLoss => Sys2Proof.Machine.execVstbyLoss s
  | .vstbyRise => Sys2Proof.Machine.execVstbyRise s
  | .supplyMonitorSample n mv => Sys2Proof.Machine.execSupplyMonitorSample n mv s
  | .thermalSample temps => Sys2Proof.Machine.execThermalSample temps s
  | .thermalWarningClear => Sys2Proof.Machine.execThermalWarningClear s
  | .thermalTripHoldEnd => Sys2Proof.Machine.execThermalTripHoldEnd s
  | .wakeChange level => Sys2Proof.Machine.execWakeChange level s
  | .pwrCtlWrite req value => Sys2Proof.Machine.execPwrCtlWrite req value s
  | .idlisResync n => Sys2Proof.Machine.execIdlisResync n s
  | .retryStatusTimeout => Sys2Proof.Machine.execRetryStatusTimeout s
  | .hostLinkUp p speed width => Sys2Proof.Machine.execHostLinkUp p speed width s
  | .norOperationComplete back => Sys2Proof.Machine.execNorOperationComplete back s
  | .tickMarkPulseEnd => Sys2Proof.Machine.execTickMarkPulseEnd s
  | .storeTagQuarantineEnd n tag => Sys2Proof.Machine.execStoreTagQuarantineEnd n tag s
  | .xtagQuarantineEnd n k => Sys2Proof.Machine.execXtagQuarantineEnd n k s
  | .prbsCheckerLock n errors lock => Sys2Proof.Machine.execPrbsCheckerLock n errors lock s
  | .jtagInstruction code => Sys2Proof.Machine.execJtagInstruction code s
  | .pinFilterSettle n => Sys2Proof.Machine.execPinFilterSettle n s

end Sys2Proof.Machine
end

