-- ==== Sys2Proof/Safety.lean ====
section
/-! DEFINITION. What counts as a safe run of the block, and the terms in which claims about its commands are stated. -/

namespace Sys2Proof.Machine

/-- The step from `s` is safe: it answers a next state. -/
def SafeStep (s : State) : Prop := ∃ t, step s = .next t

/-- Command `c` completes in state `s` with the effect `t`: it answers the next state that differs from `t` in nothing but what
follows from every command at once (`settle`: the vectors of both host ports), and the queue of waiting commands is as it was. -/
def Gives (c : Instr) (s t : State) : Prop := exec c s = .next (settle { t with pending := s.pending })

/-- Command `c` completes in state `s`, in a next state that satisfies `post`. -/
def Completes (c : Instr) (s : State) (post : State → Prop) : Prop := ∃ t, exec c s = .next t ∧ post t

/-- Engine `e` is in RUN at instruction `i`, and none of its fault causes and waits holds: its own code word and the data words that it
reads are free of errors (R278, R287, R248, R251, R252). -/
def EngReady (s : State) (e : Nat) (i : EInstr) : Prop :=
  e < 96 ∧ (s.eng e).st = .run ∧ s.mark (engCode e (s.eng e).bank (s.eng e).pc) = 0 ∧
    s.engFetch e (s.eng e).bank (s.eng e).pc = some i ∧
    (s.eng e).cause (s.engPipe e) (s.engNext e (s.eng e)) i = none ∧ (s.eng e).waits i = 0 ∧
    ∀ a ∈ (s.eng e).reads i, s.mark (engData e a) = 0

/-- Engine `e` is in no loop and no REP, and no event waits for an event point: no swap, halt, breakpoint or step (R259). -/
def EngQuiet (s : State) (e : Nat) : Prop :=
  (s.eng e).loops = [] ∧ (s.eng e).rep = false ∧ (s.eng e).swapPend = none ∧ (s.eng e).haltPend = false ∧
    (s.eng e).bpRaised = false ∧ (s.eng e).stepping = false ∧ s.breakpoint e (s.eng e).pc (s.eng e).bank = false

/-- What a multiply-accumulate from memory does beside its product: the pointers of its two addresses step, and the words `a` and `b`
are copied to the registers that it names (R288, R296). `x` is the engine before, `y` with the accumulator set. -/
def EngSt.macmMoves (x y : EngSt) (pipe : Bool) (xa ya : EngAddr) (xd yd : Option Nat) (a b : Nat) : EngSt :=
  let z := (y.bump x xa).bump x ya
  let z := xd.elim z (fun d => z.setNamed x pipe d a)
  yd.elim z (fun d => z.setNamed x pipe d b)

/-- What a multiply-accumulate of registers does beside its product: each of its two loads steps its pointer and takes its word
(R288, R297). -/
def EngSt.macrMoves (x y : EngSt) (pipe : Bool) (m : Nat → Nat) (xa ya : Option (EngAddr × Nat)) : EngSt :=
  let z := xa.elim y (fun f => (y.bump x f.1).setNamed x pipe f.2 (m (x.addr f.1)))
  ya.elim z (fun f => (z.bump x f.1).setNamed x pipe f.2 (m (x.addr f.1)))

/-- A packet of kind `k` stands whole at the front of the stream, with header `w` and second word `d`, at a packet boundary, after what
a stream from the NOR reads ahead; it may act outside an encrypted section or stands in one, and it applies to this device. -/
def CfgReady (s : State) (k : Pkt) (w d : Nat) : Prop :=
  s.cfgFill.cfgFront = some (k, w, d) ∧ k ≠ .bad ∧ s.cfg.pkt = none ∧ s.cfgFill.cfg.frame = [] ∧
    (s.cfgFill.reqAuth = true → s.cfgFill.on Reg.CFG_STAT_ENC = true) ∧ s.cfgFill.cfgApplies = true

/-- The vectors that the model holds as active, of both host ports, are those that the interrupt sources make active now (R501,
R502). -/
def VectorsFollow (s : State) : Prop := ∀ p, p < 2 → Tbl.get 0 s.host.vecActive p = s.vecMask p

/-- The memories are in canonical form. -/
def MemoryOk (s : State) : Prop := Memory.wf s.mem = true

/-- `t` differs from `s` in no memory byte. -/
def SameMemory (s t : State) : Prop := ∀ a, t.byte a = s.byte a

/-- `t` has the value of `s` in every register but those at the addresses of `l`. -/
def SameRegsBut (l : List Nat) (s t : State) : Prop := ∀ a, a ∉ l → t.rd a = s.rd a

/-- `n` steps, one after another, for as long as each answers a next state. -/
def runSteps : Nat → State → Answer
  | 0, s => .next s
  | n + 1, s => match step s with
    | .next t => runSteps n t
    | o => o

/-- Table 8-1: the class that bits 31–29 hold, by instruction. -/
def EngOp.cls : EngOp → Nat
  | .nop | .done | .halt | .jmp | .call | .ret | .rep | .loop | .nwait => 0
  | .macmMac | .macmMsu | .macmMpy | .macmMpyn => 1
  | .macrMac | .macrMsu | .macrMpy | .macrMpyn => 2
  | .ld | .st | .sta | .ld2 => 4
  | .ldi | .addi | .cmpi | .mov => 5
  | .maxi | .mini | .stream | .nrd | .nwr | .nwrn => 6
  | _ => 3

/-- The engine and the instruction of an ENG_INSTR command; none for another command. -/
def engineOp : Instr → Option (Nat × EngOp)
  | .engInstrNop e => some (e, .nop)
  | .engInstrDone e => some (e, .done)
  | .engInstrHalt e => some (e, .halt)
  | .engInstrJmp e => some (e, .jmp)
  | .engInstrCall e => some (e, .call)
  | .engInstrRet e => some (e, .ret)
  | .engInstrRep e => some (e, .rep)
  | .engInstrLoop e => some (e, .loop)
  | .engInstrNwait e => some (e, .nwait)
  | .engInstrMacmMac e => some (e, .macmMac)
  | .engInstrMacmMsu e => some (e, .macmMsu)
  | .engInstrMacmMpy e => some (e, .macmMpy)
  | .engInstrMacmMpyn e => some (e, .macmMpyn)
  | .engInstrMacrMac e => some (e, .macrMac)
  | .engInstrMacrMsu e => some (e, .macrMsu)
  | .engInstrMacrMpy e => some (e, .macrMpy)
  | .engInstrMacrMpyn e => some (e, .macrMpyn)
  | .engInstrAdd e => some (e, .add)
  | .engInstrSub e => some (e, .sub)
  | .engInstrAnd e => some (e, .and)
  | .engInstrOr e => some (e, .or)
  | .engInstrXor e => some (e, .xor)
  | .engInstrShl e => some (e, .shl)
  | .engInstrShr e => some (e, .shr)
  | .engInstrAsr e => some (e, .asr)
  | .engInstrCmp e => some (e, .cmp)
  | .engInstrNeg e => some (e, .neg)
  | .engInstrAbs e => some (e, .abs)
  | .engInstrAdda e => some (e, .adda)
  | .engInstrSuba e => some (e, .suba)
  | .engInstrNega e => some (e, .nega)
  | .engInstrAbsa e => some (e, .absa)
  | .engInstrClra e => some (e, .clra)
  | .engInstrAsra e => some (e, .asra)
  | .engInstrShla e => some (e, .shla)
  | .engInstrSata e => some (e, .sata)
  | .engInstrLda e => some (e, .lda)
  | .engInstrLdal e => some (e, .ldal)
  | .engInstrMova e => some (e, .mova)
  | .engInstrCmpa e => some (e, .cmpa)
  | .engInstrLd e => some (e, .ld)
  | .engInstrSt e => some (e, .st)
  | .engInstrSta e => some (e, .sta)
  | .engInstrLd2 e => some (e, .ld2)
  | .engInstrLdi e => some (e, .ldi)
  | .engInstrAddi e => some (e, .addi)
  | .engInstrCmpi e => some (e, .cmpi)
  | .engInstrMov e => some (e, .mov)
  | .engInstrMaxi e => some (e, .maxi)
  | .engInstrMini e => some (e, .mini)
  | .engInstrStream e => some (e, .stream)
  | .engInstrNrd e => some (e, .nrd)
  | .engInstrNwr e => some (e, .nwr)
  | .engInstrNwrn e => some (e, .nwrn)
  | _ => none

/-- The addresses in engine `e`'s data space of the words that instruction `i` stores when it executes in state `s`. -/
def State.engStored (s : State) (e : Nat) (i : EInstr) : List Nat :=
  (((s.eng e).effect (s.engPipe e) (s.engWord e) i).2).map (·.1)

/-- A packet header on its way (R329): it stands at router `n`, has come in by port `p`, and holds this ROUTE and HOPS. The router
takes code 0, shifts ROUTE and places the code of port `p` on top. Answers the node and the code at which the way ends, with ROUTE
and HOPS as they arrive there; none if the way has no end within `k` routers, or leads out of the mesh. -/
def travel : Nat → Nat → Nat → Nat → Nat → Option (Nat × Nat × Nat × Nat)
  | 0, _, _, _, _ => none
  | k + 1, n, p, route, hops =>
    let c := route % 8
    let route' := route / 8 + arrivalCode p * 2 ^ 39
    if c = 0 ∨ c = 5 ∨ c = 6 then some (n, c, route', hops + 1)
    else match hopTo n c with
      | some m => travel k m (backPort (c - 1)) route' (hops + 1)
      | none => none

/-- Commands that concern registers, the voltage loop, the incident log, supplies, the control pins and the pins of the banks, and
nothing else. -/
def isPeripheral : Instr → Bool
  | .pllRelock | .tickSyncArm _ | .tickMarkPulseEnd | .avsInterval | .avsFrameResponse _ | .avsCtlWrite _ _ | .avsVsetWrite _ _
  | .trClrOverrunCounters _ _ | .trClrHistogram _ _ | .trClrSlkMinAll _ _
  | .bankBitslip _ _ _ | .bankQuench _ _ _ | .bankQclr _ _ _ | .currentLimitEvent _ _ _ | .bankSupplyCollapse _ _ _
  | .bankSupplyOutOfRange _ _ | .bankSupplyReturn _ _ | .controlPinInputChange _ _ | .cpCfgWrite _ _ _ | .tlMapWrite _ _ _
  | .pinFilterSettle _ | .rateTokenRefill _ | .ilRateWrite _ _ | .ilAck _ | .ilClear _ | .ilAlmclr _ _ | .ilPmAck _ | .ilCntclr _
  | .refclkPresent | .retryStatusTimeout | .thermalWarningClear | .wakeChange _ | .pwrCtlWrite _ _ | .jtagInstruction _ => true
  | _ => false

end Sys2Proof.Machine
end

