-- ==== Sys2Proof/Certificates/Slice0/Obligations.lean ====
section
/-! DEFINITION. The statements for the provers. Most say of a family of commands in which states each command completes, and with
which effect: `Gives c s t` is the equation `exec c s = next t'`, in which `t'` is the state `t` that the rules give, settled
(`settle`: the vectors of both host ports) and with the queue as it was; what the equation does not name is unchanged. The others
are the whole-machine rules, frames and invariants. -/

open Sys2Proof Sys2Proof.Machine

/-- Table 0-2, R4–R10: what the direct register commands do. A write that fits its register reaches it, takes it field by field
and is answered; one whose width does not fit is refused with E_ARG (R4); a write to an unassigned place is discarded and answered
OK (R7), or as its region or router answers (R25, R33); a read of the lower word of a 64-bit register, an accumulator of an engine
among them, latches the upper one and a read of the upper word gives the word latched (R5); a read that the region does not let
through is answered with its code; a completed read of a register clears its RC fields, and one that does not complete clears none
(R9). -/
def Obligations.RegisterAccessCompletes : Prop :=
  (∀ (s : State) (req addr n : Nat) (value : BitVec 64) (facts : WriteFacts) (x : RegAt), 0x10000 ≤ addr → addr < 0x4000000 →
    placeOf addr = .reg x → widthOk x.desc.bytes x.off n = true →
    Gives (.registerWrite req addr n value facts) s (s.regWrite req x n value.toNat facts)) ∧
  (∀ (s : State) (req : Nat) (value : BitVec 64) (facts : WriteFacts),
    Gives (.registerWrite req Reg.SLACK_TGT 4 value facts) s
      ((s.setFld Reg.SLACK_TGT_TGT value.toNat).tickRecord req Reg.SLACK_TGT .ok)) ∧
  (∀ (s : State) (req addr n : Nat) (value : BitVec 64) (facts : WriteFacts) (x : RegAt), 0x10000 ≤ addr → addr < 0x4000000 →
    placeOf addr = .reg x → widthOk x.desc.bytes x.off n = false →
    Gives (.registerWrite req addr n value facts) s (s.respond req addr .eArg)) ∧
  (∀ (s : State) (req addr n : Nat) (value : BitVec 64) (facts : WriteFacts), 0x10000 ≤ addr → addr < 0x4000000 →
    placeOf addr = .unassigned → Gives (.registerWrite req addr n value facts) s (s.respond req addr (s.gate addr))) ∧
  (∀ (s : State) (req addr e o : Nat) (v : BitVec 64), 0x10000 ≤ addr → placeOf addr = .engView e o → viewEntry o = (o, 8) →
    s.gate addr = .ok → (s.eng e).viewable = true → (s.eng e).view o = some v →
    Gives (.reg64LowerWordRead req addr) s
      ((s.setLatch req (engBase e + 0x31000 + o) (BitVec.ofNat 32 (v.toNat / 2 ^ 32))).emit
        (.readData req addr (v.toNat % 2 ^ 32)))) ∧
  (∀ (s : State) (req addr : Nat), 0x10000 ≤ addr → wideAt addr 0 = true → s.gate addr ≠ .ok →
    Gives (.reg64LowerWordRead req addr) s (s.respond req addr (s.gate addr))) ∧
  (∀ (s : State) (req addr : Nat), 0x10000 ≤ addr → wideAt addr 4 = true → s.gate addr ≠ .ok →
    Gives (.reg64UpperWordRead req addr) s (s.respond req addr (s.gate addr))) ∧
  (∀ (s : State) (req addr : Nat), Gives (.rcFieldRead req addr false) s s) ∧
  (∀ (s : State) (req addr : Nat) (x : RegAt), 0x10000 ≤ addr → findReg addr = some x → placeOf addr = .reg x →
    x.desc.bytes = 8 → x.off = 0 → semAt x.base = none → s.gate addr = .ok →
    Gives (.reg64LowerWordRead req addr) s
      (((s.setLatch req x.base (BitVec.ofNat 32 (s.readAt x / 2 ^ 32))).readDone x).emit
        (.readData req addr (s.readAt x % 2 ^ 32)))) ∧
  (∀ (s : State) (req addr : Nat) (x : RegAt) (w : Word), 0x10000 ≤ addr → findReg addr = some x → placeOf addr = .reg x →
    x.desc.bytes = 8 → x.off = 4 → semAt x.base = none → s.gate addr = .ok → s.latch? req x.base = some w →
    Gives (.reg64UpperWordRead req addr) s ((s.readDone x).emit (.readData req addr w.toNat))) ∧
  (∀ (s : State) (req addr : Nat) (x : RegAt), 0x10000 ≤ addr → findReg addr = some x → placeOf addr = .reg x →
    x.off = 0 → semAt x.base = none → s.gate addr = .ok →
    Gives (.rcFieldRead req addr true) s ((s.readDone x).emit (.readData req addr (s.readAt x))))

/-- R38, R42, R682: the writes of TICK_CTL.RUN; R40, R84: a write of TICK_COUNT; R43: the slot PLL; R85: the sync edge and its
arming, with what each refuses (E_STATE) and records (Table 2-5). That an edge between RUN = 1 and the first boundary is IGNORED, and
that a loss of lock drops a load that is scheduled, are the model's choices (log entries 48, 51). -/
def Obligations.TickControlCompletes : Prop :=
  (∀ (s : State) (req : Nat) (b : Bool), s.on Reg.TICK_STATUS_PLL_LOCK = true → s.tick.stopPending = false → s.ticking = false →
    Gives (.tickStart req b) s
      ((({ s with tick := { s.tick with starting := true } }.setBit Reg.TICK_CTL_RUN true).setBit Reg.TICK_CTL_START_ON_SYNC
        b).tickRecord req Reg.TICK_CTL .ok)) ∧
  (∀ (s : State) (req : Nat) (b : Bool), s.on Reg.TICK_STATUS_PLL_LOCK = true → s.tick.stopPending = true →
    Gives (.tickStart req b) s
      ((({ s with tick := { s.tick with restart := true } }.setBit Reg.TICK_CTL_RUN true).setBit Reg.TICK_CTL_START_ON_SYNC
        b).tickRecord req Reg.TICK_CTL .ok)) ∧
  (∀ (s : State) (req : Nat) (b : Bool), s.on Reg.TICK_STATUS_PLL_LOCK = true → s.tick.stopPending = false → s.ticking = true →
    Gives (.tickStart req b) s
      (((s.setBit Reg.TICK_CTL_RUN true).setBit Reg.TICK_CTL_START_ON_SYNC b).tickRecord req Reg.TICK_CTL .ok)) ∧
  (∀ (s : State) (req : Nat) (b : Bool), s.on Reg.TICK_STATUS_PLL_LOCK = false →
    Gives (.tickStart req b) s (s.tickRecord req Reg.TICK_CTL .eState)) ∧
  (∀ (s : State) (req : Nat) (b : Bool), s.anyActive = false → s.ticking = false → s.tick.starting = false →
    Gives (.tickStop req b) s
      (((s.setBit Reg.TICK_CTL_RUN false).setBit Reg.TICK_CTL_START_ON_SYNC b).tickRecord req Reg.TICK_CTL .ok)) ∧
  (∀ (s : State) (req : Nat) (b : Bool), s.anyActive = false → (s.ticking = true ∨ s.tick.starting = true) →
    Gives (.tickStop req b) s
      ((({ s with tick := { s.tick with stopPending := true, restart := false } }.setBit Reg.TICK_CTL_RUN false).setBit
        Reg.TICK_CTL_START_ON_SYNC b).tickRecord req Reg.TICK_CTL .ok)) ∧
  (∀ (s : State) (req : Nat) (b : Bool), s.anyActive = true →
    Gives (.tickStop req b) s (s.tickRecord req Reg.TICK_CTL .eState)) ∧
  (∀ (s : State) (req : Nat) (v : BitVec 64), s.on Reg.TICK_CTL_RUN = false → s.ticking = false →
    Gives (.tickCountWrite req v) s
      (((s.setFld Reg.TICK_COUNT_COUNT v.toNat).actRecheck).tickRecord req Reg.TICK_COUNT .ok)) ∧
  (∀ (s : State) (req : Nat) (v : BitVec 64), (s.on Reg.TICK_CTL_RUN = true ∨ s.ticking = true) →
    Gives (.tickCountWrite req v) s (s.tickRecord req Reg.TICK_COUNT .eState)) ∧
  (∀ s : State, Gives .pllRelock s (s.setBit Reg.TICK_STATUS_PLL_LOCK true)) ∧
  (∀ s : State, s.anyDue = false → s.ticking = false → s.tick.starting = false →
    Gives .pllLockLost s ({ s with tick := { s.tick with syncLoad := false } }.setBit Reg.TICK_STATUS_PLL_LOCK false)) ∧
  (∀ (s : State) (req : Nat), Gives (.tickSyncArm req) s
    (((s.setBit Reg.TICK_SYNC_CTL_ARM true).setBit Reg.TICK_SYNC_CTL_ARMED true).tickRecord req Reg.TICK_SYNC_CTL .ok)) ∧
  (∀ s : State, s.on Reg.TICK_SYNC_CTL_ARMED = true → s.on Reg.TICK_CTL_RUN = false → s.ticking = false →
    s.on Reg.TICK_CTL_START_ON_SYNC = true → s.on Reg.TICK_STATUS_PLL_LOCK = true →
    Gives .tickSyncEdge s (({ s with tick := { s.tick with syncLoad := true } }.setBit Reg.TICK_SYNC_CTL_ARMED false).setBit
      Reg.TICK_SYNC_CTL_ARM false)) ∧
  (∀ s : State, s.on Reg.TICK_SYNC_CTL_ARMED = true → (s.on Reg.TICK_CTL_RUN = true ∨ s.ticking = true ∨
      s.on Reg.TICK_CTL_START_ON_SYNC = false ∨ s.on Reg.TICK_STATUS_PLL_LOCK = false) →
    Gives .tickSyncEdge s ((s.setBit Reg.TICK_SYNC_CTL_IGNORED true).raise srcTick .notice 0x68 0)) ∧
  (∀ s : State, s.on Reg.TICK_SYNC_CTL_ARMED = false → Gives .tickSyncEdge s s)

/-- R38, R39, R42, R43, R85: what a tick boundary, the first one of a start and the load of a sync edge do to the tick unit, and
the order of it: the tick that ends is counted, then its successor begins (or none, after an accepted stop, or for a clean state that
waits, R165); a boundary comes once all that is due at the tick has acted (R81, R172); a loss of the slot PLL's lock while ticks are
generated stops them, freezes the running regions and is logged as FATAL. That a loss while a start is scheduled is treated alike, that
RUN becomes 1 at a load, and that the commands due at a tick act before its end, are the model's choices (log entries 51, 50, 1). -/
def Obligations.TickBoundariesComplete : Prop :=
  (∀ (s : State) (env : BoundaryInputs), s.ticking = true → s.anyDue = false → s.hk.cleaning = false → s.tick.stopPending = false →
    Gives (.tickBoundary env) s (s.endTick.beginTick env) ∧ s.endTick.now = (s.now + 1) % 2 ^ 64) ∧
  (∀ (s : State) (env : BoundaryInputs), s.ticking = true → s.anyDue = false → s.hk.cleaning = false → s.tick.stopPending = true →
    Gives (.tickBoundary env) s s.endTick.stopTicks) ∧
  (∀ (s : State) (env : BoundaryInputs), s.ticking = true → s.anyDue = false → s.hk.cleaning = true →
    Gives (.tickBoundary env) s s.endTick.cleanNow) ∧
  (∀ (s : State) (env : BoundaryInputs), s.ticking = false → s.tick.starting = true → s.tick.stopPending = false →
    Gives (.tickFirstBoundary env) s
      ((({ s with tick := { s.tick with starting := false } }.setBit Reg.TICK_STATUS_RUNNING true).markCheck).beginTick env)) ∧
  (∀ (s : State) (env : BoundaryInputs), s.ticking = false → s.tick.starting = true → s.tick.stopPending = true →
    Gives (.tickFirstBoundary env) s s.stopTicks) ∧
  (∀ (s : State) (env : BoundaryInputs), s.tick.syncLoad = true → s.ticking = false →
    Gives (.tickSyncLoad env) s
      (((((({ s with tick := { s.tick with syncLoad := false } }.setFld Reg.TICK_COUNT_COUNT (s.fld Reg.TICK_SYNC_LOAD_LOAD)).setBit
        Reg.TICK_SYNC_CTL_SEEN true).setBit Reg.TICK_CTL_RUN true).actRecheck).firstTick env))) ∧
  (∀ s : State, s.anyDue = false → s.ticking = true →
    let s1 := (({ s.setBit Reg.TICK_STATUS_PLL_LOCK false with tick := { s.tick with syncLoad := false } }).setBit
      Reg.TICK_STATUS_PLL_LOST true).raise srcTick .fatal 0x65 0
    let s2 := (List.range 24).foldl (fun u r => if u.rstate r == .running then u.freezePolicy r else u) s1.endTick
    let s3 := (s2.setBit Reg.TICK_CTL_RUN false).stopTicks
    Gives .pllLockLost s { s3 with tick := { s3.tick with starting := false } }) ∧
  (∀ s : State, s.anyDue = false → s.ticking = false → s.tick.starting = true →
    let s1 := (({ s.setBit Reg.TICK_STATUS_PLL_LOCK false with tick := { s.tick with syncLoad := false } }).setBit
      Reg.TICK_STATUS_PLL_LOST true).raise srcTick .fatal 0x65 0
    let s2 := (List.range 24).foldl (fun u r => if u.rstate r == .running then u.freezePolicy r else u) s1
    let s3 := (s2.setBit Reg.TICK_CTL_RUN false).stopTicks
    Gives .pllLockLost s { s3 with tick := { s3.tick with starting := false } })

/-- R47, R49–R55, R62, R63, R264: what completes in the wave of a region: the NULL phase; DONE in time; DONE after an overrun, whose
slack is its time from the region tick with the sign turned; the end of an engine task that alone was late, in a wave that was
complete before; the end of a slack window; a RESUME at its region tick, for a FROZEN region and for one that is FROZEN no more. -/
def Obligations.RegionWaveCompletes : Prop :=
  (∀ (s : State) (r : Nat), r < 24 → (s.rgn r).phase = .nullWave →
    Gives (.nullWaveComplete r) s (s.setRgn r { s.rgn r with phase := .evaluating })) ∧
  (∀ (s : State) (r t : Nat), r < 24 → (s.rgn r).phase = .evaluating → s.waveRuns r = true → s.fabricDone r = true →
    s.windowDone r = true → (s.rgn r).ovrOpen = none →
    Gives (.regionDone r t) s (s.setRgn r { s.rgn r with phase := .done, doneAt := t })) ∧
  (∀ (s : State) (r t m : Nat), r < 24 → (s.rgn r).phase = .evaluating → s.waveRuns r = true → s.fabricDone r = true →
    s.windowDone r = true → (s.rgn r).ovrOpen = some m → s.missedLeft r m = false →
    Gives (.regionDone r t) s
      ((s.setRgn r { s.rgn r with phase := .done, doneAt := t, ovrOpen := none }).recordOverrun r m (-(t : Int)))) ∧
  (∀ (s : State) (r t m : Nat), r < 24 → (s.rgn r).phase = .done → s.waveRuns r = true → s.windowDone r = true →
    (s.rgn r).ovrOpen = some m → s.missedLeft r m = false →
    Gives (.regionDone r t) s ((s.setRgn r { s.rgn r with ovrOpen := none }).recordOverrun r m (-(t : Int)))) ∧
  (∀ (s : State) (r : Nat), r < 24 → s.ticking = true → s.windowEndsAt r s.now = true → (s.rgn r).winEnd ≠ some s.now →
    Gives (.slackWindowEnd r) s (s.endWindow r)) ∧
  (∀ (s : State) (r : Nat), s.pendGoes r .resume = true → s.rstate r = .frozen →
    Gives (.regionResumeEffect r) s ((s.clearPend r).resumeTick r).releaseHeld) ∧
  (∀ (s : State) (r : Nat) (p : PendCmd), s.pendGoes r .resume = true → (s.rgn r).pend = some p → s.rstate r ≠ .frozen →
    Gives (.regionResumeEffect r) s
      ((s.clearPend r).noteRefusal srcTick (Reg.TR_CTL r - Reg.TICK_CTL) p.req .eState).releaseHeld)

/-- R44, R45, R54–R56, R62: the writes of a region's block in the tick unit: TR_CTL without RESUME and with it, and TR_CLR. TDIV and
PHASE change only in a region that is neither RUNNING nor FROZEN (E_STATE), to a PHASE below TDIV's period (E_ARG); RESUME is refused
while a command is pending (E_BUSY) and where the region is not FROZEN or the tick does not run (E_STATE); a write that is refused has
no effect. -/
def Obligations.RegionTickRegistersComplete : Prop :=
  (∀ (s : State) (req r : Nat) (v : BitVec 32), r < 24 → v.toNat.testBit 16 = false →
    ((s.rstate r ≠ .running ∧ s.rstate r ≠ .frozen) ∨
      (bitsOf v.toNat 0 2 = s.fld (Reg.TR_CTL_TDIV r) ∧ bitsOf v.toNat 2 3 = s.fld (Reg.TR_CTL_PHASE r))) →
    bitsOf v.toNat 2 3 < 2 ^ bitsOf v.toNat 0 2 →
    Gives (.trCtlWrite req r v) s
      ((((((s.setFld (Reg.TR_CTL_TDIV r) (bitsOf v.toNat 0 2)).setFld (Reg.TR_CTL_PHASE r) (bitsOf v.toNat 2 3)).setBit
        (Reg.TR_CTL_POLICY r) (hasBit v.toNat 8)).setBit (Reg.TR_CTL_AVS_EXCL r) (hasBit v.toNat 9)).setBit
        (Reg.TR_CTL_HIST_EN r) (hasBit v.toNat 10)).tickRecord req (Reg.TR_CTL r) .ok)) ∧
  (∀ (s : State) (req r : Nat) (v : BitVec 32), r < 24 → v.toNat.testBit 16 = false →
    (s.rstate r = .running ∨ s.rstate r = .frozen) →
    (bitsOf v.toNat 0 2 ≠ s.fld (Reg.TR_CTL_TDIV r) ∨ bitsOf v.toNat 2 3 ≠ s.fld (Reg.TR_CTL_PHASE r)) →
    Gives (.trCtlWrite req r v) s (s.tickRecord req (Reg.TR_CTL r) .eState)) ∧
  (∀ (s : State) (req r : Nat) (v : BitVec 32), r < 24 → v.toNat.testBit 16 = false → s.rstate r ≠ .running →
    s.rstate r ≠ .frozen → 2 ^ bitsOf v.toNat 0 2 ≤ bitsOf v.toNat 2 3 →
    Gives (.trCtlWrite req r v) s (s.tickRecord req (Reg.TR_CTL r) .eArg)) ∧
  (∀ (s : State) (req r : Nat) (v : BitVec 32), r < 24 → v.toNat.testBit 16 = true → s.rstate r = .frozen → s.ticking = true →
    (s.rgn r).pend = none → bitsOf v.toNat 0 2 = s.fld (Reg.TR_CTL_TDIV r) → bitsOf v.toNat 2 3 = s.fld (Reg.TR_CTL_PHASE r) →
    bitsOf v.toNat 2 3 < 2 ^ bitsOf v.toNat 0 2 →
    Gives (.regionResume req r v) s
      (((((((s.setFld (Reg.TR_CTL_TDIV r) (bitsOf v.toNat 0 2)).setFld (Reg.TR_CTL_PHASE r) (bitsOf v.toNat 2 3)).setBit
        (Reg.TR_CTL_POLICY r) (hasBit v.toNat 8)).setBit (Reg.TR_CTL_AVS_EXCL r) (hasBit v.toNat 9)).setBit
        (Reg.TR_CTL_HIST_EN r) (hasBit v.toNat 10)).setPend r .resume req).tickRecord req (Reg.TR_CTL r) .ok)) ∧
  (∀ (s : State) (req r : Nat) (v : BitVec 32), r < 24 → v.toNat.testBit 16 = true → s.trCtlCode r v.toNat = .ok →
    (s.rgn r).pend ≠ none → Gives (.regionResume req r v) s (s.tickRecord req (Reg.TR_CTL r) .eBusy)) ∧
  (∀ (s : State) (req r : Nat) (v : BitVec 32), r < 24 → v.toNat.testBit 16 = true → s.trCtlCode r v.toNat = .ok →
    (s.rgn r).pend = none → (s.rstate r ≠ .frozen ∨ s.ticking = false) →
    Gives (.regionResume req r v) s (s.tickRecord req (Reg.TR_CTL r) .eState)) ∧
  (∀ (s : State) (req r : Nat) (v : BitVec 32), r < 24 → v.toNat.testBit 16 = true → s.trCtlCode r v.toNat ≠ .ok →
    Gives (.regionResume req r v) s (s.tickRecord req (Reg.TR_CTL r) (s.trCtlCode r v.toNat))) ∧
  (∀ (s : State) (req r : Nat), r < 24 →
    Gives (.trClrOverrunCounters req r) s
      ((((((s.setFld (Reg.OVR_COUNT_COUNT r) 0).setFld (Reg.OVR_ENG_COUNT_COUNT r) 0).setFld (Reg.OVR_LAST_TICK r) 0).setBit
        (Reg.TR_STATUS_OVR_SAT r) false).setBit (Reg.TR_STATUS_ENG_SAT r) false).tickRecord req (Reg.TR_CLR r) .ok)) ∧
  (∀ (s : State) (req r : Nat), r < 24 →
    Gives (.trClrHistogram req r) s
      ((((List.range 32).foldl (fun u b => u.setFld (Reg.SLK_HIST_COUNT r b) 0) s).setBit (Reg.TR_STATUS_HIST_SAT r)
        false).tickRecord req (Reg.TR_CLR r) .ok)) ∧
  (∀ (s : State) (req r : Nat), r < 24 →
    Gives (.trClrSlkMinAll req r) s
      (((s.setFld (Reg.SLK_MIN_ALL_SLACK r) 0xFFFFFF).setBit (Reg.SLK_MIN_ALL_OVR r) false).tickRecord req (Reg.TR_CLR r) .ok))

/-- R64–R76: the voltage loop and its registers, Tarantella and the guard floor. An interval raises by OVR_STEPS × 5 mV after an
overrun, by 5 mV where a slack or an engine falls short, and else may lower; a frame that fails is sent again, three times at most;
each write is applied or refused whole. That EN = 1 in FIXED with a voltage out of limits is refused is the model's choice (log entry
46). -/
def Obligations.VoltageCommandsComplete : Prop :=
  (∀ s : State, s.on Reg.AVS_CTL_EN = true → s.on Reg.AVS_CTL_MODE = false → s.tick.avs.stopped = false →
    let rs := List.range 24
    let nofloor := rs.any (fun r => s.participates r && !s.on (Reg.TR_FLOOR_VALID r))
    let u := s.setBit Reg.AVS_STATUS_NOFLOOR nofloor
    let overran := rs.any (fun r => (s.rgn r).avs.any && (s.rgn r).avs.overran)
    let short := rs.any (fun r => s.avsShort r)
    ((rs.any (fun r => (s.rgn r).avs.any)) = true → overran = true →
      Gives .avsInterval s (u.avsRaise (u.fld Reg.AVS_TUNE_OVR_STEPS * 5)).clearGather) ∧
    ((rs.any (fun r => (s.rgn r).avs.any)) = true → overran = false → short = true →
      Gives .avsInterval s (u.avsRaise 5).clearGather) ∧
    ((rs.any (fun r => (s.rgn r).avs.any)) = true → overran = false → short = false →
      Gives .avsInterval s (u.avsNoRaise (!rs.any (fun r => s.avsNotHigh r)) nofloor).clearGather) ∧
    ((rs.any (fun r => (s.rgn r).avs.any)) = false →
      Gives .avsInterval s ({ u with tick := { u.tick with avs := { u.tick.avs with clipLogged := false } } }).clearGather)) ∧
  (∀ s : State, (s.on Reg.AVS_CTL_EN = false ∨ s.on Reg.AVS_CTL_MODE = true ∨ s.tick.avs.stopped = true) →
    Gives .avsInterval s s) ∧
  (∀ s : State, s.on Reg.AVS_STATUS_BUSY = true →
    Gives (.avsFrameResponse true) s
      ((s.setFld Reg.AVS_STATUS_VCMD s.tick.avs.frame).setBit Reg.AVS_STATUS_BUSY false)) ∧
  (∀ s : State, s.on Reg.AVS_STATUS_BUSY = true → s.tick.avs.tries < 3 →
    Gives (.avsFrameResponse false) s
      (({ s with tick := { s.tick with avs := { s.tick.avs with tries := s.tick.avs.tries + 1 } } }).emit
        (.avsWrite s.tick.avs.frame))) ∧
  (∀ s : State, s.on Reg.AVS_STATUS_BUSY = true → 3 ≤ s.tick.avs.tries →
    let u := ({ s with tick := { s.tick with avs := { s.tick.avs with stopped := true } } }.setBit Reg.AVS_STATUS_BUSY false).setBit
      Reg.AVS_STATUS_FAULT true
    Gives (.avsFrameResponse false) s (u.raise srcTick .fault 0x66 (u.rd Reg.AVS_STATUS).toNat)) ∧
  (∀ (s : State) (req : Nat) (v : BitVec 32), v.toNat.testBit 0 = false → Gives (.avsCtlWrite req v) s
    (((s.setBit Reg.AVS_CTL_EN false).setBit Reg.AVS_CTL_MODE (hasBit v.toNat 1)).tickRecord req Reg.AVS_CTL .ok)) ∧
  (∀ (s : State) (req : Nat) (v : BitVec 32), v.toNat.testBit 0 = true → v.toNat.testBit 1 = false →
    Gives (.avsCtlWrite req v) s
      (({ (s.setBit Reg.AVS_CTL_EN true).setBit Reg.AVS_CTL_MODE false with
          tick := { s.tick with avs := { s.tick.avs with stopped := false } } }).tickRecord req Reg.AVS_CTL .ok)) ∧
  (∀ (s : State) (req : Nat) (v : BitVec 32), v.toNat.testBit 0 = true → v.toNat.testBit 1 = true →
    s.voltsOk (s.fld Reg.AVS_VSET_VSET) = true →
    Gives (.avsCtlWrite req v) s
      ((({ (s.setBit Reg.AVS_CTL_EN true).setBit Reg.AVS_CTL_MODE true with
          tick := { s.tick with avs := { s.tick.avs with stopped := false } } }).commandFixed
        (s.fld Reg.AVS_VSET_VSET)).tickRecord req Reg.AVS_CTL .ok)) ∧
  (∀ (s : State) (req : Nat) (v : BitVec 32), v.toNat.testBit 0 = true → v.toNat.testBit 1 = true →
    s.voltsOk (s.fld Reg.AVS_VSET_VSET) = false → Gives (.avsCtlWrite req v) s (s.tickRecord req Reg.AVS_CTL .eArg)) ∧
  (∀ (s : State) (req : Nat) (v : BitVec 32), s.on Reg.AVS_CTL_MODE = true → s.voltsOk (v.toNat % 2 ^ 16) = true →
    let t := s.setFld Reg.AVS_VSET_VSET (v.toNat % 2 ^ 16)
    Gives (.avsVsetWrite req v) s
      ((if t.on Reg.AVS_CTL_EN = true then t.commandFixed (v.toNat % 2 ^ 16) else t).tickRecord req Reg.AVS_VSET .ok)) ∧
  (∀ (s : State) (req : Nat) (v : BitVec 32), s.on Reg.AVS_CTL_MODE = true → s.voltsOk (v.toNat % 2 ^ 16) = false →
    Gives (.avsVsetWrite req v) s (s.tickRecord req Reg.AVS_VSET .eArg)) ∧
  (∀ (s : State) (req : Nat) (v : BitVec 32), s.on Reg.AVS_CTL_MODE = false →
    Gives (.avsVsetWrite req v) s (s.tickRecord req Reg.AVS_VSET .eState)) ∧
  (∀ (s : State) (req r : Nat) (v : BitVec 32), r < 24 → (v.toNat.testBit 0 = true → s.rstate r = .running) →
    bitsOf v.toNat 4 5 ≤ 16 → 1 ≤ bitsOf v.toNat 16 10 → bitsOf v.toNat 16 10 ≤ 1000 →
    let u := s.setBit (Reg.TAR_CTL_EN r) (hasBit v.toNat 0)
    let w := if v.toNat.testBit 1 = true then u.setBit (Reg.TAR_CTL_TIMEOUT r) false else u
    Gives (.tarantellaCtlWrite req r v) s
      (((w.setFld (Reg.TAR_CTL_LEVEL r) (bitsOf v.toNat 4 5)).setFld (Reg.TAR_CTL_TMAX r)
        (bitsOf v.toNat 16 10)).tickRecord req (Reg.TAR_CTL r) .ok)) ∧
  (∀ (s : State) (req r : Nat) (v : BitVec 32), r < 24 → v.toNat.testBit 0 = true → s.rstate r ≠ .running →
    Gives (.tarantellaCtlWrite req r v) s (s.tickRecord req (Reg.TAR_CTL r) .eState)) ∧
  (∀ (s : State) (req r : Nat) (v : BitVec 32), r < 24 → (v.toNat.testBit 0 = true → s.rstate r = .running) →
    (16 < bitsOf v.toNat 4 5 ∨ bitsOf v.toNat 16 10 = 0 ∨ 1000 < bitsOf v.toNat 16 10) →
    Gives (.tarantellaCtlWrite req r v) s (s.tickRecord req (Reg.TAR_CTL r) .eArg)) ∧
  (∀ (s : State) (r : Nat), r < 24 → s.on (Reg.TAR_CTL_EN r) = true →
    Gives (.tarantellaTimeout r) s
      (((s.setBit (Reg.TAR_CTL_EN r) false).setRgn r { s.rgn r with tarLevel := 0 }).setBit (Reg.TAR_CTL_TIMEOUT r) true)) ∧
  (∀ (s : State) (req r : Nat) (v : BitVec 32), r < 24 →
    (s.on (Reg.TR_FLOOR_LOCK r) = true → v.toNat % 2 ^ 16 = s.fld (Reg.TR_FLOOR_FLOOR r)) → v.toNat.testBit 16 = false →
    20 ≤ v.toNat % 2 ^ 16 →
    Gives (.trFloorWrite req r v) s
      (((s.setFld (Reg.TR_FLOOR_FLOOR r) (v.toNat % 2 ^ 16)).setBit (Reg.TR_FLOOR_VALID r) true).tickRecord req (Reg.TR_FLOOR r)
        .ok)) ∧
  (∀ (s : State) (req r : Nat) (v : BitVec 32), r < 24 → s.on (Reg.TR_FLOOR_LOCK r) = true →
    v.toNat % 2 ^ 16 ≠ s.fld (Reg.TR_FLOOR_FLOOR r) → v.toNat.testBit 16 = false →
    Gives (.trFloorWrite req r v) s (s.tickRecord req (Reg.TR_FLOOR r) .eLock)) ∧
  (∀ (s : State) (req r : Nat) (v : BitVec 32), r < 24 → s.on (Reg.TR_FLOOR_LOCK r) = false → v.toNat.testBit 16 = false →
    v.toNat % 2 ^ 16 < 20 → Gives (.trFloorWrite req r v) s (s.tickRecord req (Reg.TR_FLOOR r) .eArg)) ∧
  (∀ (s : State) (req r : Nat) (v : BitVec 32), r < 24 →
    (s.on (Reg.TR_FLOOR_LOCK r) = true → v.toNat % 2 ^ 16 = s.fld (Reg.TR_FLOOR_FLOOR r)) → v.toNat.testBit 16 = true →
    20 ≤ v.toNat % 2 ^ 16 →
    Gives (.trFloorLock req r v) s
      ((((s.setFld (Reg.TR_FLOOR_FLOOR r) (v.toNat % 2 ^ 16)).setBit (Reg.TR_FLOOR_VALID r) true).setBit (Reg.TR_FLOOR_LOCK r)
        true).tickRecord req (Reg.TR_FLOOR r) .ok)) ∧
  (∀ (s : State) (req r : Nat) (v : BitVec 32), r < 24 → s.on (Reg.TR_FLOOR_LOCK r) = true →
    v.toNat % 2 ^ 16 ≠ s.fld (Reg.TR_FLOOR_FLOOR r) → v.toNat.testBit 16 = true →
    Gives (.trFloorLock req r v) s (s.tickRecord req (Reg.TR_FLOOR r) .eLock))

/-- R77–R80, R83: the writes of an action entry (its target, its arming for a target at least four ticks ahead, its cancellation)
and the register write that an entry performs, with the response to it. -/
def Obligations.ActionEntryCommandsComplete : Prop :=
  (∀ (s : State) (req i : Nat) (v : BitVec 64), i < 64 → s.actBusy i = false →
    Gives (.actionEntryWrite req i 8 v) s
      (((s.actSet i .empty .ok).setFld (Reg.ACT_TARGET_TARGET i) v.toNat).tickRecord req (Reg.ACT_CTL i + 8) .ok)) ∧
  (∀ (s : State) (req i : Nat) (v : BitVec 64), i < 64 → s.actBusy i = false →
    Gives (.actionEntryWrite req i 0x10 v) s
      (((s.actSet i .empty .ok).setFld (Reg.ACT_ARG0_ARG i) v.toNat).tickRecord req (Reg.ACT_CTL i + 0x10) .ok)) ∧
  (∀ (s : State) (req i : Nat) (v : BitVec 64), i < 64 → s.actBusy i = false →
    Gives (.actionEntryWrite req i 0x14 v) s
      (((s.actSet i .empty .ok).setFld (Reg.ACT_ARG1_ARG i) v.toNat).tickRecord req (Reg.ACT_CTL i + 0x14) .ok)) ∧
  (∀ (s : State) (req i : Nat) (v : BitVec 64), i < 64 → s.actBusy i = false → v.toNat.testBit 0 = false →
    v.toNat.testBit 1 = false →
    Gives (.actionEntryWrite req i 0 v) s
      (((s.actSet i .empty .ok).actCtlFields i v.toNat).tickRecord req (Reg.ACT_CTL i) .ok)) ∧
  (∀ (s : State) (req i off : Nat) (v : BitVec 64), i < 64 → off ∈ [4, 8, 0x10, 0x14, 0x18] → s.actBusy i = true →
    Gives (.actionEntryWrite req i off v) s (s.tickRecord req (Reg.ACT_CTL i + off) .eBusy)) ∧
  (∀ (s : State) (req i : Nat) (v : BitVec 64), i < 64 → v.toNat.testBit 0 = false → v.toNat.testBit 1 = false →
    s.actBusy i = true → Gives (.actionEntryWrite req i 0 v) s (s.tickRecord req (Reg.ACT_CTL i) .eBusy)) ∧
  (∀ (s : State) (req i : Nat) (v : BitVec 32), i < 64 → v.toNat.testBit 0 = true → v.toNat.testBit 1 = false →
    s.actBusy i = false →
    let u := (s.actSet i .empty .ok).actCtlFields i v.toNat
    u.actArgsOk i = true → u.now + 4 ≤ u.fld (Reg.ACT_TARGET_TARGET i) →
    Gives (.actionArm req i v) s
      (((u.actSet i .armed .ok).setActWork i ⟨false, u.fld (Reg.ACT_TARGET_TARGET i), u.actMask i, none⟩).tickRecord req
        (Reg.ACT_CTL i) .ok)) ∧
  (∀ (s : State) (req i : Nat) (v : BitVec 32), i < 64 → v.toNat.testBit 0 = true → v.toNat.testBit 1 = false →
    s.actBusy i = false →
    let u := (s.actSet i .empty .ok).actCtlFields i v.toNat
    u.actArgsOk i = false → Gives (.actionArm req i v) s ((u.actSet i .refused .eArg).tickRecord req (Reg.ACT_CTL i) .eArg)) ∧
  (∀ (s : State) (req i : Nat) (v : BitVec 32), i < 64 → v.toNat.testBit 0 = true → v.toNat.testBit 1 = false →
    s.actBusy i = false →
    let u := (s.actSet i .empty .ok).actCtlFields i v.toNat
    u.actArgsOk i = true → u.fld (Reg.ACT_TARGET_TARGET i) < u.now + 4 → u.on (Reg.ACT_CTL_RUN_LATE i) = true →
    Gives (.actionArm req i v) s
      (((u.actSet i .armed .ok).setActWork i ⟨true, (u.now + 4) % 2 ^ 64, u.actMask i, none⟩).tickRecord req
        (Reg.ACT_CTL i) .ok)) ∧
  (∀ (s : State) (req i : Nat) (v : BitVec 32), i < 64 → v.toNat.testBit 0 = true → v.toNat.testBit 1 = false →
    s.actBusy i = false →
    let u := (s.actSet i .empty .ok).actCtlFields i v.toNat
    u.actArgsOk i = true → u.fld (Reg.ACT_TARGET_TARGET i) < u.now + 4 → u.on (Reg.ACT_CTL_RUN_LATE i) = false →
    Gives (.actionArm req i v) s ((u.actSet i .refused .eLate).tickRecord req (Reg.ACT_CTL i) .eLate)) ∧
  (∀ (s : State) (req i : Nat) (v : BitVec 32), i < 64 → v.toNat.testBit 0 = true → v.toNat.testBit 1 = false →
    s.actBusy i = true → Gives (.actionArm req i v) s (s.tickRecord req (Reg.ACT_CTL i) .eBusy)) ∧
  (∀ (s : State) (req i : Nat) (v : BitVec 32), i < 64 → v.toNat.testBit 1 = true → s.actState i = .armed →
    s.now + 4 ≤ s.fld (Reg.ACT_TARGET_TARGET i) →
    Gives (.actionCancel req i v) s ((s.actSet i .cancelled .ok).tickRecord req (Reg.ACT_CTL i) .ok)) ∧
  (∀ (s : State) (req i : Nat) (v : BitVec 32), i < 64 → v.toNat.testBit 1 = true →
    (s.actState i ≠ .armed ∨ s.fld (Reg.ACT_TARGET_TARGET i) < s.now + 4) →
    Gives (.actionCancel req i v) s (s.tickRecord req (Reg.ACT_CTL i) .eLate)) ∧
  (∀ (s : State) (i : Nat), s.actReady i 1 = true → 0x20000 ≤ s.fld (Reg.ACT_ARG0_ARG i) → s.fld (Reg.ACT_ARG0_ARG i) < 0x30000 →
    Gives (.actRegWrite i) s
      ((s.actTickWrite (s.fld (Reg.ACT_ARG0_ARG i)) (s.fld (Reg.ACT_ARG1_ARG i))).1.actDone i
        (s.actTickWrite (s.fld (Reg.ACT_ARG0_ARG i)) (s.fld (Reg.ACT_ARG1_ARG i))).2)) ∧
  (∀ (s : State) (i : Nat) (g : NetTarget) (t : State), (s.actReady i 1 = true ∨ s.actUnsent i = true) →
    ¬ (0x20000 ≤ s.fld (Reg.ACT_ARG0_ARG i) ∧ s.fld (Reg.ACT_ARG0_ARG i) < 0x30000) → cTarget (s.fld (Reg.ACT_ARG0_ARG i)) = some g →
    s.niIssue hkNode 0 ⟨reqTick, i, opWr, g.entry, g.toRtr, tickPri, g.addr, 4, s.fld (Reg.ACT_ARG1_ARG i)⟩ = (t, true) →
    Gives (.actRegWrite i) s
      (((t.setFld (Reg.ACT_EXEC_EXEC i) t.now).actSet i .issued .ok).setActWork i { (t.setFld (Reg.ACT_EXEC_EXEC i) t.now).actWork i
        with remaining := 0 })) ∧
  (∀ (s : State) (i : Nat), s.actReady i 1 = true → cTarget (s.fld (Reg.ACT_ARG0_ARG i)) = none →
    ¬ (0x20000 ≤ s.fld (Reg.ACT_ARG0_ARG i) ∧ s.fld (Reg.ACT_ARG0_ARG i) < 0x30000) →
    Gives (.actRegWrite i) s (s.actDone i .ok)) ∧
  (∀ (s : State) (i : Nat) (d : NetDone), s.actResponse i = some d → s.actType i = 1 → s.actState i = .issued →
    Gives (.actRegWriteResponse i) s ({ s with net := { s.net with done := s.net.done.erase d } }.actFinish i d.code))

/-- R73, R82, R83, R260, R594, R683: the actions that entries perform at their tick, on regions (each at its own region tick, in
ascending order, entries of lower index first, R81), the configuration controller, engines, FLAG pins, capture queues and slices; R88: an overdue beacon. -/
def Obligations.ActionEffectsComplete : Prop :=
  (∀ (s : State) (i : Nat), s.actGoes i 2 = true →
    Gives (.actRegionStart i) s
      (s.actRegions i (fun u r => ((u.startEffect r).1.actRefusal r (u.startEffect r).2, (u.startEffect r).2))).releaseHeld) ∧
  (∀ (s : State) (i : Nat), s.actGoes i 3 = true →
    Gives (.actRegionStop i) s
      (s.actRegions i (fun u r => ((u.stopEffect r).1.actRefusal r (u.stopEffect r).2, (u.stopEffect r).2))).releaseHeld) ∧
  (∀ (s : State) (i : Nat), s.actGoes i 8 = true →
    Gives (.actTarantella i) s
      (s.actRegions i (fun u r => ((u.tarEntry i r).1.actRefusal r (u.tarEntry i r).2, (u.tarEntry i r).2))).releaseHeld) ∧
  (∀ (s : State) (i r : Nat), s.actGoes i 4 = true → s.physicalOf (s.fld (Reg.ACT_ARG0_ARG i)) = some r →
    s.regionTickAt r s.now = true →
    let p := s.prStart (s.fld (Reg.ACT_ARG0_ARG i)) (bitsOf (s.fld (Reg.ACT_ARG1_ARG i)) 0 4)
    Gives (.actPrStart i) s ((p.1.actRefusal r p.2).actDone i p.2).releaseHeld) ∧
  (∀ (s : State) (i r : Nat), s.actGoes i 4 = true → s.physicalOf (s.fld (Reg.ACT_ARG0_ARG i)) = some r →
    s.regionTickAt r s.now = false → s.actState i = .armed →
    Gives (.actPrStart i) s ((s.actSet i .issued .ok).setActWork i (s.actWork i))) ∧
  (∀ (s : State) (i : Nat), s.actGoes i 4 = true → s.physicalOf (s.fld (Reg.ACT_ARG0_ARG i)) = none →
    let p := s.prStart (s.fld (Reg.ACT_ARG0_ARG i)) (bitsOf (s.fld (Reg.ACT_ARG1_ARG i)) 0 4)
    Gives (.actPrStart i) s ((p.1.noteRefusal srcCfg 0 reqAction p.2).actDone i p.2).releaseHeld) ∧
  (∀ (s : State) (i : Nat), s.actReady i 5 = true →
    let e := s.fld (Reg.ACT_ARG0_ARG i)
    let p := s.engRelease e (s.fld (Reg.ACT_ARG1_ARG i))
    Gives (.actEngineTask i) s ((p.1.noteRefusal (srcEngine e) 0x30000 reqAction p.2).actDone i p.2)) ∧
  (∀ (s : State) (i : Nat), s.actReady i 6 = true →
    Gives (.actFlagPulse i) s
      ({ s with tick := { s.tick with flags := s.tick.flags ++
        [(⟨i, s.fld (Reg.ACT_ARG0_ARG i), s.fld (Reg.ACT_ARG1_ARG i) + 1, s.now⟩ : FlagPulse)] } }.actDone i .ok)) ∧
  (∀ (s : State) (i : Nat) (p : FlagPulse) (l : List FlagPulse), s.tick.flags = p :: l → p.entry = i → s.flagMayEnd p = true →
    Gives (.flagPulseEnd i) s { s with tick := { s.tick with flags := l } }) ∧
  (∀ (s : State) (i : Nat), s.actReady i 7 = true → s.qstate (s.fld (Reg.ACT_ARG0_ARG i) % 1024) = qActive →
    Gives (.actQueueMark i) s
      ((s.queueMark (s.fld (Reg.ACT_ARG0_ARG i) % 1024) (s.fld (Reg.ACT_ARG1_ARG i) % 2 ^ 16) s.now).actDone i .ok)) ∧
  (∀ (s : State) (i : Nat), s.actReady i 7 = true → s.qstate (s.fld (Reg.ACT_ARG0_ARG i) % 1024) ≠ qActive →
    Gives (.actQueueMark i) s
      ((s.noteRefusal (srcShard (s.fld (Reg.ACT_ARG0_ARG i) % 1024 / 256)) 0 0x13 .eState).actDone i .eState)) ∧
  (∀ (s : State) (i : Nat), s.actReady i 9 = true →
    let r := s.fld (Reg.ACT_ARG0_ARG i) % 256
    let b := s.fld (Reg.ACT_ARG0_ARG i) / 256
    s.sliceable r = true → s.slicing r = false → Tbl.get (0, 0) s.selfTest.behind r = (0, 0) → s.testable r 0 b = true →
    Gives (.actDrainGrant i) s ((s.sliceStart r 0 b true).actDone i .ok)) ∧
  (∀ (s : State) (i : Nat), s.actReady i 9 = true → s.sliceable (s.fld (Reg.ACT_ARG0_ARG i) % 256) = false →
    Gives (.actDrainGrant i) s
      ((s.noteRefusal srcSelfTest (Reg.ST_CMD - Reg.ST_CTL) reqAction .eState).actDone i .eState)) ∧
  (∀ (s : State) (p : Nat), p < 7 → s.ticking = true → s.on Reg.TICK_BCN_STATUS_BCN_EN = true → s.beaconOverdue p = true →
    Gives (.beaconMiss p) s
      ((({ s with tick := { s.tick with
          lastBeacon := Tbl.put 0 s.tick.lastBeacon p (Tbl.get 0 s.tick.lastBeacon p + 65536) } }.setBitOf
        Reg.TICK_BCN_STATUS_MISS p).raise srcTick .fault 0x69 (p + 256)).setAlarm))

/-- R94, R95, R114–R120, R124–R127: what the events of a region's fabric do: a detected ILLEGAL code, the latch and the release of
a flow stage, the handshake of a SAMPLE port, the acknowledge of an OFFER token, and the grants of an ARB pair. R157–R164: the
region arbiter: a header taken from a block's request port, the grant of a free target to the request that is next, the
payload word driven while a request holds its target, its response, and the timeout that blocks the target. -/
def Obligations.FabricEventsComplete : Prop :=
  (∀ (s : State) (r kind unit sig id : Nat), element kind unit sig = some id → s.fabricOn r = true →
    (kind = 2 → s.rvf r unit = true) →
    Gives (.illegalDetected r kind unit sig true) s ((s.illegalAt r id true).illegalError r kind unit sig)) ∧
  (∀ (s : State) (r kind unit sig id : Nat), element kind unit sig = some id → s.fabricOn r = true →
    (kind = 2 → s.rvf r unit = true) →
    Gives (.illegalDetected r kind unit sig false) s (s.illegalAt r id false)) ∧
  (∀ (s : State) (r unit sig : Nat) (detected : Bool), s.rvf r unit = false →
    Gives (.illegalDetected r 2 unit sig detected) s s) ∧
  (∀ (s : State) (r b n : Nat), s.ctlAt r b n 0 = true → (s.flow r b n).full = false →
    (s.flowInputs r b n).all (·.rail.valid) = true → (s.ackIn r b n).rail = .null →
    let w := s.flowWatch r b n true (s.flowInputs r b n) (some (s.ackIn r b n))
    w.2 = true →
    Gives (.flowStageLatch r b n) s
      ((w.1.setFlow r b n { w.1.flow r b n with full := true, word := wordOf (s.flowInputs r b n), acko := true }).rqSettle r b)) ∧
  (∀ (s : State) (r b n : Nat), s.ctlAt r b n 0 = true → (s.flow r b n).full = true →
    (s.flowInputs r b n).all (fun v => v.rail == .null) = true → (s.ackIn r b n).rail = .one →
    let w := s.flowWatch r b n false (s.flowInputs r b n) (some (s.ackIn r b n))
    w.2 = true →
    Gives (.flowStageRelease r b n) s
      ((w.1.setFlow r b n { w.1.flow r b n with full := false, word := 0, acko := false }).rqSettle r b)) ∧
  (∀ (s : State) (r b n : Nat), s.ctlAt r b n 0 = true →
    let w := s.flowWatch r b n (!(s.flow r b n).full) (s.flowInputs r b n) (some (s.ackIn r b n))
    w.2 = false →
    Gives (.flowStageLatch r b n) s (w.1.rqSettle r b) ∧ Gives (.flowStageRelease r b n) s (w.1.rqSettle r b)) ∧
  (∀ (s : State) (r b n : Nat), s.ctlAt r b n 1 = true → (s.flow r b n).acko = true →
    (s.flowInputs r b n).all (fun v => v.rail == .null) = true →
    let w := s.flowWatch r b n false (s.flowInputs r b n) none
    w.2 = true →
    Gives (.samplePortHandshake r b n) s (w.1.setFlow r b n { w.1.flow r b n with acko := false })) ∧
  (∀ (s : State) (r b n : Nat), s.ctlAt r b n 2 = true → (s.ackIn r b n).dead = false → (s.flow r b n).full = true →
    (s.flow r b n).acked = false → (s.ackIn r b n).rail = .one →
    Gives (.offerTokenAcknowledged r b n) s (s.setFlow r b n { s.flow r b n with acked := true })) ∧
  (∀ (s : State) (r b n : Nat), s.ctlAt r b n 2 = true → (s.ackIn r b n).dead = false → (s.flow r b n).full = true →
    (s.flow r b n).acked = true → (s.ackIn r b n).rail = .null →
    Gives (.offerTokenAcknowledged r b n) s
      (s.setFlow r b n { s.flow r b n with full := false, acked := false, word := 0 })) ∧
  (∀ (s : State) (r b n : Nat), s.ctlAt r b n 2 = true → (s.ackIn r b n).dead = false → (s.ackIn r b n).rail = .zero →
    Gives (.offerTokenAcknowledged r b n) s (s.blkError r b 3 n true)) ∧
  (∀ (s : State) (r b n : Nat) (sideB : Bool), s.arbAt r b n = true → (s.arbReq r b n false).rail ≠ .zero →
    (s.arbReq r b n true).rail ≠ .zero → (s.arbReq r b n sideB).rail = .one → s.arbGrant r b n = .none →
    Gives (.arbRequest r b n sideB) s (s.setGrant r b n (if sideB then .b else .a))) ∧
  (∀ (s : State) (r b n : Nat), s.arbAt r b n = true → s.arbGrant r b n = .a → (s.arbReq r b n false).rail = .null →
    (s.arbReq r b n true).rail = .one →
    Gives (.arbRelease r b n) s (s.setGrant r b n .b)) ∧
  (∀ (s : State) (r b n : Nat), s.arbAt r b n = true → s.arbGrant r b n = .b → (s.arbReq r b n true).rail = .null →
    (s.arbReq r b n false).rail = .null →
    Gives (.arbRelease r b n) s (s.setGrant r b n .none)) ∧
  (∀ (s : State) (r b n : Nat), s.arbAt r b n = true → s.arbGrant r b n = .b → (s.arbReq r b n true).rail = .null →
    (s.arbReq r b n false).rail = .one →
    Gives (.arbRelease r b n) s (s.setGrant r b n .a)) ∧
  (∀ (s : State) (r b n : Nat) (sideB : Bool), s.arbAt r b n = true → (s.arbReq r b n false).rail = .zero →
    (s.arbReq r b n sideB).rail ≠ .one →
    Gives (.arbRequest r b n sideB) s (s.blkError r b 3 n true)) ∧
  (∀ (s : State) (r b k w : Nat), s.fabricOn r = true → b < 256 →
    let u := s.rqSettle r b
    let p := u.rqPort r b
    ((List.range 4).map (fun i => (p.last + 1 + i) % 4)).find? (fun k => u.rqOn r b k && !hasBit p.busy k && !hasBit p.acks k &&
      Tbl.get 0 p.drain k == 0 && (u.rqWord r b k).isSome) = some k → u.rqWord r b k = some w →
    Gives (.requestHeaderTaken r b) s
      ((u.setRqPort r b { p with last := k, busy := withBit p.busy k, acks := withBit p.acks k }).arbSubmit r
        ⟨b, k, bitsOf w 11 5, bitsOf w 9 2, bitsOf w 6 3 + 1, bitsOf w 0 6, 0⟩)) ∧
  (∀ (s : State) (r t : Nat) (g : ArbReq), s.fabricOn r = true → t < 32 → s.arbHold r t = none → s.tgtBlocked r t = false →
    s.arbPick r t = some g →
    Gives (.arbiterGrant r t) s
      (s.setFab r { (s.rgn r).fab with
        reqs := arbPassed g (s.rgn r).fab.reqs
        lastBlk := Tbl.put 0 (s.rgn r).fab.lastBlk (4 * t + g.pri) (g.blk + 1)
        holds := Tbl.put none (s.rgn r).fab.holds t (some ⟨g, [], 0⟩) })) ∧
  (∀ (s : State) (r t w : Nat) (h : ArbHold), s.fabricOn r = true → t < 32 → s.arbHold r t = some h →
    let u := s.rqSettle r h.req.blk
    let p := u.rqPort r h.req.blk
    h.payload.length < h.req.words → hasBit p.acks h.req.chan = false → u.rqWord r h.req.blk h.req.chan = some w →
    Gives (.arbiterGrant r t) s
      ((u.setRqPort r h.req.blk { p with acks := withBit p.acks h.req.chan }).setHold r t
        (some { h with payload := h.payload ++ [w] }))) ∧
  (∀ (s : State) (r t : Nat), s.fabricOn r = true → t < 32 → s.arbHold r t = none → s.tgtBlocked r t = true →
    Gives (.arbiterGrant r t) s
      (((s.rgn r).fab.reqs.filter (fun q => q.tgt == t)).foldl (fun u q => u.rqRefuse r q .eIso)
        (s.setFab r { (s.rgn r).fab with reqs := (s.rgn r).fab.reqs.filter (fun q => q.tgt != t) }))) ∧
  (∀ (s : State) (r t : Nat) (h : ArbHold) (c : Code) (data : List Nat), s.fabricOn r = true → t < 32 →
    s.arbHold r t = some h → s.arbResponse r t h = some (c, data) →
    Gives (.arbiterResponseComplete r t) s
      (((s.arbFinish r (s.tgtPort r t).1 (s.tgtPort r t).2 data.length).setHold r t none).rqRespond r h.req c data)) ∧
  (∀ (s : State) (r t : Nat) (h : ArbHold), s.fabricOn r = true → t < 32 → s.arbHold r t = some h → s.arbResponse r t h = none →
    Gives (.arbiterTimeout r t) s
      ((((((s.setHold r t none).setBitOf (Reg.ARB_STATUS_BLOCKED r) t).regError r 7 t 0 true)).rqRespond r h.req .eTmo []).rqDrain r
        h.req (h.req.words - h.payload.length)))

/-- R165–R171, Table 4-14: a region command accepted is recorded in REG_CMDSTAT, answered OK and takes effect: POWER_ON raises
PEND for the ramp, START and STOP wait for a region tick while the tick runs, the others act at once while it is stopped and
wait for the next tick boundary while it runs; one that is not accepted is recorded with its code, logged where that is E_STATE (R13),
and has no effect. -/
def Obligations.RegionCommandsComplete : Prop :=
  (∀ (s : State) (req r : Nat), r < 24 → s.regionCmdCode r cmdPowerOn = .ok →
    Gives (.regCmdPowerOn req r) s
      ((((s.regionCode r cmdPowerOn .ok).setFld (Reg.REG_CMDSTAT_REQ r) req).respond req (Reg.REG_CMD r) .ok).setBit
        (Reg.REG_STATUS_PEND r) true)) ∧
  (∀ (s : State) (req r : Nat), r < 24 → s.regionCmdCode r cmdStart = .ok →
    Gives (.regCmdStart req r) s
      ((((s.regionCode r cmdStart .ok).setFld (Reg.REG_CMDSTAT_REQ r) req).respond req (Reg.REG_CMD r) .ok).setPend r .start
        req)) ∧
  (∀ (s : State) (req r : Nat), r < 24 → s.regionCmdCode r cmdStop = .ok → s.ticking = true →
    Gives (.regCmdStop req r) s
      ((((s.regionCode r cmdStop .ok).setFld (Reg.REG_CMDSTAT_REQ r) req).respond req (Reg.REG_CMD r) .ok).setPend r .stop
        req)) ∧
  (∀ (s : State) (req r : Nat), r < 24 → s.regionCmdCode r cmdStop = .ok → s.ticking = false →
    Gives (.regCmdStop req r) s
      (((((s.regionCode r cmdStop .ok).setFld (Reg.REG_CMDSTAT_REQ r) req).respond req (Reg.REG_CMD r) .ok).stopRegion
        r).enterState r .held)) ∧
  (∀ (s : State) (req r : Nat), r < 24 → s.regionCmdCode r cmdReset = .ok → s.ticking = false →
    Gives (.regCmdReset req r) s
      (((((s.regionCode r cmdReset .ok).setFld (Reg.REG_CMDSTAT_REQ r) req).respond req (Reg.REG_CMD r) .ok).stopRegion
        r).enterState r .held)) ∧
  (∀ (s : State) (req r : Nat), r < 24 → s.regionCmdCode r cmdClear = .ok → s.ticking = false →
    Gives (.regCmdClear req r) s
      ((((s.regionCode r cmdClear .ok).setFld (Reg.REG_CMDSTAT_REQ r) req).respond req (Reg.REG_CMD r) .ok).enterBlank r)) ∧
  (∀ (s : State) (req r : Nat) (p : Instr × Nat), r < 24 → p ∈ [(.regCmdPowerOff req r, cmdPowerOff),
      (.regCmdIsolate req r, cmdIsolate), (.regCmdUnisolate req r, cmdUnisolate)] →
    s.regionCmdCode r p.2 = .ok → s.ticking = false →
    Gives p.1 s
      ((((s.regionCode r p.2 .ok).setFld (Reg.REG_CMDSTAT_REQ r) req).respond req (Reg.REG_CMD r) .ok).regionApply r p.2)) ∧
  (∀ (s : State) (req r : Nat) (p : Instr × Nat), r < 24 → p ∈ [(.regCmdPowerOff req r, cmdPowerOff),
      (.regCmdReset req r, cmdReset), (.regCmdIsolate req r, cmdIsolate), (.regCmdUnisolate req r, cmdUnisolate),
      (.regCmdClear req r, cmdClear)] → s.regionCmdCode r p.2 = .ok → s.ticking = true →
    Gives p.1 s
      ((((s.regionCode r p.2 .ok).setFld (Reg.REG_CMDSTAT_REQ r) req).respond req (Reg.REG_CMD r) .ok).setRgn r
        { s.rgn r with boundary := (s.rgn r).boundary ++ [(p.2, req)] })) ∧
  (∀ (s : State) (req r : Nat) (p : Instr × Nat), r < 24 → p ∈ [(.regCmdPowerOn req r, cmdPowerOn),
      (.regCmdPowerOff req r, cmdPowerOff), (.regCmdStart req r, cmdStart), (.regCmdStop req r, cmdStop),
      (.regCmdReset req r, cmdReset), (.regCmdIsolate req r, cmdIsolate), (.regCmdUnisolate req r, cmdUnisolate),
      (.regCmdClear req r, cmdClear)] → s.regionCmdCode r p.2 ≠ .ok →
    Gives p.1 s
      ((((s.regionCode r p.2 (s.regionCmdCode r p.2)).setFld (Reg.REG_CMDSTAT_REQ r) req).noteRefusal (srcRegion r) 0 req
        (s.regionCmdCode r p.2)).respond req (Reg.REG_CMD r) (s.regionCmdCode r p.2)))

/-- R168, R169, R180, R540: what takes effect later: the end of a power ramp; START of a HELD region (Pavane begins, or the map
check refuses it, without effect), of a FROZEN one (it resumes, R62) and of one in another state; STOP at its region tick. -/
def Obligations.RegionEffectsComplete : Prop :=
  (∀ (s : State) (r : Nat), r < 24 → s.on (Reg.REG_STATUS_PEND r) = true → (s.rgn r).failed = false →
    Gives (.regionPowerRampDone r) s ((s.setBit (Reg.REG_STATUS_PEND r) false).enterBlank r)) ∧
  (∀ (s : State) (r : Nat), r < 24 → s.on (Reg.REG_STATUS_PEND r) = true → (s.rgn r).failed = true →
    Gives (.regionPowerRampDone r) s ((s.setBit (Reg.REG_STATUS_PEND r) false).enterState r .failed)) ∧
  (∀ (s : State) (r : Nat) (p : PendCmd), s.pendGoes r .start = true → (s.rgn r).pend = some p → s.rstate r = .held →
    (s.clearPend r).mapCheck r = none →
    Gives (.regionStartEffect r) s
      (((((s.clearPend r).pavaneStart r).spineSnap r).spineSnapAround r).regionRefuse r cmdStart p.req .ok).releaseHeld) ∧
  (∀ (s : State) (r e : Nat) (p : PendCmd), s.pendGoes r .start = true → (s.rgn r).pend = some p → s.rstate r = .held →
    (s.clearPend r).mapCheck r = some e →
    Gives (.regionStartEffect r) s
      ((((s.clearPend r).regError r 9 e 0 true).regionRefuse r cmdStart p.req .eArg).releaseHeld)) ∧
  (∀ (s : State) (r : Nat) (p : PendCmd), s.pendGoes r .start = true → (s.rgn r).pend = some p → s.rstate r = .frozen →
    Gives (.regionStartEffect r) s (((s.clearPend r).resumeTick r).regionRefuse r cmdStart p.req .ok).releaseHeld) ∧
  (∀ (s : State) (r : Nat) (p : PendCmd), s.pendGoes r .start = true → (s.rgn r).pend = some p → s.rstate r ≠ .held →
    s.rstate r ≠ .frozen →
    Gives (.regionStartEffect r) s ((s.clearPend r).regionRefuse r cmdStart p.req .eState).releaseHeld) ∧
  (∀ (s : State) (r : Nat) (p : PendCmd), s.pendGoes r .stop = true → (s.rgn r).pend = some p →
    regionAllows (s.rstate r) cmdStop = true →
    Gives (.regionStopEffect r) s
      ((((s.clearPend r).stopRegion r).enterState r .held).regionRefuse r cmdStop p.req .ok).releaseHeld) ∧
  (∀ (s : State) (r : Nat) (p : PendCmd), s.pendGoes r .stop = true → (s.rgn r).pend = some p →
    regionAllows (s.rstate r) cmdStop = false →
    Gives (.regionStopEffect r) s ((s.clearPend r).regionRefuse r cmdStop p.req .eState).releaseHeld)

/-- R187–R191, R194, R196–R203, R542: the accesses to a block memory: a request at a port, the return of its slots to NULL, the
acknowledge of its response, a maintenance write and read, and CLEAR with its end. R217, R219–R226, Table 10-15: a step of a
region's scrubber, the write-back of the frames it has corrected, and a step of a shard's scrubber, in whose first 32 words
errors are corrected and whose link word breaks the queue that holds the cell. -/
def Obligations.BlockMemoriesComplete : Prop :=
  (∀ (s : State) (r m p : Nat) (near : Bool), s.bmLive r m p = true →
    let w := s.bmWatch r m p
    let q := s.bmRequest r m p
    w.2.2 = true → ((w.1.bm r m).port p).idle = true → w.2.1.all (·.rail.valid) = true →
    (q.write = true → 2 ≤ w.1.fld (Reg.REG_STATUS_PAVANE r)) →
    Gives (.bmPortRequest r m p near []) s ((w.1.bmTake r m p q near).arbTaken r 3 (2 * m + p) 0xFF)) ∧
  (∀ (s : State) (r m p : Nat) (near : Bool), s.bmLive r m p = true → (s.bmWatch r m p).2.2 = false →
    Gives (.bmPortRequest r m p near []) s (s.bmWatch r m p).1 ∧ Gives (.bmPortRequestNull r m p) s (s.bmWatch r m p).1 ∧
      Gives (.bmPortResponseAck r m p) s (s.bmWatch r m p).1) ∧
  (∀ (s : State) (r m p : Nat), s.bmLive r m p = true →
    let w := s.bmWatch r m p
    w.2.2 = true → ((w.1.bm r m).port p).reqack = true → w.2.1.all (fun v => v.rail == .null) = true →
    Gives (.bmPortRequestNull r m p) s (w.1.setBmPort r m p { (w.1.bm r m).port p with reqack := false })) ∧
  (∀ (s : State) (r m p : Nat), s.bmLive r m p = true →
    let w := s.bmWatch r m p
    w.2.2 = true → ((w.1.bm r m).port p).resp.isSome = true → (s.dest r 3 (2 * m + p) 80).rail = .one →
    Gives (.bmPortResponseAck r m p) s (w.1.setBmPort r m p { (w.1.bm r m).port p with resp := none, racked := true })) ∧
  (∀ (s : State) (r m p : Nat), s.bmLive r m p = true →
    let w := s.bmWatch r m p
    w.2.2 = true → ((w.1.bm r m).port p).resp = none → ((w.1.bm r m).port p).racked = true →
    (s.dest r 3 (2 * m + p) 80).rail = .null →
    Gives (.bmPortResponseAck r m p) s (w.1.setBmPort r m p { (w.1.bm r m).port p with racked := false })) ∧
  (∀ (s : State) (req r m off n be v : Nat), r < 24 → m < 96 → s.regionAccess r = .ok → off + n ≤ 0x1000 →
    Gives (.bmMaintenanceAccess req r m off n true v be []) s
      ((s.maintWrite r m off n v be finderHost).1.respond req (bmRow r m 0 + off)
        (s.maintWrite r m off n v be finderHost).2)) ∧
  (∀ (s : State) (req r m off n be v : Nat) (w : Bool), r < 24 → m < 96 → s.regionAccess r = .ok → 0x1000 < off + n →
    Gives (.bmMaintenanceAccess req r m off n w v be []) s (s.respond req (bmRow r m 0 + off) .eArg)) ∧
  (∀ (s : State) (req r m off n be v : Nat), r < 24 → m < 96 → s.regionAccess r = .ok → off + n ≤ 0x1000 →
    (s.maintRead r m off n finderHost).2.2 = .ok →
    Gives (.bmMaintenanceAccess req r m off n false v be []) s
      ((s.maintRead r m off n finderHost).1.emit (.readData req (bmRow r m 0 + off) (s.maintRead r m off n finderHost).2.1))) ∧
  (∀ (s : State) (req r m off n be v : Nat), r < 24 → m < 96 → s.regionAccess r = .ok → off + n ≤ 0x1000 →
    (s.maintRead r m off n finderHost).2.2 ≠ .ok →
    Gives (.bmMaintenanceAccess req r m off n false v be []) s
      ((s.maintRead r m off n finderHost).1.respond req (bmRow r m 0 + off) (s.maintRead r m off n finderHost).2.2)) ∧
  (∀ (s : State) (req r m off n be v : Nat), r < 24 → m < 96 → s.regionAccess r ≠ .ok →
    Gives (.bmMaintenanceAccess req r m off n false v be []) s (s.respond req (bmRow r m 0 + off) (s.regionAccess r)) ∧
    Gives (.bmMaintenanceAccess req r m off n true v be []) s
      (s.windowRefuse req r (bmRow r m 0 + off) (s.regionAccess r))) ∧
  (∀ (s : State) (req r m : Nat), r < 24 → m < 96 → s.controlGate r = .ok → s.on (Reg.BM_STAT_CLR_BUSY r m) = false →
    s.rstate r ≠ .configuring →
    Gives (.bmClear req r m) s
      (((((s.clearValid r m).setBit (Reg.BM_STAT_CLR_BUSY r m) true).setFld (Reg.BM_STAT_CODE r m)
        0)).windowRefuse req r (Reg.BM_CMD r m) .ok)) ∧
  (∀ (s : State) (req r m : Nat), r < 24 → m < 96 → s.controlGate r = .ok → s.on (Reg.BM_STAT_CLR_BUSY r m) = true →
    Gives (.bmClear req r m) s
      ((s.setFld (Reg.BM_STAT_CODE r m) Code.eBusy.num).windowRefuse req r (Reg.BM_CMD r m) .eBusy)) ∧
  (∀ (s : State) (req r m : Nat), r < 24 → m < 96 → s.on (Reg.BM_STAT_CLR_BUSY r m) = false → s.rstate r = .configuring →
    Gives (.bmClear req r m) s
      ((s.setFld (Reg.BM_STAT_CODE r m) Code.eState.num).windowRefuse req r (Reg.BM_CMD r m) .eState)) ∧
  (∀ (s : State) (req r m : Nat), r < 24 → m < 96 → s.controlGate r ≠ .ok →
    Gives (.bmClear req r m) s (s.windowRefuse req r (Reg.BM_CMD r m) (s.controlGate r))) ∧
  (∀ (s : State) (r m : Nat), r < 24 → m < 96 → Gives (.bmClearDone r m) s (s.setBit (Reg.BM_STAT_CLR_BUSY r m) false)) ∧
  (∀ (s : State) (r : Nat) (ups : List (Nat × Nat)) (fr : List (Nat × Nat × Nat × Nat)), r < 24 →
    let u := (s.upset ups).frameUpset r fr
    (u.scrubbing r = true → Gives (.scrubStep r ups fr) s (u.scrubStep r)) ∧
    (u.scrubbing r = false → Gives (.scrubStep r ups fr) s u)) ∧
  (∀ (s : State) (r : Nat), r < 24 → (s.scr r).writeback ≠ [] →
    (s.ticking = false ∨ s.betweenWaves r = true ∨ (s.rstate r ≠ .running ∧ s.rstate r ≠ .frozen)) →
    Gives (.scrubFrameWriteback r) s
      (let u := (s.scr r).writeback.foldl (fun u f => u.frameRepair r f.1 f.2) s
       u.setScr r { u.scr r with writeback := [] })) ∧
  (∀ (s : State) (h : Nat), h < 4 → s.on (Reg.QM_SCRCTL_EN h) = true →
    let c := (s.shard h).scrub
    let u := s.setShard h { s.shard h with scrub := (c + 1) % 65536 }
    let v := (List.range 32).foldl (fun u w => if (u.checkCell h c w).2 then (u.checkCell h c w).1
      else (u.checkCell h c w).1.setMark (cellCode h c w) 0) u
    (v.checkCell h c 32).2 = false →
    Gives (.poolScrubStep h []) s ((v.checkCell h c 32).1.setMark (cellCode h c 32) 0)) ∧
  (∀ (s : State) (h : Nat) (e : Nat × QueueSt), h < 4 → s.on (Reg.QM_SCRCTL_EN h) = true →
    let c := (s.shard h).scrub
    let u := s.setShard h { s.shard h with scrub := (c + 1) % 65536 }
    let v := (List.range 32).foldl (fun u w => if (u.checkCell h c w).2 then (u.checkCell h c w).1
      else (u.checkCell h c w).1.setMark (cellCode h c w) 0) u
    let x := (v.checkCell h c 32).1
    (v.checkCell h c 32).2 = true →
    List.find? (fun (e : Nat × QueueSt) => e.1 / 256 == h && e.2.cells.any (fun x => x.2.num == c)) x.queues = some e →
    x.qstate e.1 ≠ qBroken →
    Gives (.poolScrubStep h []) s ((x.breakQueue e.1 true).unpark h))

/-- R237, R246–R252, R260–R262: what engines do beside their instructions: a task is released and started, a stalled instruction
retires, stream words are latched and acknowledged, and a network tag completes. -/
def Obligations.EngineEventsComplete : Prop :=
  (∀ (s : State) (e : Nat) (q : Nat × Nat × Nat), e < 96 → (s.eng e).sched.find? (fun q => q.2.1 == s.now) = some q →
    s.actReleases e = false →
    let p := (s.setEng e { s.eng e with sched := (s.eng e).sched.erase q }).engRelease e q.1
    (p.2 = .ok → Gives (.engTaskRelease e) s p.1) ∧
    (p.2 ≠ .ok → Gives (.engTaskRelease e) s (p.1.engRecord q.2.2 e 0x30000 7 p.2))) ∧
  (∀ (s : State) (e : Nat) (t : EngTask) (l : List EngTask), e < 96 → (s.eng e).st = .idle → (s.eng e).tasks = t :: l →
    2 ≤ s.fld (Reg.REG_STATUS_PAVANE (e / 4)) →
    Gives (.engTaskStart e) s
      (s.setEng e { ((s.eng e).clearStacks.setReg 0 (t.arg % 2 ^ 16)).setReg 1 (t.arg / 2 ^ 16) with
        cur := true, st := .run, pc := t.entry })) ∧
  (∀ (s : State) (e : Nat) (i : EInstr), e < 96 → (s.eng e).st = .stall → s.engFetch e (s.eng e).bank (s.eng e).pc = some i →
    (s.eng e).waits i = 0 → Gives (.engStalledRetire e) s (s.engComplete e i)) ∧
  (∀ (s : State) (e : Nat) (i : EInstr), e < 96 → (s.eng e).st = .stall → s.engFetch e (s.eng e).bank (s.eng e).pc = some i →
    (s.eng e).waits i ≠ 0 → Gives (.engStalledRetire e) s (s.setEng e { s.eng e with wait := (s.eng e).waits i })) ∧
  (∀ (s : State) (e which : Nat), s.streamLive e which = true →
    let w := s.sinWatch e which
    w.2.2 = true → ((w.1.eng e).sin which).full = false → ((w.1.eng e).sin which).acko = false →
    w.2.1.all (·.rail.valid) = true →
    Gives (.engStreamInputLatch e which) s
      ((w.1.setEng e ((w.1.eng e).setSin which { (w.1.eng e).sin which with data := wordOf w.2.1, full := true, acko := true
        })).arbTaken (e / 4) 4 (e % 4) (2 ^ which))) ∧
  (∀ (s : State) (e which : Nat), s.streamLive e which = true →
    let w := s.sinWatch e which
    w.2.2 = true → ((w.1.eng e).sin which).acko = true → w.2.1.all (fun v => v.rail == .null) = true →
    Gives (.engStreamInputNull e which) s
      (w.1.setEng e ((w.1.eng e).setSin which { (w.1.eng e).sin which with acko := false }))) ∧
  (∀ (s : State) (e which : Nat), s.streamLive e which = true → (s.sinWatch e which).2.2 = false →
    Gives (.engStreamInputLatch e which) s (s.sinWatch e which).1 ∧ Gives (.engStreamInputNull e which) s (s.sinWatch e which).1) ∧
  (∀ (s : State) (e which : Nat), s.streamLive e which = true → (s.dest (e / 4) 4 (e % 4) (32 + which)).dead = false →
    ((s.dest (e / 4) 4 (e % 4) (32 + which)).rail = .zero ∨
      ((s.dest (e / 4) 4 (e % 4) (32 + which)).rail = .one ∧ ((s.eng e).sout which).full = false)) →
    Gives (.engStreamOutputAck e which) s (s.engErr e 2)) ∧
  (∀ (s : State) (e which : Nat), s.streamLive e which = true → ((s.eng e).sout which).full = true →
    ((s.eng e).sout which).acked = false → (s.dest (e / 4) 4 (e % 4) (32 + which)).rail = .one →
    Gives (.engStreamOutputAck e which) s
      (s.setEng e ((s.eng e).setSout which { (s.eng e).sout which with acked := true }))) ∧
  (∀ (s : State) (e which : Nat), s.streamLive e which = true → ((s.eng e).sout which).full = true →
    ((s.eng e).sout which).acked = true → (s.dest (e / 4) 4 (e % 4) (32 + which)).rail = .null →
    Gives (.engStreamOutputAck e which) s
      (s.setEng e ((s.eng e).setSout which ⟨((s.eng e).sout which).data, false, false⟩))) ∧
  (∀ (s : State) (e t : Nat) (g : EngTag) (d : NetDone), e < 96 → Tbl.get none (s.eng e).tags t = some g → g.opc = opRd →
    s.net.done.find? (fun d => d.node == regionNode (e / 4) && d.rid == 0x40 + e && d.ref == t) = some d → d.code = .ok →
    Gives (.engNetworkResponse e t) s
      (({ s with net := { s.net with done := s.net.done.erase d } }.engStore e (wordsAt g.buf d.data (g.len / 2))).freeEngTag e t
        .ok)) ∧
  (∀ (s : State) (e t : Nat) (g : EngTag) (d : NetDone), e < 96 → Tbl.get none (s.eng e).tags t = some g → g.opc ≠ opWrp →
    (g.opc = opRd → d.code ≠ .ok) →
    s.net.done.find? (fun d => d.node == regionNode (e / 4) && d.rid == 0x40 + e && d.ref == t) = some d →
    Gives (.engNetworkResponse e t) s
      ({ s with net := { s.net with done := s.net.done.erase d } }.freeEngTag e t d.code)) ∧
  (∀ (s : State) (e t : Nat) (g : EngTag), e < 96 → Tbl.get none (s.eng e).tags t = some g → g.opc = opWrp →
    s.postedLeft e t = true → Gives (.engNetworkResponse e t) s (s.freeEngTag e t .ok))

/-- R241, R260, R261, R267–R272, R277: the commands of ENG_CTL in the states of the engine that allow them, and in those that do not
(recorded with the code that Table 7-13 gives, without effect); the writes to an engine's memory and register view, applied and
refused; the clears of its counters; and what the region's state refuses (R33). -/
def Obligations.EngineCommandsComplete : Prop :=
  (∀ (s : State) (req e : Nat), e < 96 → s.regionAccess (e / 4) = .ok → (s.eng e).st = .idle →
    Gives (.engHalt req e) s
      (((s.setEng e { s.eng e with st := .halt }).engRecord req e 0x30000 1 .ok).respond req (Reg.ENG_CTL (e / 4) (e % 4)) .ok)) ∧
  (∀ (s : State) (req e : Nat), e < 96 → s.regionAccess (e / 4) = .ok → ((s.eng e).st = .run ∨ (s.eng e).st = .stall) →
    (s.eng e).haltPend = false →
    Gives (.engHalt req e) s
      (((s.setEng e { s.eng e with haltPend := true }).engRecord req e 0x30000 1 .ok).respond req (Reg.ENG_CTL (e / 4) (e % 4))
        .ok)) ∧
  (∀ (s : State) (req e : Nat) (p : Instr × Nat), e < 96 → s.regionAccess (e / 4) = .ok →
    p ∈ [(.engHalt req e, 1), (.engResume req e, 2), (.engStep req e, 3), (.engAbort req e, 4), (.engClear req e, 5)] →
    s.engCmdCode e p.2 ≠ .ok →
    Gives p.1 s ((s.engRecord req e 0x30000 p.2 (s.engCmdCode e p.2)).respond req (Reg.ENG_CTL (e / 4) (e % 4))
      (s.engCmdCode e p.2))) ∧
  (∀ (s : State) (req e : Nat) (entry : BitVec 12) (atEnd : Bool), e < 96 → s.regionAccess (e / 4) = .ok → s.engCmdCode e 6 ≠ .ok →
    Gives (.engSwapreq req e atEnd entry) s
      ((s.engRecord req e 0x30000 6 (s.engCmdCode e 6)).respond req (Reg.ENG_CTL (e / 4) (e % 4)) (s.engCmdCode e 6))) ∧
  (∀ (s : State) (req e : Nat) (t : BitVec 6), e < 96 → s.regionAccess (e / 4) = .ok → s.engCmdCode e 7 ≠ .ok →
    Gives (.engRelease req e t) s
      (((s.engRefuse e).engRecord req e 0x30000 7 (s.engCmdCode e 7)).respond req (Reg.ENG_CTL (e / 4) (e % 4))
        (s.engCmdCode e 7))) ∧
  (∀ (s : State) (req e : Nat) (entry : BitVec 12) (atEnd : Bool) (t : BitVec 6) (c : Instr), e < 96 →
    s.regionAccess (e / 4) ≠ .ok → c ∈ [.engHalt req e, .engResume req e, .engStep req e, .engAbort req e, .engClear req e,
      .engSwapreq req e atEnd entry, .engRelease req e t] →
    Gives c s (s.windowRefuse req (e / 4) (Reg.ENG_CTL (e / 4) (e % 4)) (s.regionAccess (e / 4)))) ∧
  (∀ (s : State) (req e : Nat), e < 96 → s.regionAccess (e / 4) = .ok → (s.eng e).st = .halt → (s.eng e).cur = true →
    Gives (.engResume req e) s
      (((s.setEng e { s.eng e with st := .run }).engRecord req e 0x30000 2 .ok).respond req (Reg.ENG_CTL (e / 4) (e % 4)) .ok)) ∧
  (∀ (s : State) (req e : Nat), e < 96 → s.regionAccess (e / 4) = .ok → (s.eng e).st = .halt → (s.eng e).cur = false →
    2 ≤ s.fld (Reg.REG_STATUS_PAVANE (e / 4)) →
    Gives (.engResume req e) s
      (((s.setEng e { s.eng e with st := .idle }.startTask).engRecord req e 0x30000 2 .ok).respond req
        (Reg.ENG_CTL (e / 4) (e % 4)) .ok)) ∧
  (∀ (s : State) (req e : Nat), e < 96 → s.regionAccess (e / 4) = .ok → (s.eng e).st = .halt → (s.eng e).tasks ≠ [] →
    (s.eng e).cur = false → 2 ≤ s.fld (Reg.REG_STATUS_PAVANE (e / 4)) →
    Gives (.engStep req e) s
      (((s.setEng e { (s.eng e).startTask with stepping := true }).engRecord req e 0x30000 3 .ok).respond req
        (Reg.ENG_CTL (e / 4) (e % 4)) .ok)) ∧
  (∀ (s : State) (req e : Nat), e < 96 → s.regionAccess (e / 4) = .ok → (s.eng e).st = .halt → (s.eng e).tasks ≠ [] →
    (s.eng e).cur = true →
    Gives (.engStep req e) s
      (((s.setEng e { s.eng e with st := .run, stepping := true }).engRecord req e 0x30000 3 .ok).respond req
        (Reg.ENG_CTL (e / 4) (e % 4)) .ok)) ∧
  (∀ (s : State) (req e : Nat), e < 96 → s.regionAccess (e / 4) = .ok →
    ((s.eng e).st = .run ∨ (s.eng e).st = .stall ∨ ((s.eng e).st = .halt ∧ (s.eng e).cur = true)) →
    let u := s.engDiscard e (bit (s.eng e).cur)
    let x := (u.eng e).endTask true
    let y := { x with rep := false, wait := 0, st := if x.st = EngState.halt then EngState.halt else EngState.idle }
    Gives (.engAbort req e) s
      (((u.setEng e y.idleEvents).engRecord req e 0x30000 4 .ok).respond req (Reg.ENG_CTL (e / 4) (e % 4)) .ok)) ∧
  (∀ (s : State) (req e : Nat), e < 96 → s.regionAccess (e / 4) = .ok → (s.eng e).st = .fault →
    Gives (.engClear req e) s
      ((((let u := (s.engDiscard e (s.eng e).tasks.length).wr (Reg.ENG_FAULT (e / 4) (e % 4)) 0
          u.setEng e { u.eng e with tasks := [], cur := false, st := .idle, rep := false }).engRecord req e 0x30000 5
        .ok).respond req (Reg.ENG_CTL (e / 4) (e % 4)) .ok))) ∧
  (∀ (s : State) (req e : Nat) (entry : BitVec 12), e < 96 → s.regionAccess (e / 4) = .ok → (s.eng e).st = .idle →
    (s.eng e).swapPend = none →
    Gives (.engSwapreq req e false entry) s
      (((s.setEng e ((s.eng e).swap entry.toNat)).engRecord req e 0x30000 6 .ok).respond req (Reg.ENG_CTL (e / 4) (e % 4))
        .ok)) ∧
  (∀ (s : State) (req e : Nat) (entry : BitVec 12) (atEnd : Bool), e < 96 → s.regionAccess (e / 4) = .ok →
    ((s.eng e).st = .run ∨ (s.eng e).st = .stall) → (s.eng e).swapPend = none →
    Gives (.engSwapreq req e atEnd entry) s
      (((s.setEng e { s.eng e with swapPend := some (atEnd, entry.toNat) }).engRecord req e 0x30000 6 .ok).respond req
        (Reg.ENG_CTL (e / 4) (e % 4)) .ok)) ∧
  (∀ (s : State) (req e : Nat) (entry : BitVec 12) (atEnd : Bool), e < 96 → s.regionAccess (e / 4) = .ok →
    (s.eng e).st = .halt → (s.eng e).swapPend = none → (atEnd = false ∨ (s.eng e).cur = false) →
    Gives (.engSwapreq req e atEnd entry) s
      (((s.setEng e ((s.eng e).swap entry.toNat)).engRecord req e 0x30000 6 .ok).respond req (Reg.ENG_CTL (e / 4) (e % 4))
        .ok)) ∧
  (∀ (s : State) (req e : Nat) (t : BitVec 6), e < 96 → s.regionAccess (e / 4) = .ok → s.engOpen e = true → s.ticking = true →
    Gives (.engRelease req e t) s
      (((s.setEng e { s.eng e with sched := (s.eng e).sched ++ [(t.toNat, (s.now + 4) % 2 ^ 64, req)] }).engRecord req e 0x30000 7
        .ok).respond req (Reg.ENG_CTL (e / 4) (e % 4)) .ok)) ∧
  (∀ (s : State) (req e off n v be : Nat), e < 96 → n ≤ 256 → s.regionAccess (e / 4) = .ok → engMemOk off n = true →
    (s.engMemWrite e off n v be).2 = .ok →
    Gives (.engMemoryHostWrite req e off n v be) s
      ((s.engMemWrite e off n v be).1.respond req (engBase e + off) .ok)) ∧
  (∀ (s : State) (req e off n v be : Nat), e < 96 → n ≤ 256 → s.regionAccess (e / 4) = .ok → engMemOk off n = true →
    (s.engMemWrite e off n v be).2 ≠ .ok → (s.engMemWrite e off n v be).2 ≠ .eState →
    Gives (.engMemoryHostWrite req e off n v be) s
      ((s.engMemWrite e off n v be).1.respond req (engBase e + off) (s.engMemWrite e off n v be).2)) ∧
  (∀ (s : State) (req e off n v be : Nat), e < 96 → n ≤ 256 → s.regionAccess (e / 4) = .ok → engMemOk off n = true →
    (∃ i < n, hasBit be i = true ∧ off + i < 0x8000 ∧ (off + i) / 0x4000 = (s.eng e).bank) →
    Gives (.engMemoryHostWrite req e off n v be) s
      ((s.engRecord req e off 0 .eState).respond req (engBase e + off) .eState)) ∧
  (∀ (s : State) (req e off n v be : Nat), e < 96 → n ≤ 256 → s.regionAccess (e / 4) = .ok → engMemOk off n = false →
    Gives (.engMemoryHostWrite req e off n v be) s (s.respond req (engBase e + off) .eArg)) ∧
  (∀ (s : State) (req e o w : Nat) (v old : BitVec 64), e < 96 → s.regionAccess (e / 4) = .ok → viewEntry o = (o, w) →
    (s.eng e).view o = some old → ((s.eng e).st = .idle ∨ (s.eng e).st = .halt) →
    Gives (.engRegisterViewWrite req e o v) s
      ((s.setEng e ((s.eng e).setView o (putBytes old.toNat 0 w v.toNat))).respond req (engBase e + 0x31000 + o) .ok)) ∧
  (∀ (s : State) (req e o w : Nat) (v : BitVec 64), e < 96 → s.regionAccess (e / 4) = .ok → viewEntry o = (o, w) →
    (s.eng e).view o ≠ none → (s.eng e).st ≠ .idle → (s.eng e).st ≠ .halt →
    Gives (.engRegisterViewWrite req e o v) s
      ((s.engRecord req e (0x31000 + o) 0 .eState).respond req (engBase e + 0x31000 + o) .eState)) ∧
  (∀ (s : State) (req e : Nat), e < 96 → s.regionAccess (e / 4) = .ok →
    Gives (.engCntclrTask req e) s
      ((((((s.wr (Reg.ENG_TASKDONE (e / 4) (e % 4)) 0).wr (Reg.ENG_TASKLATE (e / 4) (e % 4)) 0).wr
        (Reg.ENG_TASKDISC (e / 4) (e % 4)) 0).wr (Reg.ENG_TASKREF (e / 4) (e % 4)) 0).setBit
        (Reg.ENG_ERR_CNT_SAT (e / 4) (e % 4)) false).respond req (Reg.ENG_CNTCLR (e / 4) (e % 4)) .ok)) ∧
  (∀ (s : State) (req e : Nat), e < 96 → s.regionAccess (e / 4) = .ok →
    Gives (.engCntclrRet req e) s
      (((s.wr (Reg.ENG_RETIRED (e / 4) (e % 4)) 0).setBit (Reg.ENG_ERR_CNT_SAT (e / 4) (e % 4)) false).respond req
        (Reg.ENG_CNTCLR (e / 4) (e % 4)) .ok))

/-- R252, R254, R255, R259, R286, R308, R310, R311: what the control instructions of an engine do when they are reached: the
engine retires them, and goes on at the place that each of them says. R248, R251, R278, R286, R287: where any instruction of an engine
does not execute: an uncorrectable code word, a reserved encoding or a fault cause puts the engine in FAULT, and what it waits for
stalls it. -/
def Obligations.EngineControlCompletes : Prop :=
  (∀ (s : State) (c : Instr) (e k : Nat) (op : EngOp) (i : EInstr), engineOp c = some (e, op) → e < 96 → (s.eng e).st = .run →
    s.mark (engCode e (s.eng e).bank (s.eng e).pc) = 0 → s.engFetch e (s.eng e).bank (s.eng e).pc = some i → i.op = op →
    (s.eng e).cause (s.engPipe e) (s.engNext e (s.eng e)) i = some k → Gives c s (s.engFault e k)) ∧
  (∀ (s : State) (c : Instr) (e : Nat) (op : EngOp) (i : EInstr), engineOp c = some (e, op) → e < 96 → (s.eng e).st = .run →
    s.mark (engCode e (s.eng e).bank (s.eng e).pc) = 0 → s.engFetch e (s.eng e).bank (s.eng e).pc = some i → i.op = op →
    (s.eng e).cause (s.engPipe e) (s.engNext e (s.eng e)) i = none → (s.eng e).waits i ≠ 0 →
    Gives c s (s.setEng e { s.eng e with st := .stall, wait := (s.eng e).waits i })) ∧
  (∀ (s : State) (c : Instr) (e : Nat) (op : EngOp), engineOp c = some (e, op) → e < 96 → (s.eng e).st = .run →
    s.mark (engCode e (s.eng e).bank (s.eng e).pc) = 0 → s.engFetch e (s.eng e).bank (s.eng e).pc = none →
    Gives c s (s.engFault e causeIllop)) ∧
  (∀ (s : State) (c : Instr) (e : Nat) (op : EngOp), engineOp c = some (e, op) → e < 96 → (s.eng e).st = .run →
    s.mark (engCode e (s.eng e).bank (s.eng e).pc) = 2 →
    Gives c s ((s.engCheck e (engCode e (s.eng e).bank (s.eng e).pc) 0).1.engFault e causeEcc)) ∧
  (∀ (s : State) (c : Instr) (e : Nat) (op : EngOp) (i : EInstr), engineOp c = some (e, op) → i.op = op → EngReady s e i →
    op ∈ [.nop, .done, .halt, .jmp, .call, .ret, .rep, .loop] →
    Gives c s (s.engRetire e ((s.eng e).effect (s.engPipe e) (s.engWord e) i).1 i)) ∧
  (∀ (s : State) (e : Nat), EngReady s e .nop → EngQuiet s e →
    let t := s.engRetire e (s.eng e) .nop
    Gives (.engInstrNop e) s t ∧ (t.eng e).pc = (s.eng e).pc + 1 ∧ (t.eng e).acc = (s.eng e).acc ∧
      ∀ c, (t.eng e).reg c = (s.eng e).reg c) ∧
  (∀ (s : State) (e : Nat) (a b : EngTask) (l : List EngTask), EngReady s e .done → EngQuiet s e →
    (s.eng e).tasks = a :: b :: l → (s.eng e).cur = true →
    let t := s.engRetire e (s.eng e) .done
    Gives (.engInstrDone e) s t ∧ (t.eng e).st = .idle ∧ (t.eng e).tasks = b :: l ∧ (t.eng e).cur = false ∧
      (t.eng e).pc = b.entry) ∧
  (∀ (s : State) (e : Nat), EngReady s e .halt → EngQuiet s e →
    let t := s.engRetire e { s.eng e with haltPend := true } .halt
    Gives (.engInstrHalt e) s t ∧ (t.eng e).st = .halt ∧ (t.eng e).haltPend = false ∧ (t.eng e).pc = (s.eng e).pc + 1) ∧
  (∀ (s : State) (e c a : Nat), EngReady s e (.jmp c a) → EngQuiet s e →
    let t := s.engRetire e (s.eng e) (.jmp c a)
    Gives (.engInstrJmp e) s t ∧ (t.eng e).pc = if (s.eng e).cond c then a else (s.eng e).pc + 1) ∧
  (∀ (s : State) (e c a : Nat), EngReady s e (.call c a) → EngQuiet s e → (s.eng e).cond c = true →
    let t := s.engRetire e (s.eng e) (.call c a)
    Gives (.engInstrCall e) s t ∧ (t.eng e).pc = a ∧ (t.eng e).calls = ((s.eng e).pc + 1) :: (s.eng e).calls) ∧
  (∀ (s : State) (e c a : Nat) (l : List Nat), EngReady s e (.ret c) → EngQuiet s e → (s.eng e).cond c = true →
    (s.eng e).calls = a :: l →
    let t := s.engRetire e (s.eng e) (.ret c)
    Gives (.engInstrRet e) s t ∧ (t.eng e).pc = a ∧ (t.eng e).calls = l) ∧
  (∀ (s : State) (e n : Nat), EngReady s e (.rep n) → EngQuiet s e →
    let t := s.engRetire e (s.eng e) (.rep n)
    Gives (.engInstrRep e) s t ∧ (t.eng e).rep = true ∧ (t.eng e).pc = (s.eng e).pc + 1 ∧ (t.eng e).reg rcLC = n % 2 ^ 16) ∧
  (∀ (s : State) (e step count ofs : Nat) (reg : Bool), EngReady s e (.loop step reg count ofs) → EngQuiet s e →
    let n := (s.eng e).loopCount (s.engPipe e) reg count
    let t := s.engRetire e (s.eng e) (.loop step reg count ofs)
    n ≠ 0 → Gives (.engInstrLoop e) s t ∧ (t.eng e).pc = (s.eng e).pc + 1 ∧ (t.eng e).reg rcLC = n % 2 ^ 16 ∧
      (t.eng e).loops = [⟨(s.eng e).pc + 1, (s.eng e).pc + 1 + ofs, (s.eng e).reg rcLC, step⟩]) ∧
  (∀ (s : State) (e tag : Nat), EngReady s e (.nwait tag) →
    bitsOf (s.fld (Reg.ENG_NSTAT_CODE (e / 4) (e % 4))) (4 * tag) 4 = 0 →
    Gives (.engInstrNwait e) s (s.engRetire e (s.eng e) (.nwait tag))) ∧
  (∀ (s : State) (e tag : Nat), EngReady s e (.nwait tag) →
    bitsOf (s.fld (Reg.ENG_NSTAT_CODE (e / 4) (e % 4))) (4 * tag) 4 ≠ 0 →
    Gives (.engInstrNwait e) s ((s.engErr e 6).engRetire e ((s.eng e).setFlag stNE true) (.nwait tag)))

/-- R243, R244, R296, R297, R312: the multiply-accumulates of an engine, from memory and from registers: the product of the form
that the word names is added to, subtracted from, or put into its accumulator, as it is or negated. -/
def Obligations.EngineMultipliesComplete : Prop :=
  (∀ (s : State) (e : Nat) (c : MacCtl) (xa ya : EngAddr) (xd yd : Option Nat), EngReady s e (.macm c xa ya xd yd) →
    let x := s.eng e
    let a := s.engWord e (x.addr xa)
    let b := s.engWord e (x.addr ya)
    let p := product c.form c.frac a b
    let u := (p % 2 ^ 40).toNat
    let go := fun y => s.engRetire e (x.macmMoves y (s.engPipe e) xa ya xd yd a b) (.macm c xa ya xd yd)
    (c.op = .mac → Gives (.engInstrMacmMac e) s
      (go ((x.setFlag stC (carry40 false (x.accNat c.acc) u)).storeAcc c.acc (x.accInt c.acc + p) c.sat))) ∧
    (c.op = .msu → Gives (.engInstrMacmMsu e) s
      (go ((x.setFlag stC (carry40 true (x.accNat c.acc) u)).storeAcc c.acc (x.accInt c.acc - p) c.sat))) ∧
    (c.op = .mpy → Gives (.engInstrMacmMpy e) s (go (x.storeAcc c.acc p c.sat))) ∧
    (c.op = .mpyn → Gives (.engInstrMacmMpyn e) s (go (x.storeAcc c.acc (-p) c.sat)))) ∧
  (∀ (s : State) (e : Nat) (c : MacCtl) (da db : Nat) (xa ya : Option (EngAddr × Nat)), EngReady s e (.macr c da db xa ya) →
    let x := s.eng e
    let p := product c.form c.frac (x.named (s.engPipe e) da) (x.named (s.engPipe e) db)
    let u := (p % 2 ^ 40).toNat
    let go := fun y => s.engRetire e (x.macrMoves y (s.engPipe e) (s.engWord e) xa ya) (.macr c da db xa ya)
    (c.op = .mac → Gives (.engInstrMacrMac e) s
      (go ((x.setFlag stC (carry40 false (x.accNat c.acc) u)).storeAcc c.acc (x.accInt c.acc + p) c.sat))) ∧
    (c.op = .msu → Gives (.engInstrMacrMsu e) s
      (go ((x.setFlag stC (carry40 true (x.accNat c.acc) u)).storeAcc c.acc (x.accInt c.acc - p) c.sat))) ∧
    (c.op = .mpy → Gives (.engInstrMacrMpy e) s (go (x.storeAcc c.acc p c.sat))) ∧
    (c.op = .mpyn → Gives (.engInstrMacrMpyn e) s (go (x.storeAcc c.acc (-p) c.sat))))

/-- R298, R299, R303, R304, R312: the operations of an engine on 16-bit registers, and its searches: result, Z, N, C and the
sticky SV or CAP of each. -/
def Obligations.EngineRegisterOpsComplete : Prop :=
  (∀ (s : State) (e : Nat) (op : AluOp) (dd ds1 ds2 : Nat) (imm sat : Bool), EngReady s e (.alu op dd ds1 ds2 imm sat) →
    let x := s.eng e
    let d := x.phys (s.engPipe e) dd
    let a := x.named (s.engPipe e) ds1
    let b := if imm then ds2 else x.named (s.engPipe e) ds2
    let k := b % 16
    let go := fun y => s.engRetire e y (.alu op dd ds1 ds2 imm sat)
    let bits := fun v => (x.setReg d v).flags16 v
    let shift := fun v c => let y := (x.setReg d v).flags16 (v % 2 ^ 16); if k = 0 then y else y.setFlag stC c
    (op = .add → Gives (.engInstrAdd e) s (go ((x.store16 d (s16 a + s16 b) sat).setFlag stC (decide (2 ^ 16 ≤ a + b))))) ∧
    (op = .sub → Gives (.engInstrSub e) s (go ((x.store16 d (s16 a - s16 b) sat).setFlag stC (decide (b ≤ a))))) ∧
    (op = .and → Gives (.engInstrAnd e) s (go (bits (a &&& b)))) ∧
    (op = .or → Gives (.engInstrOr e) s (go (bits (a ||| b)))) ∧
    (op = .xor → Gives (.engInstrXor e) s (go (bits (a ^^^ b)))) ∧
    (op = .shl → Gives (.engInstrShl e) s (go (shift (a * 2 ^ k % 2 ^ 16) (hasBit a (16 - k))))) ∧
    (op = .shr → Gives (.engInstrShr e) s (go (shift (a / 2 ^ k) (hasBit a (k - 1))))) ∧
    (op = .asr → Gives (.engInstrAsr e) s (go (shift (mod16 (s16 a / 2 ^ k)) (hasBit a (k - 1))))) ∧
    (op = .cmp → Gives (.engInstrCmp e) s
      (go (((x.setFlag stZ (a == b)).setFlag stN (decide (s16 a < s16 b))).setFlag stC (decide (b ≤ a))))) ∧
    (op = .neg → Gives (.engInstrNeg e) s (go (x.store16 d (-s16 a) sat))) ∧
    (op = .abs → Gives (.engInstrAbs e) s (go (x.store16 d |s16 a| sat)))) ∧
  (∀ (s : State) (e : Nat) (min : Bool) (dm ds ix : Nat) (u last : Bool) (index : Nat) (xa : Option EngAddr),
    EngReady s e (.search min dm ds ix u last index xa) →
    let x := s.eng e
    let v := xa.elim (x.named (s.engPipe e) ds) (fun a => s.engWord e (x.addr a))
    let hit := improves min u last v (x.named (s.engPipe e) dm)
    let y := (xa.elim x (fun a => x.bump x a)).setFlag stCAP hit
    let z := if hit then
      (y.setNamed x (s.engPipe e) dm v).setReg ix (if index = 8 then x.reg rcLC else x.reg (rcP index)) else y
    (min = false → Gives (.engInstrMaxi e) s (s.engRetire e z (.search min dm ds ix u last index xa))) ∧
    (min = true → Gives (.engInstrMini e) s (s.engRetire e z (.search min dm ds ix u last index xa))))

/-- R300–R303, R245, R312: the operations of an engine on its 40-bit accumulators, their exact results stored with or without
saturation, and the words moved out of them. -/
def Obligations.EngineAccumulatorOpsComplete : Prop :=
  (∀ (s : State) (e : Nat) (op : AccOp) (ad as_ dx imm : Nat) (sat : Bool), EngReady s e (.acc op ad as_ dx imm sat) →
    let x := s.eng e
    let a := x.accInt ad
    let b := x.accInt as_
    let d := s16 (x.named (s.engPipe e) dx)
    let go := fun y => s.engRetire e y (.acc op ad as_ dx imm sat)
    (op = .adda → Gives (.engInstrAdda e) s
      (go ((x.setFlag stC (carry40 false (x.accNat ad) (x.accNat as_))).storeAcc ad (a + b) sat))) ∧
    (op = .suba → Gives (.engInstrSuba e) s
      (go ((x.setFlag stC (carry40 true (x.accNat ad) (x.accNat as_))).storeAcc ad (a - b) sat))) ∧
    (op = .nega → Gives (.engInstrNega e) s (go (x.storeAcc ad (-b) sat))) ∧
    (op = .absa → Gives (.engInstrAbsa e) s (go (x.storeAcc ad |b| sat))) ∧
    (op = .clra → Gives (.engInstrClra e) s (go (x.storeAcc ad 0 false))) ∧
    (op = .asra → Gives (.engInstrAsra e) s (go (x.storeAcc ad (b / 2 ^ imm) false))) ∧
    (op = .shla → Gives (.engInstrShla e) s (go (x.storeAcc ad (b * 2 ^ imm) sat))) ∧
    (op = .sata → Gives (.engInstrSata e) s (go (x.storeAcc ad b true))) ∧
    (op = .lda → Gives (.engInstrLda e) s (go (x.storeAcc ad (d * 2 ^ 16) false))) ∧
    (op = .ldal → Gives (.engInstrLdal e) s (go (x.storeAcc ad d false))) ∧
    (op = .cmpa → Gives (.engInstrCmpa e) s (go ((x.setFlag stZ (a == b)).setFlag stN (decide (a < b)))))) ∧
  (∀ (s : State) (e as_ dx part : Nat) (rnd sat : Bool), EngReady s e (.mova as_ dx part rnd sat) →
    let x := s.eng e
    let w := x.part as_ part rnd sat
    Gives (.engInstrMova e) s
      (s.engRetire e ((x.setNamed x (s.engPipe e) dx w.1).raiseFlag stSV w.2) (.mova as_ dx part rnd sat))) ∧
  (∀ (s : State) (e as_ part : Nat) (rnd sat : Bool) (a : EngAddr), EngReady s e (.sta as_ part rnd sat a) →
    let x := s.eng e
    let w := x.part as_ part rnd sat
    Gives (.engInstrSta e) s
      ((((s.setBytes (engData e (x.addr a)) w.1 2).setMark (engData e (x.addr a)) 0)).engRetire e ((x.bump x a).raiseFlag stSV w.2)
        (.sta as_ part rnd sat a)))

/-- R292–R294, R302, R303, R246–R251, R305–R307: the loads, stores, moves and immediates of an engine, its stream instruction, and
its network instructions, whose request enters the network and holds its tag. -/
def Obligations.EngineMovesComplete : Prop :=
  (∀ (s : State) (e dd : Nat) (a : EngAddr), EngReady s e (.ld dd a) →
    let x := s.eng e
    Gives (.engInstrLd e) s
      (s.engRetire e ((x.setNamed x (s.engPipe e) dd (s.engWord e (x.addr a))).bump x a) (.ld dd a))) ∧
  (∀ (s : State) (e ds : Nat) (a : EngAddr), EngReady s e (.st ds a) →
    let x := s.eng e
    Gives (.engInstrSt e) s
      (((s.setBytes (engData e (x.addr a)) (x.named (s.engPipe e) ds) 2).setMark (engData e (x.addr a)) 0).engRetire e (x.bump x a)
        (.st ds a))) ∧
  (∀ (s : State) (e dd1 dd2 : Nat) (a b : EngAddr), EngReady s e (.ld2 dd1 a dd2 b) →
    let x := s.eng e
    Gives (.engInstrLd2 e) s
      (s.engRetire e ((((x.setNamed x (s.engPipe e) dd1 (s.engWord e (x.addr a))).bump x a).setNamed x (s.engPipe e) dd2
        (s.engWord e (x.addr b))).bump x b) (.ld2 dd1 a dd2 b))) ∧
  (∀ (s : State) (e reg imm : Nat), EngReady s e (.ldi reg imm) →
    Gives (.engInstrLdi e) s (s.engRetire e ((s.eng e).setNamed (s.eng e) (s.engPipe e) reg imm) (.ldi reg imm))) ∧
  (∀ (s : State) (e dd ds imm : Nat), EngReady s e (.addi dd ds imm) →
    let x := s.eng e
    let v := (x.named (s.engPipe e) ds + imm) % 2 ^ 16
    Gives (.engInstrAddi e) s
      (s.engRetire e (((x.setNamed x (s.engPipe e) dd v).flags16 v).setFlag stC
        (decide (2 ^ 16 ≤ x.named (s.engPipe e) ds + imm))) (.addi dd ds imm))) ∧
  (∀ (s : State) (e ds imm : Nat), EngReady s e (.cmpi ds imm) →
    let x := s.eng e
    let a := x.named (s.engPipe e) ds
    Gives (.engInstrCmpi e) s
      (s.engRetire e (((x.setFlag stZ (a == imm)).setFlag stN (decide (s16 a < s16 imm))).setFlag stC (decide (imm ≤ a)))
        (.cmpi ds imm))) ∧
  (∀ (s : State) (e dst src : Nat), EngReady s e (.mov dst src) →
    let x := s.eng e
    Gives (.engInstrMov e) s
      (s.engRetire e (x.setNamed x (s.engPipe e) dst (x.named (s.engPipe e) src)) (.mov dst src))) ∧
  (∀ (s : State) (e : Nat) (rd0 rd1 wr0 wr1 : Option Nat), EngReady s e (.stream rd0 rd1 wr0 wr1) →
    let x := s.eng e
    let y := wr0.elim x (fun d => { x with so0 := ⟨x.named (s.engPipe e) d, true, false⟩ })
    let y := wr1.elim y (fun d => { y with so1 := ⟨x.named (s.engPipe e) d, true, false⟩ })
    let y := rd0.elim y (fun d => { y.setNamed x (s.engPipe e) d x.si0.data with si0 := { x.si0 with full := false } })
    let y := rd1.elim y (fun d => { y.setNamed x (s.engPipe e) d x.si1.data with si1 := { x.si1 with full := false } })
    Gives (.engInstrStream e) s (s.engRetire e y (.stream rd0 rd1 wr0 wr1))) ∧
  (∀ (s : State) (e : Nat) (op : NetOp) (desc tag pn lenw : Nat) (dofs : Option Nat),
    EngReady s e (.net op desc tag pn lenw dofs) →
    let q := s.engRequest e op desc tag pn lenw dofs
    let t := (s.niIssue (regionNode (e / 4)) 0 q).1.engRetire e ((s.eng e).takeTag q ((s.eng e).reg (rcP pn)))
      (.net op desc tag pn lenw dofs)
    (op = .nwr → Gives (.engInstrNwr e) s t) ∧
    ((s.niIssue (regionNode (e / 4)) 0 q).2 = true →
      (op = .nrd → Gives (.engInstrNrd e) s t) ∧ (op = .nwrn → Gives (.engInstrNwrn e) s t)) ∧
    ((s.niIssue (regionNode (e / 4)) 0 q).2 = false →
      let w := s.setEng e { s.eng e with st := .stall, wait := 16 }
      (op = .nrd → Gives (.engInstrNrd e) s w) ∧ (op = .nwrn → Gives (.engInstrNwrn e) s w)))

/-- R218, R323–R327, R329, R330, R344, R345: what a router does with the flit at the front of an input channel: it passes a packet on,
discards a flit that fails its check, one out of place and the rest of a packet that it discards, refuses a route that is not valid and
a port in ABSORB, and counts a TMO_NOTE. A flit crosses a link out of a router or an interface, a credit returns, and a link comes up
by the credit handshake: both sides signal INIT first. -/
def Obligations.RouterEventsComplete : Prop :=
  (∀ (s : State) (n p vc : Nat) (f : Flit) (rest : List Flit) (facts : WriteFacts), validPort n p = true → vc < 8 →
    (s.vcIn n p vc).q = f :: rest → f.bad = false → f.fidx = 0 → (s.vcIn n p vc).headDone = false →
    (s.vcIn n p vc).path = none → f.opc ≠ opRsp → f.opc ≠ opRspd → 1 ≤ f.route % 8 → f.route % 8 ≤ 4 →
    portExists n (f.route % 8 - 1) = true → f.hops < 14 → s.absorbing n (f.route % 8 - 1) = false →
    s.on (Reg.RTR_PSTAT_IN_RESET n (f.route % 8 - 1)) = false →
    let g := { f with route := f.route / 8 + arrivalCode p * 2 ^ 39, hops := f.hops + 1 }.seal
    Gives (.routerHeadFlit n p vc facts) s
      (s.setVc n p vc { s.vcIn n p vc with
        q := g :: rest, path := some (.out (f.route % 8 - 1)), headDone := true, hdr := some g, gone := 0 })) ∧
  (∀ (s : State) (n p vc : Nat) (f : Flit) (rest : List Flit) (facts : WriteFacts), validPort n p = true → vc < 8 →
    (s.vcIn n p vc).q = f :: rest → f.bad = true → (f.fidx = 0 ∨ (s.vcIn n p vc).path ≠ some .sink) →
    Gives (.routerHeadFlit n p vc facts) s
      (((s.sinkFront n p vc).count (Reg.RTR_CRCCNT_COUNT n) (Reg.RTR_ERR_CNT_SAT n)).rtrError n 0 p vc 0)) ∧
  (∀ (s : State) (n p vc : Nat) (f : Flit) (rest : List Flit) (facts : WriteFacts), validPort n p = true → vc < 8 →
    (s.vcIn n p vc).q = f :: rest → f.fidx ≠ 0 → (s.vcIn n p vc).path = some .sink →
    Gives (.routerHeadFlit n p vc facts) s (s.sinkFront n p vc)) ∧
  (∀ (s : State) (n p vc : Nat) (f : Flit) (rest : List Flit) (facts : WriteFacts), validPort n p = true → vc < 8 →
    (s.vcIn n p vc).q = f :: rest → f.bad = false → f.fidx ≠ 0 → (s.vcIn n p vc).path = none →
    Gives (.routerHeadFlit n p vc facts) s
      (((s.setVc n p vc (s.vcIn n p vc).pop).count (Reg.RTR_MALFCNT_COUNT n) (Reg.RTR_ERR_CNT_SAT n)).rtrError n 1 p vc f.rid)) ∧
  (∀ (s : State) (n p vc : Nat) (f : Flit) (rest : List Flit) (facts : WriteFacts), validPort n p = true → vc < 8 →
    (s.vcIn n p vc).q = f :: rest → f.bad = false → f.fidx = 0 → (s.vcIn n p vc).headDone = false →
    (s.vcIn n p vc).path = none → f.opc ≠ opRsp → f.opc ≠ opRspd →
    (f.route % 8 = 7 ∨ 14 ≤ f.hops ∨ (1 ≤ f.route % 8 ∧ f.route % 8 ≤ 4 ∧ portExists n (f.route % 8 - 1) = false) ∨
      (f.route % 8 = 0 ∧ f.dst ≠ n)) →
    let g := { f with route := f.route / 8 + arrivalCode p * 2 ^ 39, hops := f.hops + 1 }.seal
    let t := (((s.setVc n p vc { s.vcIn n p vc with path := none }).sinkFront n p vc).count (Reg.RTR_ROUTECNT_COUNT n)
      (Reg.RTR_ERR_CNT_SAT n)).rtrError n 2 p vc f.rid
    Gives (.routerHeadFlit n p vc facts) s (if f.isRequest then t.routerAnswer n g .eArg 0 else t)) ∧
  (∀ (s : State) (n p vc : Nat) (f : Flit) (rest : List Flit) (facts : WriteFacts), validPort n p = true → vc < 8 →
    (s.vcIn n p vc).q = f :: rest → f.bad = false → f.fidx = 0 → (s.vcIn n p vc).headDone = false →
    (s.vcIn n p vc).path = none → f.opc ≠ opRsp → f.opc ≠ opRspd → 1 ≤ f.route % 8 → f.route % 8 ≤ 4 →
    portExists n (f.route % 8 - 1) = true → f.hops < 14 → s.absorbing n (f.route % 8 - 1) = true →
    let g := { f with route := f.route / 8 + arrivalCode p * 2 ^ 39, hops := f.hops + 1 }.seal
    Gives (.routerHeadFlit n p vc facts) s
      (((s.setVc n p vc { s.vcIn n p vc with path := none }).sinkFront n p vc).refuseOut n (f.route % 8 - 1) p vc g)) ∧
  (∀ (s : State) (n p vc : Nat) (f : Flit) (rest : List Flit) (facts : WriteFacts), validPort n p = true → vc < 8 →
    (s.vcIn n p vc).q = f :: rest → f.bad = false → f.fidx = 0 → (s.vcIn n p vc).headDone = false →
    (s.vcIn n p vc).path = none → f.opc = opTmo → f.route % 8 = 0 → portExists n 4 = true → f.hops < 14 → f.dst = n →
    Gives (.routerHeadFlit n p vc facts) s
      (((s.setVc n p vc { s.vcIn n p vc with path := none }).sinkFront n p vc).tmoNote n 4 p vc f.rid)) ∧
  (∀ (s : State) (n p sel i vc idx corrupt : Nat) (aged : Bool) (f : Flit) (rest : List Flit), validPort n p = true → n < 48 →
    p < 6 → s.linkUp n p = true → s.arbitrate n p = some (aged, idx, i, vc) → (s.vcIn n i vc).q = f :: rest →
    let losers := (routerInputs.flatMap (fun j => (List.range 8).map (fun w => (j, w)))).filter
      (fun x => x != (i, vc) && s.mayLeave n x.1 x.2 p)
    let u := losers.foldl (fun u x => u.setVc n x.1 x.2 { u.vcIn n x.1 x.2 with lost := (u.vcIn n x.1 x.2).lost + 1 }) s
    let w := u.setVc n i vc ((u.vcIn n i vc).advance f)
    let t := if i = 8 then w.setVc n i vc { w.vcIn n i vc with owed := 0 } else w
    let e := t.end_ n p
    Gives (.outputPortArbitration n p sel corrupt) s
      (((t.setEnd n p (if aged then { e with lastAged := idx + 1 } else { e with lastNorm := Tbl.put 0 e.lastNorm f.pri (idx + 1)
        })).count (Reg.RTR_PFLITS_COUNT n p) (Reg.RTR_ERR_CNT_SAT n)).sendFlit n p i vc f corrupt)) ∧
  (∀ (s : State) (n j sel corrupt : Nat) (f : Flit) (rest : List Flit), niExists n j = true → s.linkUp n (6 + j) = true → sel < 8 →
    let t := s.hostServe n
    Tbl.get [] (t.ni n j).txq sel = f :: rest → (t.end_ n (6 + j)).credit sel ≠ 0 →
    Gives (.outputPortArbitration n (6 + j) sel corrupt) s
      ((t.setNi n j { t.ni n j with txq := Tbl.put [] (t.ni n j).txq sel rest }).sendFlit n (6 + j) (6 + j) sel f corrupt)) ∧
  (∀ (s : State) (n p vc : Nat), validEnd n p = true → vc < 8 → (s.vcIn n p vc).owed ≠ 0 →
    let t := s.setVc n p vc { s.vcIn n p vc with owed := (s.vcIn n p vc).owed - 1 }
    let e := t.end_ (linkPeer n p).1 (linkPeer n p).2
    Gives (.creditReturn n p vc) s
      (t.setEnd (linkPeer n p).1 (linkPeer n p).2 { e.setCredit vc (min 4 (e.credit vc + 1)) with sent := creditSent e.sent vc })) ∧
  (∀ (s : State) (n p : Nat), validPort n p = true →
    (∀ x ∈ [(n, p), linkPeer n p], s.linkUp x.1 x.2 = false ∧ s.nodeOff x.1 = false ∧
      (x.2 < 6 → s.absorbing x.1 x.2 = false)) →
    ((s.end_ n p).signalled = false ∨ (s.end_ (linkPeer n p).1 (linkPeer n p).2).signalled = false) →
    Gives (.portCreditHandshake n p) s ((s.endInit n p).endInit (linkPeer n p).1 (linkPeer n p).2)) ∧
  (∀ (s : State) (n p : Nat), validPort n p = true →
    (∀ x ∈ [(n, p), linkPeer n p], s.linkUp x.1 x.2 = false ∧ s.nodeOff x.1 = false ∧
      (x.2 < 6 → s.absorbing x.1 x.2 = false) ∧ (s.end_ x.1 x.2).signalled = true) →
    Gives (.portCreditHandshake n p) s ((s.endUp n p).endUp (linkPeer n p).1 (linkPeer n p).2))

/-- R318, R319, R321, R324, R333, R336, R341, R342, R366: an interface issues a read, a write or a posted write, refuses one whose
route entry is not usable, and lets one wait for a tag; it serves reads and writes, delivers a response and a credit notice, and
discards a malformed packet and one with a poisoned flit; a request times out and its tag leaves quarantine; a route entry is
installed or refused. -/
def Obligations.InterfaceEventsComplete : Prop :=
  (∀ (s : State) (n j rid ref entry pri addr len data t : Nat) (toRtr : Bool) (h : Flit), niExists n j = true → entry < 64 →
    pri < 4 → 1 ≤ len → len ≤ 256 → s.entryHead n j entry toRtr opRd pri rid 0 (len - 1) = some h →
    freeTag (s.ni n j).open_ = some t →
    let i := s.ni n j
    let u := s.setNi n j { i with open_ := Tbl.put none i.open_ t (some ⟨ref, { h with tag := t }, 1, .ok, false⟩) }
    Gives (.niRequestIssue n j rid ref opRd entry toRtr pri addr len data) s
      ((u.setFld (Reg.NI_STAT_OUTST n j) (u.fld (Reg.NI_STAT_OUTST n j) + 1)).niSend n j
        (packetFlits { h with tag := t } (addr % 2 ^ 48)))) ∧
  (∀ (s : State) (n j rid ref opc entry pri addr len data t : Nat) (toRtr : Bool) (h : Flit), niExists n j = true → entry < 64 →
    pri < 4 → 1 ≤ len → len ≤ 248 → opc = opWr → s.entryHead n j entry toRtr opc pri rid 0 (len - 1) = some h →
    freeTag (s.ni n j).open_ = some t →
    let i := s.ni n j
    let u := s.setNi n j { i with open_ := Tbl.put none i.open_ t (some ⟨ref, { h with tag := t }, 1, .ok, false⟩) }
    Gives (.niRequestIssue n j rid ref opc entry toRtr pri addr len data) s
      ((u.setFld (Reg.NI_STAT_OUTST n j) (u.fld (Reg.NI_STAT_OUTST n j) + 1)).niSend n j
        (packetFlits { h with tag := t } (requestBody addr (data % 2 ^ (8 * len)))))) ∧
  (∀ (s : State) (n j rid ref opc entry pri addr len data t : Nat) (toRtr : Bool) (h : Flit), niExists n j = true → entry < 64 →
    pri < 4 → 248 < len → len ≤ 256 → opc = opWr → s.entryHead n j entry toRtr opc pri rid 0 247 = some h →
    freeTag (s.ni n j).open_ = some t →
    let i := s.ni n j
    let g := { h with tag := t }
    let u := s.setNi n j { i with open_ := Tbl.put none i.open_ t (some ⟨ref, g, 2, .ok, false⟩) }
    Gives (.niRequestIssue n j rid ref opc entry toRtr pri addr len data) s
      (((u.setFld (Reg.NI_STAT_OUTST n j) (u.fld (Reg.NI_STAT_OUTST n j) + 1)).niSend n j
        (packetFlits g (requestBody addr (data % 2 ^ (8 * 248))))).niSend n j
          (packetFlits { g with blen := len - 248 - 1, nfl := flitsM1 opc (len - 248 - 1) }
            (requestBody (addr + 248) (data / 2 ^ (8 * 248) % 2 ^ (8 * (len - 248))))))) ∧
  (∀ (s : State) (n j rid ref opc entry pri addr len data : Nat) (toRtr : Bool) (h : Flit), niExists n j = true → entry < 64 →
    pri < 4 → 1 ≤ len → len ≤ 248 → opc = opWrp → s.entryHead n j entry toRtr opc pri rid 0 (len - 1) = some h →
    Gives (.niRequestIssue n j rid ref opc entry toRtr pri addr len data) s
      (s.niSend n j (packetFlits h (requestBody addr (data % 2 ^ (8 * len)))))) ∧
  (∀ (s : State) (n j rid ref opc entry pri addr len data : Nat) (toRtr : Bool), niExists n j = true → entry < 64 →
    pri < 4 → 1 ≤ len → len ≤ 256 → (opc = opRd ∨ opc = opWr) → s.on (Reg.NI_RT_VALID n j entry) = false →
    Gives (.niRequestIssue n j rid ref opc entry toRtr pri addr len data) s
      { s.niError n j 5 with net := { (s.niError n j 5).net with
        done := (s.niError n j 5).net.done ++ [⟨n, rid, ref, .eArg, 0⟩] } }) ∧
  (∀ (s : State) (n j rid ref entry pri addr len data : Nat) (toRtr : Bool), niExists n j = true → entry < 64 →
    pri < 4 → 1 ≤ len → len ≤ 256 → s.on (Reg.NI_RT_VALID n j entry) = false →
    Gives (.niRequestIssue n j rid ref opWrp entry toRtr pri addr len data) s (s.niMalf n j)) ∧
  (∀ (s : State) (n j rid ref opc entry pri addr len data : Nat) (toRtr : Bool), niExists n j = true → entry < 64 →
    pri < 4 → 1 ≤ len → len ≤ 256 → (opc = opRd ∨ opc = opWr) → s.on (Reg.NI_RT_VALID n j entry) = true →
    freeTag (s.ni n j).open_ = none →
    Gives (.niRequestIssue n j rid ref opc entry toRtr pri addr len data) s s) ∧
  (∀ (s : State) (n j vc : Nat) (f : Flit) (fs : List Flit) (facts : WriteFacts), niExists n j = true → vc < 8 →
    niFront n (s.vcIn n (6 + j) vc).q = .packet (f :: fs) → (f :: fs).any (·.poison) = false → f.opc = opWr →
    nodeShard n = none → ownCommand n f = false →
    let b := packetBody (f :: fs)
    let u := s.niPop n j vc (fs.length + 1)
    let r := u.unitWrite n j f.rid (b % 2 ^ 48) (f.blen + 1) (b / 2 ^ 64 % 2 ^ (8 * (f.blen + 1))) facts
    (u.linkUp n (6 + j) = true → r.1.linkUp n (6 + j) = true) →
    Gives (.niPacketReceive n j vc facts) s ((r.1.niSend n j (responseFlits n f r.2 0)).hostServe n)) ∧
  (∀ (s : State) (n j vc : Nat) (f : Flit) (fs : List Flit) (facts : WriteFacts), niExists n j = true → vc < 8 →
    niFront n (s.vcIn n (6 + j) vc).q = .packet (f :: fs) → (f :: fs).any (·.poison) = false → f.opc = opWrp →
    nodeShard n = none → ownCommand n f = false →
    let b := packetBody (f :: fs)
    Gives (.niPacketReceive n j vc facts) s
      (((s.niPop n j vc (fs.length + 1)).unitWrite n j f.rid (b % 2 ^ 48) (f.blen + 1)
        (b / 2 ^ 64 % 2 ^ (8 * (f.blen + 1))) facts).1.hostServe n)) ∧
  (∀ (s : State) (n j vc : Nat) (f : Flit) (fs : List Flit) (facts : WriteFacts), niExists n j = true → vc < 8 →
    niFront n (s.vcIn n (6 + j) vc).q = .packet (f :: fs) → (f :: fs).any (·.poison) = true → ownCommand n f = false →
    Gives (.niPacketReceive n j vc facts) s ((s.niPoisoned n j vc (fs.length + 1) f).hostServe n)) ∧
  (∀ (s : State) (n j vc : Nat) (f : Flit) (fs : List Flit) (facts : WriteFacts), niExists n j = true → vc < 8 →
    niFront n (s.vcIn n (6 + j) vc).q = .packet (f :: fs) → (f :: fs).any (·.poison) = false → f.opc = opEvt →
    ownCommand n f = false →
    Gives (.niPacketReceive n j vc facts) s
      (((s.niPop n j vc (fs.length + 1)).creditCome (packetBody (f :: fs))).hostServe n)) ∧
  (∀ (s : State) (n j vc : Nat) (f : Flit) (fs : List Flit) (facts : WriteFacts), niExists n j = true → vc < 8 →
    niFront n (s.vcIn n (6 + j) vc).q = .packet (f :: fs) → (f :: fs).any (·.poison) = false → f.opc = opRd →
    nodeShard n = none → ownCommand n f = false →
    let r := (s.niPop n j vc (fs.length + 1)).unitRead n j f.rid (f.payload % 2 ^ 48) (f.blen + 1)
    Gives (.niPacketReceive n j vc facts) s ((r.1.niSend n j (responseFlits n f r.2.2 r.2.1)).hostServe n)) ∧
  (∀ (s : State) (n j vc : Nat) (f : Flit) (fs : List Flit) (facts : WriteFacts), niExists n j = true → vc < 8 →
    niFront n (s.vcIn n (6 + j) vc).q = .packet (f :: fs) → (f :: fs).any (·.poison) = false → f.opc = opRspd →
    Gives (.niPacketReceive n j vc facts) s
      (((s.niPop n j vc (fs.length + 1)).niResponse n j f.tag (.ofNum f.stat)
        (packetBody (f :: fs) % 2 ^ (8 * (f.blen + 1)))).hostServe n)) ∧
  (∀ (s : State) (n j vc k : Nat) (f : Flit) (facts : WriteFacts), niExists n j = true → vc < 8 →
    niFront n (s.vcIn n (6 + j) vc).q = .malformed k (some f) → f.isRequest = true →
    Gives (.niPacketReceive n j vc facts) s
      (((((s.niPop n j vc k).niMalf n j).niError n j 2).niSend n j (responseFlits n f .eArg 0)).hostServe n)) ∧
  (∀ (s : State) (n j tag : Nat) (x : NiTx), niExists n j = true → Tbl.get none (s.ni n j).open_ tag = some x →
    x.quarantine = false →
    let u := s.niFinish n j tag x .eTmo 0 (some { x with quarantine := true })
    Gives (.niRequestTimeout n j tag) s
      ((((u.count (Reg.NI_TMOCNT_COUNT n j) (Reg.NI_ERR_CNT_SAT n j)).niError n j 0).niSend n j
        [{ x.head with vn := 3, opc := opTmo, nfl := 0, fidx := 0, hops := 0, tag := 0, stat := 0, blen := 0, payload := 0
           }.seal]).hostServe n)) ∧
  (∀ (s : State) (n j tag : Nat) (x : NiTx), niExists n j = true → Tbl.get none (s.ni n j).open_ tag = some x →
    x.quarantine = true →
    Gives (.niTagQuarantineEnd n j tag) s
      (s.setNi n j { s.ni n j with open_ := Tbl.put none (s.ni n j).open_ tag none })) ∧
  (∀ (s : State) (req n j e : Nat) (upper : BitVec 32), niExists n j = true → e < 64 → s.nodeAccess n ≠ .ok →
    Gives (.niRouteEntryWrite req n j e upper) s (s.nodeRefuse req n (Reg.NI_RT n j e + 4) (s.nodeAccess n))) ∧
  (∀ (s : State) (req n j e : Nat) (upper : BitVec 32), niExists n j = true → e < 64 → s.nodeAccess n = .ok →
    let low := (Tbl.get none (s.ni n j).lower e).elim ((s.rd (Reg.NI_RT n j e)).toNat % 2 ^ 32) BitVec.toNat
    let v := low + upper.toNat * 2 ^ 32
    let t := s.setNi n j { s.ni n j with lower := Tbl.put none (s.ni n j).lower e none }
    routeEntryOk n (bitsOf v 0 42) (bitsOf v 42 6) = true →
    Gives (.niRouteEntryWrite req n j e upper) s
      ((((t.setFld (Reg.NI_RT_ROUTE n j e) (bitsOf v 0 42)).setFld (Reg.NI_RT_DST n j e) (bitsOf v 42 6)).setFld
        (Reg.NI_RT_VALID n j e) (bitsOf v 63 1)).niRecord req n j e (Reg.NI_RT n j e + 4) .ok)) ∧
  (∀ (s : State) (req n j e : Nat) (upper : BitVec 32), niExists n j = true → e < 64 → s.nodeAccess n = .ok →
    let low := (Tbl.get none (s.ni n j).lower e).elim ((s.rd (Reg.NI_RT n j e)).toNat % 2 ^ 32) BitVec.toNat
    let v := low + upper.toNat * 2 ^ 32
    routeEntryOk n (bitsOf v 0 42) (bitsOf v 42 6) = false →
    Gives (.niRouteEntryWrite req n j e upper) s
      ((s.setNi n j { s.ni n j with lower := Tbl.put none (s.ni n j).lower e none }).niRecord req n j e
        (Reg.NI_RT n j e + 4) .eArg))

/-- R340, R346–R350: the far side of a crossing resets, RESTORE is accepted and ends, and a fabric port takes a FLOW word, a STRM
packet and the acknowledge of a token. -/
def Obligations.CrossingsAndPortsComplete : Prop :=
  (∀ (s : State) (n p : Nat), validPort n p = true → (portBridged n p || p == 4 || p == 5) = true → (s.end_ n p).live = true →
    (s.end_ (linkPeer n p).1 (linkPeer n p).2).live = false →
    let u := (s.setBit (Reg.RTR_PSTAT_PEER_RESET n p) true).setBit (Reg.RTR_PSTAT_IN_RESET n p) true
    let v := if u.absorbing n p = true then u else u.setFld (Reg.RTR_PSTAT_STATE n p) psDown
    let w := (v.dropRouted n p).cutArriving n p
    let x := w.setEnd n p { w.end_ n p with credits := [], sent := [], holder := [], signalled := false, live := false }
    Gives (.crossingPeerReset n p) s
      ((((v.end_ n p).sent.filter (fun y => y.2.1.isRequest)).foldl (fun z y => z.routerAnswer n y.2.1 .eRst 0) x).rtrError n 6 p
        0 0)) ∧
  (∀ (s : State) (req n p : Nat), validPort n p = true → s.nodeAccess n = .ok → Tbl.get 0 s.net.restores (16 * n + p) = 0 →
    s.on (Reg.RTR_PSTAT_ABS_STATE n p) = false → s.on (Reg.RTR_PSTAT_ABS_TMO n p) = true →
    Gives (.rtrRestore req n p) s
      ({ s with net := { s.net with restores := Tbl.put 0 s.net.restores (16 * n + p) (req + 1) } }.rtrRecord req n
        (Reg.RTR_PCMD n p) .ok)) ∧
  (∀ (s : State) (req n p : Nat), validPort n p = true → s.nodeAccess n = .ok → Tbl.get 0 s.net.restores (16 * n + p) = 0 →
    (s.absorbing n p = false ∨ s.on (Reg.RTR_PSTAT_ABS_STATE n p) = true) →
    Gives (.rtrRestore req n p) s (s.rtrRecord req n (Reg.RTR_PCMD n p) .eState)) ∧
  (∀ (s : State) (req n p : Nat), validPort n p = true → s.nodeAccess n = .ok → Tbl.get 0 s.net.restores (16 * n + p) ≠ 0 →
    Gives (.rtrRestore req n p) s (s.rtrRecord req n (Reg.RTR_PCMD n p) .eBusy)) ∧
  (∀ (s : State) (req n p : Nat), validPort n p = true → s.nodeAccess n ≠ .ok →
    Gives (.rtrRestore req n p) s (s.nodeRefuse req n (Reg.RTR_PCMD n p) (s.nodeAccess n))) ∧
  (∀ (s : State) (n p req : Nat), validPort n p = true → Tbl.get 0 s.net.restores (16 * n + p) = req + 1 →
    s.nodeOff (linkPeer n p).1 = false → ((linkPeer n p).2 < 6 → s.absorbing (linkPeer n p).1 (linkPeer n p).2 = false) →
    s.nodeOff n = false → s.on (Reg.RTR_PSTAT_ABS_STATE n p) = false →
    let t := { s with net := { s.net with restores := Tbl.put 0 s.net.restores (16 * n + p) 0 } }
    let u := (((((t.setBit (Reg.RTR_PSTAT_ABS_TMO n p) false).setFld (Reg.RTR_PSTAT_TMOCNT n p) 0).endInit n p).endInit
      (linkPeer n p).1 (linkPeer n p).2).endUp n p).endUp (linkPeer n p).1 (linkPeer n p).2
    Gives (.rtrRestoreDone n p) s
      (((u.setFld (Reg.RTR_CMDSTAT_CODE n) Code.ok.num).setFld (Reg.RTR_CMDSTAT_REQ n) req).setFld
        (Reg.RTR_CMDSTAT_OFFSET n) (Reg.RTR_PCMD n p - Reg.RTR_ID n))) ∧
  (∀ (s : State) (n p req : Nat), validPort n p = true → Tbl.get 0 s.net.restores (16 * n + p) = req + 1 →
    (s.nodeOff (linkPeer n p).1 = true ∨ ((linkPeer n p).2 < 6 ∧ s.absorbing (linkPeer n p).1 (linkPeer n p).2 = true) ∨
      s.nodeOff n = true ∨ s.on (Reg.RTR_PSTAT_ABS_STATE n p) = true) →
    let t := { s with net := { s.net with restores := Tbl.put 0 s.net.restores (16 * n + p) 0 } }
    Gives (.rtrRestoreDone n p) s
      (((t.setFld (Reg.RTR_CMDSTAT_CODE n) Code.eTmo.num).setFld (Reg.RTR_CMDSTAT_REQ n) req).setFld
        (Reg.RTR_CMDSTAT_OFFSET n) (Reg.RTR_PCMD n p - Reg.RTR_ID n))) ∧
  (∀ (s : State) (r i : Nat), s.fabricOn r = true → i < 8 → s.nipTxMode r i = 2 → (s.nip r i).txack = false →
    s.destValid r 5 i 0 (16 * (s.fld (Reg.NIP_CFG_TXW r i) + 1)) = true → (s.nip r i).tx.length < 4 →
    Gives (.nipFlowTxLatch r i) s
      (((s.setNip r i { s.nip r i with txack := true }).nipSend r i
        (s.destWord r 5 i 0 (16 * (s.fld (Reg.NIP_CFG_TXW r i) + 1))) s.now false).arbTaken r 5 i 0xFF)) ∧
  (∀ (s : State) (r i : Nat), s.fabricOn r = true → i < 8 → s.nipTxMode r i = 2 → (s.nip r i).txack = true →
    s.destNull r 5 i 0 (16 * (s.fld (Reg.NIP_CFG_TXW r i) + 1)) = true →
    Gives (.nipFlowTxLatch r i) s (s.setNip r i { s.nip r i with txack := false })) ∧
  (∀ (s : State) (r vc : Nat) (f : Flit), validRegion r = true →
    niFront (regionNode r) (s.vcIn (regionNode r) 6 vc).q = .packet [f] → f.opc = opStrm → f.poison = true →
    Gives (.nipStrmReceive r vc) s (s.niPoisoned (regionNode r) 0 vc 1 f)) ∧
  (∀ (s : State) (r vc : Nat) (f : Flit), validRegion r = true →
    niFront (regionNode r) (s.vcIn (regionNode r) 6 vc).q = .packet [f] → f.opc = opStrm → f.poison = false →
    s.nipRxMode r (f.stat % 8) = 1 → (s.nip r (f.stat % 8)).rx.length < 8 →
    Gives (.nipStrmReceive r vc) s
      ((s.niPop (regionNode r) 0 vc 1).setNip r (f.stat % 8)
        { s.nip r (f.stat % 8) with rx := (s.nip r (f.stat % 8)).rx ++ [(f.payload, f.stale)] })) ∧
  (∀ (s : State) (r vc : Nat) (f : Flit), validRegion r = true →
    niFront (regionNode r) (s.vcIn (regionNode r) 6 vc).q = .packet [f] → f.opc = opStrm → f.poison = false →
    (s.nipRxMode r (f.stat % 8) = 0 ∨ 8 ≤ (s.nip r (f.stat % 8)).rx.length) →
    Gives (.nipStrmReceive r vc) s ((s.niPop (regionNode r) 0 vc 1).nipDrop r (f.stat % 8) 1)) ∧
  (∀ (s : State) (r i : Nat), s.fabricOn r = true → i < 8 → s.nipRxMode r i = 2 → (s.nip r i).token = true →
    (s.dest r 5 i 513).rail = .one →
    Gives (.nipFlowRxAck r i) s (s.setNip r i { s.nip r i with token := false, rxacked := true })) ∧
  (∀ (s : State) (r i : Nat), s.fabricOn r = true → i < 8 → s.nipRxMode r i = 2 → (s.nip r i).token = false →
    (s.nip r i).rxacked = true → (s.dest r 5 i 513).rail = .null →
    Gives (.nipFlowRxAck r i) s
      ((s.setNip r i { s.nip r i with rxacked := false, rx := (s.nip r i).rx.tail }).nipPresent r i))

/-- R359–R363, R381, R382, R408: a descriptor word is written in DISABLED; each queue command has its effect where its queue's state
and operands allow it, DISABLE with an open packet and data that wait, and RESET over a link word found bad, among them; and each is
refused otherwise. DISABLE closes the open packet as R407 says and counts what waits; that a RESET which meets an uncorrectable link
word leaves the queue BROKEN is read from R408 (log entry 22). -/
def Obligations.QueueCommandsComplete : Prop :=
  (∀ (s : State) (req q w : Nat) (value : BitVec 32), q < 1024 → w < 4 → s.qstate q = qDisabled →
    let a := Reg.QM_QDESC0 (q / 256) (q % 256) + 4 * w
    Gives (.queueDescWrite req q w value) s
      ((s.wr a (BitVec.ofNat 64 value.toNat &&&
        BitVec.ofNat 64 ([0x3FFF7FF7, 0xFFFFFFFF, 0xFFF7FFFF, 0xFFFFFFFF].getD w 0))).queueRecord req q a 0 .ok)) ∧
  (∀ (s : State) (req q w : Nat) (value : BitVec 32), q < 1024 → w < 4 → s.qstate q ≠ qDisabled →
    Gives (.queueDescWrite req q w value) s
      (s.queueRecord req q (Reg.QM_QDESC0 (q / 256) (q % 256) + 4 * w) 0 .eState)) ∧
  (∀ (s : State) (req q : Nat), q < 1024 → s.qstate q = qDisabled → s.enableCode q = .ok →
    Gives (.queueEnable req q) s
      ((((s.setQfld q Reg.QM_QSTAT_STATE qActive).setCapCredit q { s.capCredit q with
        sent := (s.setQfld q Reg.QM_QSTAT_STATE qActive).qfld q Reg.QM_QRXCNT_COUNT }).unpark (q / 256)).queueRecord req q
          (Reg.QM_QCMD (q / 256) (q % 256)) 1 .ok)) ∧
  (∀ (s : State) (req q : Nat), q < 1024 → s.qstate q = qDisabled → s.enableCode q ≠ .ok →
    Gives (.queueEnable req q) s (s.queueRecord req q (Reg.QM_QCMD (q / 256) (q % 256)) 1 (s.enableCode q))) ∧
  (∀ (s : State) (req q : Nat), q < 1024 → s.qstate q = qActive → (s.closePacket q true).qstate q ≠ qBroken →
    Gives (.queueDisable req q) s
      ((((((s.closePacket q true).discardWait q).setQfld q Reg.QM_QSTAT_STATE qDisabled).setQbit q Reg.QM_QSTAT_EXH
        false).poolChanged (q / 256)).unpark (q / 256) |>.queueRecord req q (Reg.QM_QCMD (q / 256) (q % 256)) 2 .ok)) ∧
  (∀ (s : State) (req q : Nat), q < 1024 → s.qstate q = qActive → (s.closePacket q true).qstate q = qBroken →
    Gives (.queueDisable req q) s
      (((s.closePacket q true).unpark (q / 256)).queueRecord req q (Reg.QM_QCMD (q / 256) (q % 256)) 2 .ok)) ∧
  (∀ (s : State) (req q : Nat), q < 1024 → s.qstate q ≠ qActive →
    Gives (.queueDisable req q) s (s.queueRecord req q (Reg.QM_QCMD (q / 256) (q % 256)) 2 .eState)) ∧
  (∀ (s : State) (req q : Nat) (n : BitVec 15), q < 1024 → s.qstate q ≠ qBroken → n.toNat ≠ 0 → n.toNat ≤ 16384 →
    s.qfld q Reg.QM_QRP_POS + n.toNat ≤ s.qfld q Reg.QM_QCOMMIT_POS →
    Gives (.queueCmdRead req q n) s
      (((s.setQfld q Reg.QM_QRP_POS (s.qfld q Reg.QM_QRP_POS + n.toNat)).unpark (q / 256)).queueRecord req q
        (Reg.QM_QCMD (q / 256) (q % 256)) 3 .ok)) ∧
  (∀ (s : State) (req q : Nat) (n : BitVec 15), q < 1024 → s.qstate q ≠ qBroken →
    n.toNat = 0 ∨ 16384 < n.toNat ∨ s.qfld q Reg.QM_QCOMMIT_POS < s.qfld q Reg.QM_QRP_POS + n.toNat →
    Gives (.queueCmdRead req q n) s (s.queueRecord req q (Reg.QM_QCMD (q / 256) (q % 256)) 3 .eArg)) ∧
  (∀ (s : State) (req q : Nat), q < 1024 → s.qstate q ≠ qBroken →
    Gives (.queueCmdMark req q) s
      ((((s.setQfld q Reg.QM_QMARK_POS (s.qfld q Reg.QM_QRP_POS)).setQbit q Reg.QM_QSTAT_MARKV true).unpark (q / 256)).queueRecord
        req q (Reg.QM_QCMD (q / 256) (q % 256)) 4 .ok)) ∧
  (∀ (s : State) (req q : Nat), q < 1024 → s.qstate q ≠ qBroken → s.qon q Reg.QM_QSTAT_MARKV = true →
    Gives (.queueRewind req q) s
      (((s.setQfld q Reg.QM_QRP_POS (s.qfld q Reg.QM_QMARK_POS)).unpark (q / 256)).queueRecord req q
        (Reg.QM_QCMD (q / 256) (q % 256)) 5 .ok)) ∧
  (∀ (s : State) (req q : Nat), q < 1024 → s.qstate q ≠ qBroken →
    let t := s.setQfld q Reg.QM_QREL_POS (s.qfld q Reg.QM_QRP_POS)
    Gives (.queueReleaseToReadPoint req q) s
      ((((if t.qfld q Reg.QM_QMARK_POS < s.qfld q Reg.QM_QRP_POS then t.setQbit q Reg.QM_QSTAT_MARKV false else t).freeReleased
        q).unpark (q / 256)).queueRecord req q (Reg.QM_QCMD (q / 256) (q % 256)) 6 .ok)) ∧
  (∀ (s : State) (req q : Nat), q < 1024 → s.qstate q ≠ qBroken → s.qon q Reg.QM_QSTAT_MARKV = true →
    Gives (.queueReleaseToMark req q) s
      ((((s.setQfld q Reg.QM_QREL_POS (s.qfld q Reg.QM_QMARK_POS)).freeReleased q).unpark (q / 256)).queueRecord req q
        (Reg.QM_QCMD (q / 256) (q % 256)) 6 .ok)) ∧
  (∀ (s : State) (req q : Nat), q < 1024 → s.qstate q ≠ qBroken →
    let c := s.qfld q Reg.QM_QCOMMIT_POS
    Gives (.queueFlush req q) s
      ((((((s.setQfld q Reg.QM_QRP_POS c).setQfld q Reg.QM_QREL_POS c).setQbit q Reg.QM_QSTAT_MARKV false).freeReleased
        q).unpark (q / 256)).queueRecord req q (Reg.QM_QCMD (q / 256) (q % 256)) 7 .ok)) ∧
  (∀ (s : State) (req q : Nat) (n : BitVec 15), q < 1024 → s.qstate q = qBroken → ∀ p ∈ ([(.queueEnable req q, 1), (.queueCmdRead req q n, 3),
      (.queueCmdMark req q, 4), (.queueRewind req q, 5), (.queueReleaseToReadPoint req q, 6), (.queueReleaseToMark req q, 6),
      (.queueFlush req q, 7)] : List (Instr × Nat)),
    Gives p.1 s (s.queueRecord req q (Reg.QM_QCMD (q / 256) (q % 256)) p.2 .eState)) ∧
  (∀ (s : State) (req q : Nat), q < 1024 → s.qon q Reg.QM_QSTAT_MARKV = false →
    ∀ p ∈ ([(.queueRewind req q, 5), (.queueReleaseToMark req q, 6)] : List (Instr × Nat)),
    Gives p.1 s (s.queueRecord req q (Reg.QM_QCMD (q / 256) (q % 256)) p.2 .eState)) ∧
  (∀ (s : State) (req q : Nat), q < 1024 → s.qstate q = qActive →
    Gives (.queueEnable req q) s (s.queueRecord req q (Reg.QM_QCMD (q / 256) (q % 256)) 1 .eState)) ∧
  (∀ (s : State) (req q good : Nat), q < 1024 → s.qstate q = qActive →
    Gives (.queueReset req q good) s (s.queueRecord req q (Reg.QM_QCMD (q / 256) (q % 256)) 8 .eState)) ∧
  (∀ (s : State) (req q good : Nat), q < 1024 → s.qstate q = qDisabled →
    let c := s.checkLinks q ((s.queue q).cells.map (·.1))
    Gives (.queueReset req q good) s
      (((if c.2 then c.1 else c.1.resetQueue q good false).unpark (q / 256)).queueRecord req q
        (Reg.QM_QCMD (q / 256) (q % 256)) 8 .ok)) ∧
  (∀ (s : State) (req q good : Nat), q < 1024 → s.qstate q = qBroken →
    Gives (.queueReset req q good) s
      ((((s.resetQueue q good true).startReclaim (q / 256)).unpark (q / 256)).queueRecord req q
        (Reg.QM_QCMD (q / 256) (q % 256)) 8 .ok))

/-- R365, R366, R368, R376, R377, R383–R386, R404, R405, R411: a segment and an append arrive, with what refuses them (format, producer,
state, credit, poison); a notice is posted, lost and consumed; credit is granted; a read port answers, or the read waits for a page;
the store's aperture is read page by page, zero where no page can be; and a waiting interval of an exhausted queue passes. Which
bounds the limit of a credit notice keeps is R366's; that it never falls is the model's reading (log entry 22). -/
def Obligations.QueueDataComplete : Prop :=
  (∀ (s : State) (h vc d : Nat) (f : Flit) (fs : List Flit), h < 4 →
    niFront (shardNode h) (s.vcIn (shardNode h) 6 vc).q = .packet (f :: fs) → f.opc = opCap →
    (f :: fs).any (·.poison) = false →
    let t := s.niPop (shardNode h) 0 vc (fs.length + 1)
    let b := packetBody (f :: fs)
    let q := bitsOf b 0 10
    f.blen = 7 + d → d ≠ 0 → d ≤ 248 → bitsOf b 13 3 = 0 → hasBit b 12 = false → (hasBit b 11 || d % 8 == 0) = true →
    q / 256 = h → f.rid = t.qfld q Reg.QM_QDESC0_PROD → t.qstate q = qActive →
    Gives (.capSegmentReceive h vc) s
      (let u := t.setQfld q Reg.QM_QRXCNT_COUNT (t.qfld q Reg.QM_QRXCNT_COUNT + (d + 7) / 8)
       (if t.qfld q Reg.QM_QLIMIT_LIMIT < t.qfld q Reg.QM_QRXCNT_COUNT + (d + 7) / 8 then u.queueDrop q true
        else u.queueIn q (.data (hasBit b 10) (hasBit b 11) f.stale (bitsOf b 32 32) d (b / 2 ^ 64 % 2 ^ (8 * d)))).unpark h)) ∧
  (∀ (s : State) (h vc : Nat) (f : Flit) (fs : List Flit), h < 4 →
    niFront (shardNode h) (s.vcIn (shardNode h) 6 vc).q = .packet (f :: fs) → f.opc = opCap →
    (f :: fs).any (·.poison) = false →
    let t := s.niPop (shardNode h) 0 vc (fs.length + 1)
    let b := packetBody (f :: fs)
    let q := bitsOf b 0 10
    f.blen = 7 → bitsOf b 10 2 = 0 → hasBit b 12 = true → bitsOf b 13 3 = 0 → q / 256 = h →
    f.rid = t.qfld q Reg.QM_QDESC0_PROD → t.qstate q = qActive → t.qfld q Reg.QM_QRXCNT_COUNT ≤ t.qfld q Reg.QM_QLIMIT_LIMIT →
    Gives (.capSegmentReceive h vc) s
      (((t.setQfld q Reg.QM_QRXCNT_COUNT (t.qfld q Reg.QM_QRXCNT_COUNT)).queueIn q
        (.marker (bitsOf b 16 16) (bitsOf b 32 32))).unpark h)) ∧
  (∀ (s : State) (h vc : Nat) (f : Flit) (fs : List Flit), h < 4 →
    niFront (shardNode h) (s.vcIn (shardNode h) 6 vc).q = .packet (f :: fs) → f.opc = opCap →
    (f :: fs).any (·.poison) = false →
    let t := s.niPop (shardNode h) 0 vc (fs.length + 1)
    let b := packetBody (f :: fs)
    let q := bitsOf b 0 10
    (q / 256 ≠ h ∨ f.blen < 7 ∨ 255 < f.blen ∨ bitsOf b 13 3 ≠ 0 ∨ (hasBit b 12 = false ∧ f.blen = 7) ∨
      (hasBit b 12 = false ∧ hasBit b 11 = false ∧ (f.blen - 7) % 8 ≠ 0) ∨ (hasBit b 12 = true ∧ 7 < f.blen) ∨
      (hasBit b 12 = true ∧ (hasBit b 10 = true ∨ hasBit b 11 = true))) →
    Gives (.capSegmentReceive h vc) s ((t.srcBad h q).unpark h)) ∧
  (∀ (s : State) (h vc d : Nat) (f : Flit) (fs : List Flit), h < 4 →
    niFront (shardNode h) (s.vcIn (shardNode h) 6 vc).q = .packet (f :: fs) → f.opc = opCap →
    (f :: fs).any (·.poison) = false →
    let t := s.niPop (shardNode h) 0 vc (fs.length + 1)
    let b := packetBody (f :: fs)
    let q := bitsOf b 0 10
    f.blen = 7 + d → d ≠ 0 → d ≤ 248 → bitsOf b 13 3 = 0 → hasBit b 12 = false → (hasBit b 11 || d % 8 == 0) = true →
    q / 256 = h → (f.rid = t.qfld q Reg.QM_QDESC0_PROD → t.qstate q ≠ qActive) →
    Gives (.capSegmentReceive h vc) s
      ((if f.rid = t.qfld q Reg.QM_QDESC0_PROD then t.refuseSegment q (hasBit b 10) d else t.queueDrop q true).unpark h)) ∧
  (∀ (s : State) (h vc : Nat) (f : Flit) (fs : List Flit), h < 4 →
    niFront (shardNode h) (s.vcIn (shardNode h) 6 vc).q = .packet (f :: fs) → (f :: fs).any (·.poison) = true →
    (f.opc = opCap → Gives (.capSegmentReceive h vc) s (s.niPoisoned (shardNode h) 0 vc (fs.length + 1) f)) ∧
    (f.opc = opWr → 0x100000 ≤ packetBody (f :: fs) % 2 ^ 48 → packetBody (f :: fs) % 2 ^ 48 < 0x200000 →
      Gives (.queueAppend h vc) s (s.niPoisoned (shardNode h) 0 vc (fs.length + 1) f))) ∧
  (∀ (s : State) (h vc : Nat) (f : Flit) (fs : List Flit), h < 4 →
    niFront (shardNode h) (s.vcIn (shardNode h) 6 vc).q = .packet (f :: fs) → f.opc = opWr →
    (f :: fs).any (·.poison) = false →
    let b := packetBody (f :: fs)
    let a := b % 2 ^ 48
    0x100000 ≤ a → a < 0x200000 →
    let d := f.blen + 1
    let r := (s.niPop (shardNode h) 0 vc (fs.length + 1)).appendTo (256 * h + (a - 0x100000) / 0x1000) f.rid (hasBit a 11)
      f.stale d (b / 2 ^ 64 % 2 ^ (8 * d))
    Gives (.queueAppend h vc) s ((r.1.unpark h).niSend (shardNode h) 0 (responseFlits (shardNode h) f r.2 0))) ∧
  (∀ (s : State) (q : Nat) (m : Notice) (l : List Notice), (s.queue q).notes = m :: l →
    let h := q / 256
    let prod := s.fld (Reg.QM_NPROD_COUNT h)
    (prod + 2 ^ 32 - s.fld (Reg.QM_NCONS_COUNT h)) % 2 ^ 32 ≠ 4096 →
    let t := (s.setQueue q { s.queue q with notes := l }).setBytes (0x220000 + 0x40000 * h + prod % 4096 * 0x10)
      (m.w0 + (m.w1 + bit (s.shard h).gap * 2 ^ 12) * 2 ^ 32 + m.w2 * 2 ^ 64 + m.w3 * 2 ^ 96) 16
    Gives (.noticePost q) s
      ((t.setShard h { t.shard h with gap := false }).setFld (Reg.QM_NPROD_COUNT h) ((prod + 1) % 2 ^ 32))) ∧
  (∀ (s : State) (q : Nat) (m : Notice) (l : List Notice), (s.queue q).notes = m :: l →
    let h := q / 256
    (s.fld (Reg.QM_NPROD_COUNT h) + 2 ^ 32 - s.fld (Reg.QM_NCONS_COUNT h)) % 2 ^ 32 = 4096 →
    let t := ((s.setQueue q { s.queue q with notes := l }).count (Reg.QM_NLOST_COUNT h) (Reg.QM_ERR_CNT_SAT h)).qmErr h 2
      (some q)
    Gives (.noticePost q) s (t.setShard h { t.shard h with gap := true })) ∧
  (∀ (s : State) (q limit : Nat), q < 1024 → s.qstate q = qActive → s.qfld q Reg.QM_QLIMIT_LIMIT ≤ limit →
    limit ≤ max (s.qfld q Reg.QM_QLIMIT_LIMIT) (s.creditMax q) →
    let t := s.setQfld q Reg.QM_QLIMIT_LIMIT limit
    Gives (.creditNoticeSend q limit) s
      (t.niPost (shardNode (q / 256)) 0 (t.qfld q Reg.QM_QDESC0_CROUTE) opEvt 3 (0xB0 + q / 256) 0 0 false 63
        (creditNotice q limit))) ∧
  (∀ (s : State) (req h : Nat) (value : BitVec 32), h < 4 →
    let prod := s.fld (Reg.QM_NPROD_COUNT h)
    let old := s.fld (Reg.QM_NCONS_COUNT h)
    ((value.toNat + 2 ^ 32 - old) % 2 ^ 32 ≤ (prod + 2 ^ 32 - old) % 2 ^ 32 →
      Gives (.noticeConsWrite req h value) s
        ((s.setFld (Reg.QM_NCONS_COUNT h) value.toNat).shardRecord req h (Reg.QM_NCONS h) .ok)) ∧
    ((prod + 2 ^ 32 - old) % 2 ^ 32 < (value.toNat + 2 ^ 32 - old) % 2 ^ 32 →
      Gives (.noticeConsWrite req h value) s (s.shardRecord req h (Reg.QM_NCONS h) .eArg))) ∧
  (∀ (s : State) (req q off n : Nat), q < 1024 → off + n ≤ 0x100000 →
    (s.shard (q / 256)).parked.any (fun p => p.req == req) = false →
    let rp := s.qfld q Reg.QM_QRP_POS
    s.qstate q ≠ qBroken → s.onChip q (portWords rp off n ++ portTags rp off n) = true →
    let r := s.readPort q rp off n
    Gives (.queueReadPortRead req q off n) s
      ((if r.2.2 = .ok then r.1.emit (.readData req (readPortAddr q off) r.2.1)
        else r.1.respond req (readPortAddr q off) r.2.2).unpark (q / 256))) ∧
  (∀ (s : State) (req q off n : Nat), q < 1024 → off + n ≤ 0x100000 →
    (s.shard (q / 256)).parked.any (fun p => p.req == req) = false → s.qstate q = qBroken →
    Gives (.queueReadPortRead req q off n) s ((s.respond req (readPortAddr q off) .eEcc).unpark (q / 256))) ∧
  (∀ (s : State) (req q off n : Nat), q < 1024 → off + n ≤ 0x100000 →
    let rp := s.qfld q Reg.QM_QRP_POS
    let x := s.shard (q / 256)
    (x.parked.any (fun p => p.req == req) = true ∨
      (s.qstate q ≠ qBroken ∧ s.onChip q (portWords rp off n ++ portTags rp off n) = false)) →
    Gives (.queueReadPortRead req q off n) s
      ((s.setShard (q / 256) { x with parked := x.parked ++ [⟨req, none, q, rp, off, n⟩] }).unpark (q / 256))) ∧
  (∀ (s : State) (req a n h : Nat), a + n ≤ 2 ^ 35 → n ≠ 0 → s.on (Reg.QM_APCTL_EN 0) = true →
    let page := s.fld (Reg.QM_APCTL_BASE 0) * 2 ^ 23 + a / 4096
    s.pageShard page = some h → s.pageUsable h page = true →
    Gives (.storeApertureRead req a n) s (s.storeIssue h (.aperture req a n 0 0 none) page .rdpg (pageAddr page) 0)) ∧
  (∀ (s : State) (req a n : Nat), a + n ≤ 2 ^ 35 → a % 4096 + n ≤ 4096 → s.on (Reg.QM_APCTL_EN 0) = false →
    Gives (.storeApertureRead req a n) s (s.emit (.readData req a 0))) ∧
  (∀ (s : State) (req a n : Nat), a + n ≤ 2 ^ 35 → n ≠ 0 → a % 4096 + n ≤ 4096 →
    let page := s.fld (Reg.QM_APCTL_BASE 0) * 2 ^ 23 + a / 4096
    (s.pageShard page = none ∨ ∃ h, s.pageShard page = some h ∧ s.pageUsable h page = false) →
    Gives (.storeApertureRead req a n) s (s.emit (.readData req a 0))) ∧
  (∀ (s : State) (q : Nat), q < 1024 → s.qon q Reg.QM_QSTAT_EXH = true →
    Gives (.exhaustWaitInterval q) s (s.qcount q Reg.QM_QWAITCNT_COUNT))

/-- R367, R374, R389–R393, R396–R403, R408–R410: a group of cells goes to a page of the store, and back; a page whose record is bad breaks
its queue; store transactions are tried again; a shard's range is set, or refused; cells are reclaimed; and a fabric capture port takes,
sends and reads words. What a free value gives NEXT of a page that has no successor yet is the model's (log entry 2). -/
def Obligations.StoreAndCaptureComplete : Prop :=
  (∀ (s : State) (q first page : Nat) (bad rest : List Bool), q < 1024 → s.pageAvailable q = true → s.spillGroup q = some first →
    let h := q / 256
    let c := s.checkLinks q ((List.range 16).map (first + ·))
    c.2 = false → (c.1.spillPage q bad).2 = (some page, rest) →
    let a := (c.1.spillPage q bad).1.allocPage h rest
    let t := (if a.2.1.isSome then a.1 else a.1.tookFree).readGroup q first
    let u := t.setQueue q { t.queue q with succ := a.2.1, spill := some ⟨page, first, []⟩ }
    Gives (.spillGroupStart q bad) s
      ((u.storeIssue h (.spill q 0) page .wrpg (pageAddr page) (u.pageData q first 64)).writeRecord h (.spill q ·) page
        (linkRecord (a.2.1.getD (a.1.freeBits 33).toNat + q * 2 ^ 64 + (t.queue q).serial % 2 ^ 32 * 2 ^ 96 +
          u.pageTags q first 64 * 2 ^ 128)))) ∧
  (∀ (s : State) (q first : Nat) (bad : List Bool), q < 1024 → s.pageAvailable q = true → s.spillGroup q = some first →
    let c := s.checkLinks q ((List.range 16).map (first + ·))
    (c.2 = true → Gives (.spillGroupStart q bad) s (c.1.unpark (q / 256))) ∧
    (c.2 = false → (c.1.spillPage q bad).2.1 = none → Gives (.spillGroupStart q bad) s (c.1.spillPage q bad).1)) ∧
  (∀ (s : State) (q : Nat) (j : QJob), (s.queue q).spill = some j →
    (Tbl.find? j.done 0).isSome = true → (Tbl.find? j.done 1).isSome = true → (Tbl.find? j.done 2).isSome = true →
    let x := s.queue q
    Gives (.spillPageDone q) s
      (((s.setQueue q { x with
        spill := none, cells := x.cells.filter (fun c => !(decide (j.first ≤ c.1) && decide (c.1 < j.first + 16)))
        pages := x.pages ++ [⟨j.page, j.first, s.badWords q j.first⟩], serial := x.serial + 1 }).freeReleased q).unpark
          (q / 256))) ∧
  (∀ (s : State) (q : Nat) (p : QPage), q < 1024 → s.qstate q ≠ qBroken → s.refillWanted q = some p →
    let h := q / 256
    Gives (.refillStart q) s
      ((((s.setQueue q { s.queue q with refill := some ⟨p.page, p.first, []⟩ }).storeIssue h (.refill q 0) p.page .rdpg
        (pageAddr p.page) 0).storeIssue h (.refill q 1) p.page .rd64 (recordAddr p.page 0) 0).storeIssue h (.refill q 2) p.page
          .rd64 (recordAddr p.page 1) 0)) ∧
  (∀ (s t : State) (q data lo hi : Nat) (j : QJob), (s.queue q).refill = some j → Tbl.find? j.done 0 = some (some data) →
    Tbl.find? j.done 1 = some (some lo) → Tbl.find? j.done 2 = some (some hi) →
    let record := lo % 2 ^ 512 + hi * 2 ^ 512
    recordOk record = true → s.takeGroup q j.first 16 = some t →
    let u := t.placePage q j.first data (record / 2 ^ 128 % 2 ^ 640) 64
    let x := u.queue q
    Gives (.refillDone q) s
      (((((u.setQueue q { x with refill := none, pages := x.pages.filter (fun p => p.page != j.page) }).markBad q j.first
        ((x.pages.filter (fun p => p.page == j.page)).flatMap (·.bad))).freePage (q / 256) j.page).freeReleased q).unpark
          (q / 256))) ∧
  (∀ (s : State) (q data lo hi : Nat) (j : QJob), (s.queue q).refill = some j → Tbl.find? j.done 0 = some (some data) →
    Tbl.find? j.done 1 = some (some lo) → Tbl.find? j.done 2 = some (some hi) →
    recordOk (lo % 2 ^ 512 + hi * 2 ^ 512) = false → Gives (.refillDone q) s (s.refillLost q)) ∧
  (∀ (s : State) (t : StoreTx), s.store = [t] → t.stage = .delay →
    Gives (.storeRetry t.id) s { s with store := [{ t with stage := .waiting, lane := s.pageLane t.shard t.page }] }) ∧
  (∀ (s : State) (req h : Nat) (count : Bool) (value : BitVec 64), h < 4 → s.pagesUsed h ≠ 0 →
    Gives (.pageRangeWrite req h count value) s
      (s.shardRecord req h (if count then Reg.QM_PGCNT h else Reg.QM_PGBASE h) .eState)) ∧
  (∀ (s : State) (req h : Nat) (value : BitVec 64), h < 4 → s.pagesUsed h = 0 → s.fld (Reg.QM_PGCNT_COUNT h) = 0 →
    let base := value.toNat % 2 ^ 33
    let t := (((s.setFld (Reg.QM_PGBASE_PAGE h) base).setFld (Reg.QM_PGCNT_COUNT h) 0).setFld (Reg.QM_PGNEXT_PAGE h) base)
    let u := t.setShard h { t.shard h with freePages := [] }
    Gives (.pageRangeWrite req h false value) s
      (({ u with queues := u.queues.map (fun e => if e.1 / 256 = h then (e.1, { e.2 with succ := none }) else e) } : State).shardRecord
        req h (Reg.QM_PGBASE h) .ok)) ∧
  (∀ (s : State) (req h : Nat) (value : BitVec 64), h < 4 → s.pagesUsed h = 0 →
    2 ^ 33 < s.fld (Reg.QM_PGBASE_PAGE h) + value.toNat % 2 ^ 34 →
    Gives (.pageRangeWrite req h true value) s (s.shardRecord req h (Reg.QM_PGCNT h) .eArg)) ∧
  (∀ (s : State) (req h : Nat), h < 4 → (s.shard h).reclaim = none →
    Gives (.qmReclaim req h) s (((s.startReclaim h).unpark h).shardRecord req h (Reg.QM_CMD h) .ok)) ∧
  (∀ (s : State) (req h : Nat) (l : List Nat), h < 4 → (s.shard h).reclaim = some l →
    Gives (.qmReclaim req h) s (s.shardRecord req h (Reg.QM_CMD h) .eBusy)) ∧
  (∀ (s : State) (h : Nat) (l : List Nat), (s.shard h).reclaim = some l →
    Gives (.qmReclaimDone h) s
      ((((s.setShard h { s.shard h with reclaim := none }).setBit (Reg.QM_POOL_RECL_BUSY h) false).poolChanged h).unpark h)) ∧
  (∀ (s : State) (r i : Nat), s.fabricOn r = true → i < 8 → s.cqpWMode r i = 2 → 2 ≤ s.fld (Reg.REG_STATUS_PAVANE r) →
    (s.cqp r i).wack = false → s.destValid r 6 i 0 68 = true → (s.cqp r i).words < 32 →
    let w := s.cqpSlots r i
    let t := s.cqpPut r i w.1 w.2.1 w.2.2 false
    Gives (.cqpFlowWriteLatch r i) s ((t.setCqp r i { t.cqp r i with wack := true }).arbTaken r 6 i 0xFF)) ∧
  (∀ (s : State) (r i code tick : Nat) (l : List CapItem), validRegion r = true → i < 8 → s.cqpWMode r i ≠ 0 →
    (s.cqp r i).wbuf = .marker code tick :: l → (s.capCredit (s.fld (Reg.CQP_CFG_WQ r i))).resync = false →
    let q := s.fld (Reg.CQP_CFG_WQ r i)
    let t := s.niPost (regionNode r) 0 (56 + q / 256) opCap capturePri (0x20 + r) 0 0 false 7
      (capHeader q false false true code tick)
    Gives (.cqpSegmentSend r i) s (t.setCqp r i { t.cqp r i with wbuf := l, idle := (s.cqp r i).idle - 1 })) ∧
  (∀ (s t : State) (r i : Nat) (rest : List CapItem), validRegion r = true → i < 8 → s.cqpWMode r i ≠ 0 →
    let q := s.fld (Reg.CQP_CFG_WQ r i)
    let x := s.cqp r i
    s.sendSegment (regionNode r) (56 + q / 256) capturePri (0x20 + r) q x.wbuf false = (t, rest) → rest.length < x.wbuf.length →
    Gives (.cqpSegmentSend r i) s
      (t.setCqp r i { t.cqp r i with wbuf := rest, idle := x.idle - (x.wbuf.length - rest.length) })) ∧
  (∀ (s : State) (r i : Nat), validRegion r = true → i < 8 → s.cqpReads r i ≠ 0 → (s.cqp r i).cmds = [] →
    (s.cqp r i).pair = none → (s.cqp r i).rbuf.length < 4 →
    let q := s.fld (Reg.CQP_CFG_RQ r i)
    let k := (s.cqp r i).rbuf.length
    let base := 0x10000000 + q % 256 * 0x100000
    let a := s.niIssue (regionNode r) 0 ⟨0x20 + r, 2 * i, opRd, 56 + q / 256, false, capturePri, base + 0x80000 + 8 * k, 8, 0⟩
    let b := a.1.niIssue (regionNode r) 0 ⟨0x20 + r, 2 * i + 1, opRd, 56 + q / 256, false, capturePri, base + 64 * k, 64, 0⟩
    Gives (.cqpReadPairIssue r i) s
      (if a.2 && b.2 then b.1.setCqp r i { s.cqp r i with pair := some ⟨none, none, false⟩ } else s)) ∧
  (∀ (s : State) (r i tag : Nat) (d : NetDone), validRegion r = true → i < 8 → s.net.done = [d] →
    d.node = regionNode r → d.rid = 0x20 + r → d.ref = 2 * i + 1 → d.code = .ok →
    (s.cqp r i).pair = some ⟨some tag, none, false⟩ → hasBit tag 10 = true →
    let t := { s with net := { s.net with done := [] } }
    Gives (.cqpReadPairResponse r i) s
      ((t.setCqp r i { s.cqp r i with pair := none, rbuf := (s.cqp r i).rbuf ++ [(d.data, tag % 2 ^ 10, false)] }).cqpPresent
        r i)) ∧
  (∀ (s : State) (r i : Nat), s.fabricOn r = true → i < 8 → s.cqpReads r i = 2 → (s.cqp r i).token = true →
    (s.dest r 6 i 69).rail = .one →
    Gives (.cqpFlowReadAck r i) s (s.setCqp r i { s.cqp r i with token := false, racked := true })) ∧
  (∀ (s : State) (r i : Nat), s.fabricOn r = true → i < 8 → s.cqpReads r i = 2 → (s.cqp r i).token = false →
    (s.cqp r i).racked = true → (s.dest r 6 i 69).rail = .null →
    let t := s.setCqp r i { s.cqp r i with racked := false, rbuf := (s.cqp r i).rbuf.tail }
    Gives (.cqpFlowReadAck r i) s ((t.cqpTaken r i).cqpPresent r i))

/-- R418, R421, R425, R427, R428, R430, R433, R435, R437: a lane is enabled and disabled, or refuses it, or keeps it while the self-test
controller holds the lane; its supply comes on; and the port of a lane goes through WAIT, TRAIN and LOCK to UP, times out, and leaves UP
for each of its causes. What level precoding starts from is a free value (log entry 2). -/
def Obligations.LaneTrainingCompletes : Prop :=
  (∀ (s : State) (req n : Nat) (value : BitVec 32), n < 128 → s.laneRole n ≠ 0 →
    let v := withBit value.toNat 0
    hasBit v 0 = true → bitsOf v 8 8 ≠ 0 → (s.portHead n = n → s.dofsTooShort (n / 8) = false) →
    let t := s.wr (Reg.LN_CTL n) (BitVec.ofNat 64 (v % 2 ^ 16 / 2 * 2 % 2 ^ 4 + bitsOf v 8 8 * 2 ^ 8 +
      bit (s.on (Reg.LN_CTL_EN n))))
    (t.on (Reg.LN_STATUS_ST_HOLD n) = false →
      Gives (.laneEnSet req n value) s ((t.laneEnable n true).laneRecord req n (Reg.LN_CTL n) 0 .ok)) ∧
    (t.on (Reg.LN_STATUS_ST_HOLD n) = true →
      Gives (.laneEnSet req n value) s
        ((t.setLane n { t.lane n with enPend := some true }).laneRecord req n (Reg.LN_CTL n) 0 .ok))) ∧
  (∀ (s : State) (req n : Nat) (value : BitVec 32), n < 128 → hasBit (withBit value.toNat 0) 0 = true →
    (s.laneRole n = 0 → Gives (.laneEnSet req n value) s (s.laneRecord req n (Reg.LN_CTL n) 0 .eState)) ∧
    (s.laneRole n ≠ 0 → (bitsOf (withBit value.toNat 0) 8 8 = 0 ∨ (s.portHead n = n ∧ s.dofsTooShort (n / 8) = true)) →
      Gives (.laneEnSet req n value) s (s.laneRecord req n (Reg.LN_CTL n) 0 .eArg))) ∧
  (∀ (s : State) (req n : Nat) (value : BitVec 32) (mid : Bool), n < 128 →
    let v := withoutBit value.toNat 0
    hasBit v 0 = false → bitsOf v 8 8 ≠ 0 →
    let t := s.wr (Reg.LN_CTL n) (BitVec.ofNat 64 (v % 2 ^ 16 / 2 * 2 % 2 ^ 4 + bitsOf v 8 8 * 2 ^ 8 +
      bit (s.on (Reg.LN_CTL_EN n))))
    (t.on (Reg.LN_STATUS_ST_HOLD n) = false →
      Gives (.laneEnClear req n value mid) s ((t.laneEnable n false mid).laneRecord req n (Reg.LN_CTL n) 0 .ok)) ∧
    (t.on (Reg.LN_STATUS_ST_HOLD n) = true →
      Gives (.laneEnClear req n value mid) s
        ((t.setLane n { t.lane n with enPend := some false }).laneRecord req n (Reg.LN_CTL n) 0 .ok))) ∧
  (∀ (s : State) (req n : Nat) (value : BitVec 32) (mid : Bool), n < 128 → hasBit (withoutBit value.toNat 0) 0 = false →
    bitsOf (withoutBit value.toNat 0) 8 8 = 0 →
    Gives (.laneEnClear req n value mid) s (s.laneRecord req n (Reg.LN_CTL n) 0 .eArg)) ∧
  (∀ (s : State) (n : Nat), n < 128 → s.laneState n = lnPwrup →
    let t := s.setLaneState n (if (s.lane n).loop.isSome then lnLoop else s.restState n)
    Gives (.lanePwrupDone n) s (t.portEnable (t.portHead n))) ∧
  (∀ (s : State) (n : Nat), n < 128 → s.laneState n = lnWait → s.portHeld (s.portHead n) = false →
    Gives (.laneTrainingFramesSeen n) s ((s.enterTrain (s.portHead n)).setBit (Reg.LN_STATUS_SIGDET n) true)) ∧
  (∀ (s : State) (n : Nat) (eq : List (Nat × Nat × Nat × Bool)), n < 128 →
    (∀ k ∈ s.portLanes (s.portHead n), s.laneState k = lnTrain) →
    let h := s.portHead n
    let t := s.setPort h lnLock
    let u := (t.portLanes h).foldl (fun s m => s.laneData m) (t.setLink h { t.link h with txCount := 0 })
    Gives (.laneTrainDone n eq) s
      (eq.foldl (fun t e => if (u.portLanes h).contains e.1 then t.trained e.1 e.2.1 e.2.2.1 e.2.2.2 else t) u)) ∧
  (∀ (s : State) (n : Nat) (skew : List (Nat × Nat)), n < 128 →
    let h := s.portHead n
    (∀ k ∈ s.portLanes h, s.laneState k = lnLock ∧ 4 ≤ (s.lane k).good) → s.aligned h = true → (∀ e ∈ skew, e.2 ≤ 200) →
    let t := (s.portLanes h).foldl (fun s m => s.laneUp h m) (s.setPort h lnUp)
    Gives (.laneLockDone n skew) s
      ((skew.foldl (fun u e => if (t.portLanes h).contains e.1 then u.setFld (Reg.LN_STATUS_SKEW e.1) e.2 else u) t).linkEnter
        h)) ∧
  (∀ (s : State) (n : Nat), n < 128 → s.laneState n = lnTrain ∨ s.laneState n = lnLock →
    let h := s.portHead n
    let t := s.setPort h lnWait
    Gives (.laneTrainingTimeout n) s
      ((s.portLanes h).foldl (fun s m => (s.laneCount m Reg.LN_TRNFAIL_COUNT 1).laneErr m 1) t)) ∧
  (∀ (s : State) (n : Nat) (mid : Bool), n < 128 → s.laneState n = lnUp →
    (let t := s.setBit (Reg.LN_STATUS_SIGDET n) false
     Gives (.laneDown n 0 mid) s (t.portDepart (t.portHead n) false mid)) ∧
    (8 ≤ (s.lane n).fails → Gives (.laneDown n 1 mid) s (s.portDepart (s.portHead n) false mid)) ∧
    (let t := s.laneErr n 4
     Gives (.laneDown n 2 mid) s (t.portDepart (t.portHead n) false mid)) ∧
    Gives (.laneDown n 3 mid) s (s.portDepart (s.portHead n) false mid)) ∧
  (∀ (s : State) (n ppm : Nat) (mid : Bool), n < 128 → s.laneState n = lnUp → 10 < ppm →
    let t := s.laneErr n 3
    Gives (.laneFreqCheck n ppm mid) s (t.portDepart (s.portHead n) false mid))

/-- R413–R418, R420, R423, R424, R428, R433–R436, R438, R455: codewords are received, decoded and counted, and their blocks go to the
hub; the commands of a lane do what its state allows, and are refused otherwise; an eye measurement ends; and the group registers are
written. The arithmetic of the code is that of IEEE 802.3, Clauses 91 and 120, where the spec names it so (log entry 55). -/
def Obligations.LaneCommandsComplete : Prop :=
  (∀ (s : State) (n message parity : Nat) (mid : Bool), n < 128 →
    let w := lineReceive (s.rxMode n) (s.lane n).rxLevel (codewordLevels message parity)
    let r := decodeBlocks w.1
    let blocks := (r.map (·.1)).getD []
    let t := (s.setLane n { s.lane n with rxLevel := w.2, cw := s.codewordNumber n blocks }).codeword n ((r.map (·.2)).getD 16)
    let bad := (blocks.filter (fun b => blockKind b == .reserved)).length
    let u := if bad = 0 then t else (t.laneCount n Reg.LN_CTLBAD_COUNT bad).laneErr n 5
    let got := if r.isSome then blocks.map hubBlock else List.replicate 20 .errored
    let h := s.portHead n
    let up := u.setLane n { u.lane n with rxBlocks := (u.lane n).rxBlocks ++ got }
    let v := up.mergeBlocks h ((up.lane n).rxBlocks.length)
    let y := v.link h
    let z := v.setLink h { y with ue := y.ue + 1 }
    (s.laneState n = lnLock → Gives (.codewordReceive n message parity mid) s (u.setLane n { u.lane n with rxBlocks := got })) ∧
    (s.laneState n = lnUp → r.isSome = true → Gives (.codewordReceive n message parity mid) s v) ∧
    (s.laneState n = lnUp → r.isSome = false → y.ue < 12 → Gives (.codewordReceive n message parity mid) s z) ∧
    (s.laneState n = lnUp → r.isSome = false → 12 ≤ y.ue →
      Gives (.codewordReceive n message parity mid) s ((z.linkErr h idlLeak 0).portDepart h true mid))) ∧
  (∀ (s : State) (req n : Nat) (mid : Bool), n < 128 → s.on (Reg.LN_STATUS_ST_HOLD n) = false → s.laneState n = lnUp →
    Gives (.laneRetrain req n mid) s ((s.portDepart (s.portHead n) true mid).laneRecord req n (Reg.LN_CMD n) 1 .ok)) ∧
  (∀ (s : State) (req n : Nat) (mid : Bool), n < 128 → s.on (Reg.LN_STATUS_ST_HOLD n) = false →
    s.laneState n = lnWait ∨ s.laneState n = lnTrain ∨ s.laneState n = lnLock →
    Gives (.laneRetrain req n mid) s ((s.enterTrain (s.portHead n)).laneRecord req n (Reg.LN_CMD n) 1 .ok)) ∧
  (∀ (s : State) (req n : Nat), n < 128 → s.on (Reg.LN_STATUS_ST_HOLD n) = false → s.laneState n = lnDisabled →
    Gives (.laneLoopNear req n) s ((s.loopEnter n).laneRecord req n (Reg.LN_CMD n) 2 .ok)) ∧
  (∀ (s : State) (req n : Nat), n < 128 → s.on (Reg.LN_STATUS_ST_HOLD n) = false → s.laneState n = lnOff →
    Gives (.laneLoopNear req n) s ((s.loopEnter n).laneRecord req n (Reg.LN_CMD n) 2 .ok)) ∧
  (∀ (s : State) (req n : Nat), n < 128 → s.on (Reg.LN_STATUS_ST_HOLD n) = false → s.laneState n = lnDisabled →
    Gives (.lanePrbsTx req n) s ((s.loopEnter n).laneRecord req n (Reg.LN_CMD n) 3 .ok)) ∧
  (∀ (s : State) (req n : Nat), n < 128 → s.on (Reg.LN_STATUS_ST_HOLD n) = false → s.laneState n = lnLoop →
    Gives (.laneLoopExit req n) s ((s.loopExit n).laneRecord req n (Reg.LN_CMD n) 4 .ok)) ∧
  (∀ (s : State) (req n : Nat), n < 128 → s.on (Reg.LN_STATUS_ST_HOLD n) = false → s.laneState n = lnUp →
    (s.on (Reg.LN_EYESTAT_BUSY n) = false →
      Gives (.laneEyeStart req n) s
        (((s.setBit (Reg.LN_EYESTAT_BUSY n) true).setFld (Reg.LN_EYESTAT_MISCNT n) 0).laneRecord req n (Reg.LN_CMD n) 5 .ok)) ∧
    (s.on (Reg.LN_EYESTAT_BUSY n) = true →
      Gives (.laneEyeStart req n) s (s.laneRecord req n (Reg.LN_CMD n) 5 .eBusy)) ∧
    Gives (.laneEyeAbort req n) s ((s.eyeAbort n).laneRecord req n (Reg.LN_CMD n) 6 .ok)) ∧
  (∀ (s : State) (req n : Nat) (mid : Bool), n < 128 → s.on (Reg.LN_STATUS_ST_HOLD n) = true →
    ∀ p ∈ ([(.laneRetrain req n mid, 1), (.laneLoopNear req n, 2), (.lanePrbsTx req n, 3), (.laneLoopExit req n, 4),
      (.laneEyeStart req n, 5), (.laneEyeAbort req n, 6)] : List (Instr × Nat)),
    Gives p.1 s (s.laneRecord req n (Reg.LN_CMD n) p.2 .eBusy)) ∧
  (∀ (s : State) (req n : Nat) (mid : Bool), n < 128 → s.on (Reg.LN_STATUS_ST_HOLD n) = false → s.laneState n = lnOff →
    ∀ p ∈ ([(.laneRetrain req n mid, 1), (.lanePrbsTx req n, 3), (.laneLoopExit req n, 4), (.laneEyeStart req n, 5),
      (.laneEyeAbort req n, 6)] : List (Instr × Nat)),
    Gives p.1 s (s.laneRecord req n (Reg.LN_CMD n) p.2 .eState)) ∧
  (∀ (s : State) (n count : Nat), n < 128 → s.on (Reg.LN_EYESTAT_BUSY n) = true → s.laneState n = lnUp →
    Gives (.laneEyeDone n count) s
      (((s.setFld (Reg.LN_EYESTAT_MISCNT n) (min count 0xFFFFFF)).setBit (Reg.LN_EYESTAT_BUSY n) false).setBit
        (Reg.LN_EYESTAT_DONE n) true)) ∧
  (∀ (s : State) (n count : Nat), n < 128 → s.on (Reg.LN_EYESTAT_BUSY n) = true → s.laneState n ≠ lnUp →
    Gives (.laneEyeDone n count) s (s.eyeAbort n)) ∧
  (∀ (s : State) (req g : Nat) (value : BitVec 32), g < 16 →
    (∀ i < 8, s.laneState (8 * g + i) = lnOff ∨ s.laneState (8 * g + i) = lnDisabled) →
    Gives (.laneGroupConfigWrite req g 0 value) s ((s.setFld (Reg.LG_CFG_RATE g) (value.toNat % 2)).groupRecord req g 0 .ok)) ∧
  (∀ (s : State) (req g : Nat) (value : BitVec 32), g < 16 →
    groupOk (value.toNat % 2 ^ 16) (s.fld (Reg.LG_BOND_WIDTH g)) (s.fld (Reg.LG_PEER_PP g)) (s.otherPeers g) = true →
    (∀ i < 8, s.laneState (8 * g + i) = lnOff ∨ s.laneState (8 * g + i) = lnDisabled) →
    Gives (.laneGroupConfigWrite req g 4 value) s
      ((((s.setFld (Reg.LG_ROLE_ROLE g) (value.toNat % 2 ^ 16)).groupPower g).groupEnable g).groupRecord req g 4 .ok)) ∧
  (∀ (s : State) (req g : Nat) (value : BitVec 32), g < 16 →
    groupOk (s.fld (Reg.LG_ROLE_ROLE g)) (value.toNat % 2 ^ 16) (s.fld (Reg.LG_PEER_PP g)) (s.otherPeers g) = true →
    (∀ i < 8, s.laneState (8 * g + i) = lnOff ∨ s.laneState (8 * g + i) = lnDisabled) →
    Gives (.laneGroupConfigWrite req g 8 value) s
      (((s.setFld (Reg.LG_BOND_WIDTH g) (value.toNat % 2 ^ 16)).groupEnable g).groupRecord req g 8 .ok)) ∧
  (∀ (s : State) (req g : Nat) (value : BitVec 32), g < 16 →
    groupOk (s.fld (Reg.LG_ROLE_ROLE g)) (s.fld (Reg.LG_BOND_WIDTH g)) (value.toNat % 2 ^ 24) (s.otherPeers g) = true →
    (∀ i < 8, s.laneState (8 * g + i) = lnOff ∨ s.laneState (8 * g + i) = lnDisabled) →
    Gives (.laneGroupConfigWrite req g 0xC value) s
      ((s.setFld (Reg.LG_PEER_PP g) (value.toNat % 2 ^ 24)).groupRecord req g 0xC .ok)) ∧
  (∀ (s : State) (req g : Nat) (value : BitVec 32), g < 16 →
    groupOk (s.fld (Reg.LG_ROLE_ROLE g)) (value.toNat % 2 ^ 16) (s.fld (Reg.LG_PEER_PP g)) (s.otherPeers g) = false →
    Gives (.laneGroupConfigWrite req g 8 value) s (s.groupRecord req g 8 .eArg)) ∧
  (∀ (s : State) (req g i : Nat) (value : BitVec 32), g < 16 → i ∈ s.groupChanges g 0 value.toNat →
    s.laneState (8 * g + i) ≠ lnOff → s.laneState (8 * g + i) ≠ lnDisabled →
    Gives (.laneGroupConfigWrite req g 0 value) s (s.groupRecord req g 0 .eState)) ∧
  (∀ (s : State) (req g : Nat) (value : BitVec 32), g < 16 → s.on Reg.TICK_CTL_RUN = false →
    Gives (.laneDofsWrite req g value) s
      ((s.setFld (Reg.LG_DOFS_D g) (value.toNat % 2 ^ 16)).groupRecord req g 0x10 .ok)) ∧
  (∀ (s : State) (req g : Nat) (value : BitVec 32), g < 16 → s.on Reg.TICK_CTL_RUN = true →
    Gives (.laneDofsWrite req g value) s (s.groupRecord req g 0x10 .eState)) ∧
  (∀ (s : State) (req n : Nat), n < 128 → Gives (.laneCntclr req n) s ((s.laneCntclr n).respond req (Reg.LN_CNTCLR n) .ok)) ∧
  (∀ (s : State) (n errors : Nat) (lock : Bool), n < 128 → s.laneState n = lnLoop →
    Gives (.prbsCheckerLock n errors lock) s
      ((if s.on (Reg.LN_STATUS_PRBS_LOCK n) then s.laneCount n Reg.LN_PRBSERR_COUNT errors else s).setBit
        (Reg.LN_STATUS_PRBS_LOCK n) lock))

/-- R439–R447, R450, R452–R454, R457, R458, R478, R479, R481: a link takes the next packet of its byte stream, accepts it or rejects it
for each of its faults, and delivers it at its tick; it searches in HUNT; it sends packets and credit as blocks once 64 codewords have
gone; and DRIVE packets close or are discarded. How far HUNT moves after a bad header is the model's reading (log entry 24). -/
def Obligations.LinkEventsComplete : Prop :=
  (∀ (s : State) (n : Nat), s.linkSync n = true →
    let u := skipFill (s.link n).rx (s.link n).rxPos
    let t := s.setRx n u
    let past := t.setRx n (dropByte u.1 u.2)
    (∀ (len v : Nat) (errored cut room : Bool), s.nextIs n len v errored cut room = false →
      Gives (.idlisPacketReceive n len v errored cut room) s t) ∧
    (∀ (len v : Nat) (errored cut room : Bool), gather u.1 u.2 16 = none →
      Gives (.idlisPacketReceive n len v errored cut room) s t) ∧
    (∀ (g : Gather), gather u.1 u.2 16 = some g →
      let p : LinkPkt := ⟨16, g.v⟩
      (g.errored = true → Gives (.idlisPacketReceive n 16 g.v g.errored g.cut g.room) s ((past.linkReject n cntFecDisc idlFecDisc 0).hunt n)) ∧
      (g.errored = false → g.cut = true →
        Gives (.idlisPacketReceive n 16 g.v g.errored g.cut g.room) s ((t.setRx n (g.rest, g.pos)).linkReject n cntFrame idlFrame 0)) ∧
      (g.errored = false → g.cut = false → hcrcOk p = false →
        Gives (.idlisPacketReceive n 16 g.v g.errored g.cut g.room) s ((past.linkReject n cntHcrc idlHcrc 0).hunt n)) ∧
      (g.errored = false → g.cut = false → hcrcOk p = true → p.lenOk = false →
        Gives (.idlisPacketReceive n 16 g.v g.errored g.cut g.room) s ((past.linkReject n cntMalf idlMalf (256 + p.type)).hunt n)) ∧
      (∀ (len v : Nat) (errored cut room : Bool), g.errored = false → g.cut = false → hcrcOk p = true → p.lenOk = true →
        gather u.1 u.2 p.total = none → Gives (.idlisPacketReceive n len v errored cut room) s t))) ∧
  (∀ (s : State) (n : Nat) (g w : Gather), s.linkSync n = true →
    let u := skipFill (s.link n).rx (s.link n).rxPos
    let r := (s.setRx n u).setRx n (w.rest, w.pos)
    let q : LinkPkt := ⟨LinkPkt.total ⟨16, g.v⟩, w.v⟩
    gather u.1 u.2 16 = some g → g.errored = false → g.cut = false → hcrcOk ⟨16, g.v⟩ = true → LinkPkt.lenOk ⟨16, g.v⟩ = true →
    gather u.1 u.2 (LinkPkt.total ⟨16, g.v⟩) = some w →
    (w.errored = true → Gives (.idlisPacketReceive n q.len w.v w.errored w.cut w.room) s (r.linkReject n cntFecDisc idlFecDisc (256 + q.type))) ∧
    (w.errored = false → w.cut = true → Gives (.idlisPacketReceive n q.len w.v w.errored w.cut w.room) s (r.linkReject n cntFrame idlFrame (256 + q.type))) ∧
    (w.errored = false → w.cut = false → typeAllowed (r.laneRole n) q.type = false →
      Gives (.idlisPacketReceive n q.len w.v w.errored w.cut w.room) s (r.linkReject n cntType idlType (256 + q.type))) ∧
    (w.errored = false → w.cut = false → typeAllowed (r.laneRole n) q.type = true → isControl q.type = true → q.plen ≠ 0 →
      Gives (.idlisPacketReceive n q.len w.v w.errored w.cut w.room) s (r.linkReject n cntMalf idlMalf (256 + q.type))) ∧
    (w.errored = false → w.cut = false → typeAllowed (r.laneRole n) q.type = true → (isControl q.type = true → q.plen = 0) →
      let room := w.room || (LinkPkt.type ⟨16, g.v⟩ == typCredit && packetAlone u.1 u.2)
      (room = false → Gives (.idlisPacketReceive n q.len w.v w.errored w.cut w.room) s ((r.linkReject n cntOvf idlCredOvf (256 + q.type)).hunt n)) ∧
      (room = true → isControl q.type = false → trailerOk q = false →
        Gives (.idlisPacketReceive n q.len w.v w.errored w.cut w.room) s (r.linkReject n cntCrc idlCrc (256 + q.type))) ∧
      (room = true → (isControl q.type = false → trailerOk q = true) → fieldsOk q (r.laneRole n == rolePeer) = true →
        (isStamped q.type = true → (r.link n).lastStamp.elim false (fun l => stampBack l q.stamp) = false ∧
          r.classify n q.stamp ≠ .future) →
        Gives (.idlisPacketReceive n q.len w.v w.errored w.cut w.room) s (r.linkAccept n q)))) ∧
  (∀ (s : State) (n : Nat), s.linkUpAt n = true → s.inSync n = false → Gives (.idlisResync n) s (s.linkHunt n)) ∧
  (∀ (s : State) (n d : Nat) (p : LinkPkt), n < 128 → (s.link n).held = [(d, p)] → s.tickCome d = true →
    let t := s.setLink n { s.link n with held := [] }
    Gives (.idlisDelivery n) s
      (if p.type = typBeacon then t.beaconArrives n p
       else t.setLink n { t.link n with ready := (t.link n).ready ++ [.pkt d p] })) ∧
  (∀ (s : State) (n : Nat) (pause : Option Nat) (p : LinkPkt) (l : List LinkPkt), s.linkUpAt n = true →
    let t := s.linkPause n pause
    let x := t.link n
    x.txq = p :: l → t.expired n p = false → t.creditCovers n (txBlocks x.txPos p.len) = true → 64 ≤ t.codewordsSent n →
    let u := (t.setLink n { x with txq := l }).sendBytes n p
    Gives (.idlisPacketTransmit n pause) s
      ((u.setFld (Reg.LN_CRED_SENT_SENT n) (u.fld (Reg.LN_CRED_SENT_SENT n) + txBlocks x.txPos p.len)).emit
        (.linkSend n p.len p.v))) ∧
  (∀ (s : State) (n : Nat) (pause : Option Nat), s.linkUpAt n = true →
    let t := s.linkPause n pause
    ((t.link n).txq = [] ∨ t.codewordsSent n < 64 ∨ ∃ p l, (t.link n).txq = p :: l ∧
      (t.expired n p = true ∨ t.creditCovers n (txBlocks (t.link n).txPos p.len) = false)) →
    Gives (.idlisPacketTransmit n pause) s t) ∧
  (∀ (s : State) (n : Nat) (p : LinkPkt), s.linkSync n = true → s.nextPkt n = some p → p.type = typCredit →
    Gives (.idlisCreditReceive n p.stamp) s (s.linkParse n)) ∧
  (∀ (s : State) (n : Nat), s.linkUpAt n = true →
    let t := s.sendFill n
    (t.codewordsSent n < 64 → Gives (.idlisCreditSend n) s t) ∧
    (64 ≤ t.codewordsSent n →
      let l := t.limitNow n
      let u := (t.setLink n { t.link n with limit := l, credited := some l }).setFld (Reg.LN_CRED_GRANT_LIMIT n) l
      let v := u.setFld (Reg.LN_CRED_SENT_SENT n) (u.fld (Reg.LN_CRED_SENT_SENT n) + 1)
      let p := controlPkt typCredit false (t.ownSdev n) (l % 2 ^ 32)
      Gives (.idlisCreditSend n) s ((v.sendBlock n (dataBlock p.v)).emit (.linkSend n p.len p.v)))) ∧
  (∀ (s : State) (n : Nat) (d : DriveOpen), n < 128 → (s.link n).drive = some d →
    s.tickCome ((d.last + s.driveStep n + s.fld (Reg.LN_PIN_CFG2_FGAP n)) % 2 ^ 64) = true →
    Gives (.drivePacketGapClose n) s
      ((s.setLink n { s.link n with drive := none }).linkQueue n (dataPkt typDrive d.stale 0
        (d.first % 2 ^ 32 + s.dofs n * 2 ^ 32 + (s.frameLen n - 1) * 2 ^ 48 + (d.frames.length - 1) * 2 ^ 56 +
          s.fld (Reg.LN_PIN_CFG_STEP n) * 2 ^ 64)
        (s.frameLen n * d.frames.length) (packFrames (s.frameLen n) d.frames)))) ∧
  (∀ (s : State) (n : Nat) (p : LinkPkt), n < 128 → (s.link n).txq = [p] → s.expired n p = true →
    Gives (.driveDeadlineDiscard n) s
      ((s.setLink n { s.link n with txq := [] }).linkReject n cntDrvLate idlDrvLate (256 + p.type))) ∧
  (∀ (s : State) (req n : Nat), n < 128 → s.portHead n = n →
    Gives (.idlisCntclr req n) s
      ((((List.range 16).foldl (fun s k => s.setFld (Reg.LN_IDLCNT_COUNT n k) 0) s).wr (Reg.LN_IDL_ERR n) 0).laneRecord req n
        (Reg.LN_IDL_CNTCLR n) 0 .ok))

/-- R456, R460–R468: a frame for a PIN lane arrives, what a PIN lane captured is forwarded or given up, and a store transaction is
sent, waits or ends at once, is completed as its request says, times out and isolates its link, which is restored. -/
def Obligations.PinAndStoreLinksComplete : Prop :=
  (∀ (s : State) (g vc : Nat) (f : Flit), g < 16 → niFront (hubNode g) (s.vcIn (hubNode g) 6 vc).q = .packet [f] →
    f.opc = opStrm → f.poison = false →
    let h := 8 * g + f.stat % 8
    let t := s.niPop (hubNode g) 0 vc 1
    s.laneRole h = rolePin → s.on (Reg.LN_PIN_CFG_DRV_EN h) = true → s.linkUpAt h = true →
    Gives (.driveFrameArrival g vc) s
      (t.driveFrame h (t.fullTick f.tag) f.stale (f.payload % 2 ^ (8 * s.frameLen h)))) ∧
  (∀ (s : State) (g vc : Nat) (f : Flit), g < 16 → niFront (hubNode g) (s.vcIn (hubNode g) 6 vc).q = .packet [f] →
    f.opc = opStrm → f.poison = true → Gives (.driveFrameArrival g vc) s (s.niPoisoned (hubNode g) 0 vc 1 f)) ∧
  (∀ (s : State) (g vc : Nat) (f : Flit), g < 16 → niFront (hubNode g) (s.vcIn (hubNode g) 6 vc).q = .packet [f] →
    f.opc = opStrm → f.poison = false →
    let h := 8 * g + f.stat % 8
    s.linkUpAt h = false ∨ s.laneRole h ≠ rolePin ∨ s.on (Reg.LN_PIN_CFG_DRV_EN h) = false →
    Gives (.driveFrameArrival g vc) s ((s.niPop (hubNode g) 0 vc 1).linkCount (8 * g + f.stat % 8) cntDrvDisc)) ∧
  (∀ (s : State) (n : Nat), s.isHead n rolePin = true → Gives (.captureDelivery n) s (s.captureForward n)) ∧
  (∀ (s : State) (n d : Nat) (p : LinkPkt), s.isHead n rolePin = true → s.fld (Reg.LN_PIN_CFG2_CWAIT n) ≠ 0 →
    s.frontPkt n typCapture = some (d, p) →
    let t := s.linkReject n cntCapDrop idlCapDrop (256 + typCapture)
    Gives (.captureCreditWaitTimeout n) s ((t.setLink n { t.link n with cap := [] }).popReady n)) ∧
  (∀ (s : State) (t : StoreTx) (k : Nat), s.storeTx t.id = some t → t.stage = .waiting → s.isHead t.lane roleStore = true →
    s.linkUpAt t.lane = true → s.on (Reg.LN_STO_STAT_ISO t.lane) = false → (s.storeSent t.lane).any (storeOverlap t) = false →
    s.freeStoreTag t.lane = some k →
    Gives (.storeRequestSend t.id) s
      ((({ s with store := s.store.map (fun (u : StoreTx) => if u.id = t.id then { u with stage := .sent k } else u) } :
        State).linkQueue t.lane (linkPkt t.op.type false 0 (t.addr % 2 ^ 48 + k * 2 ^ 48)
          (if t.op.reads then 0 else t.op.bytes) t.data)))) ∧
  (∀ (s : State) (t : StoreTx), s.storeTx t.id = some t → t.stage = .waiting → s.linkUpAt t.lane = false →
    Gives (.storeRequestSend t.id) s (s.storeResult t .eRst 0)) ∧
  (∀ (s : State) (t : StoreTx), s.storeTx t.id = some t → t.stage = .waiting → s.isHead t.lane roleStore = true →
    s.linkUpAt t.lane = true → s.on (Reg.LN_STO_STAT_ISO t.lane) = true →
    Gives (.storeRequestSend t.id) s (s.storeResult t .eIso 0)) ∧
  (∀ (s : State) (t : StoreTx), s.storeTx t.id = some t → t.stage = .waiting → s.isHead t.lane roleStore = true →
    s.linkUpAt t.lane = true → s.on (Reg.LN_STO_STAT_ISO t.lane) = false →
    ((s.storeSent t.lane).any (storeOverlap t) = true ∨ s.freeStoreTag t.lane = none) → Gives (.storeRequestSend t.id) s s) ∧
  (∀ (s : State) (n tag status : Nat) (t : StoreTx) (data : Option (Nat × Nat)), s.storeByTag n tag = some t →
    completionOk t status data = true →
    s.storeCompletion n tag status data =
      (if status = 0 then s.setLink n { s.link n with stoFails := 0 } else s).storeResult t (.ofNum status)
        ((data.map (·.2)).getD 0)) ∧
  (∀ (s : State) (n tag status : Nat) (data : Option (Nat × Nat)), s.storeByTag n tag = none →
    s.storeCompletion n tag status data =
      if (s.link n).stoQuar.contains tag then s.linkCount n cntStoLate
      else s.linkReject n cntStray idlStray (256 + if data.isSome then typCpld else typCpl)) ∧
  (∀ (s : State) (n : Nat) (p : LinkPkt), s.isHead n roleStore = true → s.linkSync n = true → s.nextPkt n = some p →
    p.type = typCpl ∨ p.type = typCpld →
    Gives (.storeCompletionReceive n p.storeTag p.storeStatus p.body) s (s.linkParse n)) ∧
  (∀ (s : State) (n tag : Nat) (t : StoreTx), s.isHead n roleStore = true → s.storeByTag n tag = some t →
    let x := s.link n
    let u := (s.setLink n { x with stoFails := x.stoFails + 1, stoQuar := tag :: x.stoQuar }).linkReject n cntStoTmo idlStoTmo 0
    x.stoFails + 1 < u.fld (Reg.LN_STO_CTL_LIM n) →
    Gives (.storeTransactionTimeout n tag) s (u.storeResult t .eTmo 0)) ∧
  (∀ (s : State) (n tag : Nat) (t : StoreTx), s.isHead n roleStore = true → s.storeByTag n tag = some t →
    let x := s.link n
    let u := (s.setLink n { x with stoFails := x.stoFails + 1, stoQuar := tag :: x.stoQuar }).linkReject n cntStoTmo idlStoTmo 0
    u.fld (Reg.LN_STO_CTL_LIM n) ≤ x.stoFails + 1 →
    Gives (.storeTransactionTimeout n tag) s
      ((if u.on (Reg.LN_STO_STAT_ISO n) then u else (u.setBit (Reg.LN_STO_STAT_ISO n) true).linkErr n idlStoIso 0).storeResult
        t .eTmo 0)) ∧
  (∀ (s : State) (req n : Nat), n < 128 → s.portHead n = n → s.on (Reg.LN_STO_STAT_ISO n) = true →
    Gives (.storeLinkRestore req n) s
      (((s.setBit (Reg.LN_STO_STAT_ISO n) false).setLink n { s.link n with stoFails := 0 }).laneRecord req n
        (Reg.LN_STO_CMD n) 0 .ok)) ∧
  (∀ (s : State) (req n : Nat), n < 128 → s.portHead n = n → s.on (Reg.LN_STO_STAT_ISO n) = false →
    Gives (.storeLinkRestore req n) s (s.laneRecord req n (Reg.LN_STO_CMD n) 0 .eState)) ∧
  (∀ (s : State) (n tag : Nat), n < 128 →
    Gives (.storeTagQuarantineEnd n tag) s
      (s.setLink n { s.link n with stoQuar := (s.link n).stoQuar.filter (· != tag) }))

/-- R469–R476: a peer link forwards a packet or rejects it, carries an access to the other device and back, refuses it or times it
out, and exchanges trigger levels. -/
def Obligations.PeerLinksComplete : Prop :=
  (∀ (s : State) (n o d : Nat) (p : LinkPkt), n < 128 → s.frontPkt n typFwd = some (d, p) → nestCheck p = .ok →
    s.peerUp (bitsOf (p.byte 8) 0 3) = some o →
    Gives (.fwdDelivery n) s ((s.popReady n).linkQueue o (s.restamp o p.inner))) ∧
  (∀ (s : State) (n d : Nat) (p : LinkPkt), n < 128 → s.frontPkt n typFwd = some (d, p) → nestCheck p = .deep →
    Gives (.fwdDelivery n) s ((s.popReady n).linkReject n cntNest idlNest (256 + typFwd))) ∧
  (∀ (s : State) (n d : Nat) (p : LinkPkt), n < 128 → s.frontPkt n typFwd = some (d, p) →
    (nestCheck p = .bad → Gives (.fwdDelivery n) s ((s.popReady n).linkReject n cntMalf idlMalf (256 + typFwd))) ∧
    (nestCheck p = .ok → (s.popReady n).peerUp (bitsOf (p.byte 8) 0 3) = none →
      Gives (.fwdDelivery n) s ((s.popReady n).linkCount n cntDrvDisc))) ∧
  (∀ (s : State) (g vc k : Nat) (f : Flit) (fs : List Flit), g < 16 → s.tunnelFront g vc = some (f, fs) →
    (f :: fs).any (·.poison) = false →
    let body := packetBody (f :: fs)
    let addr := body % 2 ^ 48
    let h := 8 * g + bitsOf addr 41 3
    let d := bitsOf addr 37 4
    let t := s.niPop (hubNode g) 0 vc (fs.length + 1)
    f.opc ≠ opWrp → s.on (Reg.LN_TUN_VALID h d) = true → s.isHead h rolePeer = true → s.linkUpAt h = true →
    (s.link h).freeXtag = some k →
    Gives (.tunnelAccess g vc) s
      ((t.setLink h { s.link h with xtags := Tbl.put none (s.link h).xtags k (some ⟨f, false⟩) }).linkQueue h
        (dataPkt typTunReq f.stale (s.ownSdev h)
          (s.stampNow + k * 2 ^ 32 + (f.opc + f.pri * 16) * 2 ^ 48 + s.fld (Reg.LN_TUN_ENTRY h d) * 2 ^ 56 + f.blen * 2 ^ 64)
          (if f.opc = opRd then 8 else 9 + f.blen)
          ((s.fld (Reg.LN_TUN_BASE h d) + addr % 2 ^ 37) % 2 ^ 48 + body / 2 ^ 64 * 2 ^ 64)))) ∧
  (∀ (s : State) (g vc : Nat) (f : Flit) (fs : List Flit), g < 16 → s.tunnelFront g vc = some (f, fs) →
    ((f :: fs).any (·.poison) = true → Gives (.tunnelAccess g vc) s (s.niPoisoned (hubNode g) 0 vc (fs.length + 1) f)) ∧
    ((f :: fs).any (·.poison) = false →
      let addr := packetBody (f :: fs) % 2 ^ 48
      let h := 8 * g + bitsOf addr 41 3
      let t := s.niPop (hubNode g) 0 vc (fs.length + 1)
      let refuse := fun (c : Code) => if f.opc = opWrp then t.niMalf (hubNode g) 0 else t.hubAnswer g f c 0
      ((t.on (Reg.LN_TUN_VALID h (bitsOf addr 37 4)) = false ∨ t.isHead h rolePeer = false) →
        Gives (.tunnelAccess g vc) s (refuse .eArg)) ∧
      (t.on (Reg.LN_TUN_VALID h (bitsOf addr 37 4)) = true → t.isHead h rolePeer = true → t.linkUpAt h = false →
        Gives (.tunnelAccess g vc) s (refuse .eState)) ∧
      (t.on (Reg.LN_TUN_VALID h (bitsOf addr 37 4)) = true → t.isHead h rolePeer = true → t.linkUpAt h = true →
        f.opc ≠ opWrp → (t.link h).freeXtag = none → Gives (.tunnelAccess g vc) s (refuse .eBusy)))) ∧
  (∀ (s : State) (n d : Nat) (p : LinkPkt), n < 128 → s.frontPkt n typTunReq = some (d, p) →
    (s.link n).remote.length < 256 →
    let xtag := bitsOf p.v 64 10
    let opc := bitsOf (p.byte 10) 0 4
    let r := s.niIssue (hubNode (n / 8)) 0 ⟨0xA0 + n / 8, tunnelRef n xtag, opc, bitsOf (p.byte 11) 0 6, false,
      bitsOf (p.byte 10) 4 2, p.payload % 2 ^ 48, p.byte 12 + 1, p.payload / 2 ^ 64⟩
    opc ≠ opWrp → r.2 = true →
    Gives (.tunReqDelivery n) s
      ((r.1.setLink n { r.1.link n with remote := (r.1.link n).remote ++ [(xtag, opc + p.byte 12 * 16, false)] }).popReady
        n)) ∧
  (∀ (s : State) (n xtag blen : Nat) (d : NetDone), n < 128 → s.net.done = [d] → d.node = hubNode (n / 8) →
    d.rid = 0xA0 + n / 8 → d.ref = tunnelRef n xtag → d.code = .ok → (s.link n).remote = [(xtag, opRd + 16 * blen, false)] →
    s.linkUpAt n = true →
    let t : State := { s with net := { s.net with done := [] } }
    Gives (.tunRemoteResponse n) s
      ((t.setLink n { s.link n with remote := [] }).tunnelReply n xtag .ok (some (blen + 1, d.data)))) ∧
  (∀ (s : State) (n d : Nat) (p : LinkPkt) (x : XTag), n < 128 → s.frontPkt n typTunRsp = some (d, p) →
    p.type = typTunRsp →
    let t := s.popReady n
    Tbl.get none (t.link n).xtags (bitsOf p.v 64 10) = some x → x.quarantine = false →
    Gives (.tunRspDelivery n) s
      ((t.setLink n { t.link n with xtags := Tbl.put none (t.link n).xtags (bitsOf p.v 64 10) none }).hubAnswer (n / 8) x.head
        (.ofNum (bitsOf (p.byte 10) 0 4)) p.payload)) ∧
  (∀ (s : State) (n k : Nat) (x : XTag), n < 128 → Tbl.get none (s.link n).xtags k = some x → x.quarantine = false →
    Gives (.tunnelXtagTimeout n k) s
      ((s.setLink n { s.link n with xtags := Tbl.put none (s.link n).xtags k (some { x with quarantine := true }) }).hubAnswer
        (n / 8) x.head .eTmo 0)) ∧
  (∀ (s : State) (n k : Nat) (x : XTag), n < 128 → Tbl.get none (s.link n).xtags k = some x → x.quarantine = true →
    Gives (.xtagQuarantineEnd n k) s (s.setLink n { s.link n with xtags := Tbl.put none (s.link n).xtags k none })) ∧
  (∀ (s : State) (n : Nat), s.isHead n rolePeer = true → s.linkUpAt n = true → s.ticking = true →
    s.trigLevels n ≠ (s.link n).trig →
    Gives (.peerTriggerSend n) s
      ((s.setLink n { s.link n with trig := s.trigLevels n, trigTick := some s.now }).linkQueue n
        (controlPkt typTrig false (s.ownSdev n) (s.stampNow + s.trigLevels n * 2 ^ 32)))) ∧
  (∀ (s : State) (n k d : Nat) (p : LinkPkt), n < 128 → s.frontPkt n typTrig = some (d, p) → s.peerPort n = some k →
    let t := s.popReady n
    Gives (.trigDelivery n) s { t with pins := { t.pins with peer := Tbl.put 0 t.pins.peer k (p.byte 8) } })

/-- R24, R33, R36, R483–R491, R498, R501, R502, R504, R505: a host's configuration requests, and its memory requests by BAR: taken, or
answered by the port itself; the link and the resets of its port, its interrupts and its doorbell. The places of bits in PCI
configuration space are those of PCI Express (log entry 27). -/
def Obligations.HostPortCompletes : Prop :=
  (∀ (s : State) (p : Nat) (write : Bool) (reg : ConfigReg) (value : BitVec 32), s.portUp p = true → s.hk.retry = true →
    Gives (.hostConfigRequest p write reg value) s (s.emit (.config p true 0))) ∧
  (∀ (s : State) (p : Nat) (value : BitVec 32), s.portUp p = true → s.hk.retry = false →
    Gives (.hostConfigRequest p true .command value) s
      ((s.setBit (Reg.HP_STATUS_BME p) (hasBit value.toNat 2)).emit (.config p false 0))) ∧
  (∀ (s : State) (p : Nat) (value : BitVec 32), s.portUp p = true → s.hk.retry = false →
    Gives (.hostConfigRequest p true .power value) s
      ((s.setBit (Reg.HP_STATUS_D3HOT p) (value.toNat % 4 == 3)).emit (.config p false 0)) ∧
    Gives (.hostConfigRequest p true .msix value) s
      (((s.setBit (Reg.HP_STATUS_MSIX_EN p) (hasBit value.toNat 31)).setBit (Reg.HP_STATUS_FMASK p)
        (hasBit value.toNat 30)).emit (.config p false 0)) ∧
    ∀ reg ∈ [ConfigReg.ident, .classRev, .subsystem, .other],
      Gives (.hostConfigRequest p true reg value) s (s.emit (.config p false 0))) ∧
  (∀ (s : State) (p : Nat) (value : BitVec 32), s.portUp p = true → s.hk.retry = false →
    Gives (.hostConfigRequest p false .ident value) s (s.tookFree.emit (.config p false (0x1C7B + 0x9624 * 2 ^ 16))) ∧
    Gives (.hostConfigRequest p false .subsystem value) s
      (s.tookFree.emit (.config p false (s.hk.ssvid + s.hk.ssid * 2 ^ 16))) ∧
    ∀ reg ∈ [ConfigReg.classRev, .command, .power, .msix, .other],
      Gives (.hostConfigRequest p false reg value) s
        (s.tookFree.emit (.config p false ((s.cfgHeld p reg).1 +
          ((s.freeBits 32).toNat &&& (2 ^ 32 - 1 - (s.cfgHeld p reg).2)))))) ∧
  (∀ (s : State) (p addr n : Nat), s.portUp p = true → 1 ≤ n → n ≤ 4096 → s.decodes p = true → 0x10000 ≤ addr →
    addr + n ≤ 0x4000000 → s.hostCheck false false addr n = .ok →
    Gives (.hostRead p 0 addr n) s (s.hostTake p false false addr n 0)) ∧
  (∀ (s : State) (p addr n : Nat), s.portUp p = true → 1 ≤ n → n ≤ 4096 → s.decodes p = true → 0x10000 ≤ addr →
    addr + n ≤ 0x4000000 → s.hostCheck false false addr n = .eState ∨ s.hostCheck false false addr n = .eIso →
    Gives (.hostRead p 0 addr n) s
      ((s.raise (srcHost p) .notice 0x60 (addr % 2 ^ 32 + (p + 1) * 2 ^ 32)).hostAnswer p false false addr n 0
        (s.hostCheck false false addr n))) ∧
  (∀ (s : State) (p addr n : Nat), s.portUp p = true → 1 ≤ n → n ≤ 4096 → s.decodes p = true → 0x10000 ≤ addr →
    addr + n ≤ 0x4000000 → s.hostCheck false false addr n = .eArg →
    Gives (.hostRead p 0 addr n) s (s.hostAnswer p false false addr n 0 .eArg)) ∧
  (∀ (s : State) (p bar addr n v : Nat), s.portUp p = true → 1 ≤ n → n ≤ 4096 →
    (s.decodes p = false ∨ barSize bar < addr + n) →
    Gives (.hostRead p bar addr n) s (s.emit (.unsupported p addr)) ∧
    Gives (.hostWrite p bar addr n v) s (s.emit (.unsupported p addr))) ∧
  (∀ (s : State) (p addr n v : Nat), s.portUp p = true → 1 ≤ n → n ≤ 4096 → s.decodes p = true → addr + n ≤ 0x10000 →
    Gives (.hostRead p 4 addr n) s
      (s.hostAnswer p false false addr n (((List.range n).map (fun i => s.msixByte p (addr + i) * 2 ^ (8 * i))).sum) .ok) ∧
    Gives (.hostWrite p 4 addr n v) s
      ((List.range n).foldl (fun s i => s.msixPut p (addr + i) (v / 2 ^ (8 * i) % 256)) s)) ∧
  (∀ (s : State) (p addr n v : Nat), s.portUp p = true → 1 ≤ n → n ≤ 4096 → s.decodes p = true → addr < 0x10000 →
    Gives (.hostRead p 0 addr n) s (s.rescueRead p addr n) ∧
    (addr ≠ Reg.RSC_CMD → Gives (.hostWrite p 0 addr n v) s s)) ∧
  (∀ (s : State) (p addr n v : Nat), s.portUp p = true → 1 ≤ n → n ≤ 4096 → s.decodes p = true → 0x10000 ≤ addr →
    addr + n ≤ 0x4000000 → s.hostCheck true false addr n = .ok →
    Gives (.hostWrite p 0 addr n v) s (s.hostTake p true false addr n (v % 2 ^ (8 * n)))) ∧
  (∀ (s : State) (p addr n v : Nat), s.portUp p = true → 1 ≤ n → n ≤ 4096 → s.decodes p = true →
    addr + n ≤ 0x1000000000 →
    (s.hostCheck true true addr n = .eArg →
      Gives (.hostWrite p 2 addr n v) s (s.hostAnswer p true true addr n 0 .eArg)) ∧
    (s.hostCheck true true addr n = .ok →
      Gives (.hostWrite p 2 addr n v) s (s.hostTake p true true addr n (v % 2 ^ (8 * n)))) ∧
    (s.hostCheck true true addr n = .eState ∨ s.hostCheck true true addr n = .eIso →
      Gives (.hostWrite p 2 addr n v) s
        ((s.raise (srcHost p) .notice 0x60 (addr % 2 ^ 32 + (p + 1) * 2 ^ 32)).hostAnswer p true true addr n 0
          (s.hostCheck true true addr n)))) ∧
  (∀ (s : State) (p addr n : Nat), s.portUp p = true → 1 ≤ n → n ≤ 4096 → s.decodes p = true → addr + n ≤ 0x1000000000 →
    (s.hostCheck false true addr n = .ok → Gives (.hostQWindowRead p addr n) s (s.hostTake p false true addr n 0)) ∧
    (s.hostCheck false true addr n = .eArg →
      Gives (.hostQWindowRead p addr n) s (s.hostAnswer p false true addr n 0 .eArg))) ∧
  (∀ (s : State) (p : Nat), p < 2 → s.hk.up = true →
    let h := s.host
    let t := { s with
      regs := s.regs.filter (fun e => !(decide (Reg.HP_STATUS p ≤ e.1) && decide (e.1 < Reg.HP_STATUS p + 0x10000)))
      host := { h with txs := h.txs.filter (fun t => t.port != p), vecActive := Tbl.put 0 h.vecActive p 0
                       msix := h.msix.filter (fun e => e.1 / 64 != p) } }
    let u := (t.niReset (hostNode p) 0).hostCollect p
    Gives (.hostPortReset p false) s ((u.setLinkStatus p false 0 0).hostErr (1 - p) 6) ∧
    (s.portUp p = true → Gives (.hostPortReset p true) s
      ((u.setLinkStatus p true (s.fld (Reg.HP_STATUS_SPEED p)) (s.fld (Reg.HP_STATUS_WIDTH p))).hostErr (1 - p) 5))) ∧
  (∀ (s : State) (p : Nat), s.portUp p = true → Gives (.hostLinkDown p) s ((s.setLinkStatus p false 0 0).hostErr p 4)) ∧
  (∀ (s : State) (p : Nat) (speed : BitVec 3) (width : BitVec 4), p < 2 → s.hk.up = true → s.portUp p = false →
    1 ≤ speed.toNat → speed.toNat ≤ 5 → [1, 2, 4, 8].contains width.toNat = true →
    Gives (.hostLinkUp p speed width) s
      (((s.setBit (Reg.HP_STATUS_LINK_UP p) true).setFld (Reg.HP_STATUS_SPEED p) speed.toNat).setFld (Reg.HP_STATUS_WIDTH p)
        width.toNat)) ∧
  (∀ (s : State) (p v : Nat), s.portUp p = true → s.on (Reg.HP_STATUS_BME p) = true →
    s.on (Reg.HP_STATUS_MSIX_EN p) = true → s.on (Reg.HP_STATUS_FMASK p) = false → hasBit (s.msixEntry p v) 96 = false →
    v < 64 → hasBit (s.fld (Reg.HP_VPEND_PEND p)) v = true →
    Gives (.msixMessageSend p v) s
      ((s.setFld (Reg.HP_VPEND_PEND p) (withoutBit (s.fld (Reg.HP_VPEND_PEND p)) v)).emit
        (.msix p v (s.msixEntry p v % 2 ^ 64) (bitsOf (s.msixEntry p v) 64 32)))) ∧
  (∀ (s : State) (req p : Nat) (value : BitVec 64), p < 2 →
    Gives (.hpVackWrite req p value) s
      ((s.setFld (Reg.HP_VPEND_PEND p) (s.fld (Reg.HP_VPEND_PEND p) ||| (value.toNat &&& s.vecMask p))).respond req
        (Reg.HP_VACK p) .ok)) ∧
  (∀ (s : State) (req p : Nat) (value : BitVec 32), p < 2 →
    Gives (.hpDbsetWrite req p value) s
      ((s.setFld (Reg.HP_DBELL_DB p) (s.fld (Reg.HP_DBELL_DB p) ||| value.toNat % 2 ^ 16)).respond req (Reg.HP_DBSET p) .ok))

/-- R173, R492–R497, R500, R597, R630, R653, R655: the rescue window and its commands, with what refuses them and what is still to
be told when they end; and the hardware semaphores. That E_ARG goes before E_BUSY is the model's reading (log entry 27). -/
def Obligations.RescueAndSemaphoresComplete : Prop :=
  (∀ (s : State) (p addr n v : Nat) (x : RegAt), s.portUp p = true → s.decodes p = true → addr < 0x10000 → n ≠ 0 →
    s.rescueAt p addr = some (x, v) → widthOk x.desc.bytes x.off n = true →
    let r := s.readHalf (p + 1) x.base x.desc.bytes x.off n v
    Gives (.rescueAccess p false addr n 0 false) s (r.1.emit (.readData (p + 1) addr r.2))) ∧
  (∀ (s : State) (p addr n v : Nat) (x : RegAt), s.portUp p = true → s.decodes p = true → addr < 0x10000 → n ≠ 0 →
    s.rescueAt p addr = some (x, v) → widthOk x.desc.bytes x.off n = false →
    Gives (.rescueAccess p false addr n 0 false) s (s.hostAbort p addr .eArg)) ∧
  (∀ (s : State) (p addr n : Nat), s.portUp p = true → s.decodes p = true → addr < 0x10000 → n ≠ 0 →
    s.rescueAt p addr = none → Gives (.rescueAccess p false addr n 0 false) s (s.emit (.readData (p + 1) addr 0))) ∧
  (∀ (s : State) (p addr n v : Nat) (write together : Bool), s.portUp p = true → s.decodes p = false → addr < 0x10000 → n ≠ 0 →
    Gives (.rescueAccess p write addr n v together) s (s.emit (.unsupported p addr))) ∧
  (∀ (s : State) (p n v : Nat), s.portUp p = true → s.decodes p = true → n = 4 →
    bitsOf v 24 8 ≠ 0xA5 ∨ rescueArgOk (bitsOf v 0 4) (bitsOf v 8 8) = false →
    Gives (.rescueAccess p true Reg.RSC_CMD n v false) s (s.rescueCode (bitsOf v 0 4) (p + 1) .eArg)) ∧
  (∀ (s : State) (p r sem mask : Nat) (e : Nat × Nat), s.portUp p = true → s.decodes p = true → s.host.rescue = some e →
    r < 24 → sem < 64 → 0 < mask → mask < 64 →
    ∀ c ∈ ([(.rescueRegionIsolate p r, 1), (.rescueRegionReset p r, 2), (.semForce p sem, 3), (.rescueQuench p mask false, 4),
      (.stAbort p, 5), (.norSummary p, 6)] : List (Instr × Nat)),
    Gives c.1 s (s.rescueCode c.2 (p + 1) .eBusy)) ∧
  (∀ (s : State) (p addr n v : Nat), s.portUp p = true → s.decodes p = true → addr < 0x10000 → n ≠ 0 →
    addr ≠ Reg.RSC_CMD → Gives (.rescueAccess p true addr n v false) s s) ∧
  (∀ (s : State) (p addr : Nat), s.portUp p = true → s.decodes p = true → addr < 0x10000 →
    Gives (.rescueTimeout p false addr) s (s.hostAbort p addr .ok)) ∧
  (∀ (s : State) (p r : Nat), s.portUp p = true → s.decodes p = true → r < 24 → s.host.rescue = none →
    let q := s.capture (256 + p + 1) (fun s => s.regionCmdWrite (256 + p + 1) r cmdIsolate)
    (q.2 = .ok → (q.1.rgn r).boundary.contains (cmdIsolate, 256 + p + 1) = true →
      Gives (.rescueRegionIsolate p r) s
        ((({ q.1 with host := { q.1.host with rescue := some (1, p + 1) } } : State).setBit Reg.RSC_CMDSTAT_BUSY true).rescueCode
          1 (p + 1) .ok)) ∧
    (q.2 ≠ .ok ∨ (q.1.rgn r).boundary.contains (cmdIsolate, 256 + p + 1) = false →
      Gives (.rescueRegionIsolate p r) s (q.1.rescueCode 1 (p + 1) q.2))) ∧
  (∀ (s : State) (p r : Nat), s.portUp p = true → s.decodes p = true → r < 24 → s.host.rescue = none →
    let q := s.capture (256 + p + 1) (fun s => s.regionCmdWrite (256 + p + 1) r cmdReset)
    (q.2 = .ok → (q.1.rgn r).boundary.contains (cmdReset, 256 + p + 1) = true →
      Gives (.rescueRegionReset p r) s
        ((({ q.1 with host := { q.1.host with rescue := some (2, p + 1) } } : State).setBit Reg.RSC_CMDSTAT_BUSY true).rescueCode
          2 (p + 1) .ok)) ∧
    (q.2 ≠ .ok ∨ (q.1.rgn r).boundary.contains (cmdReset, 256 + p + 1) = false →
      Gives (.rescueRegionReset p r) s (q.1.rescueCode 2 (p + 1) q.2))) ∧
  (∀ (s : State) (p sem : Nat), s.portUp p = true → s.decodes p = true → sem < 64 → s.host.rescue = none →
    s.fld (Reg.HSEM_OWNER sem) ≠ 0 →
    Gives (.semForce p sem) s
      (((s.setFld (Reg.HSEM_OWNER sem) 0).raise srcHk .notice 0x6B
        (sem + s.fld (Reg.HSEM_OWNER sem) * 2 ^ 8 + (p + 1) * 2 ^ 16)).rescueCode 3 (p + 1) .ok)) ∧
  (∀ (s : State) (p sem : Nat), s.portUp p = true → s.decodes p = true → sem < 64 → s.host.rescue = none →
    s.fld (Reg.HSEM_OWNER sem) = 0 →
    Gives (.semForce p sem) s ((s.noteRefusal srcHk Reg.RSC_CMD (p + 1) .eState).rescueCode 3 (p + 1) .eState)) ∧
  (∀ (s : State) (p mask : Nat) (together : Bool), s.portUp p = true → s.decodes p = true → 0 < mask → mask < 64 →
    s.host.rescue = none →
    Gives (.rescueQuench p mask together) s ((s.rescueQuench mask together).rescueCode 4 (p + 1) .ok)) ∧
  (∀ (s : State) (p : Nat), s.portUp p = true → s.decodes p = true → s.host.rescue = none → s.abortAll.2 = true →
    Gives (.stAbort p) s (s.abortAll.1.rescueCode 5 (p + 1) .ok)) ∧
  (∀ (s : State) (p : Nat), s.portUp p = true → s.decodes p = true → s.host.rescue = none → s.abortAll.2 = false →
    Gives (.stAbort p) s ((s.noteRefusal srcHk Reg.RSC_CMD (p + 1) .eState).rescueCode 5 (p + 1) .eState)) ∧
  (∀ (s : State) (p : Nat), s.portUp p = true → s.decodes p = true → s.host.rescue = none →
    let q := s.queueStore (.summary none)
    q.2 = .ok →
    Gives (.norSummary p) s
      ((({ q.1 with host := { q.1.host with rescue := some (6, p + 1) } } : State).setBit Reg.RSC_CMDSTAT_BUSY true).rescueCode 6
        (p + 1) .ok)) ∧
  (∀ (s : State) (p : Nat), s.portUp p = true → s.decodes p = true → s.host.rescue = none →
    let q := s.queueStore (.summary none)
    q.2 ≠ .ok → Gives (.norSummary p) s (q.1.rescueCode 6 (p + 1) q.2)) ∧
  (∀ (s : State) (p : Nat), s.portUp p = true → s.decodes p = true →
    Gives (.chipReset p) s
      (({ s with host := { s.host with resetDue := true } } : State).rescueCode 7 (p + 1) .ok)) ∧
  (∀ s : State, s.host.resetDue = true → Gives .chipResetAssert s (s.pmWrite pmRescue none).restart) ∧
  (∀ (s : State) (req n : Nat), n < 64 → s.fld (Reg.HSEM_OWNER n) = 0 →
    Gives (.hsemAcquire req n false) s
      ((s.setFld (Reg.HSEM_OWNER n) req).emit (.readData req (Reg.HSEM n) (req + 2 ^ 8)))) ∧
  (∀ (s : State) (req n : Nat), n < 64 → s.fld (Reg.HSEM_OWNER n) ≠ 0 →
    Gives (.hsemAcquire req n false) s (s.emit (.readData req (Reg.HSEM n) (s.fld (Reg.HSEM_OWNER n))))) ∧
  (∀ (s : State) (req n : Nat), n < 64 →
    let first := s.fld Reg.HSEM_STAT_ALT + 1
    let a := s.semRead first n
    let c := a.1.semRead (3 - first) n
    Gives (.hsemAcquire req n true) s
      (((c.1.setBit Reg.HSEM_STAT_ALT (first == 1)).emit (.readData first (Reg.HSEM n) a.2)).emit
        (.readData (3 - first) (Reg.HSEM n) c.2))) ∧
  (∀ (s : State) (req n : Nat) (value : BitVec 32), n < 64 → s.fld (Reg.HSEM_OWNER n) = req → req ≠ 0 →
    value.toNat % 256 = req →
    Gives (.hsemRelease req n value) s ((s.setFld (Reg.HSEM_OWNER n) 0).respond req (Reg.HSEM n) .ok)) ∧
  (∀ (s : State) (req n : Nat) (value : BitVec 32), n < 64 →
    s.fld (Reg.HSEM_OWNER n) ≠ req ∨ s.fld (Reg.HSEM_OWNER n) = 0 ∨ value.toNat % 256 ≠ req →
    Gives (.hsemRelease req n value) s
      ((((((s.setFld Reg.HSEM_STAT_CODE Code.eState.num).setFld Reg.HSEM_STAT_SEM n).setFld Reg.HSEM_STAT_REQ req).noteRefusal
        srcHk (Reg.HSEM n - Reg.HK_BOOTCTL) req .eState).respond req (Reg.HSEM n) .eState)))

/-- R506–R519, R526, R527, R529–R531, R535, R539: words enter the stream or are refused; the sync word starts it; each packet that
stands whole at its front acts where it applies, and is refused, skipped or ends the stream otherwise; a chunk of an encrypted section is
gathered and checked; a CWR waits for its response. That a packet with a syntax error is met by whichever packet command comes first is
the model's (log entry 30). -/
def Obligations.ConfigurationStreamCompletes : Prop :=
  (∀ (s : State) (req off n v : Nat), n % 4 = 0 → s.fromNor = false → s.cfgSrc = srcData →
    s.cfg.fifo.length + n / 4 ≤ 16384 →
    Gives (.cfgDataWrite req off n v) s
      ((s.setCfg { s.cfg with fifo := s.cfg.fifo ++ dataWords v n }).respond req (0x31000 + off % 0x1000) .ok)) ∧
  (∀ (s : State) (req off n v : Nat), n % 4 = 0 → s.cfgSrc = srcIdle → s.hostStreams = true → s.cfg.fifo.length + n / 4 ≤ 16384 →
    let t := s.hostBegin
    Gives (.cfgDataWrite req off n v) s
      ((t.setCfg { t.cfg with fifo := t.cfg.fifo ++ dataWords v n }).respond req (0x31000 + off % 0x1000) .ok)) ∧
  (∀ (s : State) (req off n v : Nat),
    let a := 0x31000 + off % 0x1000
    (n % 4 ≠ 0 → Gives (.cfgDataWrite req off n v) s (s.respond req a .eArg)) ∧
    (n % 4 = 0 → s.fromNor = true → Gives (.cfgDataWrite req off n v) s (s.respond req a .eBusy)) ∧
    (n % 4 = 0 → s.cfgSrc = srcIdle → s.hostStreams = false →
      Gives (.cfgDataWrite req off n v) s ((s.noteRefusal srcCfg (a - Reg.CFG_CTL) req .eState).respond req a .eState)) ∧
    (n % 4 = 0 → s.fromNor = false → s.cfgSrc = srcData → 16384 < s.cfg.fifo.length + n / 4 →
      Gives (.cfgDataWrite req off n v) s (s.respond req a .eBusy))) ∧
  (∀ s : State, s.on Reg.CFG_STAT_SYNCED = false → s.fromNor = false → (∀ w ∈ s.cfg.fifo, w.toNat ≠ syncWord) →
    let t := s.countBy Reg.CFG_PRECNT_COUNT Reg.CFG_ERR_CNT_SAT s.cfg.fifo.length
    Gives .cfgSync s (t.setCfg { s.cfg with fifo := [] }).cfgAfter) ∧
  (∀ (s : State) (w : Word) (l : List Word), s.on Reg.CFG_STAT_SYNCED = false → s.fromNor = false → w.toNat = syncWord →
    s.cfg.fifo = w :: l →
    let t := (s.countBy Reg.CFG_PRECNT_COUNT Reg.CFG_ERR_CNT_SAT 0).setCfg { s.cfg with fifo := l, done := none, brought := 0 }
    t.cfgSrc = srcData → t.lcState ≠ 4 →
    Gives .cfgSync s
      (((((t.setFld Reg.CFG_SPOS_POS 0).setFld Reg.CFG_FAR_FAR 0).setFld Reg.CFG_IDMASK_MASK 0xFF).setBit Reg.CFG_STAT_FMODE
        false).setBit Reg.CFG_STAT_SYNCED true)) ∧
  (∀ (s : State) (w d : Nat), CfgReady s .nop w d → Gives .cfgNop s (s.cfgFill.cfgTook (pktWords w)).cfgAfter) ∧
  (∀ (s : State) (w d : Nat), CfgReady s .far w d →
    Gives .cfgRegwFar s ((s.cfgFill.cfgTook (pktWords w)).setFld Reg.CFG_FAR_FAR d).cfgAfter) ∧
  (∀ (s : State) (w d : Nat), CfgReady s .idmask w d →
    Gives .cfgRegwIdmask s ((s.cfgFill.cfgTook (pktWords w)).setFld Reg.CFG_IDMASK_MASK d).cfgAfter) ∧
  (∀ (s : State) (w d : Nat), CfgReady s .ctl w d →
    let r := (s.cfgFill.cfgTook (pktWords w)).cfgCtlWrite d
    Gives .cfgRegwCtl s (if r.2 = .ok then r.1 else r.1.cfgRefuse r.2 1 3).cfgAfter) ∧
  (∀ (s : State) (w d : Nat), CfgReady s .keysel w d →
    Gives .cfgRegwKeysel s ((s.cfgFill.cfgTook (pktWords w)).keySel d).cfgAfter) ∧
  (∀ (s : State) (w d : Nat), CfgReady s .regmap w d →
    let r := (s.cfgFill.cfgTook (pktWords w)).mapRegion d
    Gives .cfgRegwRegmap s (if r.2 = .ok then r.1 else r.1.cfgRefuse r.2 1 5).cfgAfter) ∧
  (∀ (s : State) (w d : Nat), CfgReady s .frame w d →
    Gives .cfgCmdFrame s ((s.cfgFill.cfgTook (pktWords w)).setBit Reg.CFG_STAT_FMODE true).cfgAfter) ∧
  (∀ (s : State) (w d p : Nat), CfgReady s .commit w d →
    let t := (s.cfgFill.cfgTook (pktWords w)).setBit Reg.CFG_STAT_FMODE false
    t.physicalOf (bitsOf d 8 5) = some p → t.rstate p = .configuring → hasBit (t.fld Reg.CFG_FERR_FERR) p = false →
    let u := (t.commit p).setBit Reg.CFG_EVT_COMMIT true
    Gives .cfgCmdCommit s (u.setCfg { u.cfg with brought := withoutBit u.cfg.brought p }).cfgAfter) ∧
  (∀ (s : State) (w d : Nat), CfgReady s .commit w d →
    let t := (s.cfgFill.cfgTook (pktWords w)).setBit Reg.CFG_STAT_FMODE false
    (t.physicalOf (bitsOf d 8 5) = none → Gives .cfgCmdCommit s (t.cfgRefuse .eArg 1 1).cfgAfter) ∧
    (∀ p, t.physicalOf (bitsOf d 8 5) = some p → t.rstate p ≠ .configuring →
      Gives .cfgCmdCommit s (t.cfgRefuse .eState 1 1).cfgAfter) ∧
    (∀ p, t.physicalOf (bitsOf d 8 5) = some p → t.rstate p = .configuring → hasBit (t.fld Reg.CFG_FERR_FERR) p = true →
      Gives .cfgCmdCommit s (t.cfgRefuse .eCrc 1 1).cfgAfter)) ∧
  (∀ (s : State) (w d p : Nat), CfgReady s .start w d →
    let t := (s.cfgFill.cfgTook (pktWords w)).setBit Reg.CFG_STAT_FMODE false
    t.physicalOf (bitsOf d 8 5) = some p →
    let r := t.capture reqCfg (fun s => s.regionCmdWrite reqCfg p cmdStart)
    Gives .cfgCmdStart s (if r.2 = .ok then r.1 else r.1.cfgScode r.2 1 1).cfgAfter) ∧
  (∀ (s : State) (w d : Nat), CfgReady s .start w d →
    let t := (s.cfgFill.cfgTook (pktWords w)).setBit Reg.CFG_STAT_FMODE false
    t.physicalOf (bitsOf d 8 5) = none → Gives .cfgCmdStart s (t.cfgRefuse .eArg 1 1).cfgAfter) ∧
  (∀ (s : State) (w d : Nat), CfgReady s .end_ w d →
    Gives .cfgCmdEnd s (s.cfgFill.cfgTook (pktWords w)).cfgFinish.cfgAfter) ∧
  (∀ (s : State) (w d : Nat), CfgReady s .fdata w d →
    Gives .cfgFdata s (((s.cfgFill.cfgTook 1).cfgFrameHead 2 w true).cfgData).cfgAfter) ∧
  (∀ (s : State) (w d : Nat), CfgReady s .fmask w d →
    Gives .cfgFmask s (((s.cfgFill.cfgTook 1).cfgFrameHead 3 w true).cfgData).cfgAfter) ∧
  (∀ (s : State) (w d : Nat), CfgReady s .fzero w d →
    let t := s.cfgFill.cfgTook (pktWords w)
    Gives .cfgFzero s
      (if t.on Reg.CFG_STAT_FMODE then t.takeFzero (w % 2 ^ 20) else t.cfgRefuse .eState 4 0).cfgAfter) ∧
  (∀ (s : State) (w d : Nat) (k : Pkt) (c : Instr), (c, k) ∈ ([(.cfgRegwFar, .far), (.cfgRegwCtl, .ctl), (.cfgRegwRegmap, .regmap),
      (.cfgCmdFrame, .frame), (.cfgCmdCommit, .commit), (.cfgCmdStart, .start), (.cfgFzero, .fzero)] : List (Instr × Pkt)) →
    s.cfgFill.cfgFront = some (k, w, d) → s.cfgFill.cfg.frame = [] →
    (s.cfgFill.reqAuth = true → s.cfgFill.on Reg.CFG_STAT_ENC = true) → s.cfgFill.cfgApplies = false →
    Gives c s (s.cfgFill.cfgTook (pktWords w)).cfgAfter) ∧
  (∀ (s : State) (w d : Nat) (k : Pkt) (c : Instr), (c, k) ∈ ([(.cfgRegwFar, .far), (.cfgRegwCtl, .ctl), (.cfgRegwRegmap, .regmap),
      (.cfgCmdFrame, .frame), (.cfgCmdCommit, .commit), (.cfgCmdStart, .start), (.cfgFzero, .fzero)] : List (Instr × Pkt)) →
    s.cfgFill.cfgFront = some (k, w, d) → s.cfgFill.cfg.frame = [] → s.cfgFill.reqAuth = true →
    s.cfgFill.on Reg.CFG_STAT_ENC = false →
    Gives c s ((s.cfgFill.cfgTook (pktWords w)).cfgAbort .eAuth (w / 2 ^ 28)
      (if w / 2 ^ 28 = 1 then bitsOf w 16 8 else 0) (some ceAuth))) ∧
  (∀ (s : State) (w d : Nat) (c : Instr), c ∈ [Instr.cfgNop, .cfgRegwFar, .cfgRegwIdmask, .cfgRegwCtl, .cfgRegwKeysel, .cfgRegwRegmap,
      .cfgCmdFrame, .cfgCmdCommit, .cfgCmdStart, .cfgCmdEnd, .cfgFzero] →
    s.cfgFill.cfgFront = some (.bad, w, d) →
    let t := (if w / 2 ^ 28 = 2 then s.cfgFill else s.cfgFill.dropPartial).cfgTook (pktWords w)
    Gives c s (t.cfgAbort .eArg (w / 2 ^ 28) (if w / 2 ^ 28 = 1 then bitsOf w 16 8 else 0) (some ceSyntax))) ∧
  (∀ (s : State) (w d : Nat), s.cfgFill.cfgFront = some (.nop, w, d) → w / 2 ^ 28 ≠ 2 →
    Gives .cfgNop s (s.cfgFill.dropPartial.cfgTook (pktWords w)).cfgAfter) ∧
  (∀ (s : State) (p : CfgPkt), s.cfg.pkt = some p →
    (p.pt = 2 → Gives .cfgFdata s s.cfgData.cfgAfter) ∧ (p.pt = 3 → Gives .cfgFmask s s.cfgData.cfgAfter)) ∧
  (∀ (s : State) (w d : Nat), CfgReady s .cwr w d → s.cfg.cwr = none → (freeTag (s.ni cfgNode 0).open_).isSome = true →
    Gives .cfgCwr s ((s.cfgFill.cfgTook (pktWords w)).cwrBegin w d).cfgAfter) ∧
  (∀ (s : State) (k : Nat) (d : NetDone), s.cfg.cwr = some k → s.cwrResponse k = some d → Gives .cfgCwr s (s.cwrEnd d)) ∧
  (∀ s : State, s.fromNor = false → s.on Reg.CFG_STAT_SYNCED = true → s.on Reg.CFG_STAT_ENC = true → s.cfg.last = false →
    s.keyReady s.cfg.slot = true → s.cfg.chunk.length + s.cfg.fifo.length < 8 →
    Gives .cfgChunk s
      ((s.setCfg { s.cfg with
        chunk := s.cfg.chunk ++ s.cfg.fifo, fifo := [] }).setFld Reg.CFG_SPOS_POS
          (s.fld Reg.CFG_SPOS_POS + 4 * s.cfg.fifo.length)).cfgAfter) ∧
  (∀ s : State, s.fromNor = false → s.on Reg.CFG_STAT_SYNCED = true → s.on Reg.CFG_STAT_ENC = true → s.cfg.last = false →
    (s.keyReady s.cfg.slot = false → Gives .cfgChunk s (s.cfgAbort .eLock 0 0 (some ceLock))) ∧
    (s.keyReady s.cfg.slot = true → s.cfg.chunk = [] → 8 ≤ s.cfg.fifo.length →
      chunkLenOk (chunkNum (s.cfg.fifo.take 8) 1 1) = false → Gives .cfgChunk s (s.cfgAbort .eAuth 0 0 (some ceAuth)))) ∧
  (∀ s : State, s.fromNor = false → s.on Reg.CFG_STAT_SYNCED = true → s.on Reg.CFG_STAT_ENC = true → s.cfg.last = false →
    s.keyReady s.cfg.slot = true → s.cfg.chunk = [] → 8 ≤ s.cfg.fifo.length →
    let n := chunkNum (s.cfg.fifo.take 8) 1 1
    chunkLenOk n = true → 12 + n / 4 ≤ s.cfg.fifo.length →
    let l := s.cfg.fifo.take (12 + n / 4)
    Gives .cfgChunk s
      (((s.setCfg { s.cfg with chunk := l, fifo := s.cfg.fifo.drop (12 + n / 4) }).setFld Reg.CFG_SPOS_POS
        (s.fld Reg.CFG_SPOS_POS + 4 * (12 + n / 4))).chunkWhole l))

/-- R160, R528, R534–R537, R539–R541, R547: the host's commands to the configuration controller with their refusals, its map of
regions and its readback, the overflow of a listener, and the stages of Pavane. That a refused readback clears VALID is the model's choice
(log entry 30). -/
def Obligations.ConfigurationCommandsComplete : Prop :=
  (∀ (s : State) (req : Nat), s.cfgSrc = srcIdle →
    Gives (.cfgHostAbort req) s ((s.returnRegions (2 ^ 24 - 1)).cfgRecord req Reg.CFG_HCMD 1 .ok)) ∧
  (∀ (s : State) (req : Nat), s.cfgSrc ≠ srcIdle →
    Gives (.cfgHostAbort req) s
      (((s.cfgEnd (.ofNum (s.fld Reg.CFG_SCODE_CODE))).returnRegions (2 ^ 24 - 1)).cfgRecord req Reg.CFG_HCMD 1 .ok)) ∧
  (∀ (s : State) (req : Nat) (l : BitVec 5) (k : BitVec 4), s.cfg.pr = none →
    Gives (.cfgHostPrStart req l k) s
      (((s.setCfg { s.cfg with pr := some ⟨l.toNat, k.toNat, s.now, req, s.tick.aligned⟩ }).tookAligned.setBit Reg.CFG_HCMDSTAT_PEND true).cfgRecord req
        Reg.CFG_HCMD 2 .ok)) ∧
  (∀ (s : State) (req : Nat) (l : BitVec 5) (k : BitVec 4) (p : PrPend), s.cfg.pr = some p →
    Gives (.cfgHostPrStart req l k) s (s.cfgRecord req Reg.CFG_HCMD 2 .eBusy)) ∧
  (∀ (s : State) (p : PrPend), s.cfg.pr = some p → s.ticking = false →
    let r := ((s.setCfg { s.cfg with pr := none }).setBit Reg.CFG_HCMDSTAT_PEND false).prStart p.region p.slot
    Gives .prStartEffect s
      ((((r.1.setFld Reg.CFG_HCMDSTAT_CODE r.2.num).setFld Reg.CFG_HCMDSTAT_CMD 2).setFld Reg.CFG_HCMDSTAT_REQ p.req).noteRefusal
        srcCfg (Reg.CFG_HCMD - Reg.CFG_CTL) p.req r.2)) ∧
  (∀ (s : State) (p : PrPend) (r : Nat), s.cfg.pr = some p → s.ticking = true → s.physicalOf p.region = some r →
    (s.prDue p = true ∧ s.prTurn p = true → Gives .prStartEffect s s.prEffect.releaseHeld) ∧
    (s.prDue p = false ∨ s.prTurn p = false → Gives .prStartEffect s s.releaseHeld)) ∧
  (∀ (s : State) (req : Nat) (k : BitVec 4), s.cfgSrc = srcIdle → s.on (Reg.CFG_SLOT_VALID k.toNat) = true →
    Gives (.cfgHostRunSlot req k) s ((s.slotBegin k.toNat).cfgRecord req Reg.CFG_HCMD 3 .ok)) ∧
  (∀ (s : State) (req : Nat) (k : BitVec 4),
    (s.cfgSrc ≠ srcIdle → Gives (.cfgHostRunSlot req k) s (s.cfgRecord req Reg.CFG_HCMD 3 .eBusy)) ∧
    (s.cfgSrc = srcIdle → s.on (Reg.CFG_SLOT_VALID k.toNat) = false →
      Gives (.cfgHostRunSlot req k) s (s.cfgRecord req Reg.CFG_HCMD 3 .eArg))) ∧
  (∀ s : State, s.cfgSrc = srcSlot → s.fromNor = true → s.listener = false → s.cfg.fifo.length < 1024 →
    s.hk.holdEn = false → s.hk.raw = none →
    let n := min 1024 (s.cfg.room / 4)
    Gives .cfgSlotFirstRead s
      (s.setCfg { s.cfg with
        fifo := s.cfg.fifo ++ (List.range n).map (fun i => s.norWord (s.cfg.addr + 4 * i))
        addr := s.cfg.addr + 4 * n, room := s.cfg.room - 4 * n })) ∧
  (∀ (s : State) (req : Nat) (value : BitVec 32),
    Gives (.cfgRegmapWWrite req value) s
      ((s.mapRegion value.toNat).1.cfgRecord req Reg.CFG_REGMAP_W 0 (s.mapRegion value.toNat).2)) ∧
  (∀ (s : State) (req p : Nat) (value : BitVec 32), s.on Reg.CFG_CTL_RDBK_DIS = false → s.lcState ≠ 2 →
    let far := value.toNat % 2 ^ 22
    farOk far = true → s.physicalOf (farRegion far) = some p → s.rstate p ≠ .off →
    let t := ((s.setFld Reg.CFG_RBSTAT_CODE Code.ok.num).setBit Reg.CFG_RBSTAT_VALID true).setFld Reg.CFG_RBFAR_FAR far
    Gives (.cfgReadback req value) s
      (((List.range 65).foldl (fun s w =>
        s.setFld (Reg.CFG_RBDATA_DATA w) (s.readbackWord p (farCol far) (farMinor far) w)) t).cfgRecord req Reg.CFG_RBFAR 0
          .ok)) ∧
  (∀ (s : State) (req : Nat) (value : BitVec 32), s.on Reg.CFG_CTL_RDBK_DIS = false → s.lcState ≠ 2 →
    let far := value.toNat % 2 ^ 22
    let u := fun (c : Code) => ((s.setFld Reg.CFG_RBSTAT_CODE c.num).setBit Reg.CFG_RBSTAT_VALID false).cfgRecord req Reg.CFG_RBFAR 0 c
    (farOk far = false ∨ s.physicalOf (farRegion far) = none → Gives (.cfgReadback req value) s (u .eArg)) ∧
    (∀ p, farOk far = true → s.physicalOf (farRegion far) = some p → s.rstate p = .off →
      Gives (.cfgReadback req value) s (u .eState))) ∧
  (∀ (s : State) (req : Nat) (value : BitVec 32), s.on Reg.CFG_CTL_RDBK_DIS = true ∨ s.lcState = 2 →
    Gives (.cfgReadback req value) s
      (((s.setFld Reg.CFG_RBSTAT_CODE Code.eLock.num).setBit Reg.CFG_RBSTAT_VALID false).cfgRecord req Reg.CFG_RBFAR 0
        .eLock)) ∧
  (∀ s : State, s.listener = true → s.cfgSrc ≠ srcIdle →
    Gives .cfgListenerOverflow s (s.cfgAbort .eBusy 0 0 (some ceListenOvf))) ∧
  (∀ (s : State) (r : Nat), r < 24 → s.rstate r = .running → s.fld (Reg.REG_STATUS_PAVANE r) = 1 →
    s.pavaneGap r 1 ≤ (s.rgn r).pavane →
    Gives (.pavaneStage2 r) s ((s.setRgn r { s.rgn r with pavane := 0 }).setFld (Reg.REG_STATUS_PAVANE r) 2)) ∧
  (∀ (s : State) (r : Nat), r < 24 → s.rstate r = .running → s.fld (Reg.REG_STATUS_PAVANE r) = 2 →
    s.pavaneGap r 2 ≤ (s.rgn r).pavane →
    Gives (.pavaneStage3 r) s ((s.setRgn r { s.rgn r with pavane := 0 }).setFld (Reg.REG_STATUS_PAVANE r) 3))

/-- R484, R549–R564, R567, R568, R571, R604: the device starts and resets by RESET_N, finds its NOR or not, reads its journal, powers
its regions, tries its images, waits for the host, and follows the host's boot commands, with their refusals, and, as a listener, the
shared bus. That HOLD is taken in the four states of an attempt only is R561 read against Table 15-11 (log entry 31). -/
def Obligations.BootCompletes : Prop :=
  (∀ (s : State) (refclk : Bool), s.hk.up = false → s.lovage.st = .run → s.lovage.tripHold = false →
    let t : State := { s with pins := { s.pins with balls := Tbl.put (pinRestsHigh 0) s.pins.balls 0 true } }
    Gives (.resetNRise refclk) s (t.setHk { s.hk with refclk }).start) ∧
  (∀ s : State, s.lovage.st = .run →
    let t : State := { s with pins := { s.pins with balls := Tbl.put (pinRestsHigh 0) s.pins.balls 0 false } }
    Gives .resetNFall s (t.pmWrite pmResetN none).chipReset) ∧
  (∀ (s : State) (refclk : Bool), s.hk.up = true ∨ s.lovage.st ≠ .run ∨ s.lovage.tripHold = true →
    Gives (.resetNRise refclk) s { s with pins := { s.pins with balls := Tbl.put (pinRestsHigh 0) s.pins.balls 0 true } }) ∧
  (∀ (s : State) (size : Nat), s.hk.up = true → s.bootMode ≠ 1 → s.bootState = 0 →
    let t := s.setBoot 1
    (norLeast ≤ size → Gives (.norInit true size) s (t.setHk { t.hk with norOk := true, norSize := size })) ∧
    (size < norLeast →
      Gives (.norInit true size) s ((t.setHk { t.hk with norOk := false, norSize := 0 }).bootEvent 3 .eUnsup 0)) ∧
    Gives (.norInit false size) s ((t.setHk { t.hk with norOk := false, norSize := 0 }).bootEvent 3 .eUnsup 0)) ∧
  (∀ (s : State) (size : Nat), s.hk.up = true → s.bootMode ≠ 1 → s.bootState ≠ 0 → s.imageDue = true → s.hk.step = 0 →
    s.hk.norOk = false →
    (norLeast ≤ size → Gives (.norInit true size) s (s.setHk { s.hk with norOk := true, norSize := size })) ∧
    Gives (.norInit false size) s ((s.setHk { s.hk with norOk := false, norSize := 0 }).bootEvent 3 .eUnsup 0)) ∧
  (∀ s : State, s.hk.up = true → s.hk.journal = false → s.bootState = 1 → s.hk.norOk = true → s.hk.retry = true →
    let t := (s.resumeCompaction.applySettings).applyFailmap
    let u := (t.setHk { t.hk with journal := true, retry := false }).setBoot 2
    (u.lcState ≠ 4 → u.bootMode ≠ 3 → u.hk.refclk = true → Gives .journalReadAtBoot s u) ∧
    (u.lcState ≠ 4 → u.bootMode ≠ 3 → u.hk.refclk = false → Gives .journalReadAtBoot s (u.setBoot 3)) ∧
    (u.lcState = 4 ∨ u.bootMode = 3 → Gives .journalReadAtBoot s (u.setBoot bsRescue))) ∧
  (∀ s : State, s.hk.up = true → s.hk.journal = false → s.bootState = 1 → s.hk.norOk = false → s.listener = false →
    s.hk.retry = true →
    let u := (s.setHk { s.hk with journal := true, retry := false }).setBoot 2
    u.lcState ≠ 4 → u.bootMode ≠ 3 → u.hk.refclk = true → Gives .journalReadAtBoot s u) ∧
  (∀ s : State, Gives .refclkPresent s (s.setHk { s.hk with refclk := true })) ∧
  (∀ s : State, s.hk.up = true → s.hk.refclk = true → s.on Reg.TICK_STATUS_PLL_LOCK = true →
    s.bootState = 2 ∨ s.bootState = 3 →
    let t := (List.range 24).foldl (fun t r => if t.hk.regpwr.testBit r then t.regionCmdWrite reqHk r cmdPowerOn else t) s
    (t.bootMode = 0 → Gives .bootRegionPower s (t.setBoot 4)) ∧ (t.bootMode = 1 → Gives .bootRegionPower s (t.setBoot bsListen)) ∧
    (2 ≤ t.bootMode → Gives .bootRegionPower s (t.setBoot bsHostOnly))) ∧
  (∀ s : State, s.imageDue = true → s.regionsUp = true → s.cfgSrc = srcIdle → Gives .galliardImageAttempt s s.imageAttempt) ∧
  (∀ s : State, s.hk.up = true → s.bootMode = 0 →
    (s.bootState = bsHostWait ∧ s.hk.step = 2) ∨ (s.bootState = bsBackoff ∧ s.hk.step = 3) → s.hk.attempt ≠ 3 →
    Gives .galliardHostWaitEnd s (s.waitEnded .eTmo)) ∧
  (∀ (s : State) (c : Code), s.cfg.done = some c → s.hk.attempt ≠ 0 → s.cfgSrc = srcIdle →
    Gives .bootStreamEnd s (s.attemptEnded c)) ∧
  (∀ (s : State) (req : Nat), s.bootMode = 0 → 5 ≤ s.bootState → s.bootState ≤ 8 →
    (s.hk.attempt = 0 ∨ s.hk.attempt = 3 → Gives (.bootHold req) s ((s.setBoot bsHeld).bootRecord req .ok)) ∧
    (s.hk.attempt = 1 ∨ s.hk.attempt = 2 →
      let t := s.cfgHostAbort
      Gives (.bootHold req) s (((t.setHk { t.hk with attempt := 0 }).setBoot bsHeld).bootRecord req .ok))) ∧
  (∀ (s : State) (req : Nat),
    (s.bootMode ≠ 0 ∨ s.bootState < 5 ∨ 8 < s.bootState → Gives (.bootHold req) s (s.bootRecord req .eState)) ∧
    (s.bootState ≠ bsHeld → Gives (.bootResume req) s (s.bootRecord req .eState))) ∧
  (∀ (s : State) (req : Nat), s.bootState = bsHeld →
    let t := s.setHk { s.hk with round := 0, step := 0, attempt := 0 }
    Gives (.bootResume req) s ((t.setBoot (4 + t.imageOf 0)).bootRecord req .ok)) ∧
  (∀ s : State, s.bootState = bsListen → s.hk.seen = false → Gives .listenerNoImageTimeout s (s.setBoot bsHostOnly)) ∧
  (∀ (s : State) (a n v : Nat), s.hk.up = true → s.listener = true → s.bootState ≠ bsRescue →
    (a < 0x20000 → Gives (.listenerBusRead a n v) s (s.hear a v n)) ∧
    (a = imageBase 1 → 32 ≤ n → Gives (.listenerBusRead a n v) s (s.hearImage 1 v n)) ∧
    (a = imageBase 2 → 32 ≤ n → Gives (.listenerBusRead a n v) s (s.hearImage 2 v n)) ∧
    (0x20000 ≤ a → a ≠ imageBase 1 → a ≠ imageBase 2 → a = s.hk.expect → s.cfgSrc = srcBoot →
      Gives (.listenerBusRead a n v) s (s.hearStream v n)) ∧
    (0x20000 ≤ a → a ≠ imageBase 1 → a ≠ imageBase 2 → a ≠ s.hk.expect → Gives (.listenerBusRead a n v) s s)) ∧
  (∀ s : State, Gives .retryStatusTimeout s (s.setHk { s.hk with retry := false }))

/-- R562, R565, R567, R569–R575, R581–R583, R672: the journal's commands with their refusals, the tries of a store (to the outbox of a
listener; without a NOR; with a hold-up check that fails, or passes and lets a page be programmed), the end of a NOR operation, and raw
access to the NOR. A compaction's copies are stores of their own, each with its check (log entry 31). -/
def Obligations.JournalAndNorComplete : Prop :=
  (∀ (s : State) (req : Nat), s.on Reg.HK_JSTAT_BUSY = false →
    let t := s.setHk { s.hk with cur := some ⟨.record s.hk.jbuf, 0, 0, none⟩, waiting := false }
    Gives (.journalWrite req) s
      ((((t.setBit Reg.HK_JSTAT_BUSY true).setFld Reg.HK_JSTAT_CMD 1).setFld Reg.HK_JSTAT_REQ req).respond req Reg.HK_JCMD
        .ok)) ∧
  (∀ (s : State) (req type dev part : Nat), type < 256 → dev < 8 → part < 8 → s.on Reg.HK_JSTAT_BUSY = true →
    Gives (.journalWrite req) s (s.journalRecord req 1 .eBusy) ∧
    Gives (.journalRead req type dev part) s (s.journalRecord req 2 .eBusy) ∧
    Gives (.journalOutack req) s (s.journalRecord req 3 .eBusy)) ∧
  (∀ (s : State) (req : Nat), s.on Reg.HK_JSTAT_BUSY = false → s.hk.outbox = [] →
    Gives (.journalOutack req) s (s.journalRecord req 3 .eState)) ∧
  (∀ (s : State) (req type dev part : Nat) (e : Nat × Nat), type < 256 → dev < 8 → part < 8 →
    s.on Reg.HK_JSTAT_BUSY = false → s.inForce (keyOf type dev part) = some e →
    Gives (.journalRead req type dev part) s ((s.setHk { s.hk with jbuf := e.2 }).journalRecord req 2 .ok)) ∧
  (∀ (s : State) (req type dev part : Nat), type < 256 → dev < 8 → part < 8 → s.on Reg.HK_JSTAT_BUSY = false →
    s.inForce (keyOf type dev part) = none →
    Gives (.journalRead req type dev part) s (s.journalRecord req 2 .eArg)) ∧
  (∀ (s : State) (req v : Nat) (l : List Nat), s.on Reg.HK_JSTAT_BUSY = false → s.hk.outbox = v :: l →
    Gives (.journalOutack req) s
      (((s.setHk { s.hk with outbox := l }).setBit Reg.HK_JSTAT_OUTBOX (!l.isEmpty)).journalRecord req 3 .ok)) ∧
  (∀ (s : State) (x : HkStore) (v1 v2 : Nat) (back : Option Nat), s.hk.up = true → s.hk.cur = some x → x.outcome = none →
    s.storeBlocked = false →
    let c : Instr := if s.hk.waiting then .holdupRetry v1 v2 back else .journalStore v1 v2 back
    let t := if x.tries = 0 ∧ x.bad = 0 then s.summaryStarts x else s
    (t.listener = true → Gives c s (t.toOutbox x)) ∧
    (t.listener = false → t.hk.norOk = false → Gives c s (t.storeOutcome x .eNoSpace)) ∧
    (t.listener = false → t.hk.norOk = true → t.storeIdle x = true → Gives c s (t.storeOutcome x .ok)) ∧
    (t.listener = false → t.hk.norOk = true → t.storeIdle x = false → t.holdSenses = false →
      Gives c s (t.storeOutcome x .eState)) ∧
    (t.listener = false → t.hk.norOk = true → t.storeIdle x = false → t.holdSenses = true →
      let k := t.holdCheck v1 v2
      (k.2 = false → k.1.fld Reg.HK_HOLDCFG_TRIES ≤ x.tries + 1 →
        Gives c s (k.1.storeOutcome { x with tries := x.tries + 1 } .eHold)) ∧
      (k.2 = false → x.tries + 1 < k.1.fld Reg.HK_HOLDCFG_TRIES →
        Gives c s (k.1.setHk { k.1.hk with cur := some { x with tries := x.tries + 1 }, waiting := true, holdEn := false })) ∧
      (k.2 = true →
        let u := k.1.setHk { k.1.hk with holdEn := true, waiting := false }
        let p := u.programBody x
        (u.sectorFull = false → Gives c s (u.storeProgram x u.activeSector u.storePage p.1 p.2 back)) ∧
        (u.sectorFull = true →
          let o := 1 - u.activeSector
          Gives c s ((if x.bad = 0 then u.eraseSector o else u).storeProgram x o x.bad p.1 p.2 back))))) ∧
  (∀ (s : State) (v1 v2 : Nat) (back : Option Nat), s.hk.cur = none ∨ s.storeBlocked = true →
    Gives (.journalStore v1 v2 back) s s ∧ Gives (.holdupRetry v1 v2 back) s s) ∧
  (∀ s : State, s.hk.holdEn = true → Gives .powerLossDuringStore s s.powerLoss) ∧
  (∀ (s : State) (x : HkStore) (c : Code) (back : Option Nat), s.lovage.st ≠ .holdup → s.hk.cur = some x →
    x.outcome = some c →
    Gives (.norOperationComplete back) s
      (if s.storeDone.lovage.tripHold then s.storeDone.tripReset else s.storeDone.lcResume)) ∧
  (∀ (s : State) (back : Option Nat), s.lovage.st = .holdup →
    Gives (.norOperationComplete back) s ((s.setHk { s.hk with cur := none }).chipReset).enterStby) ∧
  (∀ (s : State) (op : RawOp) (back : Option Nat), s.lovage.st ≠ .holdup → s.hk.cur = none → s.hk.raw = some op →
    Gives (.norOperationComplete back) s (s.rawDone op back)) ∧
  (∀ (s : State) (req : Nat), s.norCode 1 false = .ok →
    Gives (.norRawRead req) s
      ((s.setHk { s.hk with norbuf := s.norPage (s.fld Reg.HK_NORADDR_ADDR / 256) }).norRecord req 1 .ok)) ∧
  (∀ (s : State) (req : Nat) (force : Bool), s.norCode 2 force = .ok →
    let p := s.fld Reg.HK_NORADDR_ADDR / 256
    Gives (.norRawProgram req force) s
      (((s.setHk { s.hk with raw := some (.program p (s.norPage p &&& s.hk.norbuf)) }).setBit Reg.HK_NORSTAT_BUSY
        true).norRecord req 2 .ok)) ∧
  (∀ (s : State) (req : Nat) (force : Bool), s.norCode 2 force ≠ .ok →
    Gives (.norRawProgram req force) s (s.norRecord req 2 (s.norCode 2 force))) ∧
  (∀ (s : State) (req : Nat),
    ∀ p ∈ ([(.norRawRead req, 1), (.norRawErase req, 3), (.norRawBlankchk req, 4)] : List (Instr × Nat)), s.norCode p.2 false ≠ .ok →
      Gives p.1 s (s.norRecord req p.2 (s.norCode p.2 false))) ∧
  (∀ (s : State) (req : Nat), s.norCode 3 false = .ok →
    Gives (.norRawErase req) s
      (((s.setHk { s.hk with raw := some (.erase (s.fld Reg.HK_NORADDR_ADDR / 256)) }).setBit Reg.HK_NORSTAT_BUSY
        true).norRecord req 3 .ok)) ∧
  (∀ (s : State) (req : Nat), s.norCode 4 false = .ok →
    Gives (.norRawBlankchk req) s
      ((s.setBit Reg.HK_NORSTAT_BLANK (pageBlank (s.norPage (s.fld Reg.HK_NORADDR_ADDR / 256)))).norRecord req 4 .ok))

/-- R229, R586, R588–R592, R594–R597, R599, R601, R602: a slice starts, copies, hands over, tests, restores and hands back, each at its
event, ends with a frame fault found in its copy or without a test after the waits that R594 and R596 limit, and MARK_FAILED ends at the
handover. No drain window is asked for (log entry 32). -/
def Obligations.SliceEventsComplete : Prop :=
  (∀ (s : State) (r p : Nat), s.sweepMay r = true → s.sweepNext r = some p →
    let t := s.setTest { s.selfTest with pos := Tbl.put 0 s.selfTest.pos r (p + 1) }
    Gives (.sliceStart r) s (t.sliceStart r (sweepElem p).1 (sweepElem p).2 false).sweepCheck) ∧
  (∀ (s : State) (r : Nat), s.sweepMay r = true → s.sweepNext r = none →
    Gives (.sliceStart r) s (if s.slicing r then s
      else s.setTest { s.selfTest with pos := Tbl.put 0 s.selfTest.pos r sweepLen }).sweepCheck) ∧
  (∀ (s : State) (r dur f : Nat), r < 24 → s.fld (Reg.ST_SLICE_KIND r) = 0 →
    let k := s.fld (Reg.ST_SLICE_INDEX r)
    let t := (s.frameFault r (k / 8) (40 * (k % 8) + f)).sliceFinish r outCopyFault dur
    s.copyFault r k = some f →
    (s.slicePhase r = phCopy → Gives (.sliceCopyDone r dur) s t.sweepCheck) ∧
    (s.slicePhase r = phRestore → Gives (.sliceRestoreDone r dur) s (t.setOrigin r 0 0).sweepCheck)) ∧
  (∀ (s : State) (r dur : Nat), r < 24 → s.slicePhase r = phCopy →
    (s.fld (Reg.ST_SLICE_KIND r) = 0 → s.copyFault r (s.fld (Reg.ST_SLICE_INDEX r)) = none) →
    Gives (.sliceCopyDone r dur) s ((s.setPhase r phWaitOut).sliceReady r)) ∧
  (∀ (s : State) (r dur : Nat), r < 24 → s.slicePhase r = phWaitOut → s.sliceEligible r = true →
    let t := s.handover r
    (t.selfTest.marking.testBit r = false → Gives (.sliceHandover r dur) s (t.setPhase r phTest)) ∧
    (t.selfTest.marking.testBit r = true →
      Gives (.sliceHandover r dur) s (((t.retire r).sliceFinish r outFail dur).storeFailmap).sweepCheck)) ∧
  (∀ (s : State) (r dur : Nat), r < 24 → s.slicePhase r = phTest →
    (s.fld (Reg.ST_SLICE_SPARE r) ≠ inPlace → Gives (.sliceTestDone r true dur) s (s.setPhase r phRestore)) ∧
    (s.fld (Reg.ST_SLICE_SPARE r) = inPlace → Gives (.sliceTestDone r true dur) s
      (s.sliceFinish r (backOutcome false (s.selfTest.once.testBit r)) dur).sweepCheck) ∧
    (s.selfTest.once.testBit r = false → Gives (.sliceTestDone r false dur) s
      (s.setTest { s.selfTest with once := withBit s.selfTest.once r })) ∧
    (s.selfTest.once.testBit r = true → Gives (.sliceTestDone r false dur) s
      (((s.retire r).sliceFinish r outFail dur).storeFailmap).sweepCheck)) ∧
  (∀ (s : State) (r dur : Nat), r < 24 → s.slicePhase r = phRestore →
    (s.fld (Reg.ST_SLICE_KIND r) = 0 → s.copyFault r (s.fld (Reg.ST_SLICE_INDEX r)) = none) →
    Gives (.sliceRestoreDone r dur) s
      ((s.setPhase r (if s.selfTest.aborting.testBit r then phParked else phWaitBack)).sliceReady r)) ∧
  (∀ (s : State) (r dur : Nat), r < 24 → (s.slicePhase r = phWaitBack ∨ s.slicePhase r = phParked) → s.sliceEligible r = true →
    Gives (.sliceHandBack r dur) s
      ((s.sliceClear r).handBack r (s.fld (Reg.ST_SLICE_KIND r)) (s.fld (Reg.ST_SLICE_INDEX r)) (s.fld (Reg.ST_SLICE_SPARE r))
        (backOutcome (s.slicePhase r == phParked) (s.selfTest.once.testBit r)) dur).sweepCheck) ∧
  (∀ (s : State) (r dur : Nat), r < 24 → s.slicePhase r = phWaitOut →
    (s.fld (Reg.ST_SLICE_KIND r) = 0 → s.on (Reg.ST_SLICE_FLOWBLK r) = true →
      Gives (.sliceWaitOutTimeout r dur) s (s.sliceFinish r outSkipped dur).sweepCheck) ∧
    (s.fld (Reg.ST_SLICE_KIND r) = 2 → Gives (.sliceEngineWaitTimeout r dur) s (s.sliceFinish r outSkipped dur).sweepCheck)) ∧
  (∀ s : State, s.selfTest.restore = true →
    Gives .failmapStoreRetry s (s.setTest { s.selfTest with restore := false }).storeFailmap)

/-- R435, R587, R597–R599, R602, R606–R608, R611, R612, R614, R634: the self-test controller's commands, what refuses them, and the ends
of what they start; the life-cycle commands, with KEY 0xC3, and their refusals. The order in which a refused command's reasons are looked
at is the model's where no table gives one (log entry 32). -/
def Obligations.SelfTestAndLifeCycleComplete : Prop :=
  (∀ (s : State) (req r kind idx : Nat), s.sliceCode r kind idx = .ok → Tbl.get (0, 0) s.selfTest.behind r = (0, 0) →
    Gives (.selftestSlice req r kind idx) s ((s.sliceStart r kind idx true).stRecord req 1 .ok)) ∧
  (∀ (s : State) (req r kind idx : Nat), s.sliceCode r kind idx ≠ .ok →
    Gives (.selftestSlice req r kind idx) s (s.stRecord req 1 (s.sliceCode r kind idx))) ∧
  (∀ (s : State) (req r kind idx : Nat), s.sliceCode r kind idx = .ok → Tbl.get (0, 0) s.selfTest.behind r ≠ (0, 0) →
    Gives (.selftestSlice req r kind idx) s (s.stRecord req 1 .eBusy)) ∧
  (∀ (s : State) (req r : Nat),
    (s.abortAll.2 = false → Gives (.selftestAbort req r true) s (s.stRecord req 2 .eState)) ∧
    (24 ≤ r → Gives (.selftestAbort req r false) s (s.stRecord req 2 .eArg)) ∧
    (r < 24 → s.slicing r = false → Tbl.get (0, 0) s.selfTest.behind r = (0, 0) →
      Gives (.selftestAbort req r false) s (s.stRecord req 2 .eState)) ∧
    (r < 24 → Tbl.get (0, 0) s.selfTest.behind r ≠ (0, 0) →
      Gives (.selftestAbort req r false) s ((s.abortSlice r).stRecord req 2 .ok))) ∧
  (∀ (s : State) (req r : Nat),
    (24 ≤ r → Gives (.selftestRegionTest req r) s (s.stRecord req 3 .eArg)) ∧
    (r < 24 → s.testing r = true ∨ s.slicing r = true → Gives (.selftestRegionTest req r) s (s.stRecord req 3 .eBusy)) ∧
    (r < 24 → s.testing r = false → s.slicing r = false → s.rstate r ≠ .blank →
      Gives (.selftestRegionTest req r) s (s.stRecord req 3 .eState))) ∧
  (∀ (s : State) (req r : Nat), r < 24 → s.slicing r = true →
    Gives (.selftestAbort req r false) s ((s.abortSlice r).stRecord req 2 .ok)) ∧
  (∀ (s : State) (req r : Nat), s.abortAll.2 = true → Gives (.selftestAbort req r true) s (s.abortAll.1.stRecord req 2 .ok)) ∧
  (∀ (s : State) (req r : Nat), r < 24 → s.testing r = false → s.slicing r = false → s.rstate r = .blank →
    let x := s.selfTest
    let t := s.setTest { x with testing := withBit x.testing r, once := withoutBit x.once r }
    Gives (.selftestRegionTest req r) s ((t.setBit ⟨Reg.ST_STAT, 6, 1⟩ true).stRecord req 3 .ok)) ∧
  (∀ (s : State) (r dur : Nat), r < 24 → s.testing r = true →
    let x := s.selfTest
    let t := (List.range 96).foldl (fun t m => t.clearValid r m) ((s.setTest { x with once := withoutBit x.once r }).testEnd r)
    Gives (.regionTestDone r true dur) s
      ((t.setBit ⟨Reg.ST_EVT, 3, 1⟩ true).sliceOutcome r 3 0 inPlace (backOutcome false (x.once.testBit r)) dur)) ∧
  (∀ (s : State) (r dur : Nat), r < 24 → s.testing r = true →
    let x := s.selfTest
    let t := (List.range 96).foldl (fun t m => t.clearValid r m) ((s.setTest { x with once := withoutBit x.once r }).testEnd r)
    (x.once.testBit r = false → Gives (.regionTestDone r false dur) s (s.setTest { x with once := withBit x.once r })) ∧
    (x.once.testBit r = true → Gives (.regionTestDone r false dur) s
      ((((t.setBit ⟨Reg.ST_EVT, 3, 1⟩ true).listFailed r 3 0).sliceOutcome r 3 0 inPlace outFail dur).storeFailmap))) ∧
  (∀ (s : State) (req : Nat), s.on Reg.ST_STAT_AN_BUSY = false → s.on Reg.ST_ACTL_DIODE_EN = true → s.diodeSenses = false →
    Gives (.selftestAnalog req) s (s.stRecord req 4 .eState)) ∧
  (∀ (s : State) (req : Nat), s.on Reg.ST_STAT_AN_BUSY = false →
    (s.on Reg.ST_ACTL_DIODE_EN = true → s.diodeSenses = true) →
    Gives (.selftestAnalog req) s ((s.setBit Reg.ST_STAT_AN_BUSY true).stRecord req 4 .ok)) ∧
  (∀ (s : State) (req : Nat), s.on Reg.ST_STAT_AN_BUSY = true → Gives (.selftestAnalog req) s (s.stRecord req 4 .eBusy)) ∧
  (∀ (s : State) (req r kind p j : Nat), s.sliceable r = true → s.slicing r = false → Tbl.get (0, 0) s.selfTest.behind r = (0, 0) →
    kind < 3 → p < userCount kind → s.freeSpare r kind = some j →
    Gives (.selftestMarkFailed req r kind p) s ((s.sliceEnter r kind p j phCopy true true).stRecord req 5 .ok)) ∧
  (∀ (s : State) (req r kind p : Nat), s.sliceable r = true → s.slicing r = false → Tbl.get (0, 0) s.selfTest.behind r = (0, 0) →
    r < 24 →
    Gives (.selftestMarkFailed req r 3 p) s (((s.listFailed r 3 0).storeFailmap).stRecord req 5 .ok) ∧
    (kind < 3 → p < userCount kind → s.freeSpare r kind = none →
      Gives (.selftestMarkFailed req r kind p) s (((s.listFailed r kind p).storeFailmap).stRecord req 5 .ok)) ∧
    (∀ j, kind < 3 → posOk kind p = true → spareOfIndex kind p = some j → s.on (Reg.ST_SUB_USED r j) = false →
      Gives (.selftestMarkFailed req r kind p) s ((((s.retireSpare r j).listFailed r kind p).storeFailmap).stRecord req 5 .ok))) ∧
  (∀ (s : State) (req r kind p : Nat),
    (24 ≤ r ∨ (kind ≠ 3 ∧ posOk kind p = false) → Gives (.selftestMarkFailed req r kind p) s (s.stRecord req 5 .eArg)) ∧
    (r < 24 → kind = 3 ∨ posOk kind p = true → s.sliceable r = false →
      Gives (.selftestMarkFailed req r kind p) s (s.stRecord req 5 .eState)) ∧
    (r < 24 → kind = 3 ∨ posOk kind p = true → s.sliceable r = true →
      s.slicing r = true ∨ Tbl.get (0, 0) s.selfTest.behind r ≠ (0, 0) →
      Gives (.selftestMarkFailed req r kind p) s (s.stRecord req 5 .eBusy))) ∧
  (∀ (s : State) (req n p0 p1 p2 p3 : Nat),
    (128 ≤ n → Gives (.selftestEyeCheck req n p0 p1 p2 p3) s (s.stRecord req 6 .eArg)) ∧
    (n < 128 → s.on (Reg.LN_STATUS_ST_HOLD n) = true → Gives (.selftestEyeCheck req n p0 p1 p2 p3) s (s.stRecord req 6 .eBusy)) ∧
    (n < 128 → s.on (Reg.LN_STATUS_ST_HOLD n) = false → s.laneState n ≠ lnUp →
      Gives (.selftestEyeCheck req n p0 p1 p2 p3) s (s.stRecord req 6 .eState))) ∧
  (∀ (s : State) (req n p0 p1 p2 p3 : Nat), n < 128 → s.on (Reg.LN_STATUS_ST_HOLD n) = false → s.laneState n = lnUp →
    Gives (.selftestEyeCheck req n p0 p1 p2 p3) s ((s.eyeCheck n p0 p1 p2 p3).stRecord req 6 .ok)) ∧
  (∀ (s : State) (n p0 p1 p2 p3 : Nat), s.on Reg.ST_CTL_EN = true → s.on Reg.ST_CTL_LANECHK = true → n < 128 →
    s.selfTest.lanes = n → s.on (Reg.LN_STATUS_ST_HOLD n) = false →
    (s.laneState n = lnUp →
      Gives (.laneSelftestSlice n p0 p1 p2 p3) s ((s.eyeCheck n p0 p1 p2 p3).laneVisited n)) ∧
    (s.laneState n = lnOff ∨ s.laneState n = lnWait →
      Gives (.laneSelftestSlice n p0 p1 p2 p3) s (s.setBit (Reg.LN_STATUS_ST_HOLD n) true)) ∧
    (s.laneState n ≠ lnUp → s.laneState n ≠ lnOff → s.laneState n ≠ lnWait →
      Gives (.laneSelftestSlice n p0 p1 p2 p3) s (s.laneVisited n))) ∧
  (∀ (s : State) (n errors : Nat) (locked : Bool), n < 128 → s.on (Reg.LN_STATUS_ST_HOLD n) = true →
    let ok := locked && errors == 0
    let t := (s.laneCount n Reg.LN_PRBSERR_COUNT errors).wr (Reg.LN_STLOOP n)
      (BitVec.ofNat 64 (1 + 2 * bit ok + min errors 0xFFFFFF * 2 ^ 8))
    let u := if ok then t else t.stErr 5 (128 + n)
    let v := (u.setBit (Reg.LN_STATUS_ST_HOLD n) false).setLane n { u.lane n with enPend := none }
    Gives (.laneNearSliceEnd n errors locked) s
      ((match (u.lane n).enPend with
        | some en => v.laneEnable n en
        | none => v).laneVisited n)) ∧
  (∀ (s : State) (bg : Nat) (ts : BitVec 32) (sup : BitVec 20) (diode vcore hold : Bool) (temp : BitVec 16), s.hk.holdEn = false →
    let den := s.on Reg.ST_ACTL_DIODE_EN && s.diodeSenses
    let bits := bit (bg != 0) + 2 * bit (ts != 0) + 4 * bit (den && diode) + 8 * bit (sup != 0) + 16 * bit vcore + 32 * bit hold
    let f : Fld := ⟨Reg.ST_ASTAT, 0, 6⟩
    let t := (s.setFld f (s.fld f ||| bits)).setBit Reg.ST_ASTAT_BG_MAJ (bg == 1)
    let u := (t.setFld Reg.ST_TSMASK_TS ts.toNat).setFld Reg.ST_SUPMASK_SUP sup.toNat
    let v := if den then (u.setFld Reg.PWR_DIODE_TEMP temp.toNat).setBit Reg.PWR_DIODE_VALID true else u
    let w := ((if bits = 0 then v else v.stErr 4 0).setBit Reg.ST_STAT_AN_BUSY false).setBit ⟨Reg.ST_EVT, 2, 1⟩ true
    (s.on Reg.ST_STAT_AN_BUSY = true → Gives (.analogPart bg ts sup diode vcore hold temp) s w.sweepCheck) ∧
    (s.on Reg.ST_STAT_AN_BUSY = false → s.on Reg.ST_CTL_EN = true → s.on Reg.ST_CTL_ANALOG = true → s.selfTest.analog = false →
      Gives (.analogPart bg ts sup diode vcore hold temp) s (w.setTest { w.selfTest with analog := true }).sweepCheck)) ∧
  (∀ (s : State) (req target : Nat), target < 8 → s.on Reg.LC_CMDSTAT_BUSY = false → lcAllowed s.lcState target = true →
    (lcZeroises s.lcState target = false →
      Gives (.lcTransition req target 0xC3) s ((s.lcRecord req 1 .ok).lcFinish target)) ∧
    (lcZeroises s.lcState target = true →
      let t := (s.lcRecord req 1 .ok).abortAll.1
      Gives (.lcTransition req target 0xC3) s
        ((t.setTest { t.selfTest with lc := some target }).setBit Reg.LC_CMDSTAT_BUSY true).lcResume)) ∧
  (∀ (s : State) (req target slot : Nat) (key : BitVec 8), key ≠ 0xC3 →
    Gives (.lcTransition req target key) s (s.lcRecord req 1 .eArg) ∧ Gives (.lcKeyKill req slot key) s (s.lcRecord req 3 .eArg)) ∧
  (∀ (s : State) (req target slot : Nat), target < 8 →
    (s.on Reg.LC_CMDSTAT_BUSY = true → Gives (.lcTransition req target 0xC3) s (s.lcRecord req 1 .eBusy) ∧
      Gives (.lcKeyKill req slot 0xC3) s (s.lcRecord req 3 .eBusy)) ∧
    (s.on Reg.LC_CMDSTAT_BUSY = false → lcAllowed s.lcState target = false →
      Gives (.lcTransition req target 0xC3) s (s.lcRecord req 1 .eState))) ∧
  (∀ (s : State) (req slot : Nat) (key : BitVec 8), slot < 2 →
    let t := (List.range 8).foldl (fun t i => t.setFld (Reg.LC_KEYBUF_KEY i) 0) s
    (key ≠ 0xC3 → Gives (.lcKeyProg req slot key) s (t.lcRecord req 2 .eArg)) ∧
    (key = 0xC3 → s.on Reg.LC_CMDSTAT_BUSY = true → Gives (.lcKeyProg req slot key) s (t.lcRecord req 2 .eBusy)) ∧
    (key = 0xC3 → s.on Reg.LC_CMDSTAT_BUSY = false → s.lcState ≠ 1 → Gives (.lcKeyProg req slot key) s (t.lcRecord req 2 .eLock)) ∧
    (key = 0xC3 → s.on Reg.LC_CMDSTAT_BUSY = false → s.lcState = 1 →
      (Tbl.get none s.fuses.keys slot).isSome = true ∨ hasBit s.fuses.kill slot = true →
      Gives (.lcKeyProg req slot key) s (t.lcRecord req 2 .eState))) ∧
  (∀ (s : State) (req slot : Nat), slot < 2 → s.on Reg.LC_CMDSTAT_BUSY = false → s.lcState = 1 →
    Tbl.get none s.fuses.keys slot = none → s.fuses.kill.testBit slot = false →
    let k := ((List.range 8).map (fun i => s.fld (Reg.LC_KEYBUF_KEY i) * 2 ^ (32 * i))).sum
    let t := (List.range 8).foldl (fun t i => t.setFld (Reg.LC_KEYBUF_KEY i) 0) s
    let u : State := { t with fuses := { t.fuses with keys := Tbl.put none t.fuses.keys slot (some k) } }
    Gives (.lcKeyProg req slot 0xC3) s
      (((u.setCfg { u.cfg with keys := Tbl.put none u.cfg.keys slot (some k) }).setBitOf Reg.CFG_KEYSTAT_READY slot).lcRecord
        req 2 .ok)) ∧
  (∀ (s : State) (req slot : Nat), slot < 2 → s.on Reg.LC_CMDSTAT_BUSY = false →
    let t : State := { s with fuses := { s.fuses with kill := withBit s.fuses.kill slot } }
    let u := (t.setCfg { t.cfg with keys := Tbl.put none t.cfg.keys slot none }).clrBitOf Reg.CFG_KEYSTAT_READY slot
    Gives (.lcKeyKill req slot 0xC3) s ((u.setBitOf Reg.CFG_KEYSTAT_KILLED slot).lcRecord req 3 .ok))

/-- R616–R625, R627, R629–R631: the handshakes of FLOW pins and of GEARED inputs, the words of GEARED pairs, bitslip, and the write of
IOB_CTL with its refusals. That a write of IOB_CTL is refused whole is the model's reading (log entry 34). -/
def Obligations.PinDataCompletes : Prop :=
  (∀ (s : State) (b p : Nat), s.pinLive b p 1 = true → 2 ≤ ioDir ((s.bank b).word p) →
    let xs := if ioDir ((s.bank b).word p) = 3 then [s.toBank b (5 * p), s.toBank b (5 * p + 1)] else [s.toBank b (5 * p)]
    let y := (s.bank b).pin p
    (y.oack = true → xs.all (fun v => v.rail == .null) = true →
      Gives (.bankFlowOutputToken b p) s (s.setBank b ((s.bank b).setPin p { y with oack := false }))) ∧
    (y.oack = false → xs.all (·.rail.valid) = true →
      Gives (.bankFlowOutputToken b p) s
        (s.setBank b ((s.bank b).setPin p { y with
          lvl := (s.toBank b (5 * p)).rail == .one, oe := (s.toBank b (5 * p + 1)).rail == .one, oack := true })))) ∧
  (∀ (s : State) (b p : Nat) (level : Option Bool), s.pinLive b p 1 = true → (ioDir ((s.bank b).word p)).testBit 0 = true →
    let t := s.setBalls [(48 * b + p, level)]
    let y := (t.bank b).pin p
    (y.tok.isSome = true → (t.toBank b (5 * p + 2)).rail = .one →
      Gives (.bankFlowInputAck b p level) s (t.setBank b ((t.bank b).setPin p { y with tok := none, iack := true }))) ∧
    (y.tok = none → (t.toBank b (5 * p + 2)).rail = .null →
      let u := (t.ballLevel b p).1
      Gives (.bankFlowInputAck b p level) s
        (u.setBank b ((u.bank b).setPin p { y with tok := some (t.ballLevel b p).2, iack := false })))) ∧
  (∀ (s : State) (b p : Nat) (level : Option Bool), s.pinLive b p 1 = false → s.pinLive b p 2 = true →
    ioDir ((s.bank b).word p) = 1 →
    let x := s.bank b
    let g := x.gear (p / 2)
    (g.tok = true → (s.toBank b (5 * p + 8)).rail = .one →
      Gives (.bankFlowInputAck b p level) s
        (s.setBank b (x.setGear (p / 2) { g with tok := false, iack := true, inq := g.inq.tail }))) ∧
    (g.tok = false → g.iack = true → (s.toBank b (5 * p + 8)).rail = .null →
      Gives (.bankFlowInputAck b p level) s
        (s.setBank b (x.setGear (p / 2) { g with iack := false, tok := !g.inq.isEmpty })))) ∧
  (∀ (s : State) (b q : Nat), s.pinLive b (2 * q) 2 = true → ioDir ((s.bank b).word (2 * q)) = 2 →
    let x := s.bank b
    let xs := (List.range 8).map (fun i => s.toBank b (10 * q + i))
    (∀ (w : Nat) (l : List Nat), (x.gear q).outq = w :: l →
      Gives (.gearedOutputWord b q true) s (s.setBank b (x.setGear q { x.gear q with outq := l, last := w }))) ∧
    ((x.gear q).oack = false → xs.all (·.rail.valid) = true → (x.gear q).outq.length < 4 →
      Gives (.gearedOutputWord b q false) s
        (s.setBank b (x.setGear q { x.gear q with outq := (x.gear q).outq ++ [wordOf xs], oack := true }))) ∧
    ((x.gear q).oack = true → xs.all (fun v => v.rail == .null) = true →
      Gives (.gearedOutputWord b q false) s (s.setBank b (x.setGear q { x.gear q with oack := false }))) ∧
    ((x.gear q).outq = [] → Gives (.gearedOutputWord b q true) s (s.bankEvent b 9))) ∧
  (∀ (s : State) (b q : Nat) (bits : BitVec 8), b < 12 → s.gearedIn b q = true → ((s.bank b).pin (2 * q)).hold = none →
    let x := s.bank b
    let rx := (x.gear q).receive ((List.range 8).map (fun i => bits.toNat.testBit i))
    (rx.2 = [] → Gives (.gearedInputWord b q bits) s (s.setBank b (x.setGear q rx.1))) ∧
    (∀ w ws, rx.2 = w :: ws → rx.1.inq.length < 4 →
      Gives (.gearedInputWord b q bits) s (s.setBank b (x.setGear q { rx.1 with inq := rx.1.inq ++ [w] }.present))) ∧
    (∀ w ws, rx.2 = w :: ws → 4 ≤ rx.1.inq.length →
      Gives (.gearedInputWord b q bits) s ((s.setBank b (x.setGear q rx.1)).bankEvent b 10))) ∧
  (∀ (s : State) (req b q : Nat), b < 12 → s.gearedIn b q = true →
    let t := s.setBank b ((s.bank b).setGear q { (s.bank b).gear q with slip := ((s.bank b).gear q).slip + 1 })
    Gives (.bankBitslip req b q) s
      (((t.setFld (Reg.IOB_CMDSTAT_CODE b) 0).setFld (Reg.IOB_CMDSTAT_REQ b) req).respond req (Reg.IOB_CTL b) .ok)) ∧
  (∀ (s : State) (req b : Nat) (together : Bool), b < 6 →
    let t := s.quench b allPins 5 (!together)
    Gives (.bankQuench req b together) s
      (((t.setFld (Reg.IOB_CMDSTAT_CODE b) 0).setFld (Reg.IOB_CMDSTAT_REQ b) req).respond req (Reg.IOB_CTL b) .ok) ∧
    (s.on (Reg.IOB_STAT_VOK b) = true →
     let u := (s.setBank b { s.bank b with releasing := s.fld (Reg.IOB_QPIN_PIN b) }).bankNow
     Gives (.bankQclr req b false) s
      (((u.setFld (Reg.IOB_CMDSTAT_CODE b) 0).setFld (Reg.IOB_CMDSTAT_REQ b) req).respond req (Reg.IOB_CTL b) .ok))) ∧
  (∀ (s : State) (req b q : Nat) (recent together : Bool), b < 12 → q < 32 →
    let u := fun (c : Code) => ((((s.setFld (Reg.IOB_CMDSTAT_CODE b) c.num).setFld (Reg.IOB_CMDSTAT_REQ b) req).noteRefusal
      (srcBank b) (Reg.IOB_CTL b - 0x10000) req c).respond req (Reg.IOB_CTL b) c)
    (s.gearedIn b q = false → Gives (.bankBitslip req b q) s (u .eArg)) ∧
    (6 ≤ b → Gives (.bankQuench req b together) s (u .eUnsup) ∧ Gives (.bankQclr req b recent) s (u .eUnsup)) ∧
    (b < 6 → s.on (Reg.IOB_STAT_VOK b) = false → Gives (.bankQclr req b recent) s (u .eState)) ∧
    (b < 6 → s.on (Reg.IOB_STAT_VOK b) = true → Gives (.bankQclr req b true) s (u .eBusy)))

/-- R23, R626, R627, R629–R637, R639, R640: current-limit and supply events of the banks, of a device that is powered and of one that is
not; the control pins with their filters; the writes of CP_CFG and TL_MAP, with their refusals and the conflict that one creates. That
a device in reset follows no supply and no pin is read from R23 (log entry 34). -/
def Obligations.PinEventsComplete : Prop :=
  (∀ (s : State) (b p : Nat) (v together : Bool), b < 6 → p < 48 → s.pinDrive b p = .level v →
    ((s.bank b).set.testBit 3 = false → Gives (.currentLimitEvent b p together) s (s.quench b (2 ^ p) 3 (!together))) ∧
    ((s.bank b).set.testBit 3 = true → Gives (.currentLimitEvent b p together) s (s.quench b allPins 3 (!together)))) ∧
  (∀ (s : State) (b mv : Nat) (together : Bool), b < 12 → mv * 100 < nominalMv ((s.bank b).set % 4) * 80 →
    let p : State := { s with pins := { s.pins with supply := Tbl.put 0 s.pins.supply b mv } }
    (s.hk.up = true → b < 6 →
      Gives (.bankSupplyCollapse b mv together) s ((p.bankSupply b mv).quench b allPins 4 (!together))) ∧
    (s.hk.up = true → 6 ≤ b → Gives (.bankSupplyCollapse b mv together) s (p.bankSupply b mv)) ∧
    (s.hk.up = false → Gives (.bankSupplyCollapse b mv together) s p)) ∧
  (∀ (s : State) (b mv : Nat), b < 12 →
    let nom := nominalMv ((s.bank b).set % 4)
    let p : State := { s with pins := { s.pins with supply := Tbl.put 0 s.pins.supply b mv } }
    let t := p.setFld (Reg.IOB_VMON_MV b) mv
    (s.hk.up = true → mv * 100 < nom * 90 → s.on (Reg.IOB_STAT_VOK b) = true →
      Gives (.bankSupplyOutOfRange b mv) s ((t.setBit (Reg.IOB_STAT_VOK b) false).bankEvent b 8)) ∧
    (s.hk.up = true → nom * 90 ≤ mv * 100 → mv * 100 ≤ nom * 110 → s.on (Reg.IOB_STAT_VOK b) = false →
      let u := t.setBit (Reg.IOB_STAT_VOK b) true
      Gives (.bankSupplyReturn b mv) s (u.setBank b { u.bank b with returning := true }).bankNow) ∧
    (s.hk.up = false → Gives (.bankSupplyOutOfRange b mv) s p ∧ Gives (.bankSupplyReturn b mv) s p)) ∧
  (∀ (s : State) (n : Nat) (v : Bool), n < 52 → ownPin n = false →
    (hasFilter n = false ∨ s.hk.up = false → Gives (.controlPinInputChange n v) s
      { s with pins := { s.pins with balls := Tbl.put (pinRestsHigh n) s.pins.balls n v } }) ∧
    (hasFilter n = true → s.hk.up = true →
      let t := s.setFilt n (s.filtOut n)
      Gives (.controlPinInputChange n v) s
        (State.filterInput { t with pins := { t.pins with balls := Tbl.put (pinRestsHigh n) t.pins.balls n v } } n v))) ∧
  (∀ (s : State) (n : Nat), hasFilter n = true → s.fld (Reg.CP_CFG_FILT n) = 1 →
    Gives (.pinFilterSettle n) s (s.setFilt n (s.cpBall n))) ∧
  (∀ (s : State) (n : Nat), hasFilter n = true → s.fld (Reg.CP_CFG_FILT n) = 2 → Tbl.get false s.pins.window n = true →
    Gives (.pinFilterSettle n) s ((s.setWindow n false).filterInput n (s.cpBall n))) ∧
  (∀ (s : State) (req n : Nat) (value : BitVec 32), n < 52 →
    let v := value.toNat &&& 0x37FFF
    let m := cpMask n
    let changes := hasFilter n && bitsOf v 2 10 != bitsOf (s.rd (Reg.CP_CFG n)).toNat 2 10
    let t := if changes then (s.setFilt n (s.filtOut n)).setWindow n false else s
    v &&& (0x37FFF - m) = (resetOf (Reg.CP_CFG n)).toNat &&& (0x37FFF - m) → bitsOf v 2 2 ≠ 3 →
    Gives (.cpCfgWrite req n value) s ((t.wr (Reg.CP_CFG n) (BitVec.ofNat 64 v)).cpRecord req (Reg.CP_CFG n) .ok)) ∧
  (∀ (s : State) (req n : Nat) (value : BitVec 32), n < 52 →
    let v := value.toNat &&& 0x37FFF
    let m := cpMask n
    v &&& (0x37FFF - m) ≠ (resetOf (Reg.CP_CFG n)).toNat &&& (0x37FFF - m) ∨ bitsOf v 2 2 = 3 →
    Gives (.cpCfgWrite req n value) s (s.cpRecord req (Reg.CP_CFG n) .eUnsup)) ∧
  (∀ (s : State) (req k : Nat) (value : BitVec 32), k < 64 → (value.toNat.testBit 4 = true → k < 8) →
    let t := s.wr (Reg.TL_MAP k) (BitVec.ofNat 64 (value.toNat % 32))
    Gives (.tlMapWrite req k value) s
      (((List.range 8).foldl (fun t l =>
        if t.lineConflict l && !s.lineConflict l then
          t.errBit ⟨Reg.TL_ERR, l, 1⟩ (hasBit (t.fld Reg.TL_ERRCTL_MASK) l) srcPins .notice l (fun u => u.tlStat)
        else t) t).cpRecord req (Reg.TL_MAP k) .ok)) ∧
  (∀ (s : State) (req k : Nat) (value : BitVec 32), 8 ≤ k → k < 64 → value.toNat.testBit 4 = true →
    Gives (.tlMapWrite req k value) s (s.cpRecord req (Reg.TL_MAP k) .eArg))

/-- R641–R647, R650–R653: incidents are delivered and taken, buckets refill, summaries wait, and the log's commands act. -/
def Obligations.IncidentLogCompletes : Prop :=
  (∀ (s : State) (src n : Nat) (v : Sev) (code : Nat) (arg : BitVec 64), sevOf n = some v → allSources.contains src = true →
    code < 128 → Gives (.incidentBusDeliver src n code arg) s (s.raise src v code arg.toNat)) ∧
  (∀ (s : State) (src : Nat) (recent : Bool) (i : Incident) (l : List Incident), (s.busPort src).slots = i :: l →
    Gives (.incidentTake src recent) s (((s.setBusPort src ⟨l, 0⟩).logTake i recent).logLost src (s.busPort src).drops)) ∧
  (∀ (s : State) (src : Nat), Gives (.rateTokenRefill src) s (s.setTokens src (s.tokens src + 1))) ∧
  (∀ (s : State) (req : Nat) (value : BitVec 32),
    let burst := value.toNat % 2 ^ 8
    let refill := bitsOf value.toNat 16 16
    (burst ≠ 0 → refill ≠ 0 →
      let t := (s.setFld Reg.IL_RATE_BURST burst).setFld Reg.IL_RATE_REFILL refill
      Gives (.ilRateWrite req value) s
        (((allSources.map (fun k => (k, s.tokens k))).foldl (fun s e => s.setTokens e.1 e.2) t).logRecord
          req Reg.IL_RATE 0 .ok)) ∧
    (burst = 0 ∨ refill = 0 → Gives (.ilRateWrite req value) s (s.logRecord req Reg.IL_RATE 0 .eArg))) ∧
  (∀ (s : State) (req : Nat), Gives (.ilAck req) s ((s.setFld Reg.IL_PEND_COUNT 0).logRecord req Reg.IL_CMD 1 .ok)) ∧
  (∀ (s : State) (req : Nat), Gives (.ilClear req) s ((s.logClear req).logRecord req Reg.IL_CMD 2 .ok)) ∧
  (∀ (s : State) (req : Nat),
    Gives (.ilAlmclr req false) s ({ s with lovage := { s.lovage with alarm := false } }.logRecord req Reg.IL_CMD 3 .ok) ∧
    Gives (.ilAlmclr req true) s (s.logRecord req Reg.IL_CMD 3 .ok)) ∧
  (∀ (s : State) (req : Nat),
    (s.pmHeld = true → Gives (.ilPmAck req) s
      ({ s with lovage := { s.lovage with pm := pmSeal (withoutBit s.lovage.pm 79) } }.logRecord req Reg.IL_CMD 4 .ok)) ∧
    (s.pmHeld = false → Gives (.ilPmAck req) s (s.logRecord req Reg.IL_CMD 4 .ok))) ∧
  (∀ (s : State) (req : Nat),
    let t := (((s.setFld Reg.IL_LOST_COUNT 0).setFld Reg.IL_COALCNT_COUNT 0).setFld Reg.IL_BELOW_COUNT 0)
    let u := (t.setFld Reg.IL_TOTAL_COUNT 0).setFld Reg.IL_LOSTSRC_SRC 0
    Gives (.ilCntclr req) s
      (((u.setBit Reg.IL_LOSTSRC_VALID false).setBit Reg.IL_STAT_CNT_SAT false).logRecord req Reg.IL_CMD 5 .ok)) ∧
  (∀ s : State, let t := s.setHk { s.hk with sumRecent := false }
    (s.hk.sumWaits = none → Gives .summaryGapExpiry s t) ∧
    (∀ e, s.hk.sumWaits = some e → Gives .summaryGapExpiry s
      (((t.setHk { t.hk with sumWaits := none }).setBit Reg.IL_STAT_SUM_PEND false).queueStore (.summary (some e))).1)) ∧
  (∀ s : State, Gives .tickMarkPulseEnd s { s with tick := { s.tick with markHigh := false } })

/-- R609, R610, R634, R662, R663, R665, R667, R669–R673: supplies come and go, monitors and sensors are sampled, a reading enters or
leaves its window, warnings set and clear, a trip begins and ends, WAKE changes, PWR_CTL is written, and the JTAG instruction register is
loaded. -/
def Obligations.PowerCompletes : Prop :=
  (∀ (s : State) (refclk : Bool), s.lovage.st = .stby →
    let t : State := { s with lovage := { s.lovage with st := .run } }
    let u := t.setHk { t.hk with refclk }
    (s.cpBall 0 = false → Gives (.pwrokRise refclk) s u) ∧
    (s.cpBall 0 = true → s.lovage.tripHold = false → Gives (.pwrokRise refclk) s u.start)) ∧
  (∀ s : State, Gives .mainPowerLoss s s.powerLoss) ∧
  (∀ s : State, Gives .vstbyLoss s s.standbyLoss) ∧
  (∀ s : State, s.lovage.st = .off → Gives .vstbyRise s { s with lovage := .reset }) ∧
  (∀ (s : State) (n mv : Nat), s.hk.up = true →
    (n < 7 → mv < railFails n → Gives (.supplyMonitorSample n mv) s s.powerLoss) ∧
    (n < 7 → railFails n ≤ mv → Gives (.supplyMonitorSample n mv) s (s.railSample n mv)) ∧
    (mv < 1500 → Gives (.supplyMonitorSample 7 mv) s s.standbyLoss) ∧
    (8 ≤ n → n < 20 → Gives (.supplyMonitorSample n mv) s (s.railSample n mv)) ∧
    (1500 ≤ mv → Gives (.supplyMonitorSample 7 mv) s (s.railSample 7 mv)) ∧
    (mv < 3000 → s.holdSenses = true →
      Gives (.supplyMonitorSample 20 mv) s ((s.setBit Reg.PWR_STAT_HOLD_LOW true).powerEvent 5 0 mv)) ∧
    (3000 ≤ mv ∨ s.holdSenses = false → Gives (.supplyMonitorSample 20 mv) s s)) ∧
  (∀ (s : State) (n mv : Nat), s.hk.up = true → n < 8 → (n < 7 → railFails n ≤ mv) → (n = 7 → 1500 ≤ mv) →
    let w := s.monitorWindow n
    let was := s.on (Reg.PWR_RAIL_LOW n) || s.on (Reg.PWR_RAIL_HIGH n)
    let out := decide (mv * 1000 < w.1) || decide (w.2 < mv * 1000)
    let t := ((s.setFld (Reg.PWR_RAIL_MV n) mv).setBit (Reg.PWR_RAIL_LOW n) (decide (mv * 1000 < w.1))).setBit (Reg.PWR_RAIL_HIGH n)
      (decide (w.2 < mv * 1000))
    (out = was → Gives (.supplyMonitorSample n mv) s t) ∧
    (out = true → was = false → Gives (.supplyMonitorSample n mv) s
      (((t.setBit (Reg.PWR_RAIL_OOR n) true).setBit Reg.PWR_STAT_RAIL_EV true).powerEvent 3 n mv)) ∧
    (out = false → was = true → Gives (.supplyMonitorSample n mv) s (t.powerEvent 4 n mv))) ∧
  (∀ (s : State) (temps : List (BitVec 16)) (k : Nat), s.hk.up = true → s.lovage.tripHold = false →
    let xs := (List.range 32).map (fun k => (k, (temps.getD k 0).toNat))
    let hot := fun (e : Nat × Nat) => decide (1200 ≤ tempOf e.2) && decide (1200 ≤ tempOf (s.fld (Reg.PWR_TS_TEMP e.1)))
    xs.find? hot = some (k, (temps.getD k 0).toNat) →
    let t := xs.foldl (fun s e => s.setFld (Reg.PWR_TS_TEMP e.1) e.2) s
    let u := (t.setFld Reg.PWR_TMAX_TEMP (hottest xs).2).setFld Reg.PWR_TMAX_SENSOR (hottest xs).1
    u.on Reg.PWR_STAT_TWARN_ACT = true →
    Gives (.thermalSample temps) s (u.trip k (temps.getD k 0).toNat)) ∧
  (∀ (s : State) (temps : List (BitVec 16)), s.hk.up = true → s.lovage.tripHold = false →
    (∀ k : Nat, k < 32 → tempOf (temps.getD k 0).toNat < 1200) →
    let xs := (List.range 32).map (fun k => (k, (temps.getD k 0).toNat))
    let t := xs.foldl (fun s e => s.setFld (Reg.PWR_TS_TEMP e.1) e.2) s
    let u := (t.setFld Reg.PWR_TMAX_TEMP (hottest xs).2).setFld Reg.PWR_TMAX_SENSOR (hottest xs).1
    (tempOf (hottest xs).2 < 10 * (u.fld Reg.PWR_CTL_TWARN : Int) → Gives (.thermalSample temps) s u) ∧
    (10 * (u.fld Reg.PWR_CTL_TWARN : Int) ≤ tempOf (hottest xs).2 → u.on Reg.PWR_STAT_TWARN_ACT = false →
      Gives (.thermalSample temps) s (((u.setBit Reg.PWR_STAT_TWARN_ACT true).setBit Reg.PWR_STAT_TWARN_EV true).powerEvent
        1 (hottest xs).1 (hottest xs).2))) ∧
  (∀ s : State, s.on Reg.PWR_STAT_TWARN_ACT = true →
    (∀ k : Nat, k < 32 → tempOf (s.fld (Reg.PWR_TS_TEMP k)) < 10 * ((s.fld Reg.PWR_CTL_TWARN : Int) - 5)) →
    Gives .thermalWarningClear s
      ((s.setBit Reg.PWR_STAT_TWARN_ACT false).powerEvent 2 (s.fld Reg.PWR_TMAX_SENSOR) (s.fld Reg.PWR_TMAX_TEMP))) ∧
  (∀ s : State, s.lovage.tripHold = true → s.hk.up = false →
    let t : State := { s with lovage := { s.lovage with tripHold := false } }
    (s.lovage.st = .run → s.cpBall 0 = true → Gives .thermalTripHoldEnd s t.start) ∧
    (s.lovage.st ≠ .run → Gives .thermalTripHoldEnd s t)) ∧
  (∀ (s : State) (level : Bool), s.lovage.st = .stby → s.cpBall 47 ≠ level →
    Gives (.wakeChange level) s { s with
      pins := { s.pins with balls := Tbl.put (pinRestsHigh 47) s.pins.balls 47 level }
      lovage := { s.lovage with wakeSeen := true } }) ∧
  (∀ (s : State) (req : Nat) (value : BitVec 32),
    let t := value.toNat % 256
    (60 ≤ t → t ≤ 110 → Gives (.pwrCtlWrite req value) s
      ((((s.setFld Reg.PWR_CTL_TWARN t).setFld Reg.PWR_CMDSTAT_CODE 0).setFld Reg.PWR_CMDSTAT_REQ req).respond
        req Reg.PWR_CTL .ok)) ∧
    (t < 60 ∨ 110 < t → Gives (.pwrCtlWrite req value) s
      (((s.setFld Reg.PWR_CMDSTAT_CODE 2).setFld Reg.PWR_CMDSTAT_REQ req).respond req Reg.PWR_CTL .eArg))) ∧
  (∀ (s : State) (code : BitVec 8),
    (code.toNat ≤ 6 → Gives (.jtagInstruction code) s { s with jtag := code.toNat }) ∧
    (6 < code.toNat → code ≠ 0x40 → code ≠ 0x41 → Gives (.jtagInstruction code) s { s with jtag := 0xFF }) ∧
    (code = 0x40 ∨ code = 0x41 → s.lcState = 0 ∨ s.lcState = 3 → Gives (.jtagInstruction code) s { s with jtag := code.toNat }) ∧
    (code = 0x40 ∨ code = 0x41 → s.lcState ≠ 0 → s.lcState ≠ 3 → Gives (.jtagInstruction code) s { s with jtag := 0xFF })) ∧
  (∀ s : State, s.jtag = 1 → s.jtagCapture = some (stepping / 16 * 2 ^ 28 + 0x9624 * 2 ^ 12 + 0x52B * 2 + 1))

/-- A step takes the command at the front of the queue and runs it with the queue's rest; with no command waiting the block idles
(the model's choice, assumption 2). -/
def Obligations.StepRunsTheFrontCommand : Prop :=
  (∀ (s : State) (c : Instr) (rest : List Instr), s.pending = c :: rest → step s = exec c { s with pending := rest }) ∧
  (∀ s : State, s.pending = [] → step s = .next s)

/-- Every command answers a next state, whatever the state and its operands, and leaves the queue to the step; as many steps as
commands wait therefore empty the queue, with no fault and no refusal on the way. -/
def Obligations.EveryQueueDrains : Prop :=
  (∀ (c : Instr) (s : State), ∃ t, exec c s = .next t ∧ t.pending = s.pending) ∧
  (∀ s : State, ∃ t, runSteps s.pending.length s = .next t ∧ t.pending = [])

/-- After reset: what the tables give for registers of each unit, the memories in canonical form, no command waiting, and the
vectors as the interrupt sources make them. -/
def Obligations.ResetLeaves : Prop :=
  State.reset.pending = [] ∧ State.reset.mem = [] ∧ MemoryOk State.reset ∧ VectorsFollow State.reset ∧
  State.reset.now = 0 ∧ State.reset.ticking = false ∧ State.reset.slots = 8 ∧
  (∀ r, r < 24 → State.reset.rstate r = .off) ∧
  (∀ e, e < 96 → State.reset.eng e = .reset) ∧
  State.reset.fld Reg.IL_STAT_WPTR = 0 ∧ State.reset.on Reg.IL_STAT_LAP = true ∧ State.reset.fld Reg.IL_PEND_COUNT = 0 ∧
  (∀ k, k < 64 → State.reset.fld (Reg.HSEM_OWNER k) = 0)

/-- R501, R502: whichever command a step takes, the vectors that the model holds as active afterwards are those that the interrupt
sources make active, if they were so before. -/
def Obligations.VectorsFollowKept : Prop :=
  ∀ s t : State, VectorsFollow s → step s = .next t → VectorsFollow t

/-- R501: a vector is active while any source routed to it with EN = 1 is active, and a port's interrupt pin is low while any
source routed to it with PIN = 1 is. -/
def Obligations.InterruptRoutes : Prop :=
  ∀ (s : State) (p : Nat), p < 2 →
    (∀ v : Nat, v < 64 → ((s.vecMask p).testBit v = true ↔
      ∃ k, k < 64 ∧ s.on (Reg.HP_ROUTE_EN p k) = true ∧ s.fld (Reg.HP_ROUTE_VEC p k) = v ∧ s.srcActive p k = true)) ∧
    (s.irqPin p = true ↔ ∃ k, k < 64 ∧ s.on (Reg.HP_ROUTE_PIN p k) = true ∧ s.srcActive p k = true)

/-- What follows every command at once (R502). Let `u` be what a command makes of a state `s` whose active vectors are held as
they are: in each port the pending bit of each vector that is active in `u` and was not in `s` is set, no other pending bit
changes, and no register but the two pending registers does; memories, engines, network, log and pins stay as the command left
them. -/
def Obligations.VectorsSetPendingBits : Prop :=
  ∀ s u : State, VectorsFollow s → u.host.vecActive = s.host.vecActive →
    (∀ p v : Nat, p < 2 → v < 64 → (((settle u).fld (Reg.HP_VPEND_PEND p)).testBit v = true ↔
      ((u.fld (Reg.HP_VPEND_PEND p)).testBit v = true ∨
        ((u.vecMask p).testBit v = true ∧ (s.vecMask p).testBit v = false)))) ∧
    SameRegsBut [Reg.HP_VPEND 0, Reg.HP_VPEND 1] u (settle u) ∧ SameMemory u (settle u) ∧
    (settle u).engs = u.engs ∧ (settle u).net = u.net ∧ (settle u).log = u.log ∧ (settle u).pins = u.pins ∧
    (settle u).out = u.out ∧ (settle u).pending = u.pending

/-- R7: a read of an unassigned place gives 0 and completes, and a write to one is discarded and completes. -/
def Obligations.UnassignedPlaces : Prop :=
  (∀ (s : State) (req addr n : Nat), placeOf addr = .unassigned → s.gate addr = .ok → s.accRead req addr n = (s, 0, .ok)) ∧
  (∀ (s : State) (req addr n : Nat) (value : BitVec 64) (facts : WriteFacts), 0x10000 ≤ addr → addr < 0x4000000 →
    placeOf addr = .unassigned → s.gate addr = .ok →
    Gives (.registerWrite req addr n value facts) s (s.respond req addr .ok))

/-- R5: a read of the lower word of a 64-bit register latches the upper word for that requester and that register, and disturbs no
other latch; a read of the upper word gives the word latched, or the present one where nothing is latched, and changes no
latch. -/
def Obligations.WideRegisterReads : Prop :=
  ∀ (s : State) (req addr : Nat) (x : RegAt), 0x10000 ≤ addr → findReg addr = some x → placeOf addr = .reg x → x.desc.bytes = 8 →
    semAt x.base = none → s.gate addr = .ok →
    (x.off = 0 → ∃ t, exec (.reg64LowerWordRead req addr) s = .next t ∧
      t.latch? req x.base = some (BitVec.ofNat 32 (s.readAt x / 2 ^ 32)) ∧
      (∀ q a : Nat, (q, a) ≠ (req, x.base) → t.latch? q a = s.latch? q a) ∧
      t.out = .readData req addr (s.readAt x % 2 ^ 32) :: s.out) ∧
    (x.off = 4 → ∃ t, exec (.reg64UpperWordRead req addr) s = .next t ∧ t.latches = s.latches ∧
      t.out = .readData req addr ((s.latch? req x.base).elim (s.readAt x / 2 ^ 32) (·.toNat)) :: s.out)

/-- R500: SEM_FORCE frees a semaphore whatever its owner, and logs an incident of severity NOTICE that names the semaphore, the
former owner and the port that forced it. -/
def Obligations.SemaphoreForce : Prop :=
  ∀ (s : State) (p sem : Nat), s.portUp p = true → s.decodes p = true → sem < 64 → s.host.rescue = none →
    s.fld (Reg.HSEM_OWNER sem) ≠ 0 →
    let owner := s.fld (Reg.HSEM_OWNER sem)
    let t := s.setFld (Reg.HSEM_OWNER sem) 0
    t.fld (Reg.HSEM_OWNER sem) = 0 ∧
      Gives (.semForce p sem) s
        ((t.raise srcHk .notice 0x6B (sem + owner * 2 ^ 8 + (p + 1) * 2 ^ 16)).rescueCode 3 (p + 1) .ok)

/-- R10: a saturating counter of any width, after any number of events, holds its count or its largest value, and its SAT bit is
set exactly where it was set before or an event found the counter at its largest value. -/
def Obligations.CountersSaturate : Prop :=
  ∀ (s : State) (f sat : Fld) (n : Nat), f.ok → sat.ok → sat.width = 1 → f.apart sat → sat.apart f →
    (s.countN f sat n).fld f = min (s.fld f + n) (2 ^ f.width - 1) ∧
    ((s.countN f sat n).on sat = true ↔ (s.on sat = true ∨ 2 ^ f.width - 1 < s.fld f + n))

/-- R641: a bus port holds at most five incidents, at most four of them below FATAL. Delivery of an incident keeps it so, loses an
incident only by counting it, sets the alarm where the lost one calls for it, and drops a FATAL only where five FATALs stand. -/
def Obligations.BusPortsHoldTheirSlots : Prop :=
  ∀ (s : State) (i : Incident),
    let low := fun (u : State) => ((u.busPort i.src).slots.filter (fun j => j.sev != .fatal)).length
    let all := fun (u : State) => (u.busPort i.src).slots.length
    all s ≤ 5 → low s ≤ 4 →
    let t := s.deliver i
    all t ≤ 5 ∧ low t ≤ 4 ∧ all t + (t.busPort i.src).drops = all s + (s.busPort i.src).drops + 1 ∧
    (i.sev = .fatal → i ∉ (t.busPort i.src).slots → low s = 0 ∧ all s = 5 ∧ t.lovage.alarm = true) ∧
    (i.sev ≠ .fatal → (t.busPort i.src).drops ≠ (s.busPort i.src).drops → s.fld Reg.IL_CTL_ALMSEV ≤ i.sev.num →
      t.lovage.alarm = true) ∧
    (∀ k, k ≠ i.src → t.busPort k = s.busPort k)

/-- R44: a region whose PHASE is below its divisor has a region tick at exactly one of any TDIV consecutive ticks, and the next
one after the present tick is the one that the model names. -/
def Obligations.RegionTicksRecur : Prop :=
  ∀ (s : State) (r : Nat), s.fld (Reg.TR_CTL_PHASE r) < s.tdiv r →
    (∀ n : Nat, ∃ k, k < s.tdiv r ∧ s.regionTickAt r (n + k) = true ∧
      ∀ j, j < s.tdiv r → s.regionTickAt r (n + j) = true → j = k) ∧
    (s.now < s.nextRegionTick r ∧ s.nextRegionTick r ≤ s.now + s.tdiv r ∧ s.regionTickAt r (s.nextRegionTick r) = true)

/-- R285, Table 8-1: bits 31–29 of every word that decodes to an instruction hold its class, and no word of class 7 decodes to
one. -/
def Obligations.EngineClasses : Prop :=
  ∀ (w : Nat) (i : EInstr), w < 2 ^ 32 → decodeEng w = some i → w / 2 ^ 29 = i.op.cls

/-- The frame of the engine instructions, every one of them: an instruction of engine e, whether it retires, waits or faults,
changes no other engine, no block memory's ports, no region, frame, bank, lane, queue or store, and of all memory nothing but
the words that the instruction at its PC stores (none for any but ST and STA). -/
def Obligations.EngineFrame : Prop :=
  ∀ (c : Instr) (e : Nat) (op : EngOp) (s t : State), engineOp c = some (e, op) → exec c s = .next t →
    (∀ k, k ≠ e → t.eng k = s.eng k) ∧ t.bms = s.bms ∧ t.regions = s.regions ∧ t.frames = s.frames ∧ t.banks = s.banks ∧
    t.pins = s.pins ∧ t.lanes = s.lanes ∧ t.links = s.links ∧ t.queues = s.queues ∧ t.shards = s.shards ∧ t.nor = s.nor ∧
    t.cfg = s.cfg ∧ t.log = s.log ∧ t.tick = s.tick ∧ t.selfTest = s.selfTest ∧
    (s.engFetch e (s.eng e).bank (s.eng e).pc = none → SameMemory s t) ∧
    (∀ i, s.engFetch e (s.eng e).bank (s.eng e).pc = some i →
      (i.op ≠ .st → i.op ≠ .sta → s.engStored e i = []) ∧
      ∀ a : Nat, (∀ b ∈ s.engStored e i, ¬ (engData e b ≤ a ∧ a < engData e b + 2)) → t.byte a = s.byte a)

/-- The frame of the block memories' accesses, with no bit flipping on the way: a request at a port changes no byte outside the
row that its address names, and none at all if it reads; a maintenance write changes no byte outside the rows that it covers,
and a maintenance read, a response, a NULL and a CLEAR change none. -/
def Obligations.BlockMemoryFrame : Prop :=
  (∀ (s t : State) (r m p : Nat) (near : Bool), exec (.bmPortRequest r m p near []) s = .next t →
    let w := s.bmWatch r m p
    let row := (wordPlace (w.1.bmWidth r m p) (s.bmRequest r m p).addr).1
    ∀ a : Nat, (a < bmRow r m row ∨ bmRow r m row + 8 ≤ a) → t.byte a = s.byte a) ∧
  (∀ (s t : State) (r m p : Nat) (near : Bool), exec (.bmPortRequest r m p near []) s = .next t →
    (s.bmRequest r m p).write = false → SameMemory s t) ∧
  (∀ (s t : State) (req r m off n be v : Nat), exec (.bmMaintenanceAccess req r m off n true v be []) s = .next t →
    ∀ a : Nat, (a < bmRow r m (off / 8) ∨ bmRow r m ((off + n + 7) / 8) ≤ a) → t.byte a = s.byte a) ∧
  (∀ (s t : State) (req r m off n be v : Nat), exec (.bmMaintenanceAccess req r m off n false v be []) s = .next t →
    SameMemory s t) ∧
  (∀ (s t : State) (req r m p : Nat),
    exec (.bmPortResponseAck r m p) s = .next t ∨ exec (.bmPortRequestNull r m p) s = .next t ∨
      exec (.bmClear req r m) s = .next t → SameMemory s t)

/-- The memories' bytes: n bytes written from a place on read back as the number written, every other byte reads as before, the
canonical form is kept, and two memories in that form of which every byte reads alike are equal. -/
def Obligations.MemoryReadsWhatWasWritten : Prop :=
  (∀ (s : State) (a v n : Nat), (s.setBytes a v n).bytes a n = v % 2 ^ (8 * n)) ∧
  (∀ (s : State) (a v n b : Nat), (b < a ∨ a + n ≤ b) → (s.setBytes a v n).byte b = s.byte b) ∧
  (∀ (s : State) (a v n : Nat), MemoryOk s → MemoryOk (s.setBytes a v n)) ∧
  (∀ s t : State, MemoryOk s → MemoryOk t → SameMemory s t → s.mem = t.mem)

/-- R329, R331: wherever a packet's route takes it in the mesh, the return route that its header holds as it arrives leads back to
the interface that sent it: to the router's node, with the eject code of that interface. -/
def Obligations.ReturnRouteEndsAtTheSender : Prop :=
  ∀ (n j route m c route' hops : Nat), niExists n j = true → route < 2 ^ 42 →
    travel 14 n (4 + j) route 0 = some (m, c, route', hops) →
    routeEnd 14 m (returnRoute route' hops) = some (n, if j = 0 then 0 else 5)

/-- The frame of the commands to the voltage loop, the meters, the bank pins, the control pins, the incident log and the supply
monitors: none of them changes a memory, an engine, a block memory, the network, a queue, a store, a frame, a lane, a link,
the configuration controller, the self-test controller, a fuse or the NOR. -/
def Obligations.PeripheralFrame : Prop :=
  ∀ (c : Instr) (s t : State), isPeripheral c = true → exec c s = .next t →
    t.mem = s.mem ∧ t.bms = s.bms ∧ t.engs = s.engs ∧ t.net = s.net ∧ t.queues = s.queues ∧ t.shards = s.shards ∧
    t.store = s.store ∧ t.frames = s.frames ∧ t.lanes = s.lanes ∧ t.links = s.links ∧ t.cfg = s.cfg ∧
    t.selfTest = s.selfTest ∧ t.fuses = s.fuses ∧ t.nor = s.nor
end

