-- ==== Sys2Proof/Laws/Table.lean ====
section
/-! SUPPORT. Laws of sparse tables: read after write, what a write leaves alone, and that a write keeps the canonical form. -/

namespace Sys2Proof.Machine

variable {α : Type}

theorem Tbl.find?_insert_same (m : Tbl α) (k : Nat) (v : α) : Tbl.find? (Tbl.insert m k v) k = some v := by
  induction m with
  | nil => simp [Tbl.insert, Tbl.find?]
  | cons e t ih =>
    obtain ⟨i, w⟩ := e
    unfold Tbl.insert
    split
    · simp [Tbl.find?]
    · split <;> simp [Tbl.find?, *]

theorem Tbl.find?_insert_other (m : Tbl α) {k j : Nat} (v : α) (h : j ≠ k) :
    Tbl.find? (Tbl.insert m k v) j = Tbl.find? m j := by
  induction m with
  | nil => simp [Tbl.insert, Tbl.find?, h.symm]
  | cons e t ih =>
    obtain ⟨i, w⟩ := e
    unfold Tbl.insert
    split
    · subst_vars; simp [Tbl.find?, h.symm]
    · split
      · simp [Tbl.find?, h.symm]
      · simp [Tbl.find?, ih]

theorem Tbl.find?_erase_same (m : Tbl α) (k : Nat) : Tbl.find? (Tbl.erase m k) k = none := by
  induction m with
  | nil => rfl
  | cons e t ih =>
    obtain ⟨i, w⟩ := e
    by_cases h : i = k
    · simpa [Tbl.erase, h] using ih
    · simpa [Tbl.erase, h, Tbl.find?] using ih

theorem Tbl.find?_erase_other (m : Tbl α) {k j : Nat} (h : j ≠ k) : Tbl.find? (Tbl.erase m k) j = Tbl.find? m j := by
  induction m with
  | nil => rfl
  | cons e t ih =>
    obtain ⟨i, w⟩ := e
    by_cases hk : i = k
    · subst hk
      simpa [Tbl.erase, Tbl.find?, h.symm] using ih
    · by_cases hj : i = j
      · subst hj; simp [Tbl.erase, Tbl.find?, hk]
      · simpa [Tbl.erase, Tbl.find?, hk, hj] using ih

/-- Reading the key written gives the value written. -/
theorem Tbl.get_put_same [DecidableEq α] (d : α) (m : Tbl α) (k : Nat) (v : α) : Tbl.get d (Tbl.put d m k v) k = v := by
  unfold Tbl.put Tbl.get
  split
  · simp [Tbl.find?_erase_same, *]
  · simp [Tbl.find?_insert_same]

/-- A write leaves every other key alone. -/
theorem Tbl.get_put_other [DecidableEq α] (d d' : α) (m : Tbl α) {k j : Nat} (v : α) (h : j ≠ k) :
    Tbl.get d' (Tbl.put d m k v) j = Tbl.get d' m j := by
  unfold Tbl.put Tbl.get
  split
  · rw [Tbl.find?_erase_other m h]
  · rw [Tbl.find?_insert_other m v h]

theorem Tbl.get_put [DecidableEq α] (d : α) (m : Tbl α) (k j : Nat) (v : α) :
    Tbl.get d (Tbl.put d m k v) j = if j = k then v else Tbl.get d m j := by
  split
  · subst_vars; exact Tbl.get_put_same ..
  · exact Tbl.get_put_other _ _ _ _ ‹_›

theorem Tbl.risingFrom_mono {m : Tbl α} {lo hi : Nat} (h : lo ≤ hi) (hm : Tbl.risingFrom hi m = true) :
    Tbl.risingFrom lo m = true := by
  cases m with
  | nil => rfl
  | cons e t =>
    simp only [Tbl.risingFrom, Bool.and_eq_true, decide_eq_true_eq] at hm ⊢
    exact ⟨by omega, hm.2⟩

theorem Tbl.risingFrom_insert (m : Tbl α) (lo k : Nat) (v : α) (hk : lo ≤ k) (hm : Tbl.risingFrom lo m = true) :
    Tbl.risingFrom lo (Tbl.insert m k v) = true := by
  induction m generalizing lo with
  | nil => simp [Tbl.insert, Tbl.risingFrom]; omega
  | cons e t ih =>
    obtain ⟨i, w⟩ := e
    simp only [Tbl.risingFrom, Bool.and_eq_true, decide_eq_true_eq] at hm
    unfold Tbl.insert
    split
    · subst_vars; simp only [Tbl.risingFrom, Bool.and_eq_true, decide_eq_true_eq]; exact ⟨by omega, hm.2⟩
    · split
      · simp only [Tbl.risingFrom, Bool.and_eq_true, decide_eq_true_eq]; exact ⟨by omega, by omega, hm.2⟩
      · simp only [Tbl.risingFrom, Bool.and_eq_true, decide_eq_true_eq]
        exact ⟨hm.1, ih (i + 1) (by omega) hm.2⟩

theorem Tbl.risingFrom_erase (m : Tbl α) (lo k : Nat) (hm : Tbl.risingFrom lo m = true) :
    Tbl.risingFrom lo (Tbl.erase m k) = true := by
  induction m generalizing lo with
  | nil => rfl
  | cons e t ih =>
    obtain ⟨i, w⟩ := e
    simp only [Tbl.risingFrom, Bool.and_eq_true, decide_eq_true_eq] at hm
    by_cases h : i = k
    · have := ih (i + 1) hm.2
      simpa [Tbl.erase, h] using Tbl.risingFrom_mono (by omega) this
    · have := ih (i + 1) hm.2
      simp only [Tbl.erase, bne_iff_ne, ne_eq, h, not_false_eq_true, List.filter_cons_of_pos, Tbl.risingFrom, Bool.and_eq_true,
        decide_eq_true_eq]
      exact ⟨hm.1, this⟩

theorem Tbl.mem_insert {m : Tbl α} {k : Nat} {v : α} {e : Nat × α} (h : e ∈ Tbl.insert m k v) : e = (k, v) ∨ e ∈ m := by
  induction m with
  | nil => simpa [Tbl.insert] using h
  | cons f t ih =>
    obtain ⟨i, w⟩ := f
    unfold Tbl.insert at h
    split at h
    · simp at h ⊢; tauto
    · split at h
      · simpa using h
      · simp only [List.mem_cons] at h ⊢; rcases h with h | h
        · tauto
        · rcases ih h with h | h <;> tauto

/-- Writing keeps the canonical form. -/
theorem Tbl.wf_put [DecidableEq α] (d : Nat → α) (m : Tbl α) (k : Nat) (v : α) (h : Tbl.wf d m = true) :
    Tbl.wf d (Tbl.put (d k) m k v) = true := by
  simp only [Tbl.wf, Bool.and_eq_true, List.all_eq_true, decide_eq_true_eq] at h ⊢
  unfold Tbl.put
  split
  · exact ⟨Tbl.risingFrom_erase m 0 k h.1, fun e he => h.2 e (List.mem_of_mem_filter he)⟩
  · refine ⟨Tbl.risingFrom_insert m 0 k v (Nat.zero_le _) h.1, fun e he => ?_⟩
    rcases Tbl.mem_insert he with rfl | he
    · assumption
    · exact h.2 e he

end Sys2Proof.Machine
end

