-- ==== Sys2Proof/Laws/Fabric.lean ====
section
/-! SUPPORT. The fabric of a region of which no frame has been written: every select is NONE and no port is a shared target, so each
destination follows the phases and shows logic 0 (R98, R140, R160). -/

namespace Sys2Proof.Machine

variable {s : State}

/-- No frame has been written, and no bit of one has flipped. -/
structure State.Blank (s : State) : Prop where
  frames : s.frames = []
  marks : s.frameMarks = []

theorem State.frame_blank (h : s.Blank) (r c m w : Nat) : s.frame r c m w = 0 := by
  simp [State.frame, h.frames, h.marks, Tbl.get, Tbl.find?]

theorem State.targetOf_blank (h : s.Blank) (r cls unit : Nat) : s.targetOf r cls unit = none := by
  simp [State.targetOf, State.tgtOn, State.tgtWord, State.frame_blank h, hasBit]

theorem State.list_blank (h : s.Blank) (r d : Nat) (l : List Nat) :
    l.find? (fun n => bitsOf (s.listEntry r n).1 0 22 == d && listUse (s.listEntry r n)) = none := by
  rw [List.find?_eq_none]
  intro n _
  simp [State.listEntry, State.frame_blank h, listUse, hasBit]

theorem State.listSel_blank (h : s.Blank) (r cls unit sig : Nat) : s.listSel r cls unit sig = 0 := by
  unfold State.listSel
  dsimp only
  rw [State.list_blank h]

theorem State.destSel_blank (h : s.Blank) (r cls unit sig : Nat) : s.destSel r cls unit sig = 0 := by
  have use0 : ∀ b, rxUse 0 b = 0 := by decide
  unfold State.destSel
  split <;> simp [State.impSel, State.spineSel, State.engSel, State.blkFrame, State.frame_blank h, use0, State.listSel_blank h]

theorem State.eval_none (fuel rd r : Nat) : s.eval (fuel + 1) rd (.src r 0) = s.phased r false := by
  rfl

theorem State.look_none (rd r : Nat) : s.look rd (.src r 0) = s.phased r false := by
  have e : evalFuel = 1999999 + 1 := rfl
  rw [State.look, e, State.eval_none]

theorem ElemSt.detect_reset (id rd : Nat) (x : Sg) : ElemSt.reset.detect id rd x = x := by
  simp [ElemSt.detect, ElemSt.faulty, ElemSt.reset, Tbl.get, Tbl.find?]

/-- A destination in a region without configuration, with no fault on its way. -/
theorem State.dest_blank (h : s.Blank) {r : Nat} (he : s.elem r = .reset) (cls unit sig : Nat) :
    s.dest r cls unit sig = s.phased r false := by
  have none_ : (if cls = 2 then (none : Option Nat) else s.targetOf r cls unit) = none := by
    simp [State.targetOf_blank h]
  unfold State.dest
  simp only [none_, State.destSel_blank h, State.look_none, he, ElemSt.detect_reset]
  split <;> rfl

theorem State.destValid_blank (h : s.Blank) {r : Nat} (he : s.elem r = .reset)
    (v : (s.phased r false).rail.valid = true) (cls unit sig n : Nat) : s.destValid r cls unit sig n = true := by
  simp [State.destValid, State.dest_blank h he, v]

/-- What a memory port looks at are its request slots. -/
theorem State.bmWatch_slots (r m p : Nat) :
    (s.bmWatch r m p).2.1 = (s.bmSlots r m p).map (fun i => s.dest r 3 (2 * m + p) i) := by
  unfold State.bmWatch
  dsimp only
  split <;> rfl

theorem State.bmWatch_blank (h : s.Blank) {r : Nat} (he : s.elem r = .reset)
    (m p : Nat) (f : Sg → Bool) (v : f (s.phased r false) = true) : (s.bmWatch r m p).2.1.all f = true := by
  rw [State.bmWatch_slots]
  simp [State.dest_blank h he, v]

/-- A port that has seen nothing yet and whose RACK is not logic 0, or is not used, may act. -/
theorem State.bmWatch_may (h : s.Blank) {r : Nat} (he : s.elem r = .reset)
    (m p : Nat) (hs : ((s.bm r m).port p).seen = 0) (hr : s.bmMode r m p = 2 ∨ (s.phased r false).rail ≠ .zero) :
    (s.bmWatch r m p).2.2 = true := by
  unfold State.bmWatch
  rcases hr with hr | hr <;> simp [State.dest_blank h he, watch, hs, hasBit, hr]

end Sys2Proof.Machine
end

