-- ==== Sys2Proof/Laws/Fields.lean ====
section
/-! SUPPORT. Laws of registers and their fields: read after write, and what a write of a field leaves alone. -/

namespace Sys2Proof.Machine

theorem fieldMask_getLsbD (lo width i : Nat) (hi : i < 64) :
    (fieldMask lo width).getLsbD i = (decide (lo ≤ i) && decide (i < lo + width)) := by
  simp only [fieldMask, BitVec.getLsbD_shiftLeft, BitVec.getLsbD_ofNat, Nat.testBit_two_pow_sub_one, hi, decide_true,
    Bool.true_and]
  by_cases h : i < lo
  · have : ¬ lo ≤ i := by omega
    simp [h, this]
  · have : lo ≤ i := by omega
    have h2 : (i - lo < width) ↔ (i < lo + width) := by omega
    have h3 : i - lo < 64 := by omega
    simp [h, this, h2, h3]

theorem Fld.set_getLsbD (f : Fld) (x : Nat) (v : Word64) (i : Nat) (hi : i < 64) :
    (f.set x v).getLsbD i =
      if f.lo ≤ i ∧ i < f.lo + f.width then x.testBit (i - f.lo) else v.getLsbD i := by
  simp only [Fld.set, BitVec.getLsbD_or, BitVec.getLsbD_and, BitVec.getLsbD_not, BitVec.getLsbD_shiftLeft,
    fieldMask_getLsbD _ _ _ hi, BitVec.getLsbD_ofNat, hi, decide_true, Bool.true_and]
  by_cases h1 : f.lo ≤ i
  · have : ¬ i < f.lo := by omega
    have h3 : i - f.lo < 64 := by omega
    by_cases h2 : i < f.lo + f.width <;> simp [h1, h2, h3, this]
  · simp [h1]

theorem Fld.get_testBit (f : Fld) (v : Word64) (i : Nat) :
    (f.get v).testBit i = (decide (i < f.width) && v.getLsbD (f.lo + i)) := by
  simp only [Fld.get, BitVec.testBit_toNat, BitVec.getLsbD_extractLsb']

/-- Reading a field written gives the value, cut to the field's width. -/
theorem Fld.get_set (f : Fld) (h : f.ok) (x : Nat) (v : Word64) : f.get (f.set x v) = x % 2 ^ f.width := by
  unfold Fld.ok at h
  apply Nat.eq_of_testBit_eq
  intro i
  rw [Fld.get_testBit, Nat.testBit_mod_two_pow]
  by_cases hi : i < f.width
  · rw [Fld.set_getLsbD _ _ _ _ (by omega)]
    simp [hi]
  · simp [hi]

/-- Writing a field leaves every field of the register apart from it alone. -/
theorem Fld.get_set_apart (f g : Fld) (hg : g.ok) (x : Nat) (v : Word64) (h : f.lo + f.width ≤ g.lo ∨ g.lo + g.width ≤ f.lo) :
    g.get (f.set x v) = g.get v := by
  unfold Fld.ok at hg
  apply Nat.eq_of_testBit_eq
  intro i
  rw [Fld.get_testBit, Fld.get_testBit]
  by_cases hi : i < g.width
  · rw [Fld.set_getLsbD _ _ _ _ (by omega)]
    have : ¬ (f.lo ≤ g.lo + i ∧ g.lo + i < f.lo + f.width) := by omega
    simp [this]
  · simp [hi]

/-- The register written reads as written. -/
@[simp] theorem State.rd_wr_same (s : State) (a : Nat) (v : Word64) : (s.wr a v).rd a = v := by
  simp [State.rd, State.wr, Tbl.get_put_same]

/-- A write leaves every other register alone. -/
theorem State.rd_wr_other (s : State) {a b : Nat} (v : Word64) (h : b ≠ a) : (s.wr a v).rd b = s.rd b := by
  simp [State.rd, State.wr, Tbl.get_put_other _ _ _ _ h]

/-- A field written reads as the value, cut to its width. -/
theorem State.fld_setFld (s : State) (f : Fld) (h : f.ok) (x : Nat) : (s.setFld f x).fld f = x % 2 ^ f.width := by
  simp [State.fld, State.setFld, Fld.get_set f h]

/-- A field written leaves every field apart from it alone. -/
theorem State.fld_setFld_apart (s : State) (f g : Fld) (hg : g.ok) (h : f.apart g) (x : Nat) :
    (s.setFld f x).fld g = s.fld g := by
  unfold State.fld State.setFld
  by_cases ha : g.addr = f.addr
  · have h' : f.lo + f.width ≤ g.lo ∨ g.lo + g.width ≤ f.lo := by
      rcases h with h | h
      · exact absurd ha.symm h
      · exact h
    rw [ha, State.rd_wr_same, Fld.get_set_apart f g hg x _ h']
  · rw [State.rd_wr_other _ _ ha]

/-- A field written leaves every other register alone. -/
theorem State.rd_setFld_other (s : State) (f : Fld) (x : Nat) {a : Nat} (h : a ≠ f.addr) : (s.setFld f x).rd a = s.rd a := by
  simp [State.setFld, State.rd_wr_other _ _ h]

theorem State.rd_setBit_other (s : State) (f : Fld) (b : Bool) {a : Nat} (h : a ≠ f.addr) : (s.setBit f b).rd a = s.rd a :=
  s.rd_setFld_other f (bit b) h

/-- A bit written reads as written. -/
theorem State.on_setBit (s : State) (f : Fld) (h : f.ok) (hw : f.width = 1) (b : Bool) : (s.setBit f b).on f = b := by
  simp only [State.on, State.setBit, State.fld_setFld s f h, hw]
  cases b <;> rfl

theorem State.on_setBit_apart (s : State) (f g : Fld) (hg : g.ok) (h : f.apart g) (b : Bool) : (s.setBit f b).on g = s.on g := by
  simp only [State.on, State.setBit, State.fld_setFld_apart s f g hg h]

theorem State.on_setFld_apart (s : State) (f g : Fld) (hg : g.ok) (h : f.apart g) (x : Nat) : (s.setFld f x).on g = s.on g := by
  simp only [State.on, State.fld_setFld_apart s f g hg h]

theorem bit_eq (b : Bool) : bit b = b.toNat := by cases b <;> rfl

end Sys2Proof.Machine
end

