-- ==== Sys2Proof/Laws/State.lean ====
section
/-! SUPPORT. One lemma per field of the state and per update: what an update leaves alone, and what reads see of it. -/

namespace Sys2Proof.Machine

variable (s : State)

@[simp] theorem State.wr_pending (a : Nat) (v : Word64) : (s.wr a v).pending = s.pending := rfl
@[simp] theorem State.wr_freeCount (a : Nat) (v : Word64) : (s.wr a v).freeCount = s.freeCount := rfl
@[simp] theorem State.wr_out (a : Nat) (v : Word64) : (s.wr a v).out = s.out := rfl
@[simp] theorem State.wr_latches (a : Nat) (v : Word64) : (s.wr a v).latches = s.latches := rfl
@[simp] theorem State.wr_mem (a : Nat) (v : Word64) : (s.wr a v).mem = s.mem := rfl
@[simp] theorem State.wr_frames (a : Nat) (v : Word64) : (s.wr a v).frames = s.frames := rfl
@[simp] theorem State.wr_marks (a : Nat) (v : Word64) : (s.wr a v).marks = s.marks := rfl
@[simp] theorem State.wr_frameMarks (a : Nat) (v : Word64) : (s.wr a v).frameMarks = s.frameMarks := rfl
@[simp] theorem State.wr_bms (a : Nat) (v : Word64) : (s.wr a v).bms = s.bms := rfl
@[simp] theorem State.wr_scrub (a : Nat) (v : Word64) : (s.wr a v).scrub = s.scrub := rfl
@[simp] theorem State.wr_engs (a : Nat) (v : Word64) : (s.wr a v).engs = s.engs := rfl
@[simp] theorem State.wr_net (a : Nat) (v : Word64) : (s.wr a v).net = s.net := rfl
@[simp] theorem State.wr_queues (a : Nat) (v : Word64) : (s.wr a v).queues = s.queues := rfl
@[simp] theorem State.wr_shards (a : Nat) (v : Word64) : (s.wr a v).shards = s.shards := rfl
@[simp] theorem State.wr_store (a : Nat) (v : Word64) : (s.wr a v).store = s.store := rfl
@[simp] theorem State.wr_storeNext (a : Nat) (v : Word64) : (s.wr a v).storeNext = s.storeNext := rfl
@[simp] theorem State.wr_credit (a : Nat) (v : Word64) : (s.wr a v).credit = s.credit := rfl
@[simp] theorem State.wr_cqps (a : Nat) (v : Word64) : (s.wr a v).cqps = s.cqps := rfl
@[simp] theorem State.wr_banks (a : Nat) (v : Word64) : (s.wr a v).banks = s.banks := rfl
@[simp] theorem State.wr_pins (a : Nat) (v : Word64) : (s.wr a v).pins = s.pins := rfl
@[simp] theorem State.wr_lanes (a : Nat) (v : Word64) : (s.wr a v).lanes = s.lanes := rfl
@[simp] theorem State.wr_links (a : Nat) (v : Word64) : (s.wr a v).links = s.links := rfl
@[simp] theorem State.wr_selfTest (a : Nat) (v : Word64) : (s.wr a v).selfTest = s.selfTest := rfl
@[simp] theorem State.wr_cfg (a : Nat) (v : Word64) : (s.wr a v).cfg = s.cfg := rfl
@[simp] theorem State.wr_fuses (a : Nat) (v : Word64) : (s.wr a v).fuses = s.fuses := rfl
@[simp] theorem State.wr_nor (a : Nat) (v : Word64) : (s.wr a v).nor = s.nor := rfl
@[simp] theorem State.wr_hk (a : Nat) (v : Word64) : (s.wr a v).hk = s.hk := rfl
@[simp] theorem State.wr_log (a : Nat) (v : Word64) : (s.wr a v).log = s.log := rfl
@[simp] theorem State.wr_jtag (a : Nat) (v : Word64) : (s.wr a v).jtag = s.jtag := rfl
@[simp] theorem State.wr_bus (a : Nat) (v : Word64) : (s.wr a v).bus = s.bus := rfl
@[simp] theorem State.wr_raised (a : Nat) (v : Word64) : (s.wr a v).raised = s.raised := rfl
@[simp] theorem State.wr_lovage (a : Nat) (v : Word64) : (s.wr a v).lovage = s.lovage := rfl
@[simp] theorem State.wr_host (a : Nat) (v : Word64) : (s.wr a v).host = s.host := rfl
@[simp] theorem State.wr_tick (a : Nat) (v : Word64) : (s.wr a v).tick = s.tick := rfl
@[simp] theorem State.wr_regions (a : Nat) (v : Word64) : (s.wr a v).regions = s.regions := rfl
@[simp] theorem State.wr_elems (a : Nat) (v : Word64) : (s.wr a v).elems = s.elems := rfl
@[simp] theorem State.wr_rgn (a : Nat) (v : Word64) (i : Nat) : (s.wr a v).rgn i = s.rgn i := rfl

@[simp] theorem State.setFld_pending (f : Fld) (x : Nat) : (s.setFld f x).pending = s.pending := rfl
@[simp] theorem State.setFld_freeCount (f : Fld) (x : Nat) : (s.setFld f x).freeCount = s.freeCount := rfl
@[simp] theorem State.setFld_out (f : Fld) (x : Nat) : (s.setFld f x).out = s.out := rfl
@[simp] theorem State.setFld_latches (f : Fld) (x : Nat) : (s.setFld f x).latches = s.latches := rfl
@[simp] theorem State.setFld_mem (f : Fld) (x : Nat) : (s.setFld f x).mem = s.mem := rfl
@[simp] theorem State.setFld_frames (f : Fld) (x : Nat) : (s.setFld f x).frames = s.frames := rfl
@[simp] theorem State.setFld_marks (f : Fld) (x : Nat) : (s.setFld f x).marks = s.marks := rfl
@[simp] theorem State.setFld_frameMarks (f : Fld) (x : Nat) : (s.setFld f x).frameMarks = s.frameMarks := rfl
@[simp] theorem State.setFld_bms (f : Fld) (x : Nat) : (s.setFld f x).bms = s.bms := rfl
@[simp] theorem State.setFld_scrub (f : Fld) (x : Nat) : (s.setFld f x).scrub = s.scrub := rfl
@[simp] theorem State.setFld_engs (f : Fld) (x : Nat) : (s.setFld f x).engs = s.engs := rfl
@[simp] theorem State.setFld_net (f : Fld) (x : Nat) : (s.setFld f x).net = s.net := rfl
@[simp] theorem State.setFld_queues (f : Fld) (x : Nat) : (s.setFld f x).queues = s.queues := rfl
@[simp] theorem State.setFld_shards (f : Fld) (x : Nat) : (s.setFld f x).shards = s.shards := rfl
@[simp] theorem State.setFld_store (f : Fld) (x : Nat) : (s.setFld f x).store = s.store := rfl
@[simp] theorem State.setFld_storeNext (f : Fld) (x : Nat) : (s.setFld f x).storeNext = s.storeNext := rfl
@[simp] theorem State.setFld_credit (f : Fld) (x : Nat) : (s.setFld f x).credit = s.credit := rfl
@[simp] theorem State.setFld_cqps (f : Fld) (x : Nat) : (s.setFld f x).cqps = s.cqps := rfl
@[simp] theorem State.setFld_banks (f : Fld) (x : Nat) : (s.setFld f x).banks = s.banks := rfl
@[simp] theorem State.setFld_pins (f : Fld) (x : Nat) : (s.setFld f x).pins = s.pins := rfl
@[simp] theorem State.setFld_lanes (f : Fld) (x : Nat) : (s.setFld f x).lanes = s.lanes := rfl
@[simp] theorem State.setFld_links (f : Fld) (x : Nat) : (s.setFld f x).links = s.links := rfl
@[simp] theorem State.setFld_selfTest (f : Fld) (x : Nat) : (s.setFld f x).selfTest = s.selfTest := rfl
@[simp] theorem State.setFld_cfg (f : Fld) (x : Nat) : (s.setFld f x).cfg = s.cfg := rfl
@[simp] theorem State.setFld_fuses (f : Fld) (x : Nat) : (s.setFld f x).fuses = s.fuses := rfl
@[simp] theorem State.setFld_nor (f : Fld) (x : Nat) : (s.setFld f x).nor = s.nor := rfl
@[simp] theorem State.setFld_hk (f : Fld) (x : Nat) : (s.setFld f x).hk = s.hk := rfl
@[simp] theorem State.setFld_log (f : Fld) (x : Nat) : (s.setFld f x).log = s.log := rfl
@[simp] theorem State.setFld_jtag (f : Fld) (x : Nat) : (s.setFld f x).jtag = s.jtag := rfl
@[simp] theorem State.setFld_bus (f : Fld) (x : Nat) : (s.setFld f x).bus = s.bus := rfl
@[simp] theorem State.setFld_raised (f : Fld) (x : Nat) : (s.setFld f x).raised = s.raised := rfl
@[simp] theorem State.setFld_lovage (f : Fld) (x : Nat) : (s.setFld f x).lovage = s.lovage := rfl
@[simp] theorem State.setFld_host (f : Fld) (x : Nat) : (s.setFld f x).host = s.host := rfl
@[simp] theorem State.setFld_tick (f : Fld) (x : Nat) : (s.setFld f x).tick = s.tick := rfl
@[simp] theorem State.setFld_regions (f : Fld) (x : Nat) : (s.setFld f x).regions = s.regions := rfl
@[simp] theorem State.setFld_elems (f : Fld) (x : Nat) : (s.setFld f x).elems = s.elems := rfl
@[simp] theorem State.setFld_rgn (f : Fld) (x : Nat) (i : Nat) : (s.setFld f x).rgn i = s.rgn i := rfl

@[simp] theorem State.setBit_pending (f : Fld) (b : Bool) : (s.setBit f b).pending = s.pending := rfl
@[simp] theorem State.setBit_freeCount (f : Fld) (b : Bool) : (s.setBit f b).freeCount = s.freeCount := rfl
@[simp] theorem State.setBit_out (f : Fld) (b : Bool) : (s.setBit f b).out = s.out := rfl
@[simp] theorem State.setBit_latches (f : Fld) (b : Bool) : (s.setBit f b).latches = s.latches := rfl
@[simp] theorem State.setBit_mem (f : Fld) (b : Bool) : (s.setBit f b).mem = s.mem := rfl
@[simp] theorem State.setBit_frames (f : Fld) (b : Bool) : (s.setBit f b).frames = s.frames := rfl
@[simp] theorem State.setBit_marks (f : Fld) (b : Bool) : (s.setBit f b).marks = s.marks := rfl
@[simp] theorem State.setBit_frameMarks (f : Fld) (b : Bool) : (s.setBit f b).frameMarks = s.frameMarks := rfl
@[simp] theorem State.setBit_bms (f : Fld) (b : Bool) : (s.setBit f b).bms = s.bms := rfl
@[simp] theorem State.setBit_scrub (f : Fld) (b : Bool) : (s.setBit f b).scrub = s.scrub := rfl
@[simp] theorem State.setBit_engs (f : Fld) (b : Bool) : (s.setBit f b).engs = s.engs := rfl
@[simp] theorem State.setBit_net (f : Fld) (b : Bool) : (s.setBit f b).net = s.net := rfl
@[simp] theorem State.setBit_queues (f : Fld) (b : Bool) : (s.setBit f b).queues = s.queues := rfl
@[simp] theorem State.setBit_shards (f : Fld) (b : Bool) : (s.setBit f b).shards = s.shards := rfl
@[simp] theorem State.setBit_store (f : Fld) (b : Bool) : (s.setBit f b).store = s.store := rfl
@[simp] theorem State.setBit_storeNext (f : Fld) (b : Bool) : (s.setBit f b).storeNext = s.storeNext := rfl
@[simp] theorem State.setBit_credit (f : Fld) (b : Bool) : (s.setBit f b).credit = s.credit := rfl
@[simp] theorem State.setBit_cqps (f : Fld) (b : Bool) : (s.setBit f b).cqps = s.cqps := rfl
@[simp] theorem State.setBit_banks (f : Fld) (b : Bool) : (s.setBit f b).banks = s.banks := rfl
@[simp] theorem State.setBit_pins (f : Fld) (b : Bool) : (s.setBit f b).pins = s.pins := rfl
@[simp] theorem State.setBit_lanes (f : Fld) (b : Bool) : (s.setBit f b).lanes = s.lanes := rfl
@[simp] theorem State.setBit_links (f : Fld) (b : Bool) : (s.setBit f b).links = s.links := rfl
@[simp] theorem State.setBit_selfTest (f : Fld) (b : Bool) : (s.setBit f b).selfTest = s.selfTest := rfl
@[simp] theorem State.setBit_cfg (f : Fld) (b : Bool) : (s.setBit f b).cfg = s.cfg := rfl
@[simp] theorem State.setBit_fuses (f : Fld) (b : Bool) : (s.setBit f b).fuses = s.fuses := rfl
@[simp] theorem State.setBit_nor (f : Fld) (b : Bool) : (s.setBit f b).nor = s.nor := rfl
@[simp] theorem State.setBit_hk (f : Fld) (b : Bool) : (s.setBit f b).hk = s.hk := rfl
@[simp] theorem State.setBit_log (f : Fld) (b : Bool) : (s.setBit f b).log = s.log := rfl
@[simp] theorem State.setBit_jtag (f : Fld) (b : Bool) : (s.setBit f b).jtag = s.jtag := rfl
@[simp] theorem State.setBit_bus (f : Fld) (b : Bool) : (s.setBit f b).bus = s.bus := rfl
@[simp] theorem State.setBit_raised (f : Fld) (b : Bool) : (s.setBit f b).raised = s.raised := rfl
@[simp] theorem State.setBit_lovage (f : Fld) (b : Bool) : (s.setBit f b).lovage = s.lovage := rfl
@[simp] theorem State.setBit_host (f : Fld) (b : Bool) : (s.setBit f b).host = s.host := rfl
@[simp] theorem State.setBit_tick (f : Fld) (b : Bool) : (s.setBit f b).tick = s.tick := rfl
@[simp] theorem State.setBit_regions (f : Fld) (b : Bool) : (s.setBit f b).regions = s.regions := rfl
@[simp] theorem State.setBit_elems (f : Fld) (b : Bool) : (s.setBit f b).elems = s.elems := rfl
@[simp] theorem State.setBit_rgn (f : Fld) (b : Bool) (i : Nat) : (s.setBit f b).rgn i = s.rgn i := rfl

@[simp] theorem State.setRgn_pending (r : Nat) (x : RegionSt) : (s.setRgn r x).pending = s.pending := rfl
@[simp] theorem State.setRgn_freeCount (r : Nat) (x : RegionSt) : (s.setRgn r x).freeCount = s.freeCount := rfl
@[simp] theorem State.setRgn_out (r : Nat) (x : RegionSt) : (s.setRgn r x).out = s.out := rfl
@[simp] theorem State.setRgn_regs (r : Nat) (x : RegionSt) : (s.setRgn r x).regs = s.regs := rfl
@[simp] theorem State.setRgn_latches (r : Nat) (x : RegionSt) : (s.setRgn r x).latches = s.latches := rfl
@[simp] theorem State.setRgn_mem (r : Nat) (x : RegionSt) : (s.setRgn r x).mem = s.mem := rfl
@[simp] theorem State.setRgn_frames (r : Nat) (x : RegionSt) : (s.setRgn r x).frames = s.frames := rfl
@[simp] theorem State.setRgn_marks (r : Nat) (x : RegionSt) : (s.setRgn r x).marks = s.marks := rfl
@[simp] theorem State.setRgn_frameMarks (r : Nat) (x : RegionSt) : (s.setRgn r x).frameMarks = s.frameMarks := rfl
@[simp] theorem State.setRgn_bms (r : Nat) (x : RegionSt) : (s.setRgn r x).bms = s.bms := rfl
@[simp] theorem State.setRgn_scrub (r : Nat) (x : RegionSt) : (s.setRgn r x).scrub = s.scrub := rfl
@[simp] theorem State.setRgn_engs (r : Nat) (x : RegionSt) : (s.setRgn r x).engs = s.engs := rfl
@[simp] theorem State.setRgn_net (r : Nat) (x : RegionSt) : (s.setRgn r x).net = s.net := rfl
@[simp] theorem State.setRgn_queues (r : Nat) (x : RegionSt) : (s.setRgn r x).queues = s.queues := rfl
@[simp] theorem State.setRgn_shards (r : Nat) (x : RegionSt) : (s.setRgn r x).shards = s.shards := rfl
@[simp] theorem State.setRgn_store (r : Nat) (x : RegionSt) : (s.setRgn r x).store = s.store := rfl
@[simp] theorem State.setRgn_storeNext (r : Nat) (x : RegionSt) : (s.setRgn r x).storeNext = s.storeNext := rfl
@[simp] theorem State.setRgn_credit (r : Nat) (x : RegionSt) : (s.setRgn r x).credit = s.credit := rfl
@[simp] theorem State.setRgn_cqps (r : Nat) (x : RegionSt) : (s.setRgn r x).cqps = s.cqps := rfl
@[simp] theorem State.setRgn_banks (r : Nat) (x : RegionSt) : (s.setRgn r x).banks = s.banks := rfl
@[simp] theorem State.setRgn_pins (r : Nat) (x : RegionSt) : (s.setRgn r x).pins = s.pins := rfl
@[simp] theorem State.setRgn_lanes (r : Nat) (x : RegionSt) : (s.setRgn r x).lanes = s.lanes := rfl
@[simp] theorem State.setRgn_links (r : Nat) (x : RegionSt) : (s.setRgn r x).links = s.links := rfl
@[simp] theorem State.setRgn_selfTest (r : Nat) (x : RegionSt) : (s.setRgn r x).selfTest = s.selfTest := rfl
@[simp] theorem State.setRgn_cfg (r : Nat) (x : RegionSt) : (s.setRgn r x).cfg = s.cfg := rfl
@[simp] theorem State.setRgn_fuses (r : Nat) (x : RegionSt) : (s.setRgn r x).fuses = s.fuses := rfl
@[simp] theorem State.setRgn_nor (r : Nat) (x : RegionSt) : (s.setRgn r x).nor = s.nor := rfl
@[simp] theorem State.setRgn_hk (r : Nat) (x : RegionSt) : (s.setRgn r x).hk = s.hk := rfl
@[simp] theorem State.setRgn_log (r : Nat) (x : RegionSt) : (s.setRgn r x).log = s.log := rfl
@[simp] theorem State.setRgn_jtag (r : Nat) (x : RegionSt) : (s.setRgn r x).jtag = s.jtag := rfl
@[simp] theorem State.setRgn_bus (r : Nat) (x : RegionSt) : (s.setRgn r x).bus = s.bus := rfl
@[simp] theorem State.setRgn_raised (r : Nat) (x : RegionSt) : (s.setRgn r x).raised = s.raised := rfl
@[simp] theorem State.setRgn_lovage (r : Nat) (x : RegionSt) : (s.setRgn r x).lovage = s.lovage := rfl
@[simp] theorem State.setRgn_host (r : Nat) (x : RegionSt) : (s.setRgn r x).host = s.host := rfl
@[simp] theorem State.setRgn_tick (r : Nat) (x : RegionSt) : (s.setRgn r x).tick = s.tick := rfl
@[simp] theorem State.setRgn_elems (r : Nat) (x : RegionSt) : (s.setRgn r x).elems = s.elems := rfl
@[simp] theorem State.setRgn_rd (r : Nat) (x : RegionSt) (i : Nat) : (s.setRgn r x).rd i = s.rd i := rfl
@[simp] theorem State.setRgn_fld (r : Nat) (x : RegionSt) (g : Fld) : (s.setRgn r x).fld g = s.fld g := rfl
@[simp] theorem State.setRgn_on (r : Nat) (x : RegionSt) (g : Fld) : (s.setRgn r x).on g = s.on g := rfl

@[simp] theorem State.emit_pending (o : Output) : (s.emit o).pending = s.pending := rfl
@[simp] theorem State.emit_freeCount (o : Output) : (s.emit o).freeCount = s.freeCount := rfl
@[simp] theorem State.emit_regs (o : Output) : (s.emit o).regs = s.regs := rfl
@[simp] theorem State.emit_latches (o : Output) : (s.emit o).latches = s.latches := rfl
@[simp] theorem State.emit_mem (o : Output) : (s.emit o).mem = s.mem := rfl
@[simp] theorem State.emit_frames (o : Output) : (s.emit o).frames = s.frames := rfl
@[simp] theorem State.emit_marks (o : Output) : (s.emit o).marks = s.marks := rfl
@[simp] theorem State.emit_frameMarks (o : Output) : (s.emit o).frameMarks = s.frameMarks := rfl
@[simp] theorem State.emit_bms (o : Output) : (s.emit o).bms = s.bms := rfl
@[simp] theorem State.emit_scrub (o : Output) : (s.emit o).scrub = s.scrub := rfl
@[simp] theorem State.emit_engs (o : Output) : (s.emit o).engs = s.engs := rfl
@[simp] theorem State.emit_net (o : Output) : (s.emit o).net = s.net := rfl
@[simp] theorem State.emit_queues (o : Output) : (s.emit o).queues = s.queues := rfl
@[simp] theorem State.emit_shards (o : Output) : (s.emit o).shards = s.shards := rfl
@[simp] theorem State.emit_store (o : Output) : (s.emit o).store = s.store := rfl
@[simp] theorem State.emit_storeNext (o : Output) : (s.emit o).storeNext = s.storeNext := rfl
@[simp] theorem State.emit_credit (o : Output) : (s.emit o).credit = s.credit := rfl
@[simp] theorem State.emit_cqps (o : Output) : (s.emit o).cqps = s.cqps := rfl
@[simp] theorem State.emit_banks (o : Output) : (s.emit o).banks = s.banks := rfl
@[simp] theorem State.emit_pins (o : Output) : (s.emit o).pins = s.pins := rfl
@[simp] theorem State.emit_lanes (o : Output) : (s.emit o).lanes = s.lanes := rfl
@[simp] theorem State.emit_links (o : Output) : (s.emit o).links = s.links := rfl
@[simp] theorem State.emit_selfTest (o : Output) : (s.emit o).selfTest = s.selfTest := rfl
@[simp] theorem State.emit_cfg (o : Output) : (s.emit o).cfg = s.cfg := rfl
@[simp] theorem State.emit_fuses (o : Output) : (s.emit o).fuses = s.fuses := rfl
@[simp] theorem State.emit_nor (o : Output) : (s.emit o).nor = s.nor := rfl
@[simp] theorem State.emit_hk (o : Output) : (s.emit o).hk = s.hk := rfl
@[simp] theorem State.emit_log (o : Output) : (s.emit o).log = s.log := rfl
@[simp] theorem State.emit_jtag (o : Output) : (s.emit o).jtag = s.jtag := rfl
@[simp] theorem State.emit_bus (o : Output) : (s.emit o).bus = s.bus := rfl
@[simp] theorem State.emit_raised (o : Output) : (s.emit o).raised = s.raised := rfl
@[simp] theorem State.emit_lovage (o : Output) : (s.emit o).lovage = s.lovage := rfl
@[simp] theorem State.emit_host (o : Output) : (s.emit o).host = s.host := rfl
@[simp] theorem State.emit_tick (o : Output) : (s.emit o).tick = s.tick := rfl
@[simp] theorem State.emit_regions (o : Output) : (s.emit o).regions = s.regions := rfl
@[simp] theorem State.emit_elems (o : Output) : (s.emit o).elems = s.elems := rfl
@[simp] theorem State.emit_rd (o : Output) (i : Nat) : (s.emit o).rd i = s.rd i := rfl
@[simp] theorem State.emit_fld (o : Output) (g : Fld) : (s.emit o).fld g = s.fld g := rfl
@[simp] theorem State.emit_on (o : Output) (g : Fld) : (s.emit o).on g = s.on g := rfl
@[simp] theorem State.emit_rgn (o : Output) (i : Nat) : (s.emit o).rgn i = s.rgn i := rfl

@[simp] theorem State.tookFree_pending : (s.tookFree).pending = s.pending := rfl
@[simp] theorem State.tookFree_out : (s.tookFree).out = s.out := rfl
@[simp] theorem State.tookFree_regs : (s.tookFree).regs = s.regs := rfl
@[simp] theorem State.tookFree_latches : (s.tookFree).latches = s.latches := rfl
@[simp] theorem State.tookFree_mem : (s.tookFree).mem = s.mem := rfl
@[simp] theorem State.tookFree_frames : (s.tookFree).frames = s.frames := rfl
@[simp] theorem State.tookFree_marks : (s.tookFree).marks = s.marks := rfl
@[simp] theorem State.tookFree_frameMarks : (s.tookFree).frameMarks = s.frameMarks := rfl
@[simp] theorem State.tookFree_bms : (s.tookFree).bms = s.bms := rfl
@[simp] theorem State.tookFree_scrub : (s.tookFree).scrub = s.scrub := rfl
@[simp] theorem State.tookFree_engs : (s.tookFree).engs = s.engs := rfl
@[simp] theorem State.tookFree_net : (s.tookFree).net = s.net := rfl
@[simp] theorem State.tookFree_queues : (s.tookFree).queues = s.queues := rfl
@[simp] theorem State.tookFree_shards : (s.tookFree).shards = s.shards := rfl
@[simp] theorem State.tookFree_store : (s.tookFree).store = s.store := rfl
@[simp] theorem State.tookFree_storeNext : (s.tookFree).storeNext = s.storeNext := rfl
@[simp] theorem State.tookFree_credit : (s.tookFree).credit = s.credit := rfl
@[simp] theorem State.tookFree_cqps : (s.tookFree).cqps = s.cqps := rfl
@[simp] theorem State.tookFree_banks : (s.tookFree).banks = s.banks := rfl
@[simp] theorem State.tookFree_pins : (s.tookFree).pins = s.pins := rfl
@[simp] theorem State.tookFree_lanes : (s.tookFree).lanes = s.lanes := rfl
@[simp] theorem State.tookFree_links : (s.tookFree).links = s.links := rfl
@[simp] theorem State.tookFree_selfTest : (s.tookFree).selfTest = s.selfTest := rfl
@[simp] theorem State.tookFree_cfg : (s.tookFree).cfg = s.cfg := rfl
@[simp] theorem State.tookFree_fuses : (s.tookFree).fuses = s.fuses := rfl
@[simp] theorem State.tookFree_nor : (s.tookFree).nor = s.nor := rfl
@[simp] theorem State.tookFree_hk : (s.tookFree).hk = s.hk := rfl
@[simp] theorem State.tookFree_log : (s.tookFree).log = s.log := rfl
@[simp] theorem State.tookFree_jtag : (s.tookFree).jtag = s.jtag := rfl
@[simp] theorem State.tookFree_bus : (s.tookFree).bus = s.bus := rfl
@[simp] theorem State.tookFree_raised : (s.tookFree).raised = s.raised := rfl
@[simp] theorem State.tookFree_lovage : (s.tookFree).lovage = s.lovage := rfl
@[simp] theorem State.tookFree_host : (s.tookFree).host = s.host := rfl
@[simp] theorem State.tookFree_tick : (s.tookFree).tick = s.tick := rfl
@[simp] theorem State.tookFree_regions : (s.tookFree).regions = s.regions := rfl
@[simp] theorem State.tookFree_elems : (s.tookFree).elems = s.elems := rfl
@[simp] theorem State.tookFree_rd (i : Nat) : (s.tookFree).rd i = s.rd i := rfl
@[simp] theorem State.tookFree_fld (g : Fld) : (s.tookFree).fld g = s.fld g := rfl
@[simp] theorem State.tookFree_on (g : Fld) : (s.tookFree).on g = s.on g := rfl
@[simp] theorem State.tookFree_rgn (i : Nat) : (s.tookFree).rgn i = s.rgn i := rfl

@[simp] theorem State.setBusPort_pending (src : Nat) (p : BusPort) : (s.setBusPort src p).pending = s.pending := rfl
@[simp] theorem State.setBusPort_freeCount (src : Nat) (p : BusPort) : (s.setBusPort src p).freeCount = s.freeCount := rfl
@[simp] theorem State.setBusPort_out (src : Nat) (p : BusPort) : (s.setBusPort src p).out = s.out := rfl
@[simp] theorem State.setBusPort_regs (src : Nat) (p : BusPort) : (s.setBusPort src p).regs = s.regs := rfl
@[simp] theorem State.setBusPort_latches (src : Nat) (p : BusPort) : (s.setBusPort src p).latches = s.latches := rfl
@[simp] theorem State.setBusPort_mem (src : Nat) (p : BusPort) : (s.setBusPort src p).mem = s.mem := rfl
@[simp] theorem State.setBusPort_frames (src : Nat) (p : BusPort) : (s.setBusPort src p).frames = s.frames := rfl
@[simp] theorem State.setBusPort_marks (src : Nat) (p : BusPort) : (s.setBusPort src p).marks = s.marks := rfl
@[simp] theorem State.setBusPort_frameMarks (src : Nat) (p : BusPort) : (s.setBusPort src p).frameMarks = s.frameMarks := rfl
@[simp] theorem State.setBusPort_bms (src : Nat) (p : BusPort) : (s.setBusPort src p).bms = s.bms := rfl
@[simp] theorem State.setBusPort_scrub (src : Nat) (p : BusPort) : (s.setBusPort src p).scrub = s.scrub := rfl
@[simp] theorem State.setBusPort_engs (src : Nat) (p : BusPort) : (s.setBusPort src p).engs = s.engs := rfl
@[simp] theorem State.setBusPort_net (src : Nat) (p : BusPort) : (s.setBusPort src p).net = s.net := rfl
@[simp] theorem State.setBusPort_queues (src : Nat) (p : BusPort) : (s.setBusPort src p).queues = s.queues := rfl
@[simp] theorem State.setBusPort_shards (src : Nat) (p : BusPort) : (s.setBusPort src p).shards = s.shards := rfl
@[simp] theorem State.setBusPort_store (src : Nat) (p : BusPort) : (s.setBusPort src p).store = s.store := rfl
@[simp] theorem State.setBusPort_storeNext (src : Nat) (p : BusPort) : (s.setBusPort src p).storeNext = s.storeNext := rfl
@[simp] theorem State.setBusPort_credit (src : Nat) (p : BusPort) : (s.setBusPort src p).credit = s.credit := rfl
@[simp] theorem State.setBusPort_cqps (src : Nat) (p : BusPort) : (s.setBusPort src p).cqps = s.cqps := rfl
@[simp] theorem State.setBusPort_banks (src : Nat) (p : BusPort) : (s.setBusPort src p).banks = s.banks := rfl
@[simp] theorem State.setBusPort_pins (src : Nat) (p : BusPort) : (s.setBusPort src p).pins = s.pins := rfl
@[simp] theorem State.setBusPort_lanes (src : Nat) (p : BusPort) : (s.setBusPort src p).lanes = s.lanes := rfl
@[simp] theorem State.setBusPort_links (src : Nat) (p : BusPort) : (s.setBusPort src p).links = s.links := rfl
@[simp] theorem State.setBusPort_selfTest (src : Nat) (p : BusPort) : (s.setBusPort src p).selfTest = s.selfTest := rfl
@[simp] theorem State.setBusPort_cfg (src : Nat) (p : BusPort) : (s.setBusPort src p).cfg = s.cfg := rfl
@[simp] theorem State.setBusPort_fuses (src : Nat) (p : BusPort) : (s.setBusPort src p).fuses = s.fuses := rfl
@[simp] theorem State.setBusPort_nor (src : Nat) (p : BusPort) : (s.setBusPort src p).nor = s.nor := rfl
@[simp] theorem State.setBusPort_hk (src : Nat) (p : BusPort) : (s.setBusPort src p).hk = s.hk := rfl
@[simp] theorem State.setBusPort_log (src : Nat) (p : BusPort) : (s.setBusPort src p).log = s.log := rfl
@[simp] theorem State.setBusPort_jtag (src : Nat) (p : BusPort) : (s.setBusPort src p).jtag = s.jtag := rfl
@[simp] theorem State.setBusPort_raised (src : Nat) (p : BusPort) : (s.setBusPort src p).raised = s.raised := rfl
@[simp] theorem State.setBusPort_lovage (src : Nat) (p : BusPort) : (s.setBusPort src p).lovage = s.lovage := rfl
@[simp] theorem State.setBusPort_host (src : Nat) (p : BusPort) : (s.setBusPort src p).host = s.host := rfl
@[simp] theorem State.setBusPort_tick (src : Nat) (p : BusPort) : (s.setBusPort src p).tick = s.tick := rfl
@[simp] theorem State.setBusPort_regions (src : Nat) (p : BusPort) : (s.setBusPort src p).regions = s.regions := rfl
@[simp] theorem State.setBusPort_elems (src : Nat) (p : BusPort) : (s.setBusPort src p).elems = s.elems := rfl
@[simp] theorem State.setBusPort_rd (src : Nat) (p : BusPort) (i : Nat) : (s.setBusPort src p).rd i = s.rd i := rfl
@[simp] theorem State.setBusPort_fld (src : Nat) (p : BusPort) (g : Fld) : (s.setBusPort src p).fld g = s.fld g := rfl
@[simp] theorem State.setBusPort_on (src : Nat) (p : BusPort) (g : Fld) : (s.setBusPort src p).on g = s.on g := rfl
@[simp] theorem State.setBusPort_rgn (src : Nat) (p : BusPort) (i : Nat) : (s.setBusPort src p).rgn i = s.rgn i := rfl

@[simp] theorem State.setRgn_rgn_same (r : Nat) (x : RegionSt) : (s.setRgn r x).rgn r = x := by
  simp [State.rgn, State.setRgn, Tbl.get_put_same]

theorem State.setRgn_rgn_other {r q : Nat} (x : RegionSt) (h : q ≠ r) : (s.setRgn r x).rgn q = s.rgn q := by
  simp [State.rgn, State.setRgn, Tbl.get_put_other _ _ _ _ h]

@[simp] theorem State.emit_out (o : Output) : (s.emit o).out = o :: s.out := rfl
@[simp] theorem State.tookFree_freeCount : s.tookFree.freeCount = s.freeCount + 1 := rfl

end Sys2Proof.Machine
end

