-- ==== Sys2Proof/Laws/Levels.lean ====
section
/-! SUPPORT. What follows from every command at once (`settle`), said once, and the form of every command's answer. -/

namespace Sys2Proof.Machine

/-- Every command answers a next state: an effect, with what follows from it. -/
theorem exec_answers (c : Instr) (s : State) : ∃ t, exec c s = answer s t := by
  cases c <;> exact ⟨_, rfl⟩

/-- `settlePort` changes the pending bits and the followed vectors of its port, nothing else. -/
theorem State.settlePort_eq (s : State) (p : Nat) : s.settlePort p =
    { s with
      regs := (s.setFld (Reg.HP_VPEND_PEND p) (s.fld (Reg.HP_VPEND_PEND p) |||
        (s.vecMask p &&& (2 ^ 64 - 1 - Tbl.get 0 s.host.vecActive p)))).regs
      host := { s.host with vecActive := Tbl.put 0 s.host.vecActive p (s.vecMask p) } } := rfl

theorem State.rd_settlePort_other (s : State) {p a : Nat} (h : a ≠ Reg.HP_VPEND p) : (s.settlePort p).rd a = s.rd a :=
  s.rd_setFld_other (Reg.HP_VPEND_PEND p) _ h

/-- A register is not a pending-bit register of a host port. -/
abbrev notVpend (a : Nat) : Prop := a ≠ Reg.HP_VPEND 0 ∧ a ≠ Reg.HP_VPEND 1

@[simp] theorem State.settleElems_rd (s : State) (a : Nat) : s.settleElems.rd a = s.rd a := by
  simp only [State.settleElems, State.rd]

/-- What `settle` reaches: the pending bits and followed vectors of the host ports, and what fabric elements hold. -/
theorem settle_eq (s : State) : ∃ r v e, settle s =
    { s with regs := r, host := { s.host with vecActive := v }, elems := e } := by
  simp only [settle, State.settlePort_eq, State.settleElems]
  exact ⟨_, _, _, rfl⟩

theorem rd_settle (s : State) {a : Nat} (h : notVpend a) : (settle s).rd a = s.rd a := by
  unfold settle
  rw [State.rd_settlePort_other _ h.2, State.rd_settlePort_other _ h.1, State.settleElems_rd]

theorem fld_settle (s : State) (f : Fld) (h : notVpend f.addr) : (settle s).fld f = s.fld f := by
  simp only [State.fld, rd_settle s h]

theorem on_settle (s : State) (f : Fld) (h : notVpend f.addr) : (settle s).on f = s.on f := by
  simp only [State.on, fld_settle s f h]

@[simp] theorem settle_pending (s : State) : (settle s).pending = s.pending := by obtain ⟨r, v, e, h⟩ := settle_eq s; rw [h]
@[simp] theorem settle_freeCount (s : State) : (settle s).freeCount = s.freeCount := by obtain ⟨r, v, e, h⟩ := settle_eq s; rw [h]
@[simp] theorem settle_out (s : State) : (settle s).out = s.out := by obtain ⟨r, v, e, h⟩ := settle_eq s; rw [h]
@[simp] theorem settle_latches (s : State) : (settle s).latches = s.latches := by obtain ⟨r, v, e, h⟩ := settle_eq s; rw [h]
@[simp] theorem settle_mem (s : State) : (settle s).mem = s.mem := by obtain ⟨r, v, e, h⟩ := settle_eq s; rw [h]
@[simp] theorem settle_frames (s : State) : (settle s).frames = s.frames := by obtain ⟨r, v, e, h⟩ := settle_eq s; rw [h]
@[simp] theorem settle_marks (s : State) : (settle s).marks = s.marks := by obtain ⟨r, v, e, h⟩ := settle_eq s; rw [h]
@[simp] theorem settle_frameMarks (s : State) : (settle s).frameMarks = s.frameMarks := by obtain ⟨r, v, e, h⟩ := settle_eq s; rw [h]
@[simp] theorem settle_bms (s : State) : (settle s).bms = s.bms := by obtain ⟨r, v, e, h⟩ := settle_eq s; rw [h]
@[simp] theorem settle_scrub (s : State) : (settle s).scrub = s.scrub := by obtain ⟨r, v, e, h⟩ := settle_eq s; rw [h]
@[simp] theorem settle_engs (s : State) : (settle s).engs = s.engs := by obtain ⟨r, v, e, h⟩ := settle_eq s; rw [h]
@[simp] theorem settle_net (s : State) : (settle s).net = s.net := by obtain ⟨r, v, e, h⟩ := settle_eq s; rw [h]
@[simp] theorem settle_queues (s : State) : (settle s).queues = s.queues := by obtain ⟨r, v, e, h⟩ := settle_eq s; rw [h]
@[simp] theorem settle_shards (s : State) : (settle s).shards = s.shards := by obtain ⟨r, v, e, h⟩ := settle_eq s; rw [h]
@[simp] theorem settle_store (s : State) : (settle s).store = s.store := by obtain ⟨r, v, e, h⟩ := settle_eq s; rw [h]
@[simp] theorem settle_storeNext (s : State) : (settle s).storeNext = s.storeNext := by obtain ⟨r, v, e, h⟩ := settle_eq s; rw [h]
@[simp] theorem settle_credit (s : State) : (settle s).credit = s.credit := by obtain ⟨r, v, e, h⟩ := settle_eq s; rw [h]
@[simp] theorem settle_cqps (s : State) : (settle s).cqps = s.cqps := by obtain ⟨r, v, e, h⟩ := settle_eq s; rw [h]
@[simp] theorem settle_banks (s : State) : (settle s).banks = s.banks := by obtain ⟨r, v, e, h⟩ := settle_eq s; rw [h]
@[simp] theorem settle_pins (s : State) : (settle s).pins = s.pins := by obtain ⟨r, v, e, h⟩ := settle_eq s; rw [h]
@[simp] theorem settle_lanes (s : State) : (settle s).lanes = s.lanes := by obtain ⟨r, v, e, h⟩ := settle_eq s; rw [h]
@[simp] theorem settle_links (s : State) : (settle s).links = s.links := by obtain ⟨r, v, e, h⟩ := settle_eq s; rw [h]
@[simp] theorem settle_selfTest (s : State) : (settle s).selfTest = s.selfTest := by obtain ⟨r, v, e, h⟩ := settle_eq s; rw [h]
@[simp] theorem settle_cfg (s : State) : (settle s).cfg = s.cfg := by obtain ⟨r, v, e, h⟩ := settle_eq s; rw [h]
@[simp] theorem settle_fuses (s : State) : (settle s).fuses = s.fuses := by obtain ⟨r, v, e, h⟩ := settle_eq s; rw [h]
@[simp] theorem settle_nor (s : State) : (settle s).nor = s.nor := by obtain ⟨r, v, e, h⟩ := settle_eq s; rw [h]
@[simp] theorem settle_hk (s : State) : (settle s).hk = s.hk := by obtain ⟨r, v, e, h⟩ := settle_eq s; rw [h]
@[simp] theorem settle_log (s : State) : (settle s).log = s.log := by obtain ⟨r, v, e, h⟩ := settle_eq s; rw [h]
@[simp] theorem settle_jtag (s : State) : (settle s).jtag = s.jtag := by obtain ⟨r, v, e, h⟩ := settle_eq s; rw [h]
@[simp] theorem settle_bus (s : State) : (settle s).bus = s.bus := by obtain ⟨r, v, e, h⟩ := settle_eq s; rw [h]
@[simp] theorem settle_raised (s : State) : (settle s).raised = s.raised := by obtain ⟨r, v, e, h⟩ := settle_eq s; rw [h]
@[simp] theorem settle_lovage (s : State) : (settle s).lovage = s.lovage := by obtain ⟨r, v, e, h⟩ := settle_eq s; rw [h]
@[simp] theorem settle_tick (s : State) : (settle s).tick = s.tick := by obtain ⟨r, v, e, h⟩ := settle_eq s; rw [h]
@[simp] theorem settle_regions (s : State) : (settle s).regions = s.regions := by obtain ⟨r, v, e, h⟩ := settle_eq s; rw [h]
@[simp] theorem settle_host_txs (s : State) : (settle s).host.txs = s.host.txs := by obtain ⟨r, v, e, h⟩ := settle_eq s; rw [h]
@[simp] theorem settle_host_nextId (s : State) : (settle s).host.nextId = s.host.nextId := by obtain ⟨r, v, e, h⟩ := settle_eq s; rw [h]
@[simp] theorem settle_host_msix (s : State) : (settle s).host.msix = s.host.msix := by obtain ⟨r, v, e, h⟩ := settle_eq s; rw [h]
@[simp] theorem settle_host_resetDue (s : State) : (settle s).host.resetDue = s.host.resetDue := by obtain ⟨r, v, e, h⟩ := settle_eq s; rw [h]
@[simp] theorem settle_host_rescue (s : State) : (settle s).host.rescue = s.host.rescue := by obtain ⟨r, v, e, h⟩ := settle_eq s; rw [h]
@[simp] theorem settle_rgn (s : State) (r : Nat) : (settle s).rgn r = s.rgn r := by simp only [State.rgn, settle_regions]
@[simp] theorem settle_byte (s : State) (a : Nat) : (settle s).byte a = s.byte a := by simp only [State.byte, settle_mem]

/-- A step with a command in front is that command's, on the queue's rest. -/
theorem step_cons (s : State) (c : Instr) (rest : List Instr) (h : s.pending = c :: rest) :
    step s = exec c { s with pending := rest } := by
  simp [step, h]

/-- A step with no command waiting changes nothing. -/
theorem step_nil (s : State) (h : s.pending = []) : step s = .next s := by
  simp [step, h]

end Sys2Proof.Machine
end

