-- ==== Sys2Proof/Laws/Ops.lean ====
section
/-! SUPPORT. The shared operations, one lemma each that says everything the operation can do. -/

namespace Sys2Proof.Machine

/-- What every step of a fold keeps, the fold keeps. -/
theorem foldl_keeps {α β γ : Type} (f : α → β → α) (g : α → γ) (h : ∀ u b, g (f u b) = g u) (l : List β) (u : α) :
    g (l.foldl f u) = g u := by
  induction l generalizing u with
  | nil => rfl
  | cons b l ih => rw [List.foldl_cons, ih, h]

/-- The delivery of an incident reaches nothing but the bus ports and the alarm latch. -/
theorem State.deliver_eq (s : State) (i : Incident) :
    ∃ b l, s.deliver i = { s with bus := b, lovage := { s.lovage with alarm := l } } := by
  unfold State.deliver
  simp only
  split_ifs <;> exact ⟨_, _, rfl⟩

/-- Raising an incident reaches nothing but the bus ports and the alarm latch. -/
theorem State.raise_eq (s : State) (src : Nat) (sev : Sev) (code arg : Nat) :
    ∃ b l, s.raise src sev code arg = { s with bus := b, lovage := { s.lovage with alarm := l } } :=
  s.deliver_eq _

@[simp] theorem State.raise_rd (s : State) (src : Nat) (sev : Sev) (code arg a : Nat) :
    (s.raise src sev code arg).rd a = s.rd a := by
  obtain ⟨b, l, h⟩ := s.raise_eq src sev code arg
  rw [h]; rfl

@[simp] theorem State.raise_fld (s : State) (src : Nat) (sev : Sev) (code arg : Nat) (f : Fld) :
    (s.raise src sev code arg).fld f = s.fld f := by
  simp only [State.fld, State.raise_rd]

@[simp] theorem State.raise_on (s : State) (src : Nat) (sev : Sev) (code arg : Nat) (f : Fld) :
    (s.raise src sev code arg).on f = s.on f := by
  simp only [State.on, State.raise_fld]

@[simp] theorem State.raise_rgn (s : State) (src : Nat) (sev : Sev) (code arg r : Nat) :
    (s.raise src sev code arg).rgn r = s.rgn r := by
  obtain ⟨b, l, h⟩ := s.raise_eq src sev code arg
  rw [h]; rfl

/-- The record of a refusal reaches nothing but the bus ports and the alarm latch. -/
theorem State.noteRefusal_eq (s : State) (src off req : Nat) (c : Code) :
    ∃ b l, s.noteRefusal src off req c = { s with bus := b, lovage := { s.lovage with alarm := l } } := by
  unfold State.noteRefusal
  split
  · exact s.raise_eq ..
  · exact ⟨_, _, rfl⟩

@[simp] theorem State.noteRefusal_rd (s : State) (src off req : Nat) (c : Code) (a : Nat) :
    (s.noteRefusal src off req c).rd a = s.rd a := by
  obtain ⟨b, l, h⟩ := s.noteRefusal_eq src off req c
  rw [h]; rfl

@[simp] theorem State.noteRefusal_rgn (s : State) (src off req : Nat) (c : Code) (r : Nat) :
    (s.noteRefusal src off req c).rgn r = s.rgn r := by
  obtain ⟨b, l, h⟩ := s.noteRefusal_eq src off req c
  rw [h]; rfl

/-- An outcome that is not E_STATE is no refusal to be logged. -/
theorem State.noteRefusal_other (s : State) (src off req : Nat) {c : Code} (h : c ≠ .eState) : s.noteRefusal src off req c = s := by
  simp [State.noteRefusal, h]

/-- An error bit reaches its own register, the record of what has been raised, the bus ports and the alarm latch. -/
theorem State.errBit_eq (s : State) (f : Fld) (masked : Bool) (src : Nat) (sev : Sev) (code : Nat) (arg : State → Nat) :
    ∃ r b l, s.errBit f masked src sev code arg =
      { s.setBit f true with raised := r, bus := b, lovage := { s.lovage with alarm := l } } := by
  unfold State.errBit
  simp only
  split
  · exact ⟨_, _, _, rfl⟩
  · obtain ⟨b, l, h⟩ := State.raise_eq { s.setBit f true with
      raised := Tbl.put false (s.setBit f true).raised (64 * f.addr + f.lo) ((s.on f && Tbl.get false s.raised (64 * f.addr + f.lo)) || !masked) }
      src sev code (arg { s.setBit f true with
      raised := Tbl.put false (s.setBit f true).raised (64 * f.addr + f.lo) ((s.on f && Tbl.get false s.raised (64 * f.addr + f.lo)) || !masked) })
    exact ⟨_, b, l, h⟩

/-- The record of a write of a tick-unit register reaches TICK_CMDSTAT, the bus ports, the alarm latch and the output. -/
theorem State.tickRecord_rd (s : State) (req addr : Nat) (c : Code) {a : Nat} (h : a ≠ Reg.TICK_CMDSTAT) :
    (s.tickRecord req addr c).rd a = s.rd a := by
  unfold State.tickRecord State.tickNote
  simp only [State.respond, State.emit_rd, State.noteRefusal_rd]
  rw [State.rd_setFld_other, State.rd_setFld_other, State.rd_setFld_other] <;> exact h

@[simp] theorem State.tickRecord_rgn (s : State) (req addr : Nat) (c : Code) (r : Nat) :
    (s.tickRecord req addr c).rgn r = s.rgn r := by
  unfold State.tickRecord State.tickNote
  simp only [State.respond, State.emit_rgn, State.noteRefusal_rgn, State.setFld_rgn]

/-! ## Memory -/

/-- The byte written reads as written, cut to a byte; every other byte is as it was. -/
theorem State.byte_setByte (s : State) (a v b : Nat) : (s.setByte a v).byte b = if b = a then v % 256 else s.byte b := by
  unfold State.byte State.setByte
  simp only [Tbl.get_put]
  split <;> simp

/-- Bytes outside those written are as they were. -/
theorem State.byte_setBytes_other (s : State) (a v n b : Nat) (h : b < a ∨ a + n ≤ b) : (s.setBytes a v n).byte b = s.byte b := by
  induction n generalizing s a v with
  | zero => rfl
  | succ n ih =>
    rw [State.setBytes, ih _ _ _ (by omega), State.byte_setByte, if_neg (by omega)]

/-- Every write of memory keeps its canonical form. -/
theorem Memory.wf_setByte (s : State) (a v : Nat) (h : Memory.wf s.mem = true) : Memory.wf (s.setByte a v).mem = true :=
  Tbl.wf_put (fun _ => 0) s.mem a _ h

theorem Memory.wf_setBytes (s : State) (a v n : Nat) (h : Memory.wf s.mem = true) : Memory.wf (s.setBytes a v n).mem = true := by
  induction n generalizing s a v with
  | zero => exact h
  | succ n ih => exact ih _ _ _ (Memory.wf_setByte s a _ h)

theorem Memory.wf_reset : Memory.wf State.reset.mem = true := rfl

end Sys2Proof.Machine
end

