-- ==== Sys2Proof/WellFormed.lean ====
section
/-! DEFINITION. The well-formed commands: every operand that names a place names one that the block has. The meanings are total: a
command that is not well formed finds no such place, or is answered as the spec answers a wrong offset. -/

namespace Sys2Proof

/-- A requester ID (R315): 8 bits. -/
def requesterOk (x : Nat) : Bool := decide (x < 256)

/-- A region. -/
def regionOk (x : Nat) : Bool := decide (x < 24)

/-- An engine. -/
def engineOk (x : Nat) : Bool := decide (x < 96)

/-- A block memory of a region. -/
def memoryOk (x : Nat) : Bool := decide (x < 96)

/-- A block of a region. -/
def blockOk (x : Nat) : Bool := decide (x < 256)

/-- A macrocell of a block. -/
def macrocellOk (x : Nat) : Bool := decide (x < 64)

/-- A node of the mesh. -/
def nodeOk (x : Nat) : Bool := decide (x < 48)

/-- A port of a router, or an interface's side of a local link. -/
def linkPortOk (x : Nat) : Bool := decide (x < 8)

/-- An interface of a node. -/
def interfaceOk (x : Nat) : Bool := decide (x < 2)

/-- A virtual channel. -/
def channelOk (x : Nat) : Bool := decide (x < 8)

/-- A tag. -/
def tagOk (x : Nat) : Bool := decide (x < 1024)

/-- A route table entry. -/
def routeIndexOk (x : Nat) : Bool := decide (x < 64)

/-- A fabric port or a capture port of a region. -/
def fabricPortOk (x : Nat) : Bool := decide (x < 8)

/-- A shard. -/
def shardOk (x : Nat) : Bool := decide (x < 4)

/-- A queue. -/
def queueOk (x : Nat) : Bool := decide (x < 1024)

/-- A lane. -/
def laneOk (x : Nat) : Bool := decide (x < 128)

/-- A lane group, and its hub. -/
def groupOk (x : Nat) : Bool := decide (x < 16)

/-- A bank. -/
def bankOk (x : Nat) : Bool := decide (x < 12)

/-- A pin of a bank. -/
def pinOk (x : Nat) : Bool := decide (x < 48)

/-- A pair of a bank. -/
def pairOk (x : Nat) : Bool := decide (x < 24)

/-- A control pin. -/
def controlPinOk (x : Nat) : Bool := decide (x < 52)

/-- An entry of the action table. -/
def actionOk (x : Nat) : Bool := decide (x < 64)

/-- A peer port of the tick unit. -/
def peerOk (x : Nat) : Bool := decide (x < 7)

/-- A port of a block memory. -/
def memPortOk (x : Nat) : Bool := decide (x < 2)

/-- A target of a region's arbiter. -/
def targetOk (x : Nat) : Bool := decide (x < 32)

/-- A tag of an engine. -/
def engTagOk (x : Nat) : Bool := decide (x < 4)

/-- A host port. -/
def hostOk (x : Nat) : Bool := decide (x < 2)

/-- A semaphore. -/
def semaphoreOk (x : Nat) : Bool := decide (x < 64)

/-- An MSI-X vector. -/
def vectorOk (x : Nat) : Bool := decide (x < 64)

/-- An offset in the C-window. -/
def windowOk (x : Nat) : Bool := decide (x < 0x4000000)

/-- An offset in the rescue window. -/
def rescueOffsetOk (x : Nat) : Bool := decide (x < 0x10000)

/-- The size of a host's read request: at most 4,096 bytes (Table 13-1). -/
def readSizeOk (x : Nat) : Bool := decide (1 ≤ x ∧ x ≤ 4096)

/-- The size of a host's write request: at most 512 bytes (Table 13-1). -/
def writeSizeOk (x : Nat) : Bool := decide (1 ≤ x ∧ x ≤ 512)

/-- The size of a register access (R4). -/
def registerSizeOk (x : Nat) : Bool := decide (x = 4 ∨ x = 8)

/-- A trigger source. -/
def triggerOk (x : Nat) : Bool := decide (x < 64)

/-- A source on the incident bus. -/
def sourceOk (x : Nat) : Bool := decide (x < 2 ^ 16)

/-- The code of an incident. -/
def codeOk (x : Nat) : Bool := decide (x < 128)

/-- A severity (Table 18-1). -/
def severityOk (x : Nat) : Bool := decide (1 ≤ x ∧ x ≤ 5)

/-- The length of a network request. -/
def lengthOk (x : Nat) : Bool := decide (1 ≤ x ∧ x ≤ 256)

/-- A packet priority. -/
def priorityOk (x : Nat) : Bool := decide (x < 4)

/-- The command is well formed. -/
def Instr.wellFormed (i : Instr) : Bool :=
  match i with
  | .registerWrite req addr n _ _ => requesterOk req && windowOk addr && registerSizeOk n
  | .reg64LowerWordRead req addr => requesterOk req && windowOk addr
  | .reg64UpperWordRead req addr => requesterOk req && windowOk addr
  | .rcFieldRead req addr _ => requesterOk req && windowOk addr
  | .tickStart req _ => requesterOk req
  | .tickFirstBoundary _ => true
  | .tickStop req _ => requesterOk req
  | .tickBoundary _ => true
  | .tickCountWrite req _ => requesterOk req
  | .pllLockLost => true
  | .pllRelock => true
  | .nullWaveComplete r => regionOk r
  | .regionDone r _ => regionOk r
  | .slackWindowEnd r => regionOk r
  | .trCtlWrite req r _ => requesterOk req && regionOk r
  | .regionResume req r _ => requesterOk req && regionOk r
  | .regionResumeEffect r => regionOk r
  | .trClrOverrunCounters req r => requesterOk req && regionOk r
  | .trClrHistogram req r => requesterOk req && regionOk r
  | .trClrSlkMinAll req r => requesterOk req && regionOk r
  | .avsInterval => true
  | .avsFrameResponse _ => true
  | .avsCtlWrite req _ => requesterOk req
  | .avsVsetWrite req _ => requesterOk req
  | .tarantellaCtlWrite req r _ => requesterOk req && regionOk r
  | .tarantellaTimeout r => regionOk r
  | .trFloorWrite req r _ => requesterOk req && regionOk r
  | .trFloorLock req r _ => requesterOk req && regionOk r
  | .actionEntryWrite req i _ _ => requesterOk req && actionOk i
  | .actionArm req i _ => requesterOk req && actionOk i
  | .actionCancel req i _ => requesterOk req && actionOk i
  | .actRegWrite i => actionOk i
  | .actRegWriteResponse i => actionOk i
  | .actRegionStart i => actionOk i
  | .actRegionStop i => actionOk i
  | .actPrStart i => actionOk i
  | .actEngineTask i => actionOk i
  | .actFlagPulse i => actionOk i
  | .flagPulseEnd i => actionOk i
  | .actQueueMark i => actionOk i
  | .actTarantella i => actionOk i
  | .actDrainGrant i => actionOk i
  | .tickSyncArm req => requesterOk req
  | .tickSyncEdge => true
  | .tickSyncLoad _ => true
  | .beaconMiss p => peerOk p
  | .illegalDetected r _ _ _ _ => regionOk r
  | .flowStageLatch r b n => regionOk r && blockOk b && macrocellOk n
  | .flowStageRelease r b n => regionOk r && blockOk b && macrocellOk n
  | .samplePortHandshake r b n => regionOk r && blockOk b && macrocellOk n
  | .offerTokenAcknowledged r b n => regionOk r && blockOk b && macrocellOk n
  | .arbRequest r b n _ => regionOk r && blockOk b && macrocellOk n
  | .arbRelease r b n => regionOk r && blockOk b && macrocellOk n
  | .requestHeaderTaken r b => regionOk r && blockOk b
  | .arbiterGrant r t => regionOk r && targetOk t
  | .arbiterResponseComplete r t => regionOk r && targetOk t
  | .arbiterTimeout r t => regionOk r && targetOk t
  | .regCmdPowerOn req r => requesterOk req && regionOk r
  | .regionPowerRampDone r => regionOk r
  | .regCmdPowerOff req r => requesterOk req && regionOk r
  | .regCmdStart req r => requesterOk req && regionOk r
  | .regionStartEffect r => regionOk r
  | .regCmdStop req r => requesterOk req && regionOk r
  | .regionStopEffect r => regionOk r
  | .regCmdReset req r => requesterOk req && regionOk r
  | .regCmdIsolate req r => requesterOk req && regionOk r
  | .regCmdUnisolate req r => requesterOk req && regionOk r
  | .regCmdClear req r => requesterOk req && regionOk r
  | .bmPortRequest r m p _ _ => regionOk r && memoryOk m && memPortOk p
  | .bmPortRequestNull r m p => regionOk r && memoryOk m && memPortOk p
  | .bmPortResponseAck r m p => regionOk r && memoryOk m && memPortOk p
  | .bmMaintenanceAccess req r m _ _ _ _ _ _ => requesterOk req && regionOk r && memoryOk m
  | .bmClear req r m => requesterOk req && regionOk r && memoryOk m
  | .bmClearDone r m => regionOk r && memoryOk m
  | .scrubStep r _ _ => regionOk r
  | .scrubFrameWriteback r => regionOk r
  | .poolScrubStep h _ => shardOk h
  | .engTaskRelease e => engineOk e
  | .engTaskStart e => engineOk e
  | .engStalledRetire e => engineOk e
  | .engInstrNop e => engineOk e
  | .engInstrDone e => engineOk e
  | .engInstrHalt e => engineOk e
  | .engInstrJmp e => engineOk e
  | .engInstrCall e => engineOk e
  | .engInstrRet e => engineOk e
  | .engInstrRep e => engineOk e
  | .engInstrLoop e => engineOk e
  | .engInstrNwait e => engineOk e
  | .engInstrMacmMac e => engineOk e
  | .engInstrMacmMsu e => engineOk e
  | .engInstrMacmMpy e => engineOk e
  | .engInstrMacmMpyn e => engineOk e
  | .engInstrMacrMac e => engineOk e
  | .engInstrMacrMsu e => engineOk e
  | .engInstrMacrMpy e => engineOk e
  | .engInstrMacrMpyn e => engineOk e
  | .engInstrAdd e => engineOk e
  | .engInstrSub e => engineOk e
  | .engInstrAnd e => engineOk e
  | .engInstrOr e => engineOk e
  | .engInstrXor e => engineOk e
  | .engInstrShl e => engineOk e
  | .engInstrShr e => engineOk e
  | .engInstrAsr e => engineOk e
  | .engInstrCmp e => engineOk e
  | .engInstrNeg e => engineOk e
  | .engInstrAbs e => engineOk e
  | .engInstrAdda e => engineOk e
  | .engInstrSuba e => engineOk e
  | .engInstrNega e => engineOk e
  | .engInstrAbsa e => engineOk e
  | .engInstrClra e => engineOk e
  | .engInstrAsra e => engineOk e
  | .engInstrShla e => engineOk e
  | .engInstrSata e => engineOk e
  | .engInstrLda e => engineOk e
  | .engInstrLdal e => engineOk e
  | .engInstrMova e => engineOk e
  | .engInstrCmpa e => engineOk e
  | .engInstrLd e => engineOk e
  | .engInstrSt e => engineOk e
  | .engInstrSta e => engineOk e
  | .engInstrLd2 e => engineOk e
  | .engInstrLdi e => engineOk e
  | .engInstrAddi e => engineOk e
  | .engInstrCmpi e => engineOk e
  | .engInstrMov e => engineOk e
  | .engInstrMaxi e => engineOk e
  | .engInstrMini e => engineOk e
  | .engInstrStream e => engineOk e
  | .engInstrNrd e => engineOk e
  | .engInstrNwr e => engineOk e
  | .engInstrNwrn e => engineOk e
  | .engStreamInputLatch e _ => engineOk e
  | .engStreamInputNull e _ => engineOk e
  | .engStreamOutputAck e _ => engineOk e
  | .engNetworkResponse e t => engineOk e && engTagOk t
  | .engHalt req e => requesterOk req && engineOk e
  | .engResume req e => requesterOk req && engineOk e
  | .engStep req e => requesterOk req && engineOk e
  | .engAbort req e => requesterOk req && engineOk e
  | .engClear req e => requesterOk req && engineOk e
  | .engSwapreq req e _ _ => requesterOk req && engineOk e
  | .engRelease req e _ => requesterOk req && engineOk e
  | .engMemoryHostWrite req e _ _ _ _ => requesterOk req && engineOk e
  | .engRegisterViewWrite req e _ _ => requesterOk req && engineOk e
  | .engCntclrTask req e => requesterOk req && engineOk e
  | .engCntclrRet req e => requesterOk req && engineOk e
  | .routerHeadFlit n p vc _ => nodeOk n && linkPortOk p && channelOk vc
  | .outputPortArbitration n p _ _ => nodeOk n && linkPortOk p
  | .creditReturn n p vc => nodeOk n && linkPortOk p && channelOk vc
  | .portCreditHandshake n p => nodeOk n && linkPortOk p
  | .niRequestIssue n j rid _ _ entry _ pri _ len _ => nodeOk n && interfaceOk j && requesterOk rid && routeIndexOk entry && priorityOk pri && lengthOk len
  | .niPacketReceive n j vc _ => nodeOk n && interfaceOk j && channelOk vc
  | .niRequestTimeout n j tag => nodeOk n && interfaceOk j && tagOk tag
  | .niTagQuarantineEnd n j tag => nodeOk n && interfaceOk j && tagOk tag
  | .niRouteEntryWrite req n j e _ => requesterOk req && nodeOk n && interfaceOk j && routeIndexOk e
  | .crossingPeerReset n p => nodeOk n && linkPortOk p
  | .rtrRestore req n p => requesterOk req && nodeOk n && linkPortOk p
  | .rtrRestoreDone n p => nodeOk n && linkPortOk p
  | .nipFlowTxLatch r i => regionOk r && fabricPortOk i
  | .nipStrmReceive r vc => regionOk r && channelOk vc
  | .nipFlowRxAck r i => regionOk r && fabricPortOk i
  | .queueDescWrite req q _ _ => requesterOk req && queueOk q
  | .queueEnable req q => requesterOk req && queueOk q
  | .queueDisable req q => requesterOk req && queueOk q
  | .queueCmdRead req q _ => requesterOk req && queueOk q
  | .queueCmdMark req q => requesterOk req && queueOk q
  | .queueRewind req q => requesterOk req && queueOk q
  | .queueReleaseToReadPoint req q => requesterOk req && queueOk q
  | .queueReleaseToMark req q => requesterOk req && queueOk q
  | .queueFlush req q => requesterOk req && queueOk q
  | .queueReset req q _ => requesterOk req && queueOk q
  | .capSegmentReceive h vc => shardOk h && channelOk vc
  | .queueAppend h vc => shardOk h && channelOk vc
  | .noticePost q => queueOk q
  | .creditNoticeSend q _ => queueOk q
  | .noticeConsWrite req h _ => requesterOk req && shardOk h
  | .queueReadPortRead req q _ _ => requesterOk req && queueOk q
  | .storeApertureRead req _ _ => requesterOk req
  | .exhaustWaitInterval q => queueOk q
  | .spillGroupStart q _ => queueOk q
  | .spillPageDone q => queueOk q
  | .refillStart q => queueOk q
  | .refillDone q => queueOk q
  | .storeRetry _ => true
  | .pageRangeWrite req h _ _ => requesterOk req && shardOk h
  | .qmReclaim req h => requesterOk req && shardOk h
  | .qmReclaimDone h => shardOk h
  | .cqpFlowWriteLatch r i => regionOk r && fabricPortOk i
  | .cqpSegmentSend r i => regionOk r && fabricPortOk i
  | .cqpReadPairIssue r i => regionOk r && fabricPortOk i
  | .cqpReadPairResponse r i => regionOk r && fabricPortOk i
  | .cqpFlowReadAck r i => regionOk r && fabricPortOk i
  | .laneEnSet req n _ => requesterOk req && laneOk n
  | .laneEnClear req n _ _ => requesterOk req && laneOk n
  | .lanePwrupDone n => laneOk n
  | .laneTrainingFramesSeen n => laneOk n
  | .laneTrainDone n _ => laneOk n
  | .laneLockDone n _ => laneOk n
  | .laneTrainingTimeout n => laneOk n
  | .laneDown n _ _ => laneOk n
  | .laneFreqCheck n _ _ => laneOk n
  | .codewordReceive n _ _ _ => laneOk n
  | .laneRetrain req n _ => requesterOk req && laneOk n
  | .laneLoopNear req n => requesterOk req && laneOk n
  | .lanePrbsTx req n => requesterOk req && laneOk n
  | .laneLoopExit req n => requesterOk req && laneOk n
  | .laneEyeStart req n => requesterOk req && laneOk n
  | .laneEyeAbort req n => requesterOk req && laneOk n
  | .laneEyeDone n _ => laneOk n
  | .laneGroupConfigWrite req g _ _ => requesterOk req && groupOk g
  | .laneDofsWrite req g _ => requesterOk req && groupOk g
  | .laneCntclr req n => requesterOk req && laneOk n
  | .idlisPacketReceive n _ _ _ _ _ => laneOk n
  | .idlisDelivery n => laneOk n
  | .idlisPacketTransmit n _ => laneOk n
  | .idlisCreditReceive n _ => laneOk n
  | .idlisCreditSend n => laneOk n
  | .driveFrameArrival g vc => groupOk g && channelOk vc
  | .drivePacketGapClose n => laneOk n
  | .driveDeadlineDiscard n => laneOk n
  | .captureDelivery n => laneOk n
  | .captureCreditWaitTimeout n => laneOk n
  | .storeRequestSend _ => true
  | .storeCompletionReceive n _ _ _ => laneOk n
  | .storeTransactionTimeout n tag => laneOk n && tagOk tag
  | .storeLinkRestore req n => requesterOk req && laneOk n
  | .fwdDelivery n => laneOk n
  | .tunnelAccess g vc => groupOk g && channelOk vc
  | .tunReqDelivery n => laneOk n
  | .tunRemoteResponse n => laneOk n
  | .tunRspDelivery n => laneOk n
  | .tunnelXtagTimeout n _ => laneOk n
  | .peerTriggerSend n => laneOk n
  | .trigDelivery n => laneOk n
  | .idlisCntclr req n => requesterOk req && laneOk n
  | .hostConfigRequest p _ _ _ => hostOk p
  | .hostRead p _ _ n => hostOk p && readSizeOk n
  | .hostWrite p _ _ n _ => hostOk p && writeSizeOk n
  | .hostQWindowRead p _ n => hostOk p && readSizeOk n
  | .hostPortReset p _ => hostOk p
  | .hostLinkDown p => hostOk p
  | .rescueAccess p _ addr _ _ _ => hostOk p && rescueOffsetOk addr
  | .rescueTimeout p _ addr => hostOk p && rescueOffsetOk addr
  | .rescueRegionIsolate p r => hostOk p && regionOk r
  | .rescueRegionReset p r => hostOk p && regionOk r
  | .semForce p sem => hostOk p && semaphoreOk sem
  | .rescueQuench p _ _ => hostOk p
  | .stAbort p => hostOk p
  | .norSummary p => hostOk p
  | .chipReset p => hostOk p
  | .chipResetAssert => true
  | .hsemAcquire req n _ => requesterOk req && semaphoreOk n
  | .hsemRelease req n _ => requesterOk req && semaphoreOk n
  | .msixMessageSend p v => hostOk p && vectorOk v
  | .hpVackWrite req p _ => requesterOk req && hostOk p
  | .hpDbsetWrite req p _ => requesterOk req && hostOk p
  | .cfgDataWrite req _ _ _ => requesterOk req
  | .cfgSync => true
  | .cfgNop => true
  | .cfgRegwFar => true
  | .cfgRegwIdmask => true
  | .cfgRegwCtl => true
  | .cfgRegwKeysel => true
  | .cfgRegwRegmap => true
  | .cfgCmdFrame => true
  | .cfgCmdCommit => true
  | .cfgCmdStart => true
  | .cfgCmdEnd => true
  | .cfgFdata => true
  | .cfgFmask => true
  | .cfgFzero => true
  | .cfgCwr => true
  | .cfgChunk => true
  | .cfgHostAbort req => requesterOk req
  | .cfgHostPrStart req _ _ => requesterOk req
  | .prStartEffect => true
  | .cfgHostRunSlot req _ => requesterOk req
  | .cfgSlotFirstRead => true
  | .cfgRegmapWWrite req _ => requesterOk req
  | .cfgReadback req _ => requesterOk req
  | .cfgListenerOverflow => true
  | .pavaneStage2 r => regionOk r
  | .pavaneStage3 r => regionOk r
  | .resetNRise _ => true
  | .resetNFall => true
  | .norInit _ _ => true
  | .journalReadAtBoot => true
  | .refclkPresent => true
  | .bootRegionPower => true
  | .galliardImageAttempt => true
  | .galliardHostWaitEnd => true
  | .bootStreamEnd => true
  | .bootHold req => requesterOk req
  | .bootResume req => requesterOk req
  | .listenerNoImageTimeout => true
  | .listenerBusRead _ _ _ => true
  | .journalWrite req => requesterOk req
  | .journalRead req _ _ _ => requesterOk req
  | .journalOutack req => requesterOk req
  | .journalStore _ _ _ => true
  | .holdupRetry _ _ _ => true
  | .powerLossDuringStore => true
  | .norRawRead req => requesterOk req
  | .norRawProgram req _ => requesterOk req
  | .norRawErase req => requesterOk req
  | .norRawBlankchk req => requesterOk req
  | .sliceStart r => regionOk r
  | .sliceCopyDone r _ => regionOk r
  | .sliceHandover r _ => regionOk r
  | .sliceTestDone r _ _ => regionOk r
  | .sliceRestoreDone r _ => regionOk r
  | .sliceHandBack r _ => regionOk r
  | .sliceWaitOutTimeout r _ => regionOk r
  | .sliceEngineWaitTimeout r _ => regionOk r
  | .failmapStoreRetry => true
  | .selftestSlice req r _ _ => requesterOk req && regionOk r
  | .selftestAbort req r _ => requesterOk req && regionOk r
  | .selftestRegionTest req r => requesterOk req && regionOk r
  | .regionTestDone r _ _ => regionOk r
  | .selftestAnalog req => requesterOk req
  | .selftestMarkFailed req r _ _ => requesterOk req && regionOk r
  | .selftestEyeCheck req n _ _ _ _ => requesterOk req && laneOk n
  | .laneSelftestSlice n _ _ _ _ => laneOk n
  | .laneNearSliceEnd n _ _ => laneOk n
  | .analogPart _ _ _ _ _ _ _ => true
  | .lcTransition req _ _ => requesterOk req
  | .lcKeyProg req _ _ => requesterOk req
  | .lcKeyKill req _ _ => requesterOk req
  | .bankFlowOutputToken b p => bankOk b && pinOk p
  | .bankFlowInputAck b p _ => bankOk b && pinOk p
  | .gearedOutputWord b q _ => bankOk b && pairOk q
  | .gearedInputWord b q _ => bankOk b && pairOk q
  | .bankBitslip req b pair => requesterOk req && bankOk b && pairOk pair
  | .bankQuench req b _ => requesterOk req && bankOk b
  | .bankQclr req b _ => requesterOk req && bankOk b
  | .currentLimitEvent b p _ => bankOk b && pinOk p
  | .bankSupplyCollapse b _ _ => bankOk b
  | .bankSupplyOutOfRange b _ => bankOk b
  | .bankSupplyReturn b _ => bankOk b
  | .controlPinInputChange n _ => controlPinOk n
  | .cpCfgWrite req n _ => requesterOk req && controlPinOk n
  | .tlMapWrite req src _ => requesterOk req && triggerOk src
  | .incidentBusDeliver src sev code _ => sourceOk src && severityOk sev && codeOk code
  | .incidentTake src _ => sourceOk src
  | .rateTokenRefill src => sourceOk src
  | .ilRateWrite req _ => requesterOk req
  | .ilAck req => requesterOk req
  | .ilClear req => requesterOk req
  | .ilAlmclr req _ => requesterOk req
  | .ilPmAck req => requesterOk req
  | .ilCntclr req => requesterOk req
  | .summaryGapExpiry => true
  | .pwrokRise _ => true
  | .mainPowerLoss => true
  | .vstbyLoss => true
  | .vstbyRise => true
  | .supplyMonitorSample _ _ => true
  | .thermalSample _ => true
  | .thermalWarningClear => true
  | .thermalTripHoldEnd => true
  | .wakeChange _ => true
  | .pwrCtlWrite req _ => requesterOk req
  | .idlisResync n => laneOk n
  | .retryStatusTimeout => true
  | .hostLinkUp p _ _ => hostOk p
  | .norOperationComplete _ => true
  | .tickMarkPulseEnd => true
  | .storeTagQuarantineEnd n tag => laneOk n && tagOk tag
  | .xtagQuarantineEnd n _ => laneOk n
  | .prbsCheckerLock n _ _ => laneOk n
  | .jtagInstruction _ => true
  | .pinFilterSettle n => controlPinOk n

end Sys2Proof
end

