-- ==== Sys2Proof/Laws/PerInstr.lean ====
section
/-! SUPPORT. Statements made of each command: a well-formed engine command names one of the 96 engines (R271). -/

namespace Sys2Proof.Laws.EngineNamed

open Sys2Proof.Machine

/-- An engine command that is well formed names an engine of the device (R271: four in each of 24 regions). -/
def Statement (i : Instr) : Prop := ∀ e op, engineOp i = some (e, op) → i.wellFormed = true → e < 96

theorem of_none {i : Instr} (n : engineOp i = none) : Statement i := by
  intro e op h
  simp [n] at h

theorem of_engine {i : Instr} {e : Nat} {op : EngOp} (n : engineOp i = some (e, op)) (w : i.wellFormed = engineOk e) :
    Statement i := by
  intro e' op' h ok
  simp only [n, Option.some.injEq, Prod.mk.injEq] at h
  rw [w, h.1] at ok
  exact of_decide_eq_true ok

theorem registerWrite (x0 x1 x2 : Nat) (x3 : BitVec 64) (x4 : WriteFacts) : Statement (.registerWrite x0 x1 x2 x3 x4) := of_none rfl
theorem reg64LowerWordRead (x0 x1 : Nat) : Statement (.reg64LowerWordRead x0 x1) := of_none rfl
theorem reg64UpperWordRead (x0 x1 : Nat) : Statement (.reg64UpperWordRead x0 x1) := of_none rfl
theorem rcFieldRead (x0 x1 : Nat) (x2 : Bool) : Statement (.rcFieldRead x0 x1 x2) := of_none rfl
theorem tickStart (x0 : Nat) (x1 : Bool) : Statement (.tickStart x0 x1) := of_none rfl
theorem tickFirstBoundary (x0 : BoundaryInputs) : Statement (.tickFirstBoundary x0) := of_none rfl
theorem tickStop (x0 : Nat) (x1 : Bool) : Statement (.tickStop x0 x1) := of_none rfl
theorem tickBoundary (x0 : BoundaryInputs) : Statement (.tickBoundary x0) := of_none rfl
theorem tickCountWrite (x0 : Nat) (x1 : BitVec 64) : Statement (.tickCountWrite x0 x1) := of_none rfl
theorem pllLockLost : Statement .pllLockLost := of_none rfl
theorem pllRelock : Statement .pllRelock := of_none rfl
theorem nullWaveComplete (x0 : Nat) : Statement (.nullWaveComplete x0) := of_none rfl
theorem regionDone (x0 x1 : Nat) : Statement (.regionDone x0 x1) := of_none rfl
theorem slackWindowEnd (x0 : Nat) : Statement (.slackWindowEnd x0) := of_none rfl
theorem trCtlWrite (x0 x1 : Nat) (x2 : BitVec 32) : Statement (.trCtlWrite x0 x1 x2) := of_none rfl
theorem regionResume (x0 x1 : Nat) (x2 : BitVec 32) : Statement (.regionResume x0 x1 x2) := of_none rfl
theorem regionResumeEffect (x0 : Nat) : Statement (.regionResumeEffect x0) := of_none rfl
theorem trClrOverrunCounters (x0 x1 : Nat) : Statement (.trClrOverrunCounters x0 x1) := of_none rfl
theorem trClrHistogram (x0 x1 : Nat) : Statement (.trClrHistogram x0 x1) := of_none rfl
theorem trClrSlkMinAll (x0 x1 : Nat) : Statement (.trClrSlkMinAll x0 x1) := of_none rfl
theorem avsInterval : Statement .avsInterval := of_none rfl
theorem avsFrameResponse (x0 : Bool) : Statement (.avsFrameResponse x0) := of_none rfl
theorem avsCtlWrite (x0 : Nat) (x1 : BitVec 32) : Statement (.avsCtlWrite x0 x1) := of_none rfl
theorem avsVsetWrite (x0 : Nat) (x1 : BitVec 32) : Statement (.avsVsetWrite x0 x1) := of_none rfl
theorem tarantellaCtlWrite (x0 x1 : Nat) (x2 : BitVec 32) : Statement (.tarantellaCtlWrite x0 x1 x2) := of_none rfl
theorem tarantellaTimeout (x0 : Nat) : Statement (.tarantellaTimeout x0) := of_none rfl
theorem trFloorWrite (x0 x1 : Nat) (x2 : BitVec 32) : Statement (.trFloorWrite x0 x1 x2) := of_none rfl
theorem trFloorLock (x0 x1 : Nat) (x2 : BitVec 32) : Statement (.trFloorLock x0 x1 x2) := of_none rfl
theorem actionEntryWrite (x0 x1 x2 : Nat) (x3 : BitVec 64) : Statement (.actionEntryWrite x0 x1 x2 x3) := of_none rfl
theorem actionArm (x0 x1 : Nat) (x2 : BitVec 32) : Statement (.actionArm x0 x1 x2) := of_none rfl
theorem actionCancel (x0 x1 : Nat) (x2 : BitVec 32) : Statement (.actionCancel x0 x1 x2) := of_none rfl
theorem actRegWrite (x0 : Nat) : Statement (.actRegWrite x0) := of_none rfl
theorem actRegWriteResponse (x0 : Nat) : Statement (.actRegWriteResponse x0) := of_none rfl
theorem actRegionStart (x0 : Nat) : Statement (.actRegionStart x0) := of_none rfl
theorem actRegionStop (x0 : Nat) : Statement (.actRegionStop x0) := of_none rfl
theorem actPrStart (x0 : Nat) : Statement (.actPrStart x0) := of_none rfl
theorem actEngineTask (x0 : Nat) : Statement (.actEngineTask x0) := of_none rfl
theorem actFlagPulse (x0 : Nat) : Statement (.actFlagPulse x0) := of_none rfl
theorem flagPulseEnd (x0 : Nat) : Statement (.flagPulseEnd x0) := of_none rfl
theorem actQueueMark (x0 : Nat) : Statement (.actQueueMark x0) := of_none rfl
theorem actTarantella (x0 : Nat) : Statement (.actTarantella x0) := of_none rfl
theorem actDrainGrant (x0 : Nat) : Statement (.actDrainGrant x0) := of_none rfl
theorem tickSyncArm (x0 : Nat) : Statement (.tickSyncArm x0) := of_none rfl
theorem tickSyncEdge : Statement .tickSyncEdge := of_none rfl
theorem tickSyncLoad (x0 : BoundaryInputs) : Statement (.tickSyncLoad x0) := of_none rfl
theorem beaconMiss (x0 : Nat) : Statement (.beaconMiss x0) := of_none rfl
theorem illegalDetected (x0 x1 x2 x3 : Nat) (x4 : Bool) : Statement (.illegalDetected x0 x1 x2 x3 x4) := of_none rfl
theorem flowStageLatch (x0 x1 x2 : Nat) : Statement (.flowStageLatch x0 x1 x2) := of_none rfl
theorem flowStageRelease (x0 x1 x2 : Nat) : Statement (.flowStageRelease x0 x1 x2) := of_none rfl
theorem samplePortHandshake (x0 x1 x2 : Nat) : Statement (.samplePortHandshake x0 x1 x2) := of_none rfl
theorem offerTokenAcknowledged (x0 x1 x2 : Nat) : Statement (.offerTokenAcknowledged x0 x1 x2) := of_none rfl
theorem arbRequest (x0 x1 x2 : Nat) (x3 : Bool) : Statement (.arbRequest x0 x1 x2 x3) := of_none rfl
theorem arbRelease (x0 x1 x2 : Nat) : Statement (.arbRelease x0 x1 x2) := of_none rfl
theorem requestHeaderTaken (x0 x1 : Nat) : Statement (.requestHeaderTaken x0 x1) := of_none rfl
theorem arbiterGrant (x0 x1 : Nat) : Statement (.arbiterGrant x0 x1) := of_none rfl
theorem arbiterResponseComplete (x0 x1 : Nat) : Statement (.arbiterResponseComplete x0 x1) := of_none rfl
theorem arbiterTimeout (x0 x1 : Nat) : Statement (.arbiterTimeout x0 x1) := of_none rfl
theorem regCmdPowerOn (x0 x1 : Nat) : Statement (.regCmdPowerOn x0 x1) := of_none rfl
theorem regionPowerRampDone (x0 : Nat) : Statement (.regionPowerRampDone x0) := of_none rfl
theorem regCmdPowerOff (x0 x1 : Nat) : Statement (.regCmdPowerOff x0 x1) := of_none rfl
theorem regCmdStart (x0 x1 : Nat) : Statement (.regCmdStart x0 x1) := of_none rfl
theorem regionStartEffect (x0 : Nat) : Statement (.regionStartEffect x0) := of_none rfl
theorem regCmdStop (x0 x1 : Nat) : Statement (.regCmdStop x0 x1) := of_none rfl
theorem regionStopEffect (x0 : Nat) : Statement (.regionStopEffect x0) := of_none rfl
theorem regCmdReset (x0 x1 : Nat) : Statement (.regCmdReset x0 x1) := of_none rfl
theorem regCmdIsolate (x0 x1 : Nat) : Statement (.regCmdIsolate x0 x1) := of_none rfl
theorem regCmdUnisolate (x0 x1 : Nat) : Statement (.regCmdUnisolate x0 x1) := of_none rfl
theorem regCmdClear (x0 x1 : Nat) : Statement (.regCmdClear x0 x1) := of_none rfl
theorem bmPortRequest (x0 x1 x2 : Nat) (x3 : Bool) (x4 : List (Nat × Nat)) : Statement (.bmPortRequest x0 x1 x2 x3 x4) := of_none rfl
theorem bmPortRequestNull (x0 x1 x2 : Nat) : Statement (.bmPortRequestNull x0 x1 x2) := of_none rfl
theorem bmPortResponseAck (x0 x1 x2 : Nat) : Statement (.bmPortResponseAck x0 x1 x2) := of_none rfl
theorem bmMaintenanceAccess (x0 x1 x2 x3 x4 : Nat) (x5 : Bool) (x6 x7 : Nat) (x8 : List (Nat × Nat)) : Statement (.bmMaintenanceAccess x0 x1 x2 x3 x4 x5 x6 x7 x8) := of_none rfl
theorem bmClear (x0 x1 x2 : Nat) : Statement (.bmClear x0 x1 x2) := of_none rfl
theorem bmClearDone (x0 x1 : Nat) : Statement (.bmClearDone x0 x1) := of_none rfl
theorem scrubStep (x0 : Nat) (x1 : List (Nat × Nat)) (x2 : List (Nat × Nat × Nat × Nat)) : Statement (.scrubStep x0 x1 x2) := of_none rfl
theorem scrubFrameWriteback (x0 : Nat) : Statement (.scrubFrameWriteback x0) := of_none rfl
theorem poolScrubStep (x0 : Nat) (x1 : List (Nat × Nat)) : Statement (.poolScrubStep x0 x1) := of_none rfl
theorem engTaskRelease (x0 : Nat) : Statement (.engTaskRelease x0) := of_none rfl
theorem engTaskStart (x0 : Nat) : Statement (.engTaskStart x0) := of_none rfl
theorem engStalledRetire (x0 : Nat) : Statement (.engStalledRetire x0) := of_none rfl
theorem engInstrNop (x0 : Nat) : Statement (.engInstrNop x0) := of_engine rfl rfl
theorem engInstrDone (x0 : Nat) : Statement (.engInstrDone x0) := of_engine rfl rfl
theorem engInstrHalt (x0 : Nat) : Statement (.engInstrHalt x0) := of_engine rfl rfl
theorem engInstrJmp (x0 : Nat) : Statement (.engInstrJmp x0) := of_engine rfl rfl
theorem engInstrCall (x0 : Nat) : Statement (.engInstrCall x0) := of_engine rfl rfl
theorem engInstrRet (x0 : Nat) : Statement (.engInstrRet x0) := of_engine rfl rfl
theorem engInstrRep (x0 : Nat) : Statement (.engInstrRep x0) := of_engine rfl rfl
theorem engInstrLoop (x0 : Nat) : Statement (.engInstrLoop x0) := of_engine rfl rfl
theorem engInstrNwait (x0 : Nat) : Statement (.engInstrNwait x0) := of_engine rfl rfl
theorem engInstrMacmMac (x0 : Nat) : Statement (.engInstrMacmMac x0) := of_engine rfl rfl
theorem engInstrMacmMsu (x0 : Nat) : Statement (.engInstrMacmMsu x0) := of_engine rfl rfl
theorem engInstrMacmMpy (x0 : Nat) : Statement (.engInstrMacmMpy x0) := of_engine rfl rfl
theorem engInstrMacmMpyn (x0 : Nat) : Statement (.engInstrMacmMpyn x0) := of_engine rfl rfl
theorem engInstrMacrMac (x0 : Nat) : Statement (.engInstrMacrMac x0) := of_engine rfl rfl
theorem engInstrMacrMsu (x0 : Nat) : Statement (.engInstrMacrMsu x0) := of_engine rfl rfl
theorem engInstrMacrMpy (x0 : Nat) : Statement (.engInstrMacrMpy x0) := of_engine rfl rfl
theorem engInstrMacrMpyn (x0 : Nat) : Statement (.engInstrMacrMpyn x0) := of_engine rfl rfl
theorem engInstrAdd (x0 : Nat) : Statement (.engInstrAdd x0) := of_engine rfl rfl
theorem engInstrSub (x0 : Nat) : Statement (.engInstrSub x0) := of_engine rfl rfl
theorem engInstrAnd (x0 : Nat) : Statement (.engInstrAnd x0) := of_engine rfl rfl
theorem engInstrOr (x0 : Nat) : Statement (.engInstrOr x0) := of_engine rfl rfl
theorem engInstrXor (x0 : Nat) : Statement (.engInstrXor x0) := of_engine rfl rfl
theorem engInstrShl (x0 : Nat) : Statement (.engInstrShl x0) := of_engine rfl rfl
theorem engInstrShr (x0 : Nat) : Statement (.engInstrShr x0) := of_engine rfl rfl
theorem engInstrAsr (x0 : Nat) : Statement (.engInstrAsr x0) := of_engine rfl rfl
theorem engInstrCmp (x0 : Nat) : Statement (.engInstrCmp x0) := of_engine rfl rfl
theorem engInstrNeg (x0 : Nat) : Statement (.engInstrNeg x0) := of_engine rfl rfl
theorem engInstrAbs (x0 : Nat) : Statement (.engInstrAbs x0) := of_engine rfl rfl
theorem engInstrAdda (x0 : Nat) : Statement (.engInstrAdda x0) := of_engine rfl rfl
theorem engInstrSuba (x0 : Nat) : Statement (.engInstrSuba x0) := of_engine rfl rfl
theorem engInstrNega (x0 : Nat) : Statement (.engInstrNega x0) := of_engine rfl rfl
theorem engInstrAbsa (x0 : Nat) : Statement (.engInstrAbsa x0) := of_engine rfl rfl
theorem engInstrClra (x0 : Nat) : Statement (.engInstrClra x0) := of_engine rfl rfl
theorem engInstrAsra (x0 : Nat) : Statement (.engInstrAsra x0) := of_engine rfl rfl
theorem engInstrShla (x0 : Nat) : Statement (.engInstrShla x0) := of_engine rfl rfl
theorem engInstrSata (x0 : Nat) : Statement (.engInstrSata x0) := of_engine rfl rfl
theorem engInstrLda (x0 : Nat) : Statement (.engInstrLda x0) := of_engine rfl rfl
theorem engInstrLdal (x0 : Nat) : Statement (.engInstrLdal x0) := of_engine rfl rfl
theorem engInstrMova (x0 : Nat) : Statement (.engInstrMova x0) := of_engine rfl rfl
theorem engInstrCmpa (x0 : Nat) : Statement (.engInstrCmpa x0) := of_engine rfl rfl
theorem engInstrLd (x0 : Nat) : Statement (.engInstrLd x0) := of_engine rfl rfl
theorem engInstrSt (x0 : Nat) : Statement (.engInstrSt x0) := of_engine rfl rfl
theorem engInstrSta (x0 : Nat) : Statement (.engInstrSta x0) := of_engine rfl rfl
theorem engInstrLd2 (x0 : Nat) : Statement (.engInstrLd2 x0) := of_engine rfl rfl
theorem engInstrLdi (x0 : Nat) : Statement (.engInstrLdi x0) := of_engine rfl rfl
theorem engInstrAddi (x0 : Nat) : Statement (.engInstrAddi x0) := of_engine rfl rfl
theorem engInstrCmpi (x0 : Nat) : Statement (.engInstrCmpi x0) := of_engine rfl rfl
theorem engInstrMov (x0 : Nat) : Statement (.engInstrMov x0) := of_engine rfl rfl
theorem engInstrMaxi (x0 : Nat) : Statement (.engInstrMaxi x0) := of_engine rfl rfl
theorem engInstrMini (x0 : Nat) : Statement (.engInstrMini x0) := of_engine rfl rfl
theorem engInstrStream (x0 : Nat) : Statement (.engInstrStream x0) := of_engine rfl rfl
theorem engInstrNrd (x0 : Nat) : Statement (.engInstrNrd x0) := of_engine rfl rfl
theorem engInstrNwr (x0 : Nat) : Statement (.engInstrNwr x0) := of_engine rfl rfl
theorem engInstrNwrn (x0 : Nat) : Statement (.engInstrNwrn x0) := of_engine rfl rfl
theorem engStreamInputLatch (x0 x1 : Nat) : Statement (.engStreamInputLatch x0 x1) := of_none rfl
theorem engStreamInputNull (x0 x1 : Nat) : Statement (.engStreamInputNull x0 x1) := of_none rfl
theorem engStreamOutputAck (x0 x1 : Nat) : Statement (.engStreamOutputAck x0 x1) := of_none rfl
theorem engNetworkResponse (x0 x1 : Nat) : Statement (.engNetworkResponse x0 x1) := of_none rfl
theorem engHalt (x0 x1 : Nat) : Statement (.engHalt x0 x1) := of_none rfl
theorem engResume (x0 x1 : Nat) : Statement (.engResume x0 x1) := of_none rfl
theorem engStep (x0 x1 : Nat) : Statement (.engStep x0 x1) := of_none rfl
theorem engAbort (x0 x1 : Nat) : Statement (.engAbort x0 x1) := of_none rfl
theorem engClear (x0 x1 : Nat) : Statement (.engClear x0 x1) := of_none rfl
theorem engSwapreq (x0 x1 : Nat) (x2 : Bool) (x3 : BitVec 12) : Statement (.engSwapreq x0 x1 x2 x3) := of_none rfl
theorem engRelease (x0 x1 : Nat) (x2 : BitVec 6) : Statement (.engRelease x0 x1 x2) := of_none rfl
theorem engMemoryHostWrite (x0 x1 x2 x3 x4 x5 : Nat) : Statement (.engMemoryHostWrite x0 x1 x2 x3 x4 x5) := of_none rfl
theorem engRegisterViewWrite (x0 x1 x2 : Nat) (x3 : BitVec 64) : Statement (.engRegisterViewWrite x0 x1 x2 x3) := of_none rfl
theorem engCntclrTask (x0 x1 : Nat) : Statement (.engCntclrTask x0 x1) := of_none rfl
theorem engCntclrRet (x0 x1 : Nat) : Statement (.engCntclrRet x0 x1) := of_none rfl
theorem routerHeadFlit (x0 x1 x2 : Nat) (x3 : WriteFacts) : Statement (.routerHeadFlit x0 x1 x2 x3) := of_none rfl
theorem outputPortArbitration (x0 x1 x2 x3 : Nat) : Statement (.outputPortArbitration x0 x1 x2 x3) := of_none rfl
theorem creditReturn (x0 x1 x2 : Nat) : Statement (.creditReturn x0 x1 x2) := of_none rfl
theorem portCreditHandshake (x0 x1 : Nat) : Statement (.portCreditHandshake x0 x1) := of_none rfl
theorem niRequestIssue (x0 x1 x2 x3 x4 x5 : Nat) (x6 : Bool) (x7 x8 x9 x10 : Nat) : Statement (.niRequestIssue x0 x1 x2 x3 x4 x5 x6 x7 x8 x9 x10) := of_none rfl
theorem niPacketReceive (x0 x1 x2 : Nat) (x3 : WriteFacts) : Statement (.niPacketReceive x0 x1 x2 x3) := of_none rfl
theorem niRequestTimeout (x0 x1 x2 : Nat) : Statement (.niRequestTimeout x0 x1 x2) := of_none rfl
theorem niTagQuarantineEnd (x0 x1 x2 : Nat) : Statement (.niTagQuarantineEnd x0 x1 x2) := of_none rfl
theorem niRouteEntryWrite (x0 x1 x2 x3 : Nat) (x4 : BitVec 32) : Statement (.niRouteEntryWrite x0 x1 x2 x3 x4) := of_none rfl
theorem crossingPeerReset (x0 x1 : Nat) : Statement (.crossingPeerReset x0 x1) := of_none rfl
theorem rtrRestore (x0 x1 x2 : Nat) : Statement (.rtrRestore x0 x1 x2) := of_none rfl
theorem rtrRestoreDone (x0 x1 : Nat) : Statement (.rtrRestoreDone x0 x1) := of_none rfl
theorem nipFlowTxLatch (x0 x1 : Nat) : Statement (.nipFlowTxLatch x0 x1) := of_none rfl
theorem nipStrmReceive (x0 x1 : Nat) : Statement (.nipStrmReceive x0 x1) := of_none rfl
theorem nipFlowRxAck (x0 x1 : Nat) : Statement (.nipFlowRxAck x0 x1) := of_none rfl
theorem queueDescWrite (x0 x1 x2 : Nat) (x3 : BitVec 32) : Statement (.queueDescWrite x0 x1 x2 x3) := of_none rfl
theorem queueEnable (x0 x1 : Nat) : Statement (.queueEnable x0 x1) := of_none rfl
theorem queueDisable (x0 x1 : Nat) : Statement (.queueDisable x0 x1) := of_none rfl
theorem queueCmdRead (x0 x1 : Nat) (x2 : BitVec 15) : Statement (.queueCmdRead x0 x1 x2) := of_none rfl
theorem queueCmdMark (x0 x1 : Nat) : Statement (.queueCmdMark x0 x1) := of_none rfl
theorem queueRewind (x0 x1 : Nat) : Statement (.queueRewind x0 x1) := of_none rfl
theorem queueReleaseToReadPoint (x0 x1 : Nat) : Statement (.queueReleaseToReadPoint x0 x1) := of_none rfl
theorem queueReleaseToMark (x0 x1 : Nat) : Statement (.queueReleaseToMark x0 x1) := of_none rfl
theorem queueFlush (x0 x1 : Nat) : Statement (.queueFlush x0 x1) := of_none rfl
theorem queueReset (x0 x1 x2 : Nat) : Statement (.queueReset x0 x1 x2) := of_none rfl
theorem capSegmentReceive (x0 x1 : Nat) : Statement (.capSegmentReceive x0 x1) := of_none rfl
theorem queueAppend (x0 x1 : Nat) : Statement (.queueAppend x0 x1) := of_none rfl
theorem noticePost (x0 : Nat) : Statement (.noticePost x0) := of_none rfl
theorem creditNoticeSend (x0 x1 : Nat) : Statement (.creditNoticeSend x0 x1) := of_none rfl
theorem noticeConsWrite (x0 x1 : Nat) (x2 : BitVec 32) : Statement (.noticeConsWrite x0 x1 x2) := of_none rfl
theorem queueReadPortRead (x0 x1 x2 x3 : Nat) : Statement (.queueReadPortRead x0 x1 x2 x3) := of_none rfl
theorem storeApertureRead (x0 x1 x2 : Nat) : Statement (.storeApertureRead x0 x1 x2) := of_none rfl
theorem exhaustWaitInterval (x0 : Nat) : Statement (.exhaustWaitInterval x0) := of_none rfl
theorem spillGroupStart (x0 : Nat) (x1 : List Bool) : Statement (.spillGroupStart x0 x1) := of_none rfl
theorem spillPageDone (x0 : Nat) : Statement (.spillPageDone x0) := of_none rfl
theorem refillStart (x0 : Nat) : Statement (.refillStart x0) := of_none rfl
theorem refillDone (x0 : Nat) : Statement (.refillDone x0) := of_none rfl
theorem storeRetry (x0 : Nat) : Statement (.storeRetry x0) := of_none rfl
theorem pageRangeWrite (x0 x1 : Nat) (x2 : Bool) (x3 : BitVec 64) : Statement (.pageRangeWrite x0 x1 x2 x3) := of_none rfl
theorem qmReclaim (x0 x1 : Nat) : Statement (.qmReclaim x0 x1) := of_none rfl
theorem qmReclaimDone (x0 : Nat) : Statement (.qmReclaimDone x0) := of_none rfl
theorem cqpFlowWriteLatch (x0 x1 : Nat) : Statement (.cqpFlowWriteLatch x0 x1) := of_none rfl
theorem cqpSegmentSend (x0 x1 : Nat) : Statement (.cqpSegmentSend x0 x1) := of_none rfl
theorem cqpReadPairIssue (x0 x1 : Nat) : Statement (.cqpReadPairIssue x0 x1) := of_none rfl
theorem cqpReadPairResponse (x0 x1 : Nat) : Statement (.cqpReadPairResponse x0 x1) := of_none rfl
theorem cqpFlowReadAck (x0 x1 : Nat) : Statement (.cqpFlowReadAck x0 x1) := of_none rfl
theorem laneEnSet (x0 x1 : Nat) (x2 : BitVec 32) : Statement (.laneEnSet x0 x1 x2) := of_none rfl
theorem laneEnClear (x0 x1 : Nat) (x2 : BitVec 32) (x3 : Bool) : Statement (.laneEnClear x0 x1 x2 x3) := of_none rfl
theorem lanePwrupDone (x0 : Nat) : Statement (.lanePwrupDone x0) := of_none rfl
theorem laneTrainingFramesSeen (x0 : Nat) : Statement (.laneTrainingFramesSeen x0) := of_none rfl
theorem laneTrainDone (x0 : Nat) (x1 : List (Nat × Nat × Nat × Bool)) : Statement (.laneTrainDone x0 x1) := of_none rfl
theorem laneLockDone (x0 : Nat) (x1 : List (Nat × Nat)) : Statement (.laneLockDone x0 x1) := of_none rfl
theorem laneTrainingTimeout (x0 : Nat) : Statement (.laneTrainingTimeout x0) := of_none rfl
theorem laneDown (x0 x1 : Nat) (x2 : Bool) : Statement (.laneDown x0 x1 x2) := of_none rfl
theorem laneFreqCheck (x0 x1 : Nat) (x2 : Bool) : Statement (.laneFreqCheck x0 x1 x2) := of_none rfl
theorem codewordReceive (x0 x1 x2 : Nat) (x3 : Bool) : Statement (.codewordReceive x0 x1 x2 x3) := of_none rfl
theorem laneRetrain (x0 x1 : Nat) (x2 : Bool) : Statement (.laneRetrain x0 x1 x2) := of_none rfl
theorem laneLoopNear (x0 x1 : Nat) : Statement (.laneLoopNear x0 x1) := of_none rfl
theorem lanePrbsTx (x0 x1 : Nat) : Statement (.lanePrbsTx x0 x1) := of_none rfl
theorem laneLoopExit (x0 x1 : Nat) : Statement (.laneLoopExit x0 x1) := of_none rfl
theorem laneEyeStart (x0 x1 : Nat) : Statement (.laneEyeStart x0 x1) := of_none rfl
theorem laneEyeAbort (x0 x1 : Nat) : Statement (.laneEyeAbort x0 x1) := of_none rfl
theorem laneEyeDone (x0 x1 : Nat) : Statement (.laneEyeDone x0 x1) := of_none rfl
theorem laneGroupConfigWrite (x0 x1 x2 : Nat) (x3 : BitVec 32) : Statement (.laneGroupConfigWrite x0 x1 x2 x3) := of_none rfl
theorem laneDofsWrite (x0 x1 : Nat) (x2 : BitVec 32) : Statement (.laneDofsWrite x0 x1 x2) := of_none rfl
theorem laneCntclr (x0 x1 : Nat) : Statement (.laneCntclr x0 x1) := of_none rfl
theorem idlisPacketReceive (x0 x1 x2 : Nat) (x3 x4 x5 : Bool) : Statement (.idlisPacketReceive x0 x1 x2 x3 x4 x5) := of_none rfl
theorem idlisDelivery (x0 : Nat) : Statement (.idlisDelivery x0) := of_none rfl
theorem idlisPacketTransmit (x0 : Nat) (x1 : Option Nat) : Statement (.idlisPacketTransmit x0 x1) := of_none rfl
theorem idlisCreditReceive (x0 x1 : Nat) : Statement (.idlisCreditReceive x0 x1) := of_none rfl
theorem idlisCreditSend (x0 : Nat) : Statement (.idlisCreditSend x0) := of_none rfl
theorem driveFrameArrival (x0 x1 : Nat) : Statement (.driveFrameArrival x0 x1) := of_none rfl
theorem drivePacketGapClose (x0 : Nat) : Statement (.drivePacketGapClose x0) := of_none rfl
theorem driveDeadlineDiscard (x0 : Nat) : Statement (.driveDeadlineDiscard x0) := of_none rfl
theorem captureDelivery (x0 : Nat) : Statement (.captureDelivery x0) := of_none rfl
theorem captureCreditWaitTimeout (x0 : Nat) : Statement (.captureCreditWaitTimeout x0) := of_none rfl
theorem storeRequestSend (x0 : Nat) : Statement (.storeRequestSend x0) := of_none rfl
theorem storeCompletionReceive (x0 x1 x2 : Nat) (x3 : Option (Nat × Nat)) : Statement (.storeCompletionReceive x0 x1 x2 x3) := of_none rfl
theorem storeTransactionTimeout (x0 x1 : Nat) : Statement (.storeTransactionTimeout x0 x1) := of_none rfl
theorem storeLinkRestore (x0 x1 : Nat) : Statement (.storeLinkRestore x0 x1) := of_none rfl
theorem fwdDelivery (x0 : Nat) : Statement (.fwdDelivery x0) := of_none rfl
theorem tunnelAccess (x0 x1 : Nat) : Statement (.tunnelAccess x0 x1) := of_none rfl
theorem tunReqDelivery (x0 : Nat) : Statement (.tunReqDelivery x0) := of_none rfl
theorem tunRemoteResponse (x0 : Nat) : Statement (.tunRemoteResponse x0) := of_none rfl
theorem tunRspDelivery (x0 : Nat) : Statement (.tunRspDelivery x0) := of_none rfl
theorem tunnelXtagTimeout (x0 x1 : Nat) : Statement (.tunnelXtagTimeout x0 x1) := of_none rfl
theorem peerTriggerSend (x0 : Nat) : Statement (.peerTriggerSend x0) := of_none rfl
theorem trigDelivery (x0 : Nat) : Statement (.trigDelivery x0) := of_none rfl
theorem idlisCntclr (x0 x1 : Nat) : Statement (.idlisCntclr x0 x1) := of_none rfl
theorem hostConfigRequest (x0 : Nat) (x1 : Bool) (x2 : ConfigReg) (x3 : BitVec 32) : Statement (.hostConfigRequest x0 x1 x2 x3) := of_none rfl
theorem hostRead (x0 x1 x2 x3 : Nat) : Statement (.hostRead x0 x1 x2 x3) := of_none rfl
theorem hostWrite (x0 x1 x2 x3 x4 : Nat) : Statement (.hostWrite x0 x1 x2 x3 x4) := of_none rfl
theorem hostQWindowRead (x0 x1 x2 : Nat) : Statement (.hostQWindowRead x0 x1 x2) := of_none rfl
theorem hostPortReset (x0 : Nat) (x1 : Bool) : Statement (.hostPortReset x0 x1) := of_none rfl
theorem hostLinkDown (x0 : Nat) : Statement (.hostLinkDown x0) := of_none rfl
theorem rescueAccess (x0 : Nat) (x1 : Bool) (x2 x3 x4 : Nat) (x5 : Bool) : Statement (.rescueAccess x0 x1 x2 x3 x4 x5) := of_none rfl
theorem rescueTimeout (x0 : Nat) (x1 : Bool) (x2 : Nat) : Statement (.rescueTimeout x0 x1 x2) := of_none rfl
theorem rescueRegionIsolate (x0 x1 : Nat) : Statement (.rescueRegionIsolate x0 x1) := of_none rfl
theorem rescueRegionReset (x0 x1 : Nat) : Statement (.rescueRegionReset x0 x1) := of_none rfl
theorem semForce (x0 x1 : Nat) : Statement (.semForce x0 x1) := of_none rfl
theorem rescueQuench (x0 x1 : Nat) (x2 : Bool) : Statement (.rescueQuench x0 x1 x2) := of_none rfl
theorem stAbort (x0 : Nat) : Statement (.stAbort x0) := of_none rfl
theorem norSummary (x0 : Nat) : Statement (.norSummary x0) := of_none rfl
theorem chipReset (x0 : Nat) : Statement (.chipReset x0) := of_none rfl
theorem chipResetAssert : Statement .chipResetAssert := of_none rfl
theorem hsemAcquire (x0 x1 : Nat) (x2 : Bool) : Statement (.hsemAcquire x0 x1 x2) := of_none rfl
theorem hsemRelease (x0 x1 : Nat) (x2 : BitVec 32) : Statement (.hsemRelease x0 x1 x2) := of_none rfl
theorem msixMessageSend (x0 x1 : Nat) : Statement (.msixMessageSend x0 x1) := of_none rfl
theorem hpVackWrite (x0 x1 : Nat) (x2 : BitVec 64) : Statement (.hpVackWrite x0 x1 x2) := of_none rfl
theorem hpDbsetWrite (x0 x1 : Nat) (x2 : BitVec 32) : Statement (.hpDbsetWrite x0 x1 x2) := of_none rfl
theorem cfgDataWrite (x0 x1 x2 x3 : Nat) : Statement (.cfgDataWrite x0 x1 x2 x3) := of_none rfl
theorem cfgSync : Statement .cfgSync := of_none rfl
theorem cfgNop : Statement .cfgNop := of_none rfl
theorem cfgRegwFar : Statement .cfgRegwFar := of_none rfl
theorem cfgRegwIdmask : Statement .cfgRegwIdmask := of_none rfl
theorem cfgRegwCtl : Statement .cfgRegwCtl := of_none rfl
theorem cfgRegwKeysel : Statement .cfgRegwKeysel := of_none rfl
theorem cfgRegwRegmap : Statement .cfgRegwRegmap := of_none rfl
theorem cfgCmdFrame : Statement .cfgCmdFrame := of_none rfl
theorem cfgCmdCommit : Statement .cfgCmdCommit := of_none rfl
theorem cfgCmdStart : Statement .cfgCmdStart := of_none rfl
theorem cfgCmdEnd : Statement .cfgCmdEnd := of_none rfl
theorem cfgFdata : Statement .cfgFdata := of_none rfl
theorem cfgFmask : Statement .cfgFmask := of_none rfl
theorem cfgFzero : Statement .cfgFzero := of_none rfl
theorem cfgCwr : Statement .cfgCwr := of_none rfl
theorem cfgChunk : Statement .cfgChunk := of_none rfl
theorem cfgHostAbort (x0 : Nat) : Statement (.cfgHostAbort x0) := of_none rfl
theorem cfgHostPrStart (x0 : Nat) (x1 : BitVec 5) (x2 : BitVec 4) : Statement (.cfgHostPrStart x0 x1 x2) := of_none rfl
theorem prStartEffect : Statement .prStartEffect := of_none rfl
theorem cfgHostRunSlot (x0 : Nat) (x1 : BitVec 4) : Statement (.cfgHostRunSlot x0 x1) := of_none rfl
theorem cfgSlotFirstRead : Statement .cfgSlotFirstRead := of_none rfl
theorem cfgRegmapWWrite (x0 : Nat) (x1 : BitVec 32) : Statement (.cfgRegmapWWrite x0 x1) := of_none rfl
theorem cfgReadback (x0 : Nat) (x1 : BitVec 32) : Statement (.cfgReadback x0 x1) := of_none rfl
theorem cfgListenerOverflow : Statement .cfgListenerOverflow := of_none rfl
theorem pavaneStage2 (x0 : Nat) : Statement (.pavaneStage2 x0) := of_none rfl
theorem pavaneStage3 (x0 : Nat) : Statement (.pavaneStage3 x0) := of_none rfl
theorem resetNRise (x0 : Bool) : Statement (.resetNRise x0) := of_none rfl
theorem resetNFall : Statement .resetNFall := of_none rfl
theorem norInit (x0 : Bool) (x1 : Nat) : Statement (.norInit x0 x1) := of_none rfl
theorem journalReadAtBoot : Statement .journalReadAtBoot := of_none rfl
theorem refclkPresent : Statement .refclkPresent := of_none rfl
theorem bootRegionPower : Statement .bootRegionPower := of_none rfl
theorem galliardImageAttempt : Statement .galliardImageAttempt := of_none rfl
theorem galliardHostWaitEnd : Statement .galliardHostWaitEnd := of_none rfl
theorem bootStreamEnd : Statement .bootStreamEnd := of_none rfl
theorem bootHold (x0 : Nat) : Statement (.bootHold x0) := of_none rfl
theorem bootResume (x0 : Nat) : Statement (.bootResume x0) := of_none rfl
theorem listenerNoImageTimeout : Statement .listenerNoImageTimeout := of_none rfl
theorem listenerBusRead (x0 x1 x2 : Nat) : Statement (.listenerBusRead x0 x1 x2) := of_none rfl
theorem journalWrite (x0 : Nat) : Statement (.journalWrite x0) := of_none rfl
theorem journalRead (x0 x1 x2 x3 : Nat) : Statement (.journalRead x0 x1 x2 x3) := of_none rfl
theorem journalOutack (x0 : Nat) : Statement (.journalOutack x0) := of_none rfl
theorem journalStore (x0 x1 : Nat) (x2 : Option Nat) : Statement (.journalStore x0 x1 x2) := of_none rfl
theorem holdupRetry (x0 x1 : Nat) (x2 : Option Nat) : Statement (.holdupRetry x0 x1 x2) := of_none rfl
theorem powerLossDuringStore : Statement .powerLossDuringStore := of_none rfl
theorem norRawRead (x0 : Nat) : Statement (.norRawRead x0) := of_none rfl
theorem norRawProgram (x0 : Nat) (x1 : Bool) : Statement (.norRawProgram x0 x1) := of_none rfl
theorem norRawErase (x0 : Nat) : Statement (.norRawErase x0) := of_none rfl
theorem norRawBlankchk (x0 : Nat) : Statement (.norRawBlankchk x0) := of_none rfl
theorem sliceStart (x0 : Nat) : Statement (.sliceStart x0) := of_none rfl
theorem sliceCopyDone (x0 x1 : Nat) : Statement (.sliceCopyDone x0 x1) := of_none rfl
theorem sliceHandover (x0 x1 : Nat) : Statement (.sliceHandover x0 x1) := of_none rfl
theorem sliceTestDone (x0 : Nat) (x1 : Bool) (x2 : Nat) : Statement (.sliceTestDone x0 x1 x2) := of_none rfl
theorem sliceRestoreDone (x0 x1 : Nat) : Statement (.sliceRestoreDone x0 x1) := of_none rfl
theorem sliceHandBack (x0 x1 : Nat) : Statement (.sliceHandBack x0 x1) := of_none rfl
theorem sliceWaitOutTimeout (x0 x1 : Nat) : Statement (.sliceWaitOutTimeout x0 x1) := of_none rfl
theorem sliceEngineWaitTimeout (x0 x1 : Nat) : Statement (.sliceEngineWaitTimeout x0 x1) := of_none rfl
theorem failmapStoreRetry : Statement .failmapStoreRetry := of_none rfl
theorem selftestSlice (x0 x1 x2 x3 : Nat) : Statement (.selftestSlice x0 x1 x2 x3) := of_none rfl
theorem selftestAbort (x0 x1 : Nat) (x2 : Bool) : Statement (.selftestAbort x0 x1 x2) := of_none rfl
theorem selftestRegionTest (x0 x1 : Nat) : Statement (.selftestRegionTest x0 x1) := of_none rfl
theorem regionTestDone (x0 : Nat) (x1 : Bool) (x2 : Nat) : Statement (.regionTestDone x0 x1 x2) := of_none rfl
theorem selftestAnalog (x0 : Nat) : Statement (.selftestAnalog x0) := of_none rfl
theorem selftestMarkFailed (x0 x1 x2 x3 : Nat) : Statement (.selftestMarkFailed x0 x1 x2 x3) := of_none rfl
theorem selftestEyeCheck (x0 x1 x2 x3 x4 x5 : Nat) : Statement (.selftestEyeCheck x0 x1 x2 x3 x4 x5) := of_none rfl
theorem laneSelftestSlice (x0 x1 x2 x3 x4 : Nat) : Statement (.laneSelftestSlice x0 x1 x2 x3 x4) := of_none rfl
theorem laneNearSliceEnd (x0 x1 : Nat) (x2 : Bool) : Statement (.laneNearSliceEnd x0 x1 x2) := of_none rfl
theorem analogPart (x0 : Nat) (x1 : BitVec 32) (x2 : BitVec 20) (x3 x4 x5 : Bool) (x6 : BitVec 16) : Statement (.analogPart x0 x1 x2 x3 x4 x5 x6) := of_none rfl
theorem lcTransition (x0 x1 : Nat) (x2 : BitVec 8) : Statement (.lcTransition x0 x1 x2) := of_none rfl
theorem lcKeyProg (x0 x1 : Nat) (x2 : BitVec 8) : Statement (.lcKeyProg x0 x1 x2) := of_none rfl
theorem lcKeyKill (x0 x1 : Nat) (x2 : BitVec 8) : Statement (.lcKeyKill x0 x1 x2) := of_none rfl
theorem bankFlowOutputToken (x0 x1 : Nat) : Statement (.bankFlowOutputToken x0 x1) := of_none rfl
theorem bankFlowInputAck (x0 x1 : Nat) (x2 : Option Bool) : Statement (.bankFlowInputAck x0 x1 x2) := of_none rfl
theorem gearedOutputWord (x0 x1 : Nat) (x2 : Bool) : Statement (.gearedOutputWord x0 x1 x2) := of_none rfl
theorem gearedInputWord (x0 x1 : Nat) (x2 : BitVec 8) : Statement (.gearedInputWord x0 x1 x2) := of_none rfl
theorem bankBitslip (x0 x1 x2 : Nat) : Statement (.bankBitslip x0 x1 x2) := of_none rfl
theorem bankQuench (x0 x1 : Nat) (x2 : Bool) : Statement (.bankQuench x0 x1 x2) := of_none rfl
theorem bankQclr (x0 x1 : Nat) (x2 : Bool) : Statement (.bankQclr x0 x1 x2) := of_none rfl
theorem currentLimitEvent (x0 x1 : Nat) (x2 : Bool) : Statement (.currentLimitEvent x0 x1 x2) := of_none rfl
theorem bankSupplyCollapse (x0 x1 : Nat) (x2 : Bool) : Statement (.bankSupplyCollapse x0 x1 x2) := of_none rfl
theorem bankSupplyOutOfRange (x0 x1 : Nat) : Statement (.bankSupplyOutOfRange x0 x1) := of_none rfl
theorem bankSupplyReturn (x0 x1 : Nat) : Statement (.bankSupplyReturn x0 x1) := of_none rfl
theorem controlPinInputChange (x0 : Nat) (x1 : Bool) : Statement (.controlPinInputChange x0 x1) := of_none rfl
theorem cpCfgWrite (x0 x1 : Nat) (x2 : BitVec 32) : Statement (.cpCfgWrite x0 x1 x2) := of_none rfl
theorem tlMapWrite (x0 x1 : Nat) (x2 : BitVec 32) : Statement (.tlMapWrite x0 x1 x2) := of_none rfl
theorem incidentBusDeliver (x0 x1 x2 : Nat) (x3 : BitVec 64) : Statement (.incidentBusDeliver x0 x1 x2 x3) := of_none rfl
theorem incidentTake (x0 : Nat) (x1 : Bool) : Statement (.incidentTake x0 x1) := of_none rfl
theorem rateTokenRefill (x0 : Nat) : Statement (.rateTokenRefill x0) := of_none rfl
theorem ilRateWrite (x0 : Nat) (x1 : BitVec 32) : Statement (.ilRateWrite x0 x1) := of_none rfl
theorem ilAck (x0 : Nat) : Statement (.ilAck x0) := of_none rfl
theorem ilClear (x0 : Nat) : Statement (.ilClear x0) := of_none rfl
theorem ilAlmclr (x0 : Nat) (x1 : Bool) : Statement (.ilAlmclr x0 x1) := of_none rfl
theorem ilPmAck (x0 : Nat) : Statement (.ilPmAck x0) := of_none rfl
theorem ilCntclr (x0 : Nat) : Statement (.ilCntclr x0) := of_none rfl
theorem summaryGapExpiry : Statement .summaryGapExpiry := of_none rfl
theorem pwrokRise (x0 : Bool) : Statement (.pwrokRise x0) := of_none rfl
theorem mainPowerLoss : Statement .mainPowerLoss := of_none rfl
theorem vstbyLoss : Statement .vstbyLoss := of_none rfl
theorem vstbyRise : Statement .vstbyRise := of_none rfl
theorem supplyMonitorSample (x0 x1 : Nat) : Statement (.supplyMonitorSample x0 x1) := of_none rfl
theorem thermalSample (x0 : List (BitVec 16)) : Statement (.thermalSample x0) := of_none rfl
theorem thermalWarningClear : Statement .thermalWarningClear := of_none rfl
theorem thermalTripHoldEnd : Statement .thermalTripHoldEnd := of_none rfl
theorem wakeChange (x0 : Bool) : Statement (.wakeChange x0) := of_none rfl
theorem pwrCtlWrite (x0 : Nat) (x1 : BitVec 32) : Statement (.pwrCtlWrite x0 x1) := of_none rfl
theorem idlisResync (x0 : Nat) : Statement (.idlisResync x0) := of_none rfl
theorem retryStatusTimeout : Statement .retryStatusTimeout := of_none rfl
theorem hostLinkUp (x0 : Nat) (x1 : BitVec 3) (x2 : BitVec 4) : Statement (.hostLinkUp x0 x1 x2) := of_none rfl
theorem norOperationComplete (x0 : Option Nat) : Statement (.norOperationComplete x0) := of_none rfl
theorem tickMarkPulseEnd : Statement .tickMarkPulseEnd := of_none rfl
theorem storeTagQuarantineEnd (x0 x1 : Nat) : Statement (.storeTagQuarantineEnd x0 x1) := of_none rfl
theorem xtagQuarantineEnd (x0 x1 : Nat) : Statement (.xtagQuarantineEnd x0 x1) := of_none rfl
theorem prbsCheckerLock (x0 x1 : Nat) (x2 : Bool) : Statement (.prbsCheckerLock x0 x1 x2) := of_none rfl
theorem jtagInstruction (x0 : BitVec 8) : Statement (.jtagInstruction x0) := of_none rfl
theorem pinFilterSettle (x0 : Nat) : Statement (.pinFilterSettle x0) := of_none rfl

end Sys2Proof.Laws.EngineNamed
end

