-- ==== Sys2Proof/Laws/Vectors.lean ====
section
/-! SUPPORT. The interrupt sources and vectors of a port do not see what `settle` changes. -/

namespace Sys2Proof.Machine

theorem any_eq {α : Type} (l : List α) (f g : α → Bool) (h : ∀ i ∈ l, f i = g i) : l.any f = l.any g := by
  induction l with
  | nil => rfl
  | cons a t ih => simp only [List.any_cons]; rw [h a (by simp), ih (fun i hi => h i (by simp [hi]))]

theorem Tbl.filter_insert {α : Type} (m : Tbl α) (k : Nat) (v : α) :
    (Tbl.insert m k v).filter (fun e => e.1 != k) = m.filter (fun e => e.1 != k) := by
  induction m with
  | nil => simp [Tbl.insert]
  | cons e t ih =>
    obtain ⟨i, w⟩ := e
    unfold Tbl.insert
    split
    · subst_vars; simp
    · split
      · simp
      · simp [List.filter_cons, ih]

theorem Tbl.filter_put {α : Type} [DecidableEq α] (d : α) (m : Tbl α) (k : Nat) (v : α) :
    (Tbl.put d m k v).filter (fun e => e.1 != k) = m.filter (fun e => e.1 != k) := by
  unfold Tbl.put
  split
  · simp [Tbl.erase]
  · exact Tbl.filter_insert ..

/-- Two states that agree in everything the interrupt sources look at. -/
structure SameLevels (s t : State) : Prop where
  rd : ∀ a, notVpend a → t.rd a = s.rd a
  find : ∀ a, notVpend a → Tbl.find? t.regs a = Tbl.find? s.regs a
  any : ∀ q : Nat × Word64 → Bool, (∀ e, q e = true → notVpend e.1) → t.regs.any q = s.regs.any q
  alarm : t.lovage.alarm = s.lovage.alarm

theorem any_of_filter {α : Type} (l l' : Tbl α) (k : Nat) (q : Nat × α → Bool) (h : l.filter (fun e => e.1 != k) = l'.filter (fun e => e.1 != k))
   (hq : ∀ e, q e = true → e.1 ≠ k) : l.any q = l'.any q := by
  have key : ∀ l : Tbl α, l.any q = (l.filter (fun e => e.1 != k)).any q := by
    intro l
    rw [List.any_filter]
    congr 1
    funext e
    cases hqe : q e
    · simp
    · simp [hq e hqe]
  rw [key l, key l', h]

theorem SameLevels.settlePort (s : State) (p : Nat) (hp : p < 2) : SameLevels s (s.settlePort p) := by
  have hv : ∀ a, notVpend a → a ≠ Reg.HP_VPEND p := by
    intro a h
    interval_cases p
    · exact h.1
    · exact h.2
  refine ⟨fun a h => State.rd_settlePort_other _ (hv a h), fun a h => ?_, fun q hq => ?_, rfl⟩
  · have := hv a h
    simp only [State.settlePort, State.setFld, State.wr]
    unfold Tbl.put
    have hh : (Reg.HP_VPEND_PEND p).addr = Reg.HP_VPEND p := rfl
    rw [hh]
    split
    · exact Tbl.find?_erase_other _ this
    · exact Tbl.find?_insert_other _ _ this
  · refine any_of_filter _ _ (Reg.HP_VPEND p) q ?_ (fun e he => hv _ (hq e he))
    exact Tbl.filter_put ..
variable {s t : State} (h : SameLevels s t)
include h

theorem SameLevels.fld (f : Fld) (hf : notVpend f.addr) : t.fld f = s.fld f := by
  simp only [State.fld, h.rd _ hf]
theorem SameLevels.on (f : Fld) (hf : notVpend f.addr) : t.on f = s.on f := by
  simp only [State.on, h.fld _ hf]

theorem SameLevels.anyReg (base n stride : Nat) (p p' : Nat → Word64 → Bool) (_hs : 0 < stride)
    (hb : ∀ k, k < n → notVpend (base + stride * k)) (hp : ∀ k v, k < n → p' k v = p k v) :
    t.anyReg base n stride p' = s.anyReg base n stride p := by
  unfold State.anyReg
  rw [h.any]
  · congr 1
    funext e
    by_cases hc : base ≤ e.1 ∧ (e.1 - base) % stride = 0 ∧ (e.1 - base) / stride < n
    · obtain ⟨h1, h2, h3⟩ := hc
      simp [hp _ _ h3]
    · by_cases h3 : (e.1 - base) / stride < n
      · by_cases h1 : base ≤ e.1 <;> by_cases h2 : (e.1 - base) % stride = 0
        · exact absurd ⟨h1, h2, h3⟩ hc
        all_goals first | (rw [beq_false_of_ne h2]; simp) | simp [h1, h2]
      · rw [decide_eq_false h3]; simp
  · intro e he
    simp only [Bool.and_eq_true, decide_eq_true_eq, beq_iff_eq] at he
    obtain ⟨⟨⟨h1, h2⟩, h3⟩, -⟩ := he
    have := hb _ h3
    have e2 : base + stride * ((e.1 - base) / stride) = e.1 := by
      have := Nat.div_add_mod (e.1 - base) stride
      omega
    rwa [e2] at this

theorem SameLevels.blkSum (r b : Nat) (_hr : r < 24) (_hb : b < 256) : t.blkSum r b = s.blkSum r b := by
  unfold State.blkSum
  rw [h.rd, h.fld] <;> simp only [notVpend, Reg.BLK_ERR, Reg.BLK_ERRCTL_MASK, Reg.BLK_ERRCTL, Reg.HP_VPEND] <;> omega

theorem SameLevels.bmSum (r m : Nat) (_hr : r < 24) (hm : m < 96) : t.bmSum r m = s.bmSum r m := by
  unfold State.bmSum
  rw [h.on, h.on, h.on, h.on, h.on] <;>
    simp only [notVpend, Reg.BM_STAT_PROT, Reg.BM_STAT_PORT_ILL, Reg.BM_STAT_CFG_BAD, Reg.BM_ECCSTAT_UE, Reg.BM_ECCSTAT_CFG_CHK, Reg.BM_STAT, Reg.BM_ECCSTAT, Reg.HP_VPEND] <;> omega

theorem SameLevels.engSum (r k : Nat) (_hr : r < 24) (hk : k < 4) : t.engSum r k = s.engSum r k := by
  unfold State.engSum
  rw [h.rd, h.fld, h.on, h.on] <;>
    simp only [notVpend, Reg.ENG_ERR, Reg.ENG_ERRCTL_MASK, Reg.ENG_ERRCTL, Reg.ENG_ECCSTAT_UE, Reg.ENG_ECCSTAT_CFG_CHK, Reg.ENG_ECCSTAT, Reg.HP_VPEND] <;> omega

theorem SameLevels.nodeSum (n : Nat) (hn : n < 48) : t.nodeSum n = s.nodeSum n := by
  unfold State.nodeSum
  rw [h.rd (Reg.RTR_ERR n), h.fld (Reg.RTR_ERRCTL_MASK n), h.rd (Reg.NI_ERR n 0), h.fld (Reg.NI_ERRCTL_MASK n 0), h.rd (Reg.NI_ERR n 1),
    h.fld (Reg.NI_ERRCTL_MASK n 1)] <;>
    simp only [notVpend, Reg.RTR_ERR, Reg.RTR_ERRCTL_MASK, Reg.RTR_ERRCTL, Reg.NI_ERR, Reg.NI_ERRCTL_MASK, Reg.NI_ERRCTL, Reg.HP_VPEND] <;> omega

theorem SameLevels.rtrSum (r : Nat) (hr : r < 24) : t.rtrSum r = s.rtrSum r := by
  unfold State.rtrSum
  rw [h.nodeSum _ (by unfold regionNode; omega)]
  congr 1
  refine any_eq _ _ _ ?_
  intro i hi
  have hi : i < 8 := List.mem_range.mp hi
  rw [h.on, h.on, h.on, h.on] <;> simp only [notVpend, Reg.NIP_STAT_TX_DROP, Reg.NIP_STAT_RX_DROP, Reg.CQP_STAT_WDROP, Reg.CQP_STAT_RERR, Reg.NIP_STAT, Reg.CQP_STAT, Reg.HP_VPEND] <;> omega

theorem SameLevels.regErr (r : Nat) (hr : r < 24) : t.regErr r = s.regErr r := by
  have h1 : t.anyBlk r = s.anyBlk r := by
    apply h.anyReg _ _ _ _ _ (by omega)
    · intro k hk; simp only [notVpend, Reg.BLK_ERR, Reg.HP_VPEND]; omega
    · intro k v hk; exact h.blkSum r k hr hk
  have h2 : t.anyBm r = s.anyBm r := by
    unfold State.anyBm
    congr 1
    · apply h.anyReg _ _ _ _ _ (by omega)
      · intro k hk; simp only [notVpend, Reg.BM_STAT, Reg.HP_VPEND]; omega
      · intro k v hk; exact h.bmSum r k hr hk
    · apply h.anyReg _ _ _ _ _ (by omega)
      · intro k hk; simp only [notVpend, Reg.BM_ECCSTAT, Reg.HP_VPEND]; omega
      · intro k v hk; exact h.bmSum r k hr hk
  have h3 : t.anyEng r = s.anyEng r := by
    unfold State.anyEng
    refine any_eq _ _ _ ?_
    intro k hk
    exact h.engSum r k hr (List.mem_range.mp hk)
  unfold State.regErr
  rw [h1, h2, h3, h.rtrSum r hr, h.rd]
  simp only [notVpend, Reg.REG_ERR, Reg.HP_VPEND]; omega

theorem SameLevels.regionSum (r : Nat) (hr : r < 24) : t.regionSum r = s.regionSum r := by
  unfold State.regionSum
  rw [h.regErr r hr, h.fld]
  simp only [notVpend, Reg.REG_ERRCTL_MASK, Reg.REG_ERRCTL, Reg.HP_VPEND]; omega

theorem SameLevels.laneSum (n : Nat) (hn : n < 128) : t.laneSum n = s.laneSum n := by
  unfold State.laneSum
  rw [h.rd, h.fld] <;> simp only [notVpend, Reg.LN_ERR, Reg.LN_ERRCTL_MASK, Reg.LN_ERRCTL, Reg.HP_VPEND] <;> omega

theorem SameLevels.noteEvent (q : Nat) (hq : q < 4) : t.noteEvent q = s.noteEvent q := by
  unfold State.noteEvent
  rw [h.on, h.fld, h.fld, h.fld] <;> simp only [notVpend, Reg.QM_CTL_NEVT_EN, Reg.QM_CTL_NTHR, Reg.QM_CTL, Reg.QM_NPROD_COUNT, Reg.QM_NPROD, Reg.QM_NCONS_COUNT, Reg.QM_NCONS, Reg.HP_VPEND] <;> omega

theorem SameLevels.shardSum (q : Nat) (hq : q < 4) : t.shardSum q = s.shardSum q := by
  unfold State.shardSum
  rw [h.rd, h.fld, h.on, h.on] <;> simp only [notVpend, Reg.QM_ERR, Reg.QM_ERRCTL_MASK, Reg.QM_ERRCTL, Reg.QM_ECCSTAT_UE, Reg.QM_ECCSTAT_LINK_UE, Reg.QM_ECCSTAT, Reg.HP_VPEND] <;> omega

theorem SameLevels.srcActive (p k : Nat) (_hp : p < 2) (hk : k < 64) : t.srcActive p k = s.srcActive p k := by
  have hlt : k < 64 := hk
  unfold State.srcActive
  rw [h.alarm]
  refine ite_congr rfl (fun _ => rfl) (fun _ => ite_congr rfl (fun _ => ?_) (fun _ => ite_congr rfl (fun _ => ?_) (fun _ =>
    ite_congr rfl (fun _ => ?_) (fun _ => ite_congr rfl (fun _ => ?_) (fun _ => ite_congr rfl (fun _ => ?_) (fun _ =>
    ite_congr rfl (fun _ => ?_) (fun _ => ite_congr rfl (fun _ => ?_) (fun _ => ite_congr rfl (fun _ => rfl) (fun _ =>
    ite_congr rfl (fun _ => ?_) (fun _ => ite_congr rfl (fun _ => ?_) (fun _ => ite_congr rfl (fun _ => ?_) (fun _ =>
    ite_congr rfl (fun _ => rfl) (fun _ => ?_)))))))))))))
  · rw [h.fld, h.on] <;> decide
  · refine any_eq _ _ _ ?_
    intro i hi
    have hi : i < 64 := List.mem_range.mp hi
    rw [h.fld, h.on] <;> simp only [notVpend, Reg.ACT_DONE_DONE, Reg.ACT_DONE, Reg.ACT_CTL_EVT, Reg.ACT_CTL, Reg.HP_VPEND] <;> omega
  · rw [h.rd, h.on] <;> decide
  · rw [h.rd, h.rd] <;> decide
  · rw [h.rd, h.rd] <;> decide
  · refine any_eq _ _ _ ?_
    intro n hn
    exact h.nodeSum n (List.mem_range.mp hn)
  · apply h.anyReg _ _ _ _ _ (by omega)
    · intro n hn; simp only [notVpend, Reg.LN_ERR, Reg.HP_VPEND]; omega
    · intro n v hn; exact h.laneSum n hn
  · exact h.noteEvent _ (by omega)
  · exact h.shardSum _ (by omega)
  · exact h.regionSum _ (by omega)
  · rw [h.fld]; simp only [notVpend, Reg.HP_DBELL_DB, Reg.HP_DBELL, Reg.HP_VPEND]; omega

theorem SameLevels.vecMask (p : Nat) (hp : p < 2) : t.vecMask p = s.vecMask p := by
  have hr : ∀ k, k < 64 → notVpend (Reg.HP_ROUTE p k) := by
    intro k hk; simp only [notVpend, Reg.HP_ROUTE, Reg.HP_VPEND]; omega
  have h1 : t.routed p (fun k => t.on (Reg.HP_ROUTE_EN p k)) = s.routed p (fun k => s.on (Reg.HP_ROUTE_EN p k)) := by
    unfold State.routed
    apply List.filter_congr
    intro k hk
    have hk := List.mem_range.mp hk
    have e := h.on (Reg.HP_ROUTE_EN p k) (hr k hk)
    simp only [h.find _ (hr k hk), e]
  unfold State.vecMask
  rw [h1]
  have h2 : ∀ k ∈ s.routed p (fun k => s.on (Reg.HP_ROUTE_EN p k)), k < 64 := by
    intro k hk
    exact List.mem_range.mp (List.mem_of_mem_filter hk)
  rw [List.filter_congr (q := fun k => s.srcActive p k) (fun k hk => h.srcActive p k hp (h2 k hk))]
  apply List.foldl_ext
  intro m k hk
  have := h2 k (List.mem_of_mem_filter hk)
  rw [h.fld _ (hr k this)]
omit h

end Sys2Proof.Machine
end

