-- ==== Sys2Proof/Tests/Slice0.lean ====
section
/-! SUPPORT. Tests: each check of well-formedness refuses a command just past its bound and takes the one at it; a few effects and
values that the spec gives; and for every statement with hypotheses a state and operands that meet them, clause by clause. -/

namespace Sys2Proof.Tests

open Sys2Proof.Machine

set_option Elab.async false

/-! ## Well-formedness -/

theorem test_requester_ok : (Instr.tickSyncArm 255).wellFormed = true ∧ (Instr.tickSyncArm 256).wellFormed = false := by decide
theorem test_region_ok : (Instr.nullWaveComplete 23).wellFormed = true ∧ (Instr.nullWaveComplete 24).wellFormed = false := by decide
theorem test_engine_ok : (Instr.engTaskRelease 95).wellFormed = true ∧ (Instr.engTaskRelease 96).wellFormed = false := by decide
theorem test_memory_ok : (Instr.bmClearDone 0 95).wellFormed = true ∧ (Instr.bmClearDone 0 96).wellFormed = false := by decide
theorem test_block_ok : (Instr.requestHeaderTaken 0 255).wellFormed = true ∧ (Instr.requestHeaderTaken 0 256).wellFormed = false := by decide
theorem test_macrocell_ok : (Instr.flowStageLatch 0 0 63).wellFormed = true ∧ (Instr.flowStageLatch 0 0 64).wellFormed = false := by decide
theorem test_node_ok : (Instr.portCreditHandshake 47 0).wellFormed = true ∧ (Instr.portCreditHandshake 48 0).wellFormed = false := by decide
theorem test_link_port_ok : (Instr.portCreditHandshake 0 7).wellFormed = true ∧ (Instr.portCreditHandshake 0 8).wellFormed = false := by decide
theorem test_interface_ok : (Instr.niRequestTimeout 0 1 0).wellFormed = true ∧ (Instr.niRequestTimeout 0 2 0).wellFormed = false := by decide
theorem test_channel_ok : (Instr.nipStrmReceive 0 7).wellFormed = true ∧ (Instr.nipStrmReceive 0 8).wellFormed = false := by decide
theorem test_tag_ok : (Instr.storeTransactionTimeout 0 1023).wellFormed = true ∧ (Instr.storeTransactionTimeout 0 1024).wellFormed = false := by decide
theorem test_route_index_ok : (Instr.niRouteEntryWrite 0 0 0 63 0).wellFormed = true ∧ (Instr.niRouteEntryWrite 0 0 0 64 0).wellFormed = false := by decide
theorem test_fabric_port_ok : (Instr.nipFlowTxLatch 0 7).wellFormed = true ∧ (Instr.nipFlowTxLatch 0 8).wellFormed = false := by decide
theorem test_shard_ok : (Instr.qmReclaimDone 3).wellFormed = true ∧ (Instr.qmReclaimDone 4).wellFormed = false := by decide
theorem test_queue_ok : (Instr.noticePost 1023).wellFormed = true ∧ (Instr.noticePost 1024).wellFormed = false := by decide
theorem test_lane_ok : (Instr.lanePwrupDone 127).wellFormed = true ∧ (Instr.lanePwrupDone 128).wellFormed = false := by decide
theorem test_group_ok : (Instr.driveFrameArrival 15 0).wellFormed = true ∧ (Instr.driveFrameArrival 16 0).wellFormed = false := by decide
theorem test_bank_ok : (Instr.bankFlowOutputToken 11 0).wellFormed = true ∧ (Instr.bankFlowOutputToken 12 0).wellFormed = false := by decide
theorem test_pin_ok : (Instr.bankFlowOutputToken 0 47).wellFormed = true ∧ (Instr.bankFlowOutputToken 0 48).wellFormed = false := by decide
theorem test_pair_ok : (Instr.gearedOutputWord 0 23 false).wellFormed = true ∧ (Instr.gearedOutputWord 0 24 false).wellFormed = false := by decide
theorem test_control_pin_ok : (Instr.pinFilterSettle 51).wellFormed = true ∧ (Instr.pinFilterSettle 52).wellFormed = false := by decide
theorem test_action_ok : (Instr.actRegWrite 63).wellFormed = true ∧ (Instr.actRegWrite 64).wellFormed = false := by decide
theorem test_peer_ok : (Instr.beaconMiss 6).wellFormed = true ∧ (Instr.beaconMiss 7).wellFormed = false := by decide
theorem test_mem_port_ok : (Instr.bmPortRequestNull 0 0 1).wellFormed = true ∧ (Instr.bmPortRequestNull 0 0 2).wellFormed = false := by decide
theorem test_target_ok : (Instr.arbiterGrant 0 31).wellFormed = true ∧ (Instr.arbiterGrant 0 32).wellFormed = false := by decide
theorem test_eng_tag_ok : (Instr.engNetworkResponse 0 3).wellFormed = true ∧ (Instr.engNetworkResponse 0 4).wellFormed = false := by decide
theorem test_host_ok : (Instr.hostLinkDown 1).wellFormed = true ∧ (Instr.hostLinkDown 2).wellFormed = false := by decide
theorem test_semaphore_ok : (Instr.semForce 0 63).wellFormed = true ∧ (Instr.semForce 0 64).wellFormed = false := by decide
theorem test_vector_ok : (Instr.msixMessageSend 0 63).wellFormed = true ∧ (Instr.msixMessageSend 0 64).wellFormed = false := by decide
theorem test_window_ok : (Instr.reg64LowerWordRead 0 0x3ffffff).wellFormed = true ∧ (Instr.reg64LowerWordRead 0 0x4000000).wellFormed = false := by decide
theorem test_rescue_offset_ok : (Instr.rescueTimeout 0 false 0xffff).wellFormed = true ∧ (Instr.rescueTimeout 0 false 0x10000).wellFormed = false := by decide
theorem test_read_size_ok : (Instr.hostQWindowRead 0 0 4096).wellFormed = true ∧ (Instr.hostQWindowRead 0 0 0).wellFormed = false := by decide
theorem test_write_size_ok : (Instr.hostWrite 0 0 0 512 0).wellFormed = true ∧ (Instr.hostWrite 0 0 0 0 0).wellFormed = false := by decide
theorem test_register_size_ok : (Instr.registerWrite 0 0 8 0 ⟨false, false, 0, false, []⟩).wellFormed = true ∧ (Instr.registerWrite 0 0 6 0 ⟨false, false, 0, false, []⟩).wellFormed = false := by decide
theorem test_trigger_ok : (Instr.tlMapWrite 0 63 0).wellFormed = true ∧ (Instr.tlMapWrite 0 64 0).wellFormed = false := by decide
theorem test_source_ok : (Instr.rateTokenRefill 0xffff).wellFormed = true ∧ (Instr.rateTokenRefill 0x10000).wellFormed = false := by decide
theorem test_code_ok : (Instr.incidentBusDeliver 0 1 127 0).wellFormed = true ∧ (Instr.incidentBusDeliver 0 1 128 0).wellFormed = false := by decide
theorem test_severity_ok : (Instr.incidentBusDeliver 0 5 0 0).wellFormed = true ∧ (Instr.incidentBusDeliver 0 0 0 0).wellFormed = false := by decide
theorem test_length_ok : (Instr.niRequestIssue 0 0 0 0 0 0 false 0 0 256 0).wellFormed = true ∧ (Instr.niRequestIssue 0 0 0 0 0 0 false 0 0 0 0).wellFormed = false := by decide
theorem test_priority_ok : (Instr.niRequestIssue 0 0 0 0 0 0 false 3 0 1 0).wellFormed = true ∧ (Instr.niRequestIssue 0 0 0 0 0 0 false 4 0 1 0).wellFormed = false := by decide

/-! ## States of the tests -/

/-- Engine 95 in RUN, with the word `w` at its PC and the rest of its state as `f` makes it. -/
def engAt (w : Nat) (f : EngSt → EngSt := id) : State :=
  ((State.reset.setFld (Reg.REG_STATUS_STATE 23) 4).setEng 95 (f { State.reset.eng 95 with st := .run })).setBytes
    (engCode 95 0 0) w 4

/-- Region 23 RUNNING, with everything of it enabled, its wave in the given phase, and words of its configuration frames. -/
def fabricAt (ph : WavePhase) (words : List (Nat × Nat)) : State :=
  let s := (State.reset.setFld (Reg.REG_STATUS_STATE 23) 4).setFld (Reg.REG_STATUS_PAVANE 23) 3
  { s.setRgn 23 { s.rgn 23 with phase := ph } with
    frames := words.foldl (fun t e => Tbl.put 0 t e.1 (BitVec.ofNat 32 e.2)) [] }

/-- Word `w` of frame `f` of block 255 of region 23. -/
def blk (f w : Nat) : Nat := frameKey 23 31 (280 + f) w

/-- The port select list of region 23 with one entry: the destination shows the constant 1. -/
def oneAt (cls unit sig : Nat) : List (Nat × Nat) :=
  [(frameKey 23 41 29 0, sig + unit * 2 ^ 10 + cls * 2 ^ 18 + 2 ^ 31), (frameKey 23 41 29 1, 7 * 2 ^ 18 + 1)]

/-- A request of block 255, channel 0, to target 31. -/
def request : ArbReq := ⟨255, 0, 31, 1, 1, 0, 0⟩

/-- The tick runs, and action entry 63, of this type and with these arguments, is due at the present tick. -/
def actionAt (type a0 a1 : Nat) : State :=
  ((((State.reset.setBit Reg.TICK_STATUS_RUNNING true).setFld (Reg.ACT_CTL_TYPE 63) type).setFld (Reg.ACT_STAT_STATE 63) 1).setFld
    (Reg.ACT_ARG0_ARG 63) a0).setFld (Reg.ACT_ARG1_ARG 63) a1

/-- A packet of one flit. -/
def flit (opc dst blen payload : Nat) (stat : Nat := 0) : Flit :=
  let f : Flit := {
    route := 0, hops := 0, vn := (opVn opc).getD 0, pri := 1, nfl := flitsM1 opc blen, fidx := 0, opc, stat, rid := 1, tag := 0,
    dst, stale := false, poison := false, blen, payload, check := 0 }
  f.seal

/-- The flits stand in virtual channel `vc` of port `p` of node `n`, of which `s` is the state else. -/
def withFlits (n p vc : Nat) (fs : List Flit) (s : State := State.reset) : State :=
  s.setVc n p vc { s.vcIn n p vc with q := fs }

/-- Queue 1023 holds more than may stay on the chip, a page is ready for its next group of cells, and one more is free. -/
def storeAt : State :=
  let s := ((State.reset.setQbit 1023 Reg.QM_QDESC0_SPILL_EN true).setBit (Reg.QM_STMAP_EN 3 0) true).setQueue 1023
    { State.reset.queue 1023 with cells := (List.range 64).map (fun i => (i, ⟨i, []⟩)), tail := 256, succ := some 6 }
  s.setShard 3 { s.shard 3 with freePages := [7] }

/-- A packet of a link that is a header alone, and one with a payload and its trailer. -/
def header (v : Nat) : LinkPkt := ⟨16, v + crc32c v 14 % 2 ^ 16 * 2 ^ 112⟩
def withBody (v plen body : Nat) : LinkPkt :=
  let w := (header (v + plen * 2 ^ 16)).v + body * 2 ^ 128
  ⟨20 + plen, w + crc32c w (16 + plen) * 2 ^ (128 + 8 * plen)⟩

/-- Lane 127, a link of its own in this role, is UP and in step. -/
def laneAt (role : Nat) : State :=
  (((State.reset.setFld (Reg.LG_ROLE_ROLE 15) (role * 4 ^ 7)).setFld (Reg.LG_PEER_PP 15) (6 * 8 ^ 7)).setFld
    (Reg.LN_STATUS_STATE 127) lnUp).setBit (Reg.LN_IDL_STAT_SYNC 127) true

/-- The same, with more of the link's state. -/
def linkAt (role : Nat) (f : LinkSt → LinkSt) : State := (laneAt role).setLink 127 (f ((laneAt role).link 127))

/-- The blocks of a stream that carry these bytes, and what a parser takes from its start. -/
def blocksOf (v : Nat) : Nat → List RxUnit
  | 0 => []
  | k + 1 => ⟨.data (v % 2 ^ 256), true⟩ :: blocksOf (v / 2 ^ 256) k
def taken (u : List RxUnit) (k : Nat) : Gather := (gather u 0 k).getD ⟨0, false, false, true, [], 0⟩

/-- Lane 127's link has these blocks to parse. -/
def rxAt (role : Nat) (u : List RxUnit) : State := linkAt role (fun x => { x with rx := u })

/-- Host port 1 has its link. -/
def portAt : State := ({ State.reset with hk := { State.reset.hk with up := true } } : State).setBit (Reg.HP_STATUS_LINK_UP 1) true

/-- A host's stream is in step, stands for this device, and these words wait. -/
def streamAt (ws : List Word) : State :=
  ((({ State.reset with cfg := { State.reset.cfg with fifo := ws } } : State).setFld Reg.CFG_STAT_SRC srcData).setBit
    Reg.CFG_STAT_SYNCED true).setFld Reg.CFG_IDMASK_MASK 1


theorem pairOf {α β : Type} (x : α × β) (b : β) (h : x.2 = b) : x = (x.1, b) := by rw [← h]

/-- A transaction of an interface. -/
def openTx : NiTx := ⟨0, flit opRd 41 7 0, 1, .ok, false⟩

theorem listed {α : Type} (v : α) (t : Nat) (l : List Nat) (h : t ∈ l) :
    Tbl.find? (l.map (fun k => (k, v))) t = some v := by
  induction l with
  | nil => simp at h
  | cons a l ih =>
    by_cases e : a = t
    · simp [Tbl.find?, e]
    · simp only [List.map_cons, Tbl.find?, if_neg e]
      exact ih (by simpa [Ne.symm e] using h)

/-- All tags of the interface of region 23 are in use. -/
def allTags (s : State) : State :=
  s.setNi (regionNode 23) 0 { s.ni (regionNode 23) 0 with open_ := (List.range 1024).map (fun t => (t, some openTx)) }

theorem allTags_none (s : State) : freeTag ((allTags s).ni (regionNode 23) 0).open_ = none := by
  rw [freeTag, List.find?_eq_none]
  intro t ht
  have e : ((allTags s).ni (regionNode 23) 0).open_ = (List.range 1024).map (fun t => (t, some openTx)) := by
    simp [allTags, State.setNi, State.ni, Tbl.get_put_same]
  rw [e, Tbl.get, listed _ _ _ ht]
  simp

theorem allTags_waits (s : State) (q : NetRequest) (ho : q.opc ≠ opWrp)
    (hh : ∀ l, ((allTags s).entryHead (regionNode 23) 0 q.entry q.toRtr q.opc q.pri q.rid 0 l).isSome = true) :
    ((allTags s).niIssue (regionNode 23) 0 q).2 = false := by
  unfold State.niIssue
  dsimp only
  split
  · rename_i h; exact absurd (h ▸ hh _) (by simp)
  · rw [if_neg ho, allTags_none]

/-- All tags of lane 127's tunnel are in use. -/
def allXtags (s : State) : State :=
  s.setLink 127 { s.link 127 with xtags := (List.range 1024).map (fun t => (t, some ⟨flit opRd 31 7 0, false⟩)) }

theorem allXtags_none (s : State) : ((allXtags s).link 127).freeXtag = none := by
  have e : ((allXtags s).link 127).xtags = (List.range 1024).map (fun t => (t, some ⟨flit opRd 31 7 0, false⟩)) := by
    simp [allXtags, State.setLink, State.link, Tbl.get_put_same]
  rw [LinkSt.freeXtag, List.find?_eq_none]
  intro t ht
  rw [e, Tbl.get, listed _ _ _ ht]
  simp

theorem allXtags_popped (s : State) (n j vc k h : Nat) (e : h = 127) :
    (((allXtags s).niPop n j vc k).link h).freeXtag = none := by
  subst e
  exact allXtags_none s

/-- Lane 127 is UP at half rate, and its port's link has lost this many codewords. -/
def nrzAt (ue : Nat) : State :=
  let s := (State.reset.setFld (Reg.LN_STATUS_STATE 127) lnUp).setBit (Reg.LG_CFG_RATE 15) true
  s.setLink (s.portHead 127) { s.link (s.portHead 127) with ue }

theorem gfMulBits_zero (n b : Nat) : gfMulBits n 0 b = 0 := by
  induction n generalizing b with
  | zero => rfl
  | succ n ih => simp [gfMulBits, gfDouble, ih]

theorem rsSyndromes_zeros (n : Nat) (l : List Nat) : rsSyndromes (List.replicate n 0 ++ l) = rsSyndromes l := by
  unfold rsSyndromes
  congr 1
  funext i
  unfold gfEval
  rw [List.foldl_append]
  congr 1
  induction n with
  | zero => rfl
  | succ n ih => simpa [List.replicate_succ, gfMul, gfMulBits_zero] using ih

/-- Levels of a codeword whose last 16 symbols are 1 and all others 0: it is uncorrectable. -/
def badParity : Nat := ((List.range 16).map (fun k => 2 ^ (10 * (14 + k)))).sum
def badLevels : Nat := codewordLevels 0 badParity

theorem badLevels_decode : decodeBlocks badLevels = none := by
  have e : symbolsOf badLevels 544 = List.replicate 528 0 ++ List.replicate 16 1 := by decide +kernel
  have h1 : (rsSyndromes (List.replicate 16 1)).all (· == 0) = false := by decide +kernel
  have h2 : 15 < ((List.range 30).foldl (Locator.step (rsSyndromes (List.replicate 16 1))) ⟨[1], [1], 0, 1, 1⟩).len := by
    decide +kernel
  unfold decodeBlocks rsErrors
  simp only [e, rsSyndromes_zeros, h1]
  rw [if_pos (Or.inl h2)]
  rfl

theorem badLevels_line (ue : Nat) :
    (lineReceive ((nrzAt ue).rxMode 127) ((nrzAt ue).lane 127).rxLevel (codewordLevels 0 badParity)).1 = badLevels := by
  have h : (nrzAt ue).rxMode 127 = ⟨true, false, false⟩ := by
    have h0 : (nrzAt 0).rxMode 127 = ⟨true, false, false⟩ := by decide +kernel
    exact h0
  have h2 : codewordLevels 0 badParity % 2 ^ 5440 = badLevels := by decide +kernel
  rw [h, lineReceive]
  exact h2

theorem zero_decode : (decodeBlocks 0).isSome = true := by
  have e : symbolsOf 0 544 = List.replicate 544 0 ++ [] := by decide +kernel
  have h : (rsSyndromes []).all (· == 0) = true := by decide +kernel
  unfold decodeBlocks rsErrors
  simp only [e, rsSyndromes_zeros, h]
  rfl

theorem zero_line : (lineReceive ((nrzAt 0).rxMode 127) ((nrzAt 0).lane 127).rxLevel (codewordLevels 0 0)).1 = 0 := by decide +kernel

/-! ## Effects and values from the spec -/

/-- R443: the CRC over the nine bytes "123456789". -/
theorem test_crc_check_value : crc32c 0x393837363534333231 9 = 0xE3069283 := by decide +kernel

/-- FIPS 197, C.3: AES-256 of the block 00 11 … FF under the key 00 01 … 1F (assumption 30). -/
theorem test_aes_block : numHigh (aesBlock (aesKeys (List.range 32)) ((List.range 16).map (17 * ·))) =
    0x8EA2B7CA516745BFEAFC49904B496089 := by decide +kernel

/-- The example under Table 1-14: block memory BM37 of REG14, and data memory Y of engine E58. -/
theorem test_c_window_places : bmRow 14 37 0 = 0x02C35000 ∧ engData 58 0x8000 = 0x02D98000 := by decide +kernel

/-- The example of chapter 5: BM_CFG 0x00011E0D, and where word 0x1A7 of a 1K × 32 port lies. -/
theorem test_bm_cfg : let s := State.reset.wr (Reg.BM_CFG 14 37) 0x00011E0D
    (s.bmWidth 14 37 0, s.bmMode 14 37 0, s.bmWidth 14 37 1, s.bmMode 14 37 1) = (5, 1, 6, 3) ∧ wordPlace 5 0x1A7 = (0xD3, 32) := by
  decide +kernel

/-- The example of circular addressing in chapter 7: forward past the end of the ring, and backward past its start. -/
theorem test_circular_forward :
    ((((State.reset.eng 0).setReg (rcP 0) 0x023E).setReg (rcM 1) 2).setReg (rcB 0) 0x0200 |>.setReg (rcL 0) 0x0040).pointerAfter
      ⟨0, 1, 6⟩ = 0x0200 := by decide +kernel
theorem test_circular_backward :
    ((((State.reset.eng 0).setReg (rcP 0) 0x0202).setReg (rcM 1) 0xFFFA).setReg (rcB 0) 0x0200 |>.setReg (rcL 0) 0x0040).pointerAfter
      ⟨0, 1, 6⟩ = 0x023C := by decide +kernel

/-- The example of the high part of an accumulator in chapter 7: rounded, with and without saturation. -/
theorem test_high_part : let x := { State.reset.eng 0 with acc := [(0, 0x007FFFC000)] }
    x.part 0 0 true true = (0x7FFF, true) ∧ x.part 0 0 true false = (0x8000, false) := by decide +kernel

/-- The example under R258: with WOFS = 5, D9 is physical register 14. -/
theorem test_window_offset : ((State.reset.eng 0).setReg rcWOFS 5).phys true 9 = 14 := by decide +kernel

/-- The example under R336: default entry 39 of node 27, where its route ends, and the return route. -/
theorem test_default_route : State.reset.fld (Reg.NI_RT_ROUTE 27 0 39) = 0x1492 ∧
    (travel 14 27 4 0x1492 0).map (fun x => (x.1, returnRoute x.2.2.1 x.2.2.2)) = some (39, 0x4923) := by decide +kernel

/-- R38: TICK_CTL.RUN written to 1 with the slot PLL locked starts the tick generator, from its next aligned edge. -/
theorem test_tick_start : (match exec (.tickStart 1 false) (State.reset.setBit Reg.TICK_STATUS_PLL_LOCK true) with
    | .next t => t.tick.starting && !t.ticking
    | _ => false) = true := by decide +kernel

/-- R168: REG_CMD.START of a region that is OFF is refused with E_STATE, which REG_CMDSTAT records with the command. -/
theorem test_region_start_refused : (match exec (.regCmdStart 1 0) State.reset with
    | .next t => decide (t.fld (Reg.REG_CMDSTAT_CODE_TICK 0) = Code.eState.num ∧ t.fld (Reg.REG_CMDSTAT_CMD_TICK 0) = cmdStart)
    | _ => false) = true := by decide +kernel

/-! ## States and operands that meet the statements' hypotheses -/

theorem met_register_access_completes :
    (∃ (addr : Nat) (n : Nat) (x : RegAt), 0x10000 ≤ addr ∧ addr < 0x4000000 ∧ placeOf addr = .reg x ∧
      widthOk x.desc.bytes x.off n = true) ∧
    (∃ (addr : Nat) (n : Nat) (x : RegAt), 0x10000 ≤ addr ∧ addr < 0x4000000 ∧ placeOf addr = .reg x ∧
      widthOk x.desc.bytes x.off n = false) ∧
    (∃ (addr : Nat), 0x10000 ≤ addr ∧ addr < 0x4000000 ∧ placeOf addr = .unassigned) ∧
    (∃ (s : State) (addr : Nat) (e : Nat) (o : Nat) (v : BitVec 64), 0x10000 ≤ addr ∧ placeOf addr = .engView e o ∧
      viewEntry o = (o, 8) ∧ s.gate addr = .ok ∧ (s.eng e).viewable = true ∧ (s.eng e).view o = some v) ∧
    (∃ (s : State) (addr : Nat), 0x10000 ≤ addr ∧ wideAt addr 0 = true ∧ s.gate addr ≠ .ok) ∧
    (∃ (s : State) (addr : Nat), 0x10000 ≤ addr ∧ wideAt addr 4 = true ∧ s.gate addr ≠ .ok) ∧
    (∃ (s : State) (addr : Nat) (x : RegAt), 0x10000 ≤ addr ∧ findReg addr = some x ∧ placeOf addr = .reg x ∧
      x.desc.bytes = 8 ∧ x.off = 0 ∧ semAt x.base = none ∧ s.gate addr = .ok) ∧
    (∃ (s : State) (req : Nat) (addr : Nat) (x : RegAt) (w : Word), 0x10000 ≤ addr ∧ findReg addr = some x ∧
      placeOf addr = .reg x ∧ x.desc.bytes = 8 ∧ x.off = 4 ∧ semAt x.base = none ∧ s.gate addr = .ok ∧
      s.latch? req x.base = some w) := ⟨
    ⟨0x20008, 4, (findReg 0x20008).get (by decide +kernel), by decide +kernel⟩,
    ⟨0x20008, 8, (findReg 0x20008).get (by decide +kernel), by decide +kernel⟩,
    ⟨0x2FFFC, by decide +kernel⟩,
    ⟨State.reset.setFld (Reg.REG_STATUS_STATE 23) 4, 0x3FF10C0, 95, 0xC0, 0, by decide +kernel⟩,
    ⟨State.reset, 0x3FF10C0, by decide +kernel⟩,
    ⟨State.reset, 0x3FF10C4, by decide +kernel⟩,
    ⟨State.reset, Reg.TICK_COUNT, (findReg Reg.TICK_COUNT).get (by decide +kernel), by decide +kernel⟩,
    ⟨State.reset.setLatch 0 Reg.TICK_COUNT 0, 0, Reg.TICK_COUNT + 4, (findReg (Reg.TICK_COUNT + 4)).get (by decide +kernel), 0,
      by decide +kernel⟩⟩

theorem met_tick_control_completes :
    (∃ (s : State), s.on Reg.TICK_STATUS_PLL_LOCK = true ∧ s.tick.stopPending = false ∧ s.ticking = false) ∧
    (∃ (s : State), s.on Reg.TICK_STATUS_PLL_LOCK = true ∧ s.tick.stopPending = true) ∧
    (∃ (s : State), s.on Reg.TICK_STATUS_PLL_LOCK = true ∧ s.tick.stopPending = false ∧ s.ticking = true) ∧
    (∃ (s : State), s.on Reg.TICK_STATUS_PLL_LOCK = false) ∧
    (∃ (s : State), s.anyActive = false ∧ s.ticking = false ∧ s.tick.starting = false) ∧
    (∃ (s : State), s.anyActive = false ∧ (s.ticking = true ∨ s.tick.starting = true)) ∧
    (∃ (s : State), s.anyActive = true) ∧
    (∃ (s : State), s.on Reg.TICK_CTL_RUN = false ∧ s.ticking = false) ∧
    (∃ (s : State), (s.on Reg.TICK_CTL_RUN = true ∨ s.ticking = true)) ∧
    (∃ (s : State), s.anyDue = false ∧ s.ticking = false ∧ s.tick.starting = false) ∧
    (∃ (s : State), s.on Reg.TICK_SYNC_CTL_ARMED = true ∧ s.on Reg.TICK_CTL_RUN = false ∧ s.ticking = false ∧
      s.on Reg.TICK_CTL_START_ON_SYNC = true ∧ s.on Reg.TICK_STATUS_PLL_LOCK = true) ∧
    (∃ (s : State), s.on Reg.TICK_SYNC_CTL_ARMED = true ∧
      (s.on Reg.TICK_CTL_RUN = true ∨ s.ticking = true ∨ s.on Reg.TICK_CTL_START_ON_SYNC = false ∨ s.on Reg.TICK_STATUS_PLL_LOCK = false)) ∧
    (∃ (s : State), s.on Reg.TICK_SYNC_CTL_ARMED = false) := ⟨
    ⟨(({ State.reset with tick := { State.reset.tick with stopPending := false } } : State).setBit Reg.TICK_STATUS_PLL_LOCK true),
      by decide +kernel⟩,
    ⟨(({ State.reset with tick := { State.reset.tick with stopPending := true } } : State).setBit Reg.TICK_STATUS_PLL_LOCK true),
      by decide +kernel⟩,
    ⟨((({ State.reset with tick := { State.reset.tick with stopPending := false } } : State).setBit Reg.TICK_STATUS_PLL_LOCK true).setBit Reg.TICK_STATUS_RUNNING true),
      by decide +kernel⟩,
    ⟨(State.reset.setBit Reg.TICK_STATUS_PLL_LOCK false), by decide +kernel⟩,
    ⟨State.reset, by decide +kernel⟩,
    ⟨(State.reset.setBit Reg.TICK_STATUS_RUNNING true), by decide +kernel⟩,
    ⟨(State.reset.setFld (Reg.REG_STATUS_STATE 23) 4), by decide +kernel⟩,
    ⟨(State.reset.setBit Reg.TICK_CTL_RUN false), by decide +kernel⟩,
    ⟨State.reset.setBit Reg.TICK_CTL_RUN true, by decide +kernel⟩,
    ⟨({ State.reset with tick := { State.reset.tick with starting := false } } : State), by decide +kernel⟩,
    ⟨((((State.reset.setBit Reg.TICK_SYNC_CTL_ARMED true).setBit Reg.TICK_CTL_RUN false).setBit Reg.TICK_CTL_START_ON_SYNC true).setBit Reg.TICK_STATUS_PLL_LOCK true),
      by decide +kernel⟩,
    ⟨(State.reset.setBit Reg.TICK_SYNC_CTL_ARMED true), by decide +kernel⟩,
    ⟨(State.reset.setBit Reg.TICK_SYNC_CTL_ARMED false), by decide +kernel⟩⟩

theorem met_tick_boundaries_complete :
    (∃ (s : State), s.ticking = true ∧ s.anyDue = false ∧ s.hk.cleaning = false ∧ s.tick.stopPending = false) ∧
    (∃ (s : State), s.ticking = true ∧ s.anyDue = false ∧ s.hk.cleaning = false ∧ s.tick.stopPending = true) ∧
    (∃ (s : State), s.ticking = true ∧ s.anyDue = false ∧ s.hk.cleaning = true) ∧
    (∃ (s : State), s.ticking = false ∧ s.tick.starting = true ∧ s.tick.stopPending = false) ∧
    (∃ (s : State), s.ticking = false ∧ s.tick.starting = true ∧ s.tick.stopPending = true) ∧
    (∃ (s : State), s.tick.syncLoad = true ∧ s.ticking = false) ∧
    (∃ (s : State), s.anyDue = false ∧ s.ticking = false ∧ s.tick.starting = true) := ⟨
    ⟨(({ State.reset with hk := { State.reset.hk with cleaning := false }, tick := { State.reset.tick with stopPending := false } } : State).setBit Reg.TICK_STATUS_RUNNING true),
      by decide +kernel⟩,
    ⟨(({ State.reset with hk := { State.reset.hk with cleaning := false }, tick := { State.reset.tick with stopPending := true } } : State).setBit Reg.TICK_STATUS_RUNNING true),
      by decide +kernel⟩,
    ⟨(({ State.reset with hk := { State.reset.hk with cleaning := true } } : State).setBit Reg.TICK_STATUS_RUNNING true),
      by decide +kernel⟩,
    ⟨({ State.reset with tick := { State.reset.tick with starting := true, stopPending := false } } : State), by decide +kernel⟩,
    ⟨({ State.reset with tick := { State.reset.tick with starting := true, stopPending := true } } : State), by decide +kernel⟩,
    ⟨({ State.reset with tick := { State.reset.tick with syncLoad := true } } : State), by decide +kernel⟩,
    ⟨({ State.reset with tick := { State.reset.tick with starting := true } } : State), by decide +kernel⟩⟩

theorem met_region_wave_completes :
    (∃ (s : State) (r : Nat), r < 24 ∧ (s.rgn r).phase = .nullWave) ∧
    (∃ (s : State) (r : Nat), r < 24 ∧ (s.rgn r).phase = .evaluating ∧ s.waveRuns r = true ∧ s.fabricDone r = true ∧
      s.windowDone r = true ∧ (s.rgn r).ovrOpen = none) ∧
    (∃ (s : State) (r : Nat) (m : Nat), r < 24 ∧ (s.rgn r).phase = .evaluating ∧ s.waveRuns r = true ∧ s.fabricDone r = true ∧
      s.windowDone r = true ∧ (s.rgn r).ovrOpen = some m ∧ s.missedLeft r m = false) ∧
    (∃ (s : State) (r : Nat) (m : Nat), r < 24 ∧ (s.rgn r).phase = .done ∧ s.waveRuns r = true ∧ s.windowDone r = true ∧
      (s.rgn r).ovrOpen = some m ∧ s.missedLeft r m = false) ∧
    (∃ (s : State) (r : Nat), r < 24 ∧ s.ticking = true ∧ s.windowEndsAt r s.now = true ∧ (s.rgn r).winEnd ≠ some s.now) ∧
    (∃ (s : State) (r : Nat), s.pendGoes r .resume = true ∧ s.rstate r = .frozen) ∧
    (∃ (s : State) (r : Nat) (p : PendCmd), s.pendGoes r .resume = true ∧ (s.rgn r).pend = some p ∧ s.rstate r ≠ .frozen) := ⟨
    ⟨(State.reset.setRgn 23 { (State.reset.rgn 23) with phase := .nullWave }), 23, by decide +kernel⟩,
    ⟨((State.reset.setRgn 23 { (State.reset.rgn 23) with phase := .evaluating, ovrOpen := none }).setFld (Reg.REG_STATUS_STATE 23) 4),
      23, by decide +kernel⟩,
    ⟨((State.reset.setRgn 23 { (State.reset.rgn 23) with phase := .evaluating, ovrOpen := some 0 }).setFld (Reg.REG_STATUS_STATE 23) 4),
      23, 0, by decide +kernel⟩,
    ⟨((State.reset.setRgn 23 { (State.reset.rgn 23) with phase := .done, ovrOpen := some 0 }).setFld (Reg.REG_STATUS_STATE 23) 4),
      23, 0, by decide +kernel⟩,
    ⟨(State.reset.setBit Reg.TICK_STATUS_RUNNING true), 23, by decide +kernel⟩,
    ⟨State.reset.setBit Reg.TICK_STATUS_RUNNING true |>.setFld Reg.TICK_COUNT_COUNT 64 |>.setFld (Reg.REG_STATUS_STATE 23) 5 |>.setRgn 23 { State.reset.rgn 23 with pend := some ⟨.resume, 60, 1, 0⟩ },
      23, by decide +kernel⟩,
    ⟨State.reset.setBit Reg.TICK_STATUS_RUNNING true |>.setFld Reg.TICK_COUNT_COUNT 64 |>.setFld (Reg.REG_STATUS_STATE 23) 3 |>.setRgn 23 { State.reset.rgn 23 with pend := some ⟨.resume, 60, 1, 0⟩ },
      23, ⟨.resume, 60, 1, 0⟩, by decide +kernel⟩⟩

theorem met_region_tick_registers_complete :
    (∃ (s : State) (r : Nat) (v : BitVec 32), r < 24 ∧ v.toNat.testBit 16 = false ∧ ((s.rstate r ≠ .running ∧
      s.rstate r ≠ .frozen) ∨ (bitsOf v.toNat 0 2 = s.fld (Reg.TR_CTL_TDIV r) ∧
      bitsOf v.toNat 2 3 = s.fld (Reg.TR_CTL_PHASE r))) ∧ bitsOf v.toNat 2 3 < 2 ^ bitsOf v.toNat 0 2) ∧
    (∃ (s : State) (r : Nat) (v : BitVec 32), r < 24 ∧ v.toNat.testBit 16 = false ∧
      (s.rstate r = .running ∨ s.rstate r = .frozen) ∧
      (bitsOf v.toNat 0 2 ≠ s.fld (Reg.TR_CTL_TDIV r) ∨ bitsOf v.toNat 2 3 ≠ s.fld (Reg.TR_CTL_PHASE r))) ∧
    (∃ (s : State) (r : Nat) (v : BitVec 32), r < 24 ∧ v.toNat.testBit 16 = false ∧ s.rstate r ≠ .running ∧
      s.rstate r ≠ .frozen ∧ 2 ^ bitsOf v.toNat 0 2 ≤ bitsOf v.toNat 2 3) ∧
    (∃ (s : State) (r : Nat) (v : BitVec 32), r < 24 ∧ v.toNat.testBit 16 = true ∧ s.rstate r = .frozen ∧ s.ticking = true ∧
      (s.rgn r).pend = none ∧ bitsOf v.toNat 0 2 = s.fld (Reg.TR_CTL_TDIV r) ∧
      bitsOf v.toNat 2 3 = s.fld (Reg.TR_CTL_PHASE r) ∧ bitsOf v.toNat 2 3 < 2 ^ bitsOf v.toNat 0 2) ∧
    (∃ (s : State) (r : Nat) (v : BitVec 32), r < 24 ∧ v.toNat.testBit 16 = true ∧ s.trCtlCode r v.toNat = .ok ∧
      (s.rgn r).pend ≠ none) ∧
    (∃ (s : State) (r : Nat) (v : BitVec 32), r < 24 ∧ v.toNat.testBit 16 = true ∧ s.trCtlCode r v.toNat = .ok ∧
      (s.rgn r).pend = none ∧ (s.rstate r ≠ .frozen ∨ s.ticking = false)) ∧
    (∃ (s : State) (r : Nat) (v : BitVec 32), r < 24 ∧ v.toNat.testBit 16 = true ∧ s.trCtlCode r v.toNat ≠ .ok) := ⟨
    ⟨State.reset, 23, 0, by decide +kernel⟩,
    ⟨State.reset.setFld (Reg.REG_STATUS_STATE 23) 4, 23, 3, by decide +kernel⟩,
    ⟨State.reset, 23, 4, by decide +kernel⟩,
    ⟨(((State.reset.setRgn 23 { (State.reset.rgn 23) with pend := none }).setFld (Reg.REG_STATUS_STATE 23) 5).setBit Reg.TICK_STATUS_RUNNING true),
      23, 0x10000, by decide +kernel⟩,
    ⟨State.reset.setRgn 23 { State.reset.rgn 23 with pend := some ⟨.start, 60, 1, 0⟩ }, 23, 0x10000, by decide +kernel⟩,
    ⟨(State.reset.setRgn 23 { (State.reset.rgn 23) with pend := none }), 23, 0x10000, by decide +kernel⟩,
    ⟨State.reset, 23, 0x10004, by decide +kernel⟩⟩

theorem met_voltage_commands_complete :
    (∃ (s : State), s.on Reg.AVS_CTL_EN = true ∧ s.on Reg.AVS_CTL_MODE = false ∧ s.tick.avs.stopped = false ∧
      (let rs := List.range 24; (let overran := rs.any (fun r => (s.rgn r).avs.any && (s.rgn r).avs.overran); (rs.any (fun r => (s.rgn r).avs.any)) = true ∧
      overran = true))) ∧
    (∃ (s : State), s.on Reg.AVS_CTL_EN = true ∧ s.on Reg.AVS_CTL_MODE = false ∧ s.tick.avs.stopped = false ∧
      (let rs := List.range 24; (let overran := rs.any (fun r => (s.rgn r).avs.any && (s.rgn r).avs.overran); (let short := rs.any (fun r => s.avsShort r); (rs.any (fun r => (s.rgn r).avs.any)) = true ∧
      overran = false ∧ short = true)))) ∧
    (∃ (s : State), s.on Reg.AVS_CTL_EN = true ∧ s.on Reg.AVS_CTL_MODE = false ∧ s.tick.avs.stopped = false ∧
      (let rs := List.range 24; (let overran := rs.any (fun r => (s.rgn r).avs.any && (s.rgn r).avs.overran); (let short := rs.any (fun r => s.avsShort r); (rs.any (fun r => (s.rgn r).avs.any)) = true ∧
      overran = false ∧ short = false)))) ∧
    (∃ (s : State), s.on Reg.AVS_CTL_EN = true ∧ s.on Reg.AVS_CTL_MODE = false ∧ s.tick.avs.stopped = false ∧
      (let rs := List.range 24; (rs.any (fun r => (s.rgn r).avs.any)) = false)) ∧
    (∃ (s : State), (s.on Reg.AVS_CTL_EN = false ∨ s.on Reg.AVS_CTL_MODE = true ∨ s.tick.avs.stopped = true)) ∧
    (∃ (s : State), s.on Reg.AVS_STATUS_BUSY = true ∧ s.tick.avs.tries < 3) ∧
    (∃ (s : State), s.on Reg.AVS_STATUS_BUSY = true ∧ 3 ≤ s.tick.avs.tries) ∧
    (∃ (v : BitVec 32), v.toNat.testBit 0 = false) ∧
    (∃ (v : BitVec 32), v.toNat.testBit 0 = true ∧ v.toNat.testBit 1 = false) ∧
    (∃ (s : State) (v : BitVec 32), v.toNat.testBit 0 = true ∧ v.toNat.testBit 1 = true ∧
      s.voltsOk (s.fld Reg.AVS_VSET_VSET) = true) ∧
    (∃ (s : State) (v : BitVec 32), v.toNat.testBit 0 = true ∧ v.toNat.testBit 1 = true ∧
      s.voltsOk (s.fld Reg.AVS_VSET_VSET) = false) ∧
    (∃ (s : State) (v : BitVec 32), s.on Reg.AVS_CTL_MODE = true ∧ s.voltsOk (v.toNat % 2 ^ 16) = true) ∧
    (∃ (s : State) (v : BitVec 32), s.on Reg.AVS_CTL_MODE = true ∧ s.voltsOk (v.toNat % 2 ^ 16) = false) ∧
    (∃ (s : State), s.on Reg.AVS_CTL_MODE = false) ∧
    (∃ (s : State) (r : Nat) (v : BitVec 32), r < 24 ∧ (v.toNat.testBit 0 = true → s.rstate r = .running) ∧
      bitsOf v.toNat 4 5 ≤ 16 ∧ 1 ≤ bitsOf v.toNat 16 10 ∧ bitsOf v.toNat 16 10 ≤ 1000) ∧
    (∃ (s : State) (r : Nat) (v : BitVec 32), r < 24 ∧ v.toNat.testBit 0 = true ∧ s.rstate r ≠ .running) ∧
    (∃ (s : State) (r : Nat) (v : BitVec 32), r < 24 ∧ (v.toNat.testBit 0 = true → s.rstate r = .running) ∧
      (16 < bitsOf v.toNat 4 5 ∨ bitsOf v.toNat 16 10 = 0 ∨ 1000 < bitsOf v.toNat 16 10)) ∧
    (∃ (s : State) (r : Nat), r < 24 ∧ s.on (Reg.TAR_CTL_EN r) = true) ∧
    (∃ (s : State) (r : Nat) (v : BitVec 32), r < 24 ∧
      (s.on (Reg.TR_FLOOR_LOCK r) = true → v.toNat % 2 ^ 16 = s.fld (Reg.TR_FLOOR_FLOOR r)) ∧ v.toNat.testBit 16 = false ∧
      20 ≤ v.toNat % 2 ^ 16) ∧
    (∃ (s : State) (r : Nat) (v : BitVec 32), r < 24 ∧ s.on (Reg.TR_FLOOR_LOCK r) = true ∧
      v.toNat % 2 ^ 16 ≠ s.fld (Reg.TR_FLOOR_FLOOR r) ∧ v.toNat.testBit 16 = false) ∧
    (∃ (s : State) (r : Nat) (v : BitVec 32), r < 24 ∧ s.on (Reg.TR_FLOOR_LOCK r) = false ∧ v.toNat.testBit 16 = false ∧
      v.toNat % 2 ^ 16 < 20) ∧
    (∃ (s : State) (r : Nat) (v : BitVec 32), r < 24 ∧
      (s.on (Reg.TR_FLOOR_LOCK r) = true → v.toNat % 2 ^ 16 = s.fld (Reg.TR_FLOOR_FLOOR r)) ∧ v.toNat.testBit 16 = true ∧
      20 ≤ v.toNat % 2 ^ 16) ∧
    (∃ (s : State) (r : Nat) (v : BitVec 32), r < 24 ∧ s.on (Reg.TR_FLOOR_LOCK r) = true ∧
      v.toNat % 2 ^ 16 ≠ s.fld (Reg.TR_FLOOR_FLOOR r) ∧ v.toNat.testBit 16 = true) := ⟨
    ⟨(((({ State.reset with tick := { State.reset.tick with avs := { State.reset.tick.avs with stopped := false } } } : State).setBit Reg.AVS_CTL_EN true).setBit Reg.AVS_CTL_MODE false).setRgn 23 { State.reset.rgn 23 with avs := { (State.reset.rgn 23).avs with any := true, overran := true } }),
      by decide +kernel⟩,
    ⟨(((({ State.reset with tick := { State.reset.tick with avs := { State.reset.tick.avs with stopped := false } } } : State).setBit Reg.AVS_CTL_EN true).setBit Reg.AVS_CTL_MODE false).setRgn 23 { State.reset.rgn 23 with avs := { (State.reset.rgn 23).avs with any := true, minSlack := -5 } }),
      by decide +kernel⟩,
    ⟨(((({ State.reset with tick := { State.reset.tick with avs := { State.reset.tick.avs with stopped := false } } } : State).setBit Reg.AVS_CTL_EN true).setBit Reg.AVS_CTL_MODE false).setRgn 23 { State.reset.rgn 23 with avs := { (State.reset.rgn 23).avs with any := true, minSlack := 50000 } }),
      by decide +kernel⟩,
    ⟨((({ State.reset with tick := { State.reset.tick with avs := { State.reset.tick.avs with stopped := false } } } : State).setBit Reg.AVS_CTL_EN true).setBit Reg.AVS_CTL_MODE false),
      by decide +kernel⟩,
    ⟨State.reset, by decide +kernel⟩,
    ⟨(State.reset.setBit Reg.AVS_STATUS_BUSY true), by decide +kernel⟩,
    ⟨({ State.reset with tick := { State.reset.tick with avs := { State.reset.tick.avs with tries := 3 } } } : State).setBit Reg.AVS_STATUS_BUSY true,
      by decide +kernel⟩,
    ⟨0, by decide +kernel⟩,
    ⟨1, by decide +kernel⟩,
    ⟨State.reset, 3, by decide +kernel⟩,
    ⟨State.reset.setFld Reg.AVS_VSET_VSET 2000, 3, by decide +kernel⟩,
    ⟨(State.reset.setBit Reg.AVS_CTL_MODE true), 750, by decide +kernel⟩,
    ⟨(State.reset.setBit Reg.AVS_CTL_MODE true), 2000, by decide +kernel⟩,
    ⟨(State.reset.setBit Reg.AVS_CTL_MODE false), by decide +kernel⟩,
    ⟨State.reset, 23, 0x10000, by decide +kernel⟩,
    ⟨State.reset, 23, 1, by decide +kernel⟩,
    ⟨State.reset, 23, 0, by decide +kernel⟩,
    ⟨(State.reset.setBit (Reg.TAR_CTL_EN 23) true), 23, by decide +kernel⟩,
    ⟨State.reset, 23, 20, by decide +kernel⟩,
    ⟨(State.reset.setBit (Reg.TR_FLOOR_LOCK 23) true), 23, 20, by decide +kernel⟩,
    ⟨(State.reset.setBit (Reg.TR_FLOOR_LOCK 23) false), 23, 19, by decide +kernel⟩,
    ⟨State.reset, 23, 0x10014, by decide +kernel⟩,
    ⟨(State.reset.setBit (Reg.TR_FLOOR_LOCK 23) true), 23, 0x10014, by decide +kernel⟩⟩

theorem met_action_entry_commands_complete :
    (∃ (s : State) (i : Nat) (v : BitVec 64), i < 64 ∧ s.actBusy i = false ∧ v.toNat.testBit 0 = false ∧
      v.toNat.testBit 1 = false) ∧
    (∃ (s : State) (i : Nat) (off : Nat), i < 64 ∧ off ∈ [4, 8, 0x10, 0x14, 0x18] ∧ s.actBusy i = true) ∧
    (∃ (s : State) (i : Nat) (v : BitVec 64), i < 64 ∧ v.toNat.testBit 0 = false ∧ v.toNat.testBit 1 = false ∧
      s.actBusy i = true) ∧
    (∃ (s : State) (i : Nat) (v : BitVec 32), i < 64 ∧ v.toNat.testBit 0 = true ∧ v.toNat.testBit 1 = false ∧
      s.actBusy i = false ∧ (let u := (s.actSet i .empty .ok).actCtlFields i v.toNat; u.actArgsOk i = true ∧
      u.now + 4 ≤ u.fld (Reg.ACT_TARGET_TARGET i))) ∧
    (∃ (s : State) (i : Nat) (v : BitVec 32), i < 64 ∧ v.toNat.testBit 0 = true ∧ v.toNat.testBit 1 = false ∧
      s.actBusy i = false ∧ (let u := (s.actSet i .empty .ok).actCtlFields i v.toNat; u.actArgsOk i = false)) ∧
    (∃ (s : State) (i : Nat) (v : BitVec 32), i < 64 ∧ v.toNat.testBit 0 = true ∧ v.toNat.testBit 1 = false ∧
      s.actBusy i = false ∧ (let u := (s.actSet i .empty .ok).actCtlFields i v.toNat; u.actArgsOk i = true ∧
      u.fld (Reg.ACT_TARGET_TARGET i) < u.now + 4 ∧ u.on (Reg.ACT_CTL_RUN_LATE i) = true)) ∧
    (∃ (s : State) (i : Nat) (v : BitVec 32), i < 64 ∧ v.toNat.testBit 0 = true ∧ v.toNat.testBit 1 = false ∧
      s.actBusy i = false ∧ (let u := (s.actSet i .empty .ok).actCtlFields i v.toNat; u.actArgsOk i = true ∧
      u.fld (Reg.ACT_TARGET_TARGET i) < u.now + 4 ∧ u.on (Reg.ACT_CTL_RUN_LATE i) = false)) ∧
    (∃ (s : State) (i : Nat) (v : BitVec 32), i < 64 ∧ v.toNat.testBit 0 = true ∧ v.toNat.testBit 1 = false ∧
      s.actBusy i = true) ∧
    (∃ (s : State) (i : Nat) (v : BitVec 32), i < 64 ∧ v.toNat.testBit 1 = true ∧ s.actState i = .armed ∧
      s.now + 4 ≤ s.fld (Reg.ACT_TARGET_TARGET i)) ∧
    (∃ (s : State) (i : Nat) (v : BitVec 32), i < 64 ∧ v.toNat.testBit 1 = true ∧
      (s.actState i ≠ .armed ∨ s.fld (Reg.ACT_TARGET_TARGET i) < s.now + 4)) ∧
    (∃ (s : State) (i : Nat), s.actReady i 1 = true ∧ 0x20000 ≤ s.fld (Reg.ACT_ARG0_ARG i) ∧
      s.fld (Reg.ACT_ARG0_ARG i) < 0x30000) ∧
    (∃ (s : State) (i : Nat) (g : NetTarget) (t : State), (s.actReady i 1 = true ∨ s.actUnsent i = true) ∧
      (¬ (0x20000 ≤ s.fld (Reg.ACT_ARG0_ARG i) ∧ s.fld (Reg.ACT_ARG0_ARG i) < 0x30000)) ∧
      cTarget (s.fld (Reg.ACT_ARG0_ARG i)) = some g ∧ s.niIssue hkNode 0 ⟨reqTick, i, opWr, g.entry, g.toRtr, tickPri, g.addr,
      4, s.fld (Reg.ACT_ARG1_ARG i)⟩ = (t, true)) ∧
    (∃ (s : State) (i : Nat), s.actReady i 1 = true ∧ cTarget (s.fld (Reg.ACT_ARG0_ARG i)) = none ∧
      (¬ (0x20000 ≤ s.fld (Reg.ACT_ARG0_ARG i) ∧ s.fld (Reg.ACT_ARG0_ARG i) < 0x30000))) ∧
    (∃ (s : State) (i : Nat) (d : NetDone), s.actResponse i = some d ∧ s.actType i = 1 ∧ s.actState i = .issued) := ⟨
    ⟨State.reset, 63, 0, by decide +kernel⟩,
    ⟨(State.reset.setFld (Reg.ACT_STAT_STATE 63) 1), 63, 4, by decide +kernel⟩,
    ⟨State.reset.setFld (Reg.ACT_STAT_STATE 63) 1, 63, 0, by decide +kernel⟩,
    ⟨(State.reset.setFld (Reg.ACT_ARG0_ARG 63) 0x20000 |>.setFld (Reg.ACT_TARGET_TARGET 63) 4), 63, 0x11, by decide +kernel⟩,
    ⟨(State.reset.setFld (Reg.ACT_ARG0_ARG 63) 0x20001 |>.setFld (Reg.ACT_TARGET_TARGET 63) 4), 63, 0x11, by decide +kernel⟩,
    ⟨(State.reset.setFld (Reg.ACT_ARG0_ARG 63) 0x20000 |>.setFld (Reg.ACT_TARGET_TARGET 63) 3), 63, 0x15, by decide +kernel⟩,
    ⟨(State.reset.setFld (Reg.ACT_ARG0_ARG 63) 0x20000 |>.setFld (Reg.ACT_TARGET_TARGET 63) 3), 63, 0x11, by decide +kernel⟩,
    ⟨State.reset.setFld (Reg.ACT_STAT_STATE 63) 1, 63, 1, by decide +kernel⟩,
    ⟨(State.reset.setFld (Reg.ACT_STAT_STATE 63) 1 |>.setFld (Reg.ACT_TARGET_TARGET 63) 4), 63, 2, by decide +kernel⟩,
    ⟨(State.reset.setFld (Reg.ACT_TARGET_TARGET 63) 3), 63, 2, by decide +kernel⟩,
    ⟨actionAt 1 0x20000 0, 63, by decide +kernel⟩,
    ⟨actionAt 1 0x1000000 0, 63, (cTarget 0x1000000).get (by decide +kernel),
      ((actionAt 1 0x1000000 0).niIssue hkNode 0 ⟨reqTick, 63, opWr, ((cTarget 0x1000000).get (by decide +kernel)).entry,
      ((cTarget 0x1000000).get (by decide +kernel)).toRtr, tickPri, ((cTarget 0x1000000).get (by decide +kernel)).addr, 4,
      (actionAt 1 0x1000000 0).fld (Reg.ACT_ARG1_ARG 63)⟩).1, ⟨by decide +kernel, by decide +kernel, by decide +kernel,
      pairOf _ _ (by decide +kernel)⟩⟩,
    ⟨actionAt 1 0x60000 0, 63, by decide +kernel⟩,
    ⟨{ (actionAt 1 0x1000000 0).setFld (Reg.ACT_STAT_STATE 63) 7 with net := { State.reset.net with done := [⟨hkNode, 0x13, 63, .ok, 0⟩] } },
      63, ⟨hkNode, 0x13, 63, .ok, 0⟩, by decide +kernel⟩⟩

theorem met_action_effects_complete :
    (∃ (s : State) (i : Nat), s.actGoes i 2 = true) ∧
    (∃ (s : State) (i : Nat), s.actGoes i 3 = true) ∧
    (∃ (s : State) (i : Nat), s.actGoes i 8 = true) ∧
    (∃ (s : State) (i : Nat) (r : Nat), s.actGoes i 4 = true ∧ s.physicalOf (s.fld (Reg.ACT_ARG0_ARG i)) = some r ∧
      s.regionTickAt r s.now = true) ∧
    (∃ (s : State) (i : Nat) (r : Nat), s.actGoes i 4 = true ∧ s.physicalOf (s.fld (Reg.ACT_ARG0_ARG i)) = some r ∧
      s.regionTickAt r s.now = false ∧ s.actState i = .armed) ∧
    (∃ (s : State) (i : Nat), s.actGoes i 4 = true ∧ s.physicalOf (s.fld (Reg.ACT_ARG0_ARG i)) = none) ∧
    (∃ (s : State) (i : Nat), s.actReady i 5 = true) ∧
    (∃ (s : State) (i : Nat), s.actReady i 6 = true) ∧
    (∃ (s : State) (i : Nat) (p : FlagPulse) (l : List FlagPulse), s.tick.flags = p :: l ∧ p.entry = i ∧ s.flagMayEnd p = true) ∧
    (∃ (s : State) (i : Nat), s.actReady i 7 = true ∧ s.qstate (s.fld (Reg.ACT_ARG0_ARG i) % 1024) = qActive) ∧
    (∃ (s : State) (i : Nat), s.actReady i 7 = true ∧ s.qstate (s.fld (Reg.ACT_ARG0_ARG i) % 1024) ≠ qActive) ∧
    (∃ (s : State) (i : Nat), s.actReady i 9 = true ∧
      (let r := s.fld (Reg.ACT_ARG0_ARG i) % 256; (let b := s.fld (Reg.ACT_ARG0_ARG i) / 256; s.sliceable r = true ∧
      s.slicing r = false ∧ Tbl.get (0, 0) s.selfTest.behind r = (0, 0) ∧ s.testable r 0 b = true))) ∧
    (∃ (s : State) (i : Nat), s.actReady i 9 = true ∧ s.sliceable (s.fld (Reg.ACT_ARG0_ARG i) % 256) = false) ∧
    (∃ (s : State) (p : Nat), p < 7 ∧ s.ticking = true ∧ s.on Reg.TICK_BCN_STATUS_BCN_EN = true ∧ s.beaconOverdue p = true) := ⟨
    ⟨actionAt 2 1 0, 63, by decide +kernel⟩,
    ⟨actionAt 3 1 0, 63, by decide +kernel⟩,
    ⟨actionAt 8 1 0, 63, by decide +kernel⟩,
    ⟨actionAt 4 23 15, 63, 23, by decide +kernel⟩,
    ⟨actionAt 4 23 15 |>.setFld (Reg.TR_CTL_TDIV 23) 1 |>.setFld (Reg.TR_CTL_PHASE 23) 1, 63, 23, by decide +kernel⟩,
    ⟨actionAt 4 23 15 |>.setBit (Reg.CFG_REGMAP_NONE 23) true, 63, by decide +kernel⟩,
    ⟨actionAt 5 95 0, 63, by decide +kernel⟩,
    ⟨actionAt 6 1 5, 63, by decide +kernel⟩,
    ⟨({ State.reset with tick := { State.reset.tick with flags := (⟨63, 1, 0, 0⟩) :: ([]) } } : State), 63, ⟨63, 1, 0, 0⟩, [],
      by decide +kernel⟩,
    ⟨actionAt 7 1023 0 |>.setQfld 1023 Reg.QM_QSTAT_STATE qActive, 63, by decide +kernel⟩,
    ⟨actionAt 7 1023 0, 63, by decide +kernel⟩,
    ⟨actionAt 9 23 1 |>.setFld (Reg.REG_STATUS_STATE 23) 4, 63, by decide +kernel⟩,
    ⟨actionAt 9 23 0, 63, by decide +kernel⟩,
    ⟨{ ((State.reset.setBit Reg.TICK_STATUS_RUNNING true).setBit Reg.TICK_BCN_STATUS_BCN_EN true |>.setFld Reg.TICK_COUNT_COUNT 65552 |>.setFld (Reg.LG_ROLE_ROLE 15) 3 |>.setFld (Reg.LG_PEER_PP 15) 6) with tick := { State.reset.tick with lastBeacon := Tbl.put 0 [] 6 1 } },
      6, by decide +kernel⟩⟩

theorem met_fabric_events_complete :
    (∃ (s : State) (r : Nat) (kind : Nat) (unit : Nat) (sig : Nat) (id : Nat), element kind unit sig = some id ∧
      s.fabricOn r = true ∧ (kind = 2 → s.rvf r unit = true)) ∧
    (∃ (s : State) (r : Nat) (unit : Nat), s.rvf r unit = false) ∧
    (∃ (s : State) (r : Nat) (b : Nat) (n : Nat), s.ctlAt r b n 0 = true ∧ (s.flow r b n).full = false ∧
      (s.flowInputs r b n).all (·.rail.valid) = true ∧ (s.ackIn r b n).rail = .null ∧
      (let w := s.flowWatch r b n true (s.flowInputs r b n) (some (s.ackIn r b n)); w.2 = true)) ∧
    (∃ (s : State) (r : Nat) (b : Nat) (n : Nat), s.ctlAt r b n 0 = true ∧ (s.flow r b n).full = true ∧
      (s.flowInputs r b n).all (fun v => v.rail == .null) = true ∧ (s.ackIn r b n).rail = .one ∧
      (let w := s.flowWatch r b n false (s.flowInputs r b n) (some (s.ackIn r b n)); w.2 = true)) ∧
    (∃ (s : State) (r : Nat) (b : Nat) (n : Nat), s.ctlAt r b n 0 = true ∧
      (let w := s.flowWatch r b n (!(s.flow r b n).full) (s.flowInputs r b n) (some (s.ackIn r b n)); w.2 = false)) ∧
    (∃ (s : State) (r : Nat) (b : Nat) (n : Nat), s.ctlAt r b n 1 = true ∧ (s.flow r b n).acko = true ∧
      (s.flowInputs r b n).all (fun v => v.rail == .null) = true ∧
      (let w := s.flowWatch r b n false (s.flowInputs r b n) none; w.2 = true)) ∧
    (∃ (s : State) (r : Nat) (b : Nat) (n : Nat), s.ctlAt r b n 2 = true ∧ (s.ackIn r b n).dead = false ∧
      (s.flow r b n).full = true ∧ (s.flow r b n).acked = false ∧ (s.ackIn r b n).rail = .one) ∧
    (∃ (s : State) (r : Nat) (b : Nat) (n : Nat), s.ctlAt r b n 2 = true ∧ (s.ackIn r b n).dead = false ∧
      (s.flow r b n).full = true ∧ (s.flow r b n).acked = true ∧ (s.ackIn r b n).rail = .null) ∧
    (∃ (s : State) (r : Nat) (b : Nat) (n : Nat), s.ctlAt r b n 2 = true ∧ (s.ackIn r b n).dead = false ∧
      (s.ackIn r b n).rail = .zero) ∧
    (∃ (s : State) (r : Nat) (b : Nat) (n : Nat) (sideB : Bool), s.arbAt r b n = true ∧ (s.arbReq r b n false).rail ≠ .zero ∧
      (s.arbReq r b n true).rail ≠ .zero ∧ (s.arbReq r b n sideB).rail = .one ∧ s.arbGrant r b n = .none) ∧
    (∃ (s : State) (r : Nat) (b : Nat) (n : Nat), s.arbAt r b n = true ∧ s.arbGrant r b n = .a ∧
      (s.arbReq r b n false).rail = .null ∧ (s.arbReq r b n true).rail = .one) ∧
    (∃ (s : State) (r : Nat) (b : Nat) (n : Nat), s.arbAt r b n = true ∧ s.arbGrant r b n = .b ∧
      (s.arbReq r b n true).rail = .null ∧ (s.arbReq r b n false).rail = .null) ∧
    (∃ (s : State) (r : Nat) (b : Nat) (n : Nat), s.arbAt r b n = true ∧ s.arbGrant r b n = .b ∧
      (s.arbReq r b n true).rail = .null ∧ (s.arbReq r b n false).rail = .one) ∧
    (∃ (s : State) (r : Nat) (b : Nat) (n : Nat) (sideB : Bool), s.arbAt r b n = true ∧ (s.arbReq r b n false).rail = .zero ∧
      (s.arbReq r b n sideB).rail ≠ .one) ∧
    (∃ (s : State) (r : Nat) (b : Nat) (k : Nat) (w : Nat), s.fabricOn r = true ∧ b < 256 ∧
      (let u := s.rqSettle r b; (let p := u.rqPort r b; ((List.range 4).map (fun i => (p.last + 1 + i) % 4)).find? (fun k => u.rqOn r b k && !hasBit p.busy k && !hasBit p.acks k && Tbl.get 0 p.drain k == 0 && (u.rqWord r b k).isSome) = some k ∧
      u.rqWord r b k = some w))) ∧
    (∃ (s : State) (r : Nat) (t : Nat) (g : ArbReq), s.fabricOn r = true ∧ t < 32 ∧ s.arbHold r t = none ∧
      s.tgtBlocked r t = false ∧ s.arbPick r t = some g) ∧
    (∃ (s : State) (r : Nat) (t : Nat) (w : Nat) (h : ArbHold), s.fabricOn r = true ∧ t < 32 ∧ s.arbHold r t = some h ∧
      (let u := s.rqSettle r h.req.blk; (let p := u.rqPort r h.req.blk; h.payload.length < h.req.words ∧
      hasBit p.acks h.req.chan = false ∧ u.rqWord r h.req.blk h.req.chan = some w))) ∧
    (∃ (s : State) (r : Nat) (t : Nat), s.fabricOn r = true ∧ t < 32 ∧ s.arbHold r t = none ∧ s.tgtBlocked r t = true) ∧
    (∃ (s : State) (r : Nat) (t : Nat) (h : ArbHold) (c : Code) (data : List Nat), s.fabricOn r = true ∧ t < 32 ∧
      s.arbHold r t = some h ∧ s.arbResponse r t h = some (c, data)) ∧
    (∃ (s : State) (r : Nat) (t : Nat) (h : ArbHold), s.fabricOn r = true ∧ t < 32 ∧ s.arbHold r t = some h ∧
      s.arbResponse r t h = none) := ⟨
    ⟨(State.reset.setFld (Reg.REG_STATUS_STATE 23) 4), 23, 0, 0, 0, 0, by decide +kernel⟩,
    ⟨State.reset, 23, 0, by decide +kernel⟩,
    ⟨fabricAt .evaluating [(blk 30 0, 6 + 2 ^ 14 + 0 * 2 ^ 20), (blk 30 1, 6)], 23, 255, 0, by decide +kernel⟩,
    ⟨(fabricAt .nullWave [(blk 30 0, 6 + 2 ^ 14 + 0 * 2 ^ 20), (blk 30 1, 6)]).setFlow 23 255 0 ⟨true, 1, true, false, 0, 0⟩,
      23, 255, 0, by decide +kernel⟩,
    ⟨fabricAt .evaluating [(blk 30 0, 6 + 2 ^ 14), (blk 30 1, 6), (blk 31 32, 111)], 23, 255, 0, by decide +kernel⟩,
    ⟨(fabricAt .nullWave [(blk 30 0, 6 + 2 ^ 14 + 1 * 2 ^ 20), (blk 30 1, 6), (blk 30 2, 6)]).setFlow 23 255 0 ⟨false, 1, true,
      false, 0, 0⟩, 23, 255, 0, by decide +kernel⟩,
    ⟨(fabricAt .evaluating [(blk 30 0, 6 + 2 ^ 14 + 2 * 2 ^ 20), (blk 30 1, 2 + 2 ^ 15), (blk 30 2, 2 + 2 ^ 15)]).setFlow 23 255 0 ⟨true,
      1, false, false, 0, 0⟩, 23, 255, 0, by decide +kernel⟩,
    ⟨(fabricAt .nullWave [(blk 30 0, 6 + 2 ^ 14 + 2 * 2 ^ 20), (blk 30 1, 2 + 2 ^ 15), (blk 30 2, 2 + 2 ^ 15)]).setFlow 23 255 0 ⟨true,
      1, false, true, 0, 0⟩, 23, 255, 0, by decide +kernel⟩,
    ⟨fabricAt .evaluating [(blk 30 0, 6 + 2 ^ 14 + 2 * 2 ^ 20), (blk 30 1, 2 + 2 ^ 15), (blk 30 2, 2 + 2 ^ 15), (blk 31 32, 111)],
      23, 255, 0, by decide +kernel⟩,
    ⟨fabricAt .evaluating [(blk 30 0, 7 + 2 ^ 8), (blk 30 1, 7 + 2 ^ 8)], 23, 255, 0, false, by decide +kernel⟩,
    ⟨(fabricAt .nullWave [(blk 30 0, 7), (blk 30 1, 7 + 2 ^ 3), (blk 0 24, 1)]).setGrant 23 255 0 .a, 23, 255, 0,
      by decide +kernel⟩,
    ⟨(fabricAt .nullWave [(blk 30 0, 7), (blk 30 1, 7)]).setGrant 23 255 0 .b, 23, 255, 0, by decide +kernel⟩,
    ⟨(fabricAt .nullWave [(blk 30 0, 7 + 2 ^ 3), (blk 30 1, 7), (blk 0 0, 4), (blk 31 32, 256)]).setGrant 23 255 0 .b, 23, 255,
      0, by decide +kernel⟩,
    ⟨fabricAt .evaluating [(blk 30 0, 7), (blk 30 1, 7)], 23, 255, 0, false, by decide +kernel⟩,
    ⟨(fabricAt .evaluating ([(blk 30 0, 6 + 2 ^ 14 + 15 * 2 ^ 16), (blk 31 32, 111), (blk 31 60, 0x80000000)] ++ (List.range 16).map (fun i => (blk 30 (i + 1),
      6)))).setFlow 23 255 0 ⟨true, 0x8001, true, false, 0, 0⟩, 23, 255, 3, 0x8001, by decide +kernel⟩,
    ⟨(fabricAt .evaluating []).setFab 23 { (State.reset.rgn 23).fab with reqs := [request] }, 23, 31, request,
      by decide +kernel⟩,
    ⟨((fabricAt .evaluating ([(blk 30 0, 6 + 2 ^ 14 + 15 * 2 ^ 16), (blk 31 32, 111), (blk 31 60, 0x80000000)] ++ (List.range 16).map (fun i => (blk 30 (i + 1),
      6)))).setFlow 23 255 0 ⟨true, 0x8001, true, false, 0, 0⟩).setHold 23 31 (some ⟨⟨255, 3, 31, 1, 1, 0, 0⟩, [], 0⟩), 23, 31,
      0x8001, ⟨⟨255, 3, 31, 1, 1, 0, 0⟩, [], 0⟩, by decide +kernel⟩,
    ⟨(fabricAt .evaluating []).setFld (Reg.ARB_STATUS_BLOCKED 23) (2 ^ 31), 23, 31, by decide +kernel⟩,
    ⟨((fabricAt .evaluating [(frameKey 23 41 0 39, 3 + 191 * 2 ^ 4 + 2 ^ 16)]).setFld (Reg.BM_CFG_MODEB 23 95) 2).setHold 23 31 (some ⟨request,
      [5], 1⟩), 23, 31, ⟨request, [5], 1⟩, .ok, [], by decide +kernel⟩,
    ⟨(fabricAt .evaluating [(frameKey 23 41 0 39, 3 + 191 * 2 ^ 4 + 2 ^ 16)]).setHold 23 31 (some ⟨request, [], 0⟩), 23, 31,
      ⟨request, [], 0⟩, by decide +kernel⟩⟩

theorem met_region_commands_complete :
    (∃ (s : State) (r : Nat), r < 24 ∧ s.regionCmdCode r cmdPowerOn = .ok) ∧
    (∃ (s : State) (r : Nat), r < 24 ∧ s.regionCmdCode r cmdStart = .ok) ∧
    (∃ (s : State) (r : Nat), r < 24 ∧ s.regionCmdCode r cmdStop = .ok ∧ s.ticking = true) ∧
    (∃ (s : State) (r : Nat), r < 24 ∧ s.regionCmdCode r cmdStop = .ok ∧ s.ticking = false) ∧
    (∃ (s : State) (r : Nat), r < 24 ∧ s.regionCmdCode r cmdReset = .ok ∧ s.ticking = false) ∧
    (∃ (s : State) (r : Nat), r < 24 ∧ s.regionCmdCode r cmdClear = .ok ∧ s.ticking = false) ∧
    (∃ (s : State) (req : Nat) (r : Nat) (p : Instr × Nat), r < 24 ∧
      p ∈ [(.regCmdPowerOff req r, cmdPowerOff), (.regCmdIsolate req r, cmdIsolate), (.regCmdUnisolate req r, cmdUnisolate)] ∧
      s.regionCmdCode r p.2 = .ok ∧ s.ticking = false) ∧
    (∃ (s : State) (req : Nat) (r : Nat) (p : Instr × Nat), r < 24 ∧
      p ∈ [(.regCmdPowerOff req r, cmdPowerOff), (.regCmdReset req r, cmdReset), (.regCmdIsolate req r, cmdIsolate), (.regCmdUnisolate req r, cmdUnisolate), (.regCmdClear req r, cmdClear)] ∧
      s.regionCmdCode r p.2 = .ok ∧ s.ticking = true) ∧
    (∃ (s : State) (req : Nat) (r : Nat) (p : Instr × Nat), r < 24 ∧
      p ∈ [(.regCmdPowerOn req r, cmdPowerOn), (.regCmdPowerOff req r, cmdPowerOff), (.regCmdStart req r, cmdStart), (.regCmdStop req r, cmdStop), (.regCmdReset req r, cmdReset), (.regCmdIsolate req r, cmdIsolate), (.regCmdUnisolate req r, cmdUnisolate), (.regCmdClear req r, cmdClear)] ∧
      s.regionCmdCode r p.2 ≠ .ok) := ⟨
    ⟨State.reset, 23, by decide +kernel⟩,
    ⟨(State.reset.setFld (Reg.REG_STATUS_STATE 23) 3 |>.setBit Reg.TICK_STATUS_RUNNING true), 23, by decide +kernel⟩,
    ⟨((State.reset.setBit Reg.TICK_STATUS_RUNNING true).setFld (Reg.REG_STATUS_STATE 23) 4 |>.setBit Reg.TICK_STATUS_RUNNING true),
      23, by decide +kernel⟩,
    ⟨(State.reset.setFld (Reg.REG_STATUS_STATE 23) 4), 23, by decide +kernel⟩,
    ⟨(State.reset.setFld (Reg.REG_STATUS_STATE 23) 4), 23, by decide +kernel⟩,
    ⟨(State.reset.setFld (Reg.REG_STATUS_STATE 23) 6), 23, by decide +kernel⟩,
    ⟨State.reset.setFld (Reg.REG_STATUS_STATE 23) 3, 0, 23, (.regCmdPowerOff 0 23, cmdPowerOff), by decide +kernel⟩,
    ⟨(State.reset.setFld (Reg.REG_STATUS_STATE 23) 3).setBit Reg.TICK_STATUS_RUNNING true, 0, 23, (.regCmdPowerOff 0 23,
      cmdPowerOff), by decide +kernel⟩,
    ⟨State.reset, 0, 23, (.regCmdStart 0 23, cmdStart), by decide +kernel⟩⟩

theorem met_region_effects_complete :
    (∃ (s : State) (r : Nat), r < 24 ∧ s.on (Reg.REG_STATUS_PEND r) = true ∧ (s.rgn r).failed = false) ∧
    (∃ (s : State) (r : Nat), r < 24 ∧ s.on (Reg.REG_STATUS_PEND r) = true ∧ (s.rgn r).failed = true) ∧
    (∃ (s : State) (r : Nat) (p : PendCmd), s.pendGoes r .start = true ∧ (s.rgn r).pend = some p ∧ s.rstate r = .held ∧
      (s.clearPend r).mapCheck r = none) ∧
    (∃ (s : State) (r : Nat) (e : Nat) (p : PendCmd), s.pendGoes r .start = true ∧ (s.rgn r).pend = some p ∧
      s.rstate r = .held ∧ (s.clearPend r).mapCheck r = some e) ∧
    (∃ (s : State) (r : Nat) (p : PendCmd), s.pendGoes r .start = true ∧ (s.rgn r).pend = some p ∧ s.rstate r = .frozen) ∧
    (∃ (s : State) (r : Nat) (p : PendCmd), s.pendGoes r .start = true ∧ (s.rgn r).pend = some p ∧ s.rstate r ≠ .held ∧
      s.rstate r ≠ .frozen) ∧
    (∃ (s : State) (r : Nat) (p : PendCmd), s.pendGoes r .stop = true ∧ (s.rgn r).pend = some p ∧
      regionAllows (s.rstate r) cmdStop = true) ∧
    (∃ (s : State) (r : Nat) (p : PendCmd), s.pendGoes r .stop = true ∧ (s.rgn r).pend = some p ∧
      regionAllows (s.rstate r) cmdStop = false) := ⟨
    ⟨((State.reset.setRgn 23 { (State.reset.rgn 23) with failed := false }).setBit (Reg.REG_STATUS_PEND 23) true), 23,
      by decide +kernel⟩,
    ⟨((State.reset.setRgn 23 { (State.reset.rgn 23) with failed := true }).setBit (Reg.REG_STATUS_PEND 23) true), 23,
      by decide +kernel⟩,
    ⟨State.reset.setBit Reg.TICK_STATUS_RUNNING true |>.setFld Reg.TICK_COUNT_COUNT 64 |>.setFld (Reg.REG_STATUS_STATE 23) 3 |>.setRgn 23 { State.reset.rgn 23 with pend := some ⟨.start, 60, 1, 0⟩ },
      23, ⟨.start, 60, 1, 0⟩, by decide +kernel⟩,
    ⟨State.reset.setBit Reg.TICK_STATUS_RUNNING true |>.setFld Reg.TICK_COUNT_COUNT 64 |>.setFld (Reg.REG_STATUS_STATE 23) 3 |>.setRgn 23 { State.reset.rgn 23 with pend := some ⟨.start, 60, 1, 0⟩ } |>.setFld (Reg.REG_STATUS_EDGE_USED 23) 8 |>.setBit (Reg.REG_LMAP_MAPPED 22) false,
      23, 3, ⟨.start, 60, 1, 0⟩, by decide +kernel⟩,
    ⟨State.reset.setBit Reg.TICK_STATUS_RUNNING true |>.setFld Reg.TICK_COUNT_COUNT 64 |>.setFld (Reg.REG_STATUS_STATE 23) 5 |>.setRgn 23 { State.reset.rgn 23 with pend := some ⟨.start, 60, 1, 0⟩ },
      23, ⟨.start, 60, 1, 0⟩, by decide +kernel⟩,
    ⟨State.reset.setBit Reg.TICK_STATUS_RUNNING true |>.setFld Reg.TICK_COUNT_COUNT 64 |>.setFld (Reg.REG_STATUS_STATE 23) 4 |>.setRgn 23 { State.reset.rgn 23 with pend := some ⟨.start, 60, 1, 0⟩ },
      23, ⟨.start, 60, 1, 0⟩, by decide +kernel⟩,
    ⟨State.reset.setBit Reg.TICK_STATUS_RUNNING true |>.setFld Reg.TICK_COUNT_COUNT 64 |>.setFld (Reg.REG_STATUS_STATE 23) 4 |>.setRgn 23 { State.reset.rgn 23 with pend := some ⟨.stop, 60, 1, 0⟩ },
      23, ⟨.stop, 60, 1, 0⟩, by decide +kernel⟩,
    ⟨State.reset.setBit Reg.TICK_STATUS_RUNNING true |>.setFld Reg.TICK_COUNT_COUNT 64 |>.setFld (Reg.REG_STATUS_STATE 23) 1 |>.setRgn 23 { State.reset.rgn 23 with pend := some ⟨.stop, 60, 1, 0⟩ },
      23, ⟨.stop, 60, 1, 0⟩, by decide +kernel⟩⟩

theorem met_block_memories_complete :
    (∃ (s : State) (r : Nat) (m : Nat) (p : Nat), s.bmLive r m p = true ∧
      (let w := s.bmWatch r m p; (let q := s.bmRequest r m p; w.2.2 = true ∧ ((w.1.bm r m).port p).idle = true ∧
      w.2.1.all (·.rail.valid) = true ∧ (q.write = true → 2 ≤ w.1.fld (Reg.REG_STATUS_PAVANE r))))) ∧
    (∃ (s : State) (r : Nat) (m : Nat) (p : Nat), s.bmLive r m p = true ∧ (s.bmWatch r m p).2.2 = false) ∧
    (∃ (s : State) (r : Nat) (m : Nat) (p : Nat), s.bmLive r m p = true ∧ (let w := s.bmWatch r m p; w.2.2 = true ∧
      ((w.1.bm r m).port p).reqack = true ∧ w.2.1.all (fun v => v.rail == .null) = true)) ∧
    (∃ (s : State) (r : Nat) (m : Nat) (p : Nat), s.bmLive r m p = true ∧ (let w := s.bmWatch r m p; w.2.2 = true ∧
      ((w.1.bm r m).port p).resp.isSome = true ∧ (s.dest r 3 (2 * m + p) 80).rail = .one)) ∧
    (∃ (s : State) (r : Nat) (m : Nat) (p : Nat), s.bmLive r m p = true ∧ (let w := s.bmWatch r m p; w.2.2 = true ∧
      ((w.1.bm r m).port p).resp = none ∧ ((w.1.bm r m).port p).racked = true ∧ (s.dest r 3 (2 * m + p) 80).rail = .null)) ∧
    (∃ (s : State) (r : Nat) (m : Nat) (off : Nat) (n : Nat), r < 24 ∧ m < 96 ∧ s.regionAccess r = .ok ∧ 0x1000 < off + n) ∧
    (∃ (s : State) (r : Nat) (m : Nat) (off : Nat) (n : Nat), r < 24 ∧ m < 96 ∧ s.regionAccess r = .ok ∧ off + n ≤ 0x1000 ∧
      (s.maintRead r m off n finderHost).2.2 = .ok) ∧
    (∃ (s : State) (r : Nat) (m : Nat) (off : Nat) (n : Nat), r < 24 ∧ m < 96 ∧ s.regionAccess r = .ok ∧ off + n ≤ 0x1000 ∧
      (s.maintRead r m off n finderHost).2.2 ≠ .ok) ∧
    (∃ (s : State) (r : Nat) (m : Nat), r < 24 ∧ m < 96 ∧ s.regionAccess r ≠ .ok) ∧
    (∃ (s : State) (r : Nat) (m : Nat), r < 24 ∧ m < 96 ∧ s.controlGate r = .ok ∧ s.on (Reg.BM_STAT_CLR_BUSY r m) = false ∧
      s.rstate r ≠ .configuring) ∧
    (∃ (s : State) (r : Nat) (m : Nat), r < 24 ∧ m < 96 ∧ s.controlGate r = .ok ∧ s.on (Reg.BM_STAT_CLR_BUSY r m) = true) ∧
    (∃ (s : State) (r : Nat) (m : Nat), r < 24 ∧ m < 96 ∧ s.on (Reg.BM_STAT_CLR_BUSY r m) = false ∧ s.rstate r = .configuring) ∧
    (∃ (s : State) (r : Nat) (m : Nat), r < 24 ∧ m < 96 ∧ s.controlGate r ≠ .ok) ∧
    (∃ (s : State) (r : Nat) (ups : List (Nat × Nat)) (fr : List (Nat × Nat × Nat × Nat)), r < 24 ∧
      (let u := (s.upset ups).frameUpset r fr; u.scrubbing r = true)) ∧
    (∃ (s : State) (r : Nat) (ups : List (Nat × Nat)) (fr : List (Nat × Nat × Nat × Nat)), r < 24 ∧
      (let u := (s.upset ups).frameUpset r fr; u.scrubbing r = false)) ∧
    (∃ (s : State) (r : Nat), r < 24 ∧ (s.scr r).writeback ≠ [] ∧
      (s.ticking = false ∨ s.betweenWaves r = true ∨ (s.rstate r ≠ .running ∧ s.rstate r ≠ .frozen))) ∧
    (∃ (s : State) (h : Nat), h < 4 ∧ s.on (Reg.QM_SCRCTL_EN h) = true ∧
      (let c := (s.shard h).scrub; (let u := s.setShard h { s.shard h with scrub := (c + 1) % 65536 }; (let v := (List.range 32).foldl (fun u w => if (u.checkCell h c w).2 then (u.checkCell h c w).1 else (u.checkCell h c w).1.setMark (cellCode h c w) 0) u; (v.checkCell h c 32).2 = false)))) ∧
    (∃ (s : State) (h : Nat) (e : Nat × QueueSt), h < 4 ∧ s.on (Reg.QM_SCRCTL_EN h) = true ∧
      (let c := (s.shard h).scrub; (let u := s.setShard h { s.shard h with scrub := (c + 1) % 65536 }; (let v := (List.range 32).foldl (fun u w => if (u.checkCell h c w).2 then (u.checkCell h c w).1 else (u.checkCell h c w).1.setMark (cellCode h c w) 0) u; (let x := (v.checkCell h c 32).1; (v.checkCell h c 32).2 = true ∧
      List.find? (fun (e : Nat × QueueSt) => e.1 / 256 == h && e.2.cells.any (fun x => x.2.num == c)) x.queues = some e ∧
      x.qstate e.1 ≠ qBroken))))) := ⟨
    ⟨(fabricAt .evaluating []).setFld (Reg.BM_CFG_MODEB 23 95) 2, 23, 95, 1, ⟨by decide +kernel, State.bmWatch_may ⟨rfl,
      rfl⟩ rfl 95 1 rfl (Or.inl (by decide +kernel)), by decide +kernel, State.bmWatch_blank ⟨rfl, rfl⟩ rfl 95 1 _ rfl,
      by decide +kernel⟩⟩,
    ⟨(fabricAt .evaluating []).setFld (Reg.BM_CFG_MODEB 23 95) 1, 23, 95, 1, by decide +kernel⟩,
    ⟨((fabricAt .nullWave []).setFld (Reg.BM_CFG_MODEB 23 95) 1).setBmPort 23 95 1 { ((State.reset.bm 23 95).port 1) with reqack := true },
      23, 95, 1, ⟨by decide +kernel, State.bmWatch_may ⟨rfl, rfl⟩ rfl 95 1 rfl (Or.inr (by decide +kernel)), by decide +kernel,
      State.bmWatch_blank ⟨rfl, rfl⟩ rfl 95 1 _ rfl⟩⟩,
    ⟨((fabricAt .evaluating (oneAt 3 191 80)).setFld (Reg.BM_CFG_MODEB 23 95) 1).setBmPort 23 95 1 { ((State.reset.bm 23 95).port 1) with resp := some (5, false, false) },
      23, 95, 1, by decide +kernel⟩,
    ⟨((fabricAt .nullWave []).setFld (Reg.BM_CFG_MODEB 23 95) 1).setBmPort 23 95 1 { ((State.reset.bm 23 95).port 1) with racked := true },
      23, 95, 1, by decide +kernel⟩,
    ⟨(State.reset.setFld (Reg.REG_STATUS_STATE 23) 4), 23, 95, 0, 0x1001, by decide +kernel⟩,
    ⟨(State.reset.setFld (Reg.REG_STATUS_STATE 23) 4), 23, 95, 0, 0, by decide +kernel⟩,
    ⟨((State.reset.setFld (Reg.REG_STATUS_STATE 23) 4).setFld (Reg.BM_CFG_ECC 23 95) 2 |>.setRow 23 95 0 ⟨5, true, 2, 0⟩), 23,
      95, 0, 8, by decide +kernel⟩,
    ⟨State.reset, 23, 95, by decide +kernel⟩,
    ⟨((State.reset.setBit (Reg.BM_STAT_CLR_BUSY 23 95) false).setFld (Reg.REG_STATUS_STATE 23) 4), 23, 95, by decide +kernel⟩,
    ⟨((State.reset.setBit (Reg.BM_STAT_CLR_BUSY 23 95) true).setFld (Reg.REG_STATUS_STATE 23) 4), 23, 95, by decide +kernel⟩,
    ⟨((State.reset.setBit (Reg.BM_STAT_CLR_BUSY 23 95) false).setFld (Reg.REG_STATUS_STATE 23) 2), 23, 95, by decide +kernel⟩,
    ⟨State.reset, 23, 95, by decide +kernel⟩,
    ⟨(State.reset.setFld (Reg.REG_STATUS_STATE 23) 4).setBit (Reg.SCR_CTL_EN 23) true, 23, [], [], by decide +kernel⟩,
    ⟨State.reset, 23, [], [], by decide +kernel⟩,
    ⟨State.reset.setScr 23 { State.reset.scr 23 with writeback := [(1, 2)] }, 23, by decide +kernel⟩,
    ⟨(State.reset.setBit (Reg.QM_SCRCTL_EN 3) true), 3, by decide +kernel⟩,
    ⟨(((State.reset.setBit (Reg.QM_SCRCTL_EN 3) true).setBit (Reg.QM_ECCSTAT_LINK_UE 3) true).setMark (cellCode 3 0 32) 2).setQueue 1023 { State.reset.queue 1023 with cells := [(0, ⟨0, []⟩)] },
      3, (1023, { State.reset.queue 1023 with cells := [(0, ⟨0, []⟩)] }), by decide +kernel⟩⟩

theorem met_engine_events_complete :
    (∃ (s : State) (e : Nat) (q : Nat × Nat × Nat), e < 96 ∧ (s.eng e).sched.find? (fun q => q.2.1 == s.now) = some q ∧
      s.actReleases e = false ∧
      (let p := (s.setEng e { s.eng e with sched := (s.eng e).sched.erase q }).engRelease e q.1; p.2 = .ok)) ∧
    (∃ (s : State) (e : Nat) (q : Nat × Nat × Nat), e < 96 ∧ (s.eng e).sched.find? (fun q => q.2.1 == s.now) = some q ∧
      s.actReleases e = false ∧
      (let p := (s.setEng e { s.eng e with sched := (s.eng e).sched.erase q }).engRelease e q.1; p.2 ≠ .ok)) ∧
    (∃ (s : State) (e : Nat) (t : EngTask) (l : List EngTask), e < 96 ∧ (s.eng e).st = .idle ∧ (s.eng e).tasks = t :: l ∧
      2 ≤ s.fld (Reg.REG_STATUS_PAVANE (e / 4))) ∧
    (∃ (s : State) (e : Nat) (i : EInstr), e < 96 ∧ (s.eng e).st = .stall ∧ s.engFetch e (s.eng e).bank (s.eng e).pc = some i ∧
      (s.eng e).waits i = 0) ∧
    (∃ (s : State) (e : Nat) (i : EInstr), e < 96 ∧ (s.eng e).st = .stall ∧ s.engFetch e (s.eng e).bank (s.eng e).pc = some i ∧
      (s.eng e).waits i ≠ 0) ∧
    (∃ (s : State) (e : Nat) (which : Nat), s.streamLive e which = true ∧ (let w := s.sinWatch e which; w.2.2 = true ∧
      ((w.1.eng e).sin which).full = false ∧ ((w.1.eng e).sin which).acko = false ∧ w.2.1.all (·.rail.valid) = true)) ∧
    (∃ (s : State) (e : Nat) (which : Nat), s.streamLive e which = true ∧ (let w := s.sinWatch e which; w.2.2 = true ∧
      ((w.1.eng e).sin which).acko = true ∧ w.2.1.all (fun v => v.rail == .null) = true)) ∧
    (∃ (s : State) (e : Nat) (which : Nat), s.streamLive e which = true ∧ (s.sinWatch e which).2.2 = false) ∧
    (∃ (s : State) (e : Nat) (which : Nat), s.streamLive e which = true ∧
      (s.dest (e / 4) 4 (e % 4) (32 + which)).dead = false ∧
      ((s.dest (e / 4) 4 (e % 4) (32 + which)).rail = .zero ∨ ((s.dest (e / 4) 4 (e % 4) (32 + which)).rail = .one ∧
      ((s.eng e).sout which).full = false))) ∧
    (∃ (s : State) (e : Nat) (which : Nat), s.streamLive e which = true ∧ ((s.eng e).sout which).full = true ∧
      ((s.eng e).sout which).acked = false ∧ (s.dest (e / 4) 4 (e % 4) (32 + which)).rail = .one) ∧
    (∃ (s : State) (e : Nat) (which : Nat), s.streamLive e which = true ∧ ((s.eng e).sout which).full = true ∧
      ((s.eng e).sout which).acked = true ∧ (s.dest (e / 4) 4 (e % 4) (32 + which)).rail = .null) ∧
    (∃ (s : State) (e : Nat) (t : Nat) (g : EngTag) (d : NetDone), e < 96 ∧ Tbl.get none (s.eng e).tags t = some g ∧
      g.opc = opRd ∧ s.net.done.find? (fun d => d.node == regionNode (e / 4) && d.rid == 0x40 + e && d.ref == t) = some d ∧
      d.code = .ok) ∧
    (∃ (s : State) (e : Nat) (t : Nat) (g : EngTag) (d : NetDone), e < 96 ∧ Tbl.get none (s.eng e).tags t = some g ∧
      g.opc ≠ opWrp ∧ (g.opc = opRd → d.code ≠ .ok) ∧
      s.net.done.find? (fun d => d.node == regionNode (e / 4) && d.rid == 0x40 + e && d.ref == t) = some d) ∧
    (∃ (s : State) (e : Nat) (t : Nat) (g : EngTag), e < 96 ∧ Tbl.get none (s.eng e).tags t = some g ∧ g.opc = opWrp ∧
      s.postedLeft e t = true) := ⟨
    ⟨((fabricAt .evaluating []).setBit Reg.TICK_STATUS_RUNNING true).setEng 95 { State.reset.eng 95 with sched := [(63, 0, 9)] },
      95, (63, 0, 9), by decide +kernel⟩,
    ⟨((fabricAt .evaluating []).setBit Reg.TICK_STATUS_RUNNING true).setEng 95 { State.reset.eng 95 with sched := [(63, 0, 9)], tasks := List.replicate 4 ⟨0, 5, 7, 0, false⟩ },
      95, (63, 0, 9), by decide +kernel⟩,
    ⟨(fabricAt .evaluating []).setEng 95 { State.reset.eng 95 with tasks := [⟨0, 5, 7, 0, false⟩] }, 95, ⟨0, 5, 7, 0, false⟩,
      [], by decide +kernel⟩,
    ⟨engAt 0 (fun x => { x with st := .stall }), 95, .nop, by decide +kernel⟩,
    ⟨engAt 0x08000003 (fun x => { x with st := .stall, tags := Tbl.put none [] 3 (some ⟨opRd, 0x100, 16⟩) }), 95, .nwait 3,
      by decide +kernel⟩,
    ⟨fabricAt .evaluating [], 95, 1, by decide +kernel⟩,
    ⟨(fabricAt .nullWave []).setEng 95 { State.reset.eng 95 with si1 := ⟨0, false, true, 0, 0⟩ }, 95, 1, by decide +kernel⟩,
    ⟨(fabricAt .evaluating []).setEng 95 { State.reset.eng 95 with si1 := ⟨0, false, false, 1, 1⟩ }, 95, 1, by decide +kernel⟩,
    ⟨fabricAt .evaluating [], 95, 1, by decide +kernel⟩,
    ⟨(fabricAt .evaluating [(frameKey 23 41 28 7, 7 * 2 ^ 18 + 1)]).setEng 95 { State.reset.eng 95 with so1 := ⟨7, true, false⟩ },
      95, 1, by decide +kernel⟩,
    ⟨(fabricAt .nullWave []).setEng 95 { State.reset.eng 95 with so1 := ⟨7, true, true⟩ }, 95, 1, by decide +kernel⟩,
    ⟨({ State.reset with net := { State.reset.net with done := [⟨regionNode 23, 0x9F, 3, .ok, 0⟩] } } : State).setEng 95 { State.reset.eng 95 with tags := Tbl.put none [] 3 (some ⟨opRd, 0x100, 16⟩) },
      95, 3, ⟨opRd, 0x100, 16⟩, ⟨regionNode 23, 0x9F, 3, .ok, 0⟩, by decide +kernel⟩,
    ⟨({ State.reset with net := { State.reset.net with done := [⟨regionNode 23, 0x9F, 3, .eTmo, 0⟩] } } : State).setEng 95 { State.reset.eng 95 with tags := Tbl.put none [] 3 (some ⟨opRd, 0x100, 16⟩) },
      95, 3, ⟨opRd, 0x100, 16⟩, ⟨regionNode 23, 0x9F, 3, .eTmo, 0⟩, by decide +kernel⟩,
    ⟨State.reset.setEng 95 { State.reset.eng 95 with tags := Tbl.put none [] 3 (some ⟨opWrp, 0x100, 16⟩) }, 95, 3, ⟨opWrp,
      0x100, 16⟩, by decide +kernel⟩⟩

theorem met_engine_commands_complete :
    (∃ (s : State) (e : Nat), e < 96 ∧ s.regionAccess (e / 4) = .ok ∧ ((s.eng e).st = .run ∨ (s.eng e).st = .stall) ∧
      (s.eng e).haltPend = false) ∧
    (∃ (s : State) (req : Nat) (e : Nat) (p : Instr × Nat), e < 96 ∧ s.regionAccess (e / 4) = .ok ∧
      p ∈ [(.engHalt req e, 1), (.engResume req e, 2), (.engStep req e, 3), (.engAbort req e, 4), (.engClear req e, 5)] ∧
      s.engCmdCode e p.2 ≠ .ok) ∧
    (∃ (s : State) (e : Nat), e < 96 ∧ s.regionAccess (e / 4) = .ok ∧ s.engCmdCode e 6 ≠ .ok) ∧
    (∃ (s : State) (e : Nat), e < 96 ∧ s.regionAccess (e / 4) = .ok ∧ s.engCmdCode e 7 ≠ .ok) ∧
    (∃ (s : State) (req : Nat) (e : Nat) (entry : BitVec 12) (atEnd : Bool) (t : BitVec 6) (c : Instr), e < 96 ∧
      s.regionAccess (e / 4) ≠ .ok ∧
      c ∈ [.engHalt req e, .engResume req e, .engStep req e, .engAbort req e, .engClear req e, .engSwapreq req e atEnd entry, .engRelease req e t]) ∧
    (∃ (s : State) (e : Nat), e < 96 ∧ s.regionAccess (e / 4) = .ok ∧ (s.eng e).st = .halt ∧ (s.eng e).tasks ≠ [] ∧
      (s.eng e).cur = false ∧ 2 ≤ s.fld (Reg.REG_STATUS_PAVANE (e / 4))) ∧
    (∃ (s : State) (e : Nat), e < 96 ∧ s.regionAccess (e / 4) = .ok ∧ (s.eng e).st = .halt ∧ (s.eng e).tasks ≠ [] ∧
      (s.eng e).cur = true) ∧
    (∃ (s : State) (e : Nat), e < 96 ∧ s.regionAccess (e / 4) = .ok ∧
      ((s.eng e).st = .run ∨ (s.eng e).st = .stall ∨ ((s.eng e).st = .halt ∧ (s.eng e).cur = true))) ∧
    (∃ (s : State) (e : Nat), e < 96 ∧ s.regionAccess (e / 4) = .ok ∧ (s.eng e).st = .fault) ∧
    (∃ (s : State) (e : Nat), e < 96 ∧ s.regionAccess (e / 4) = .ok ∧ (s.eng e).st = .idle ∧ (s.eng e).swapPend = none) ∧
    (∃ (s : State) (e : Nat), e < 96 ∧ s.regionAccess (e / 4) = .ok ∧ ((s.eng e).st = .run ∨ (s.eng e).st = .stall) ∧
      (s.eng e).swapPend = none) ∧
    (∃ (s : State) (e : Nat) (atEnd : Bool), e < 96 ∧ s.regionAccess (e / 4) = .ok ∧ (s.eng e).st = .halt ∧
      (s.eng e).swapPend = none ∧ (atEnd = false ∨ (s.eng e).cur = false)) ∧
    (∃ (s : State) (e : Nat), e < 96 ∧ s.regionAccess (e / 4) = .ok ∧ s.engOpen e = true ∧ s.ticking = true) ∧
    (∃ (s : State) (e : Nat) (off : Nat) (n : Nat) (v : Nat) (be : Nat), e < 96 ∧ n ≤ 256 ∧ s.regionAccess (e / 4) = .ok ∧
      engMemOk off n = true ∧ (s.engMemWrite e off n v be).2 = .ok) ∧
    (∃ (s : State) (e : Nat) (off : Nat) (n : Nat) (v : Nat) (be : Nat), e < 96 ∧ n ≤ 256 ∧ s.regionAccess (e / 4) = .ok ∧
      engMemOk off n = true ∧ (s.engMemWrite e off n v be).2 ≠ .ok ∧ (s.engMemWrite e off n v be).2 ≠ .eState) ∧
    (∃ (s : State) (e : Nat) (off : Nat) (n : Nat) (be : Nat), e < 96 ∧ n ≤ 256 ∧ s.regionAccess (e / 4) = .ok ∧
      engMemOk off n = true ∧ (∃ i < n, hasBit be i = true ∧ off + i < 0x8000 ∧ (off + i) / 0x4000 = (s.eng e).bank)) ∧
    (∃ (s : State) (e : Nat) (off : Nat) (n : Nat), e < 96 ∧ n ≤ 256 ∧ s.regionAccess (e / 4) = .ok ∧ engMemOk off n = false) ∧
    (∃ (s : State) (e : Nat) (o : Nat) (w : Nat) (old : BitVec 64), e < 96 ∧ s.regionAccess (e / 4) = .ok ∧ viewEntry o = (o,
      w) ∧ (s.eng e).view o = some old ∧ ((s.eng e).st = .idle ∨ (s.eng e).st = .halt)) ∧
    (∃ (s : State) (e : Nat) (o : Nat) (w : Nat), e < 96 ∧ s.regionAccess (e / 4) = .ok ∧ viewEntry o = (o, w) ∧
      (s.eng e).view o ≠ none ∧ (s.eng e).st ≠ .idle ∧ (s.eng e).st ≠ .halt) := ⟨
    ⟨(State.reset.setEng 95 { State.reset.eng 95 with st := .run }).setFld (Reg.REG_STATUS_STATE 23) 4, 95, by decide +kernel⟩,
    ⟨(State.reset.setFld (Reg.REG_STATUS_STATE (95 / 4)) 4), 0, 95, (.engResume 0 95, 2), by decide +kernel⟩,
    ⟨(State.reset.setEng 95 { State.reset.eng 95 with st := .fault }).setFld (Reg.REG_STATUS_STATE 23) 4, 95, by decide +kernel⟩,
    ⟨(State.reset.setFld (Reg.REG_STATUS_STATE (95 / 4)) 4), 95, by decide +kernel⟩,
    ⟨State.reset, 0, 95, 0, false, 0, .engHalt 0 95, by decide +kernel⟩,
    ⟨((fabricAt .evaluating []).setEng 95 { State.reset.eng 95 with st := .halt, tasks := [⟨0, 5, 7, 0, false⟩] }), 95,
      by decide +kernel⟩,
    ⟨((fabricAt .evaluating []).setEng 95 { State.reset.eng 95 with st := .halt, cur := true, tasks := [⟨0, 5, 7, 0, false⟩] }),
      95, by decide +kernel⟩,
    ⟨((fabricAt .evaluating []).setEng 95 { State.reset.eng 95 with st := .halt, cur := true, tasks := [⟨0, 5, 7, 0, false⟩] }),
      95, by decide +kernel⟩,
    ⟨((State.reset.setEng 95 { (State.reset.eng 95) with st := .fault }).setFld (Reg.REG_STATUS_STATE (95 / 4)) 4), 95,
      by decide +kernel⟩,
    ⟨((State.reset.setEng 95 { (State.reset.eng 95) with st := .idle, swapPend := none }).setFld (Reg.REG_STATUS_STATE (95 / 4)) 4),
      95, by decide +kernel⟩,
    ⟨(State.reset.setEng 95 { State.reset.eng 95 with st := .run }).setFld (Reg.REG_STATUS_STATE 23) 4, 95, by decide +kernel⟩,
    ⟨((fabricAt .evaluating []).setEng 95 { State.reset.eng 95 with st := .halt, cur := true, tasks := [⟨0, 5, 7, 0, false⟩] }),
      95, false, by decide +kernel⟩,
    ⟨((State.reset.setFld (Reg.REG_STATUS_STATE (95 / 4)) 4).setBit Reg.TICK_STATUS_RUNNING true), 95, by decide +kernel⟩,
    ⟨(State.reset.setFld (Reg.REG_STATUS_STATE (95 / 4)) 4), 95, 0, 0, 0, 0, by decide +kernel⟩,
    ⟨((State.reset.setFld (Reg.REG_STATUS_STATE (95 / 4)) 4).setMark (engBase 95 + 0x10000) 2), 95, 0x10000, 1, 0, 1,
      by decide +kernel⟩,
    ⟨(State.reset.setFld (Reg.REG_STATUS_STATE (95 / 4)) 4), 95, 0, 8, 255, by decide +kernel⟩,
    ⟨(State.reset.setFld (Reg.REG_STATUS_STATE (95 / 4)) 4), 95, 0x9000, 8, by decide +kernel⟩,
    ⟨(State.reset.setFld (Reg.REG_STATUS_STATE (95 / 4)) 4), 95, 0xC0, 8, 0, by decide +kernel⟩,
    ⟨(State.reset.setEng 95 { State.reset.eng 95 with st := .fault }).setFld (Reg.REG_STATUS_STATE 23) 4, 95, 0xC0, 8,
      by decide +kernel⟩⟩

theorem met_engine_control_completes :
    (∃ (s : State) (c : Instr) (e : Nat) (k : Nat) (op : EngOp) (i : EInstr), engineOp c = some (e, op) ∧ e < 96 ∧
      (s.eng e).st = .run ∧ s.mark (engCode e (s.eng e).bank (s.eng e).pc) = 0 ∧
      s.engFetch e (s.eng e).bank (s.eng e).pc = some i ∧ i.op = op ∧
      (s.eng e).cause (s.engPipe e) (s.engNext e (s.eng e)) i = some k) ∧
    (∃ (s : State) (c : Instr) (e : Nat) (op : EngOp) (i : EInstr), engineOp c = some (e, op) ∧ e < 96 ∧ (s.eng e).st = .run ∧
      s.mark (engCode e (s.eng e).bank (s.eng e).pc) = 0 ∧ s.engFetch e (s.eng e).bank (s.eng e).pc = some i ∧ i.op = op ∧
      (s.eng e).cause (s.engPipe e) (s.engNext e (s.eng e)) i = none ∧ (s.eng e).waits i ≠ 0) ∧
    (∃ (s : State) (c : Instr) (e : Nat) (op : EngOp), engineOp c = some (e, op) ∧ e < 96 ∧ (s.eng e).st = .run ∧
      s.mark (engCode e (s.eng e).bank (s.eng e).pc) = 0 ∧ s.engFetch e (s.eng e).bank (s.eng e).pc = none) ∧
    (∃ (s : State) (c : Instr) (e : Nat) (op : EngOp), engineOp c = some (e, op) ∧ e < 96 ∧ (s.eng e).st = .run ∧
      s.mark (engCode e (s.eng e).bank (s.eng e).pc) = 2) ∧
    (∃ (s : State) (c : Instr) (e : Nat) (op : EngOp) (i : EInstr), engineOp c = some (e, op) ∧ i.op = op ∧ EngReady s e i ∧
      op ∈ [.nop, .done, .halt, .jmp, .call, .ret, .rep, .loop]) ∧
    (∃ (s : State) (e : Nat), EngReady s e .nop ∧ EngQuiet s e) ∧
    (∃ (s : State) (e : Nat) (a : EngTask) (b : EngTask) (l : List EngTask), EngReady s e .done ∧ EngQuiet s e ∧
      (s.eng e).tasks = a :: b :: l ∧ (s.eng e).cur = true) ∧
    (∃ (s : State) (e : Nat), EngReady s e .halt ∧ EngQuiet s e) ∧
    (∃ (s : State) (e : Nat) (c : Nat) (a : Nat), EngReady s e (.jmp c a) ∧ EngQuiet s e) ∧
    (∃ (s : State) (e : Nat) (c : Nat) (a : Nat), EngReady s e (.call c a) ∧ EngQuiet s e ∧ (s.eng e).cond c = true) ∧
    (∃ (s : State) (e : Nat) (c : Nat) (a : Nat) (l : List Nat), EngReady s e (.ret c) ∧ EngQuiet s e ∧
      (s.eng e).cond c = true ∧ (s.eng e).calls = a :: l) ∧
    (∃ (s : State) (e : Nat) (n : Nat), EngReady s e (.rep n) ∧ EngQuiet s e) ∧
    (∃ (s : State) (e : Nat) (step : Nat) (count : Nat) (ofs : Nat) (reg : Bool), EngReady s e (.loop step reg count ofs) ∧
      EngQuiet s e ∧ (let n := (s.eng e).loopCount (s.engPipe e) reg count; n ≠ 0)) ∧
    (∃ (s : State) (e : Nat) (tag : Nat), EngReady s e (.nwait tag) ∧
      bitsOf (s.fld (Reg.ENG_NSTAT_CODE (e / 4) (e % 4))) (4 * tag) 4 = 0) ∧
    (∃ (s : State) (e : Nat) (tag : Nat), EngReady s e (.nwait tag) ∧
      bitsOf (s.fld (Reg.ENG_NSTAT_CODE (e / 4) (e % 4))) (4 * tag) 4 ≠ 0) := ⟨
    ⟨engAt 0x05000000, .engInstrRet 95, 95, causeCall, .ret, .ret 0, by decide +kernel⟩,
    ⟨engAt 0x08000003 (fun x => { x with tags := Tbl.put none [] 3 (some ⟨opRd, 0x100, 16⟩) }), .engInstrNwait 95, 95, .nwait,
      .nwait 3, by decide +kernel⟩,
    ⟨engAt 0xFFFFFFFF, .engInstrNop 95, 95, .nop, by decide +kernel⟩,
    ⟨(engAt 0).setMark (engCode 95 0 0) 2, .engInstrNop 95, 95, .nop, by decide +kernel⟩,
    ⟨engAt 0, .engInstrNop 95, 95, .nop, .nop, by simp only [EngReady]; decide +kernel⟩,
    ⟨engAt 0, 95, by simp only [EngReady, EngQuiet]; decide +kernel⟩,
    ⟨engAt 0x01000000 (fun x => { x with tasks := [⟨0, 5, 7, 0, false⟩, ⟨1, 9, 8, 0, false⟩], cur := true }), 95, ⟨0, 5, 7, 0,
      false⟩, ⟨1, 9, 8, 0, false⟩, [], by simp only [EngReady, EngQuiet]; decide +kernel⟩,
    ⟨engAt 0x02000000, 95, by simp only [EngReady, EngQuiet]; decide +kernel⟩,
    ⟨engAt 0x03000123, 95, 0, 0x123, by simp only [EngReady, EngQuiet]; decide +kernel⟩,
    ⟨engAt 0x04000FFF, 95, 0, 0xFFF, by simp only [EngReady, EngQuiet]; decide +kernel⟩,
    ⟨engAt 0x05000000 (fun x => { x with calls := [9] }), 95, 0, 9, [], by simp only [EngReady, EngQuiet]; decide +kernel⟩,
    ⟨engAt 0x06000FFF, 95, 4096, by simp only [EngReady, EngQuiet]; decide +kernel⟩,
    ⟨(engAt 0x07400305).setBit (Reg.ENG_CFG_LOOPMODE 23 3) true, 95, 1, 3, 5, false,
      by simp only [EngReady, EngQuiet]; decide +kernel⟩,
    ⟨engAt 0x08000003, 95, 3, by simp only [EngReady]; decide +kernel⟩,
    ⟨(engAt 0x08000003).setFld (Reg.ENG_NSTAT_CODE 23 3) 0x5000, 95, 3, by simp only [EngReady]; decide +kernel⟩⟩

theorem met_engine_multiplies_complete :
    (∃ (s : State) (e : Nat) (c : MacCtl) (xa : EngAddr) (ya : EngAddr) (xd : Option Nat) (yd : Option Nat),
      EngReady s e (.macm c xa ya xd yd) ∧ c.op = .mac) ∧
    (∃ (s : State) (e : Nat) (c : MacCtl) (xa : EngAddr) (ya : EngAddr) (xd : Option Nat) (yd : Option Nat),
      EngReady s e (.macm c xa ya xd yd) ∧ c.op = .msu) ∧
    (∃ (s : State) (e : Nat) (c : MacCtl) (xa : EngAddr) (ya : EngAddr) (xd : Option Nat) (yd : Option Nat),
      EngReady s e (.macm c xa ya xd yd) ∧ c.op = .mpy) ∧
    (∃ (s : State) (e : Nat) (c : MacCtl) (xa : EngAddr) (ya : EngAddr) (xd : Option Nat) (yd : Option Nat),
      EngReady s e (.macm c xa ya xd yd) ∧ c.op = .mpyn) ∧
    (∃ (s : State) (e : Nat) (c : MacCtl) (da : Nat) (db : Nat) (xa : Option (EngAddr × Nat)) (ya : Option (EngAddr × Nat)),
      EngReady s e (.macr c da db xa ya) ∧ c.op = .mac) ∧
    (∃ (s : State) (e : Nat) (c : MacCtl) (da : Nat) (db : Nat) (xa : Option (EngAddr × Nat)) (ya : Option (EngAddr × Nat)),
      EngReady s e (.macr c da db xa ya) ∧ c.op = .msu) ∧
    (∃ (s : State) (e : Nat) (c : MacCtl) (da : Nat) (db : Nat) (xa : Option (EngAddr × Nat)) (ya : Option (EngAddr × Nat)),
      EngReady s e (.macr c da db xa ya) ∧ c.op = .mpy) ∧
    (∃ (s : State) (e : Nat) (c : MacCtl) (da : Nat) (db : Nat) (xa : Option (EngAddr × Nat)) (ya : Option (EngAddr × Nat)),
      EngReady s e (.macr c da db xa ya) ∧ c.op = .mpyn) := ⟨
    ⟨engAt 0x262A1300, 95, ⟨.mac, 3, 0, false, true⟩, ⟨1, 1, 1⟩, ⟨4, 4, 0⟩, some 3, none,
      by simp only [EngReady]; decide +kernel⟩,
    ⟨engAt 0x2E2A1300, 95, ⟨.msu, 3, 0, false, true⟩, ⟨1, 1, 1⟩, ⟨4, 4, 0⟩, some 3, none,
      by simp only [EngReady]; decide +kernel⟩,
    ⟨engAt 0x362A1300, 95, ⟨.mpy, 3, 0, false, true⟩, ⟨1, 1, 1⟩, ⟨4, 4, 0⟩, some 3, none,
      by simp only [EngReady]; decide +kernel⟩,
    ⟨engAt 0x3E2A1300, 95, ⟨.mpyn, 3, 0, false, true⟩, ⟨1, 1, 1⟩, ⟨4, 4, 0⟩, some 3, none,
      by simp only [EngReady]; decide +kernel⟩,
    ⟨engAt 0x40498000, 95, ⟨.mac, 0, 0, true, false⟩, 10, 11, none, none, by simp only [EngReady]; decide +kernel⟩,
    ⟨engAt 0x48498000, 95, ⟨.msu, 0, 0, true, false⟩, 10, 11, none, none, by simp only [EngReady]; decide +kernel⟩,
    ⟨engAt 0x50498000, 95, ⟨.mpy, 0, 0, true, false⟩, 10, 11, none, none, by simp only [EngReady]; decide +kernel⟩,
    ⟨engAt 0x58498000, 95, ⟨.mpyn, 0, 0, true, false⟩, 10, 11, none, none, by simp only [EngReady]; decide +kernel⟩⟩

theorem met_engine_register_ops_complete :
    (∃ (s : State) (e : Nat) (op : AluOp) (dd : Nat) (ds1 : Nat) (ds2 : Nat) (imm : Bool) (sat : Bool),
      EngReady s e (.alu op dd ds1 ds2 imm sat) ∧ op = .add) ∧
    (∃ (s : State) (e : Nat) (op : AluOp) (dd : Nat) (ds1 : Nat) (ds2 : Nat) (imm : Bool) (sat : Bool),
      EngReady s e (.alu op dd ds1 ds2 imm sat) ∧ op = .sub) ∧
    (∃ (s : State) (e : Nat) (op : AluOp) (dd : Nat) (ds1 : Nat) (ds2 : Nat) (imm : Bool) (sat : Bool),
      EngReady s e (.alu op dd ds1 ds2 imm sat) ∧ op = .and) ∧
    (∃ (s : State) (e : Nat) (op : AluOp) (dd : Nat) (ds1 : Nat) (ds2 : Nat) (imm : Bool) (sat : Bool),
      EngReady s e (.alu op dd ds1 ds2 imm sat) ∧ op = .or) ∧
    (∃ (s : State) (e : Nat) (op : AluOp) (dd : Nat) (ds1 : Nat) (ds2 : Nat) (imm : Bool) (sat : Bool),
      EngReady s e (.alu op dd ds1 ds2 imm sat) ∧ op = .xor) ∧
    (∃ (s : State) (e : Nat) (op : AluOp) (dd : Nat) (ds1 : Nat) (ds2 : Nat) (imm : Bool) (sat : Bool),
      EngReady s e (.alu op dd ds1 ds2 imm sat) ∧ op = .shl) ∧
    (∃ (s : State) (e : Nat) (op : AluOp) (dd : Nat) (ds1 : Nat) (ds2 : Nat) (imm : Bool) (sat : Bool),
      EngReady s e (.alu op dd ds1 ds2 imm sat) ∧ op = .shr) ∧
    (∃ (s : State) (e : Nat) (op : AluOp) (dd : Nat) (ds1 : Nat) (ds2 : Nat) (imm : Bool) (sat : Bool),
      EngReady s e (.alu op dd ds1 ds2 imm sat) ∧ op = .asr) ∧
    (∃ (s : State) (e : Nat) (op : AluOp) (dd : Nat) (ds1 : Nat) (ds2 : Nat) (imm : Bool) (sat : Bool),
      EngReady s e (.alu op dd ds1 ds2 imm sat) ∧ op = .cmp) ∧
    (∃ (s : State) (e : Nat) (op : AluOp) (dd : Nat) (ds1 : Nat) (ds2 : Nat) (imm : Bool) (sat : Bool),
      EngReady s e (.alu op dd ds1 ds2 imm sat) ∧ op = .neg) ∧
    (∃ (s : State) (e : Nat) (op : AluOp) (dd : Nat) (ds1 : Nat) (ds2 : Nat) (imm : Bool) (sat : Bool),
      EngReady s e (.alu op dd ds1 ds2 imm sat) ∧ op = .abs) ∧
    (∃ (s : State) (e : Nat) (min : Bool) (dm : Nat) (ds : Nat) (ix : Nat) (u : Bool) (last : Bool) (index : Nat) (xa : Option EngAddr),
      EngReady s e (.search min dm ds ix u last index xa) ∧ min = false) ∧
    (∃ (s : State) (e : Nat) (min : Bool) (dm : Nat) (ds : Nat) (ix : Nat) (u : Bool) (last : Bool) (index : Nat) (xa : Option EngAddr),
      EngReady s e (.search min dm ds ix u last index xa) ∧ min = true) := ⟨
    ⟨engAt 0x60567C00, 95, .add, 5, 6, 7, true, true, by simp only [EngReady]; decide +kernel⟩,
    ⟨engAt 0x61567C00, 95, .sub, 5, 6, 7, true, true, by simp only [EngReady]; decide +kernel⟩,
    ⟨engAt 0x62567800, 95, .and, 5, 6, 7, true, false, by simp only [EngReady]; decide +kernel⟩,
    ⟨engAt 0x63567800, 95, .or, 5, 6, 7, true, false, by simp only [EngReady]; decide +kernel⟩,
    ⟨engAt 0x64567800, 95, .xor, 5, 6, 7, true, false, by simp only [EngReady]; decide +kernel⟩,
    ⟨engAt 0x65567800, 95, .shl, 5, 6, 7, true, false, by simp only [EngReady]; decide +kernel⟩,
    ⟨engAt 0x66567800, 95, .shr, 5, 6, 7, true, false, by simp only [EngReady]; decide +kernel⟩,
    ⟨engAt 0x67567800, 95, .asr, 5, 6, 7, true, false, by simp only [EngReady]; decide +kernel⟩,
    ⟨engAt 0x68067800, 95, .cmp, 0, 6, 7, true, false, by simp only [EngReady]; decide +kernel⟩,
    ⟨engAt 0x69560400, 95, .neg, 5, 6, 0, false, true, by simp only [EngReady]; decide +kernel⟩,
    ⟨engAt 0x6A560400, 95, .abs, 5, 6, 0, false, true, by simp only [EngReady]; decide +kernel⟩,
    ⟨engAt 0xC1594000, 95, false, 5, 6, 49, true, false, 8, none, by simp only [EngReady]; decide +kernel⟩,
    ⟨engAt 0xC5594000, 95, true, 5, 6, 49, true, false, 8, none, by simp only [EngReady]; decide +kernel⟩⟩

theorem met_engine_accumulator_ops_complete :
    (∃ (s : State) (e : Nat) (op : AccOp) (ad : Nat) (as_ : Nat) (dx : Nat) (imm : Nat) (sat : Bool),
      EngReady s e (.acc op ad as_ dx imm sat) ∧ op = .adda) ∧
    (∃ (s : State) (e : Nat) (op : AccOp) (ad : Nat) (as_ : Nat) (dx : Nat) (imm : Nat) (sat : Bool),
      EngReady s e (.acc op ad as_ dx imm sat) ∧ op = .suba) ∧
    (∃ (s : State) (e : Nat) (op : AccOp) (ad : Nat) (as_ : Nat) (dx : Nat) (imm : Nat) (sat : Bool),
      EngReady s e (.acc op ad as_ dx imm sat) ∧ op = .nega) ∧
    (∃ (s : State) (e : Nat) (op : AccOp) (ad : Nat) (as_ : Nat) (dx : Nat) (imm : Nat) (sat : Bool),
      EngReady s e (.acc op ad as_ dx imm sat) ∧ op = .absa) ∧
    (∃ (s : State) (e : Nat) (op : AccOp) (ad : Nat) (as_ : Nat) (dx : Nat) (imm : Nat) (sat : Bool),
      EngReady s e (.acc op ad as_ dx imm sat) ∧ op = .clra) ∧
    (∃ (s : State) (e : Nat) (op : AccOp) (ad : Nat) (as_ : Nat) (dx : Nat) (imm : Nat) (sat : Bool),
      EngReady s e (.acc op ad as_ dx imm sat) ∧ op = .asra) ∧
    (∃ (s : State) (e : Nat) (op : AccOp) (ad : Nat) (as_ : Nat) (dx : Nat) (imm : Nat) (sat : Bool),
      EngReady s e (.acc op ad as_ dx imm sat) ∧ op = .shla) ∧
    (∃ (s : State) (e : Nat) (op : AccOp) (ad : Nat) (as_ : Nat) (dx : Nat) (imm : Nat) (sat : Bool),
      EngReady s e (.acc op ad as_ dx imm sat) ∧ op = .sata) ∧
    (∃ (s : State) (e : Nat) (op : AccOp) (ad : Nat) (as_ : Nat) (dx : Nat) (imm : Nat) (sat : Bool),
      EngReady s e (.acc op ad as_ dx imm sat) ∧ op = .lda) ∧
    (∃ (s : State) (e : Nat) (op : AccOp) (ad : Nat) (as_ : Nat) (dx : Nat) (imm : Nat) (sat : Bool),
      EngReady s e (.acc op ad as_ dx imm sat) ∧ op = .ldal) ∧
    (∃ (s : State) (e : Nat) (op : AccOp) (ad : Nat) (as_ : Nat) (dx : Nat) (imm : Nat) (sat : Bool),
      EngReady s e (.acc op ad as_ dx imm sat) ∧ op = .cmpa) ∧
    (∃ (s : State) (e : Nat) (as_ : Nat) (dx : Nat) (part : Nat) (rnd : Bool) (sat : Bool),
      EngReady s e (.mova as_ dx part rnd sat)) ∧
    (∃ (s : State) (e : Nat) (as_ : Nat) (part : Nat) (rnd : Bool) (sat : Bool) (a : EngAddr),
      EngReady s e (.sta as_ part rnd sat a)) := ⟨
    ⟨engAt 0x70600100, 95, .adda, 1, 2, 0, 0, true, by simp only [EngReady]; decide +kernel⟩,
    ⟨engAt 0x71600100, 95, .suba, 1, 2, 0, 0, true, by simp only [EngReady]; decide +kernel⟩,
    ⟨engAt 0x72600100, 95, .nega, 1, 2, 0, 0, true, by simp only [EngReady]; decide +kernel⟩,
    ⟨engAt 0x73600100, 95, .absa, 1, 2, 0, 0, true, by simp only [EngReady]; decide +kernel⟩,
    ⟨engAt 0x74400000, 95, .clra, 1, 0, 0, 0, false, by simp only [EngReady]; decide +kernel⟩,
    ⟨engAt 0x7560F000, 95, .asra, 1, 2, 0, 15, false, by simp only [EngReady]; decide +kernel⟩,
    ⟨engAt 0x7660F100, 95, .shla, 1, 2, 0, 15, true, by simp only [EngReady]; decide +kernel⟩,
    ⟨engAt 0x77600100, 95, .sata, 1, 2, 0, 0, true, by simp only [EngReady]; decide +kernel⟩,
    ⟨engAt 0x78440000, 95, .lda, 1, 0, 4, 0, false, by simp only [EngReady]; decide +kernel⟩,
    ⟨engAt 0x79440000, 95, .ldal, 1, 0, 4, 0, false, by simp only [EngReady]; decide +kernel⟩,
    ⟨engAt 0x7B600000, 95, .cmpa, 1, 2, 0, 0, false, by simp only [EngReady]; decide +kernel⟩,
    ⟨engAt 0x7A240300, 95, 2, 4, 0, true, true, by simp only [EngReady]; decide +kernel⟩,
    ⟨engAt 0x8A424000, 95, 2, 1, false, false, ⟨1, 0, 1⟩, by simp only [EngReady]; decide +kernel⟩⟩

theorem met_engine_moves_complete :
    (∃ (s : State) (e : Nat) (dd : Nat) (a : EngAddr), EngReady s e (.ld dd a)) ∧
    (∃ (s : State) (e : Nat) (ds : Nat) (a : EngAddr), EngReady s e (.st ds a)) ∧
    (∃ (s : State) (e : Nat) (dd1 : Nat) (dd2 : Nat) (a : EngAddr) (b : EngAddr), EngReady s e (.ld2 dd1 a dd2 b)) ∧
    (∃ (s : State) (e : Nat) (reg : Nat) (imm : Nat), EngReady s e (.ldi reg imm)) ∧
    (∃ (s : State) (e : Nat) (dd : Nat) (ds : Nat) (imm : Nat), EngReady s e (.addi dd ds imm)) ∧
    (∃ (s : State) (e : Nat) (ds : Nat) (imm : Nat), EngReady s e (.cmpi ds imm)) ∧
    (∃ (s : State) (e : Nat) (dst : Nat) (src : Nat), EngReady s e (.mov dst src)) ∧
    (∃ (s : State) (e : Nat) (rd0 : Option Nat) (rd1 : Option Nat) (wr0 : Option Nat) (wr1 : Option Nat),
      EngReady s e (.stream rd0 rd1 wr0 wr1)) ∧
    (∃ (s : State) (e : Nat) (op : NetOp) (desc : Nat) (tag : Nat) (pn : Nat) (lenw : Nat) (dofs : Option Nat),
      EngReady s e (.net op desc tag pn lenw dofs) ∧ op = .nwr) ∧
    (∃ (s : State) (e : Nat) (op : NetOp) (desc : Nat) (tag : Nat) (pn : Nat) (lenw : Nat) (dofs : Option Nat),
      EngReady s e (.net op desc tag pn lenw dofs) ∧
      (let q := s.engRequest e op desc tag pn lenw dofs; (s.niIssue (regionNode (e / 4)) 0 q).2 = true ∧ op = .nrd)) ∧
    (∃ (s : State) (e : Nat) (op : NetOp) (desc : Nat) (tag : Nat) (pn : Nat) (lenw : Nat) (dofs : Option Nat),
      EngReady s e (.net op desc tag pn lenw dofs) ∧
      (let q := s.engRequest e op desc tag pn lenw dofs; (s.niIssue (regionNode (e / 4)) 0 q).2 = true ∧ op = .nwrn)) ∧
    (∃ (s : State) (e : Nat) (op : NetOp) (desc : Nat) (tag : Nat) (pn : Nat) (lenw : Nat) (dofs : Option Nat),
      EngReady s e (.net op desc tag pn lenw dofs) ∧
      (let q := s.engRequest e op desc tag pn lenw dofs; (s.niIssue (regionNode (e / 4)) 0 q).2 = false ∧ op = .nrd)) ∧
    (∃ (s : State) (e : Nat) (op : NetOp) (desc : Nat) (tag : Nat) (pn : Nat) (lenw : Nat) (dofs : Option Nat),
      EngReady s e (.net op desc tag pn lenw dofs) ∧
      (let q := s.engRequest e op desc tag pn lenw dofs; (s.niIssue (regionNode (e / 4)) 0 q).2 = false ∧ op = .nwrn)) := ⟨
    ⟨engAt 0x81490000, 95, 5, ⟨1, 0, 1⟩, by simp only [EngReady]; decide +kernel⟩,
    ⟨engAt 0x857A0000, 95, 5, ⟨7, 0, 2⟩, by simp only [EngReady]; decide +kernel⟩,
    ⟨engAt 0x8D490D00, 95, 5, 6, ⟨1, 0, 1⟩, ⟨4, 0, 0⟩, by simp only [EngReady]; decide +kernel⟩,
    ⟨engAt 0xA340FFFF, 95, 52, 0xFFFF, by simp only [EngReady]; decide +kernel⟩,
    ⟨engAt 0xA558FFFF, 95, 5, 6, 0xFFFF, by simp only [EngReady]; decide +kernel⟩,
    ⟨engAt 0xA818FFFF, 95, 6, 0xFFFF, by simp only [EngReady]; decide +kernel⟩,
    ⟨engAt 0xAC3D0000, 95, 3, 52, by simp only [EngReady]; decide +kernel⟩,
    ⟨engAt 0xCA304240 (fun x => { x with si0 := ⟨7, true, false, 0, 0⟩ }), 95, some 3, none, none, some 9,
      by simp only [EngReady]; decide +kernel⟩,
    ⟨engAt 0xCD590700, 95, .nwr, 2, 3, 1, 7, none, by simp only [EngReady]; decide +kernel⟩,
    ⟨engAt 0xCC590700, 95, .nrd, 2, 3, 1, 7, none, by simp only [EngReady]; decide +kernel⟩,
    ⟨engAt 0xCE590700, 95, .nwrn, 2, 3, 1, 7, none, by simp only [EngReady]; decide +kernel⟩,
    ⟨allTags (engAt 0xCC590700), 95, .nrd, 2, 3, 1, 7, none, ⟨by simp only [EngReady]; decide +kernel,
      allTags_waits _ _ (by decide) (by intro l; rfl), rfl⟩⟩,
    ⟨allTags (engAt 0xCE590700), 95, .nwrn, 2, 3, 1, 7, none, ⟨by simp only [EngReady]; decide +kernel,
      allTags_waits _ _ (by decide) (by intro l; rfl), rfl⟩⟩⟩

theorem met_router_events_complete :
    (∃ (s : State) (n : Nat) (p : Nat) (vc : Nat) (f : Flit) (rest : List Flit), validPort n p = true ∧ vc < 8 ∧
      (s.vcIn n p vc).q = f :: rest ∧ f.bad = false ∧ f.fidx = 0 ∧ (s.vcIn n p vc).headDone = false ∧
      (s.vcIn n p vc).path = none ∧ f.opc ≠ opRsp ∧ f.opc ≠ opRspd ∧ 1 ≤ f.route % 8 ∧ f.route % 8 ≤ 4 ∧
      portExists n (f.route % 8 - 1) = true ∧ f.hops < 14 ∧ s.absorbing n (f.route % 8 - 1) = false ∧
      s.on (Reg.RTR_PSTAT_IN_RESET n (f.route % 8 - 1)) = false) ∧
    (∃ (s : State) (n : Nat) (p : Nat) (vc : Nat) (f : Flit) (rest : List Flit), validPort n p = true ∧ vc < 8 ∧
      (s.vcIn n p vc).q = f :: rest ∧ f.bad = true ∧ (f.fidx = 0 ∨ (s.vcIn n p vc).path ≠ some .sink)) ∧
    (∃ (s : State) (n : Nat) (p : Nat) (vc : Nat) (f : Flit) (rest : List Flit), validPort n p = true ∧ vc < 8 ∧
      (s.vcIn n p vc).q = f :: rest ∧ f.fidx ≠ 0 ∧ (s.vcIn n p vc).path = some .sink) ∧
    (∃ (s : State) (n : Nat) (p : Nat) (vc : Nat) (f : Flit) (rest : List Flit), validPort n p = true ∧ vc < 8 ∧
      (s.vcIn n p vc).q = f :: rest ∧ f.bad = false ∧ f.fidx ≠ 0 ∧ (s.vcIn n p vc).path = none) ∧
    (∃ (s : State) (n : Nat) (p : Nat) (vc : Nat) (f : Flit) (rest : List Flit), validPort n p = true ∧ vc < 8 ∧
      (s.vcIn n p vc).q = f :: rest ∧ f.bad = false ∧ f.fidx = 0 ∧ (s.vcIn n p vc).headDone = false ∧
      (s.vcIn n p vc).path = none ∧ f.opc ≠ opRsp ∧ f.opc ≠ opRspd ∧ (f.route % 8 = 7 ∨ 14 ≤ f.hops ∨ (1 ≤ f.route % 8 ∧
      f.route % 8 ≤ 4 ∧ portExists n (f.route % 8 - 1) = false) ∨ (f.route % 8 = 0 ∧ f.dst ≠ n))) ∧
    (∃ (s : State) (n : Nat) (p : Nat) (vc : Nat) (f : Flit) (rest : List Flit), validPort n p = true ∧ vc < 8 ∧
      (s.vcIn n p vc).q = f :: rest ∧ f.bad = false ∧ f.fidx = 0 ∧ (s.vcIn n p vc).headDone = false ∧
      (s.vcIn n p vc).path = none ∧ f.opc ≠ opRsp ∧ f.opc ≠ opRspd ∧ 1 ≤ f.route % 8 ∧ f.route % 8 ≤ 4 ∧
      portExists n (f.route % 8 - 1) = true ∧ f.hops < 14 ∧ s.absorbing n (f.route % 8 - 1) = true) ∧
    (∃ (s : State) (n : Nat) (p : Nat) (vc : Nat) (f : Flit) (rest : List Flit), validPort n p = true ∧ vc < 8 ∧
      (s.vcIn n p vc).q = f :: rest ∧ f.bad = false ∧ f.fidx = 0 ∧ (s.vcIn n p vc).headDone = false ∧
      (s.vcIn n p vc).path = none ∧ f.opc = opTmo ∧ f.route % 8 = 0 ∧ portExists n 4 = true ∧ f.hops < 14 ∧ f.dst = n) ∧
    (∃ (s : State) (n : Nat) (p : Nat) (i : Nat) (vc : Nat) (idx : Nat) (aged : Bool) (f : Flit) (rest : List Flit),
      validPort n p = true ∧ n < 48 ∧ p < 6 ∧ s.linkUp n p = true ∧ s.arbitrate n p = some (aged, idx, i, vc) ∧
      (s.vcIn n i vc).q = f :: rest) ∧
    (∃ (s : State) (n : Nat) (j : Nat) (sel : Nat) (f : Flit) (rest : List Flit), niExists n j = true ∧
      s.linkUp n (6 + j) = true ∧ sel < 8 ∧ (let t := s.hostServe n; Tbl.get [] (t.ni n j).txq sel = f :: rest ∧
      (t.end_ n (6 + j)).credit sel ≠ 0)) ∧
    (∃ (s : State) (n : Nat) (p : Nat) (vc : Nat), validEnd n p = true ∧ vc < 8 ∧ (s.vcIn n p vc).owed ≠ 0) ∧
    (∃ (s : State) (n : Nat) (p : Nat), validPort n p = true ∧ (∀ x ∈ [(n, p), linkPeer n p], s.linkUp x.1 x.2 = false ∧
      s.nodeOff x.1 = false ∧ (x.2 < 6 → s.absorbing x.1 x.2 = false)) ∧
      ((s.end_ n p).signalled = false ∨ (s.end_ (linkPeer n p).1 (linkPeer n p).2).signalled = false)) ∧
    (∃ (s : State) (n : Nat) (p : Nat), validPort n p = true ∧ (∀ x ∈ [(n, p), linkPeer n p], s.linkUp x.1 x.2 = false ∧
      s.nodeOff x.1 = false ∧ (x.2 < 6 → s.absorbing x.1 x.2 = false) ∧ (s.end_ x.1 x.2).signalled = true)) := ⟨
    ⟨(withFlits 9 4 7 [(Flit.seal { flit opRd 17 0 0 with route := 49 })]).setBit (Reg.RTR_PSTAT_IN_RESET 9 0) false, 9, 4, 7,
      (Flit.seal { flit opRd 17 0 0 with route := 49 }), [], by decide +kernel⟩,
    ⟨withFlits 9 4 7 [{ flit opRd 17 0 0 with check := 0 }], 9, 4, 7, { flit opRd 17 0 0 with check := 0 }, [],
      by decide +kernel⟩,
    ⟨State.reset.setVc 9 4 7 { State.reset.vcIn 9 4 7 with q := [Flit.seal { flit opRd 17 0 0 with fidx := 1 }], path := some .sink },
      9, 4, 7, (Flit.seal { flit opRd 17 0 0 with fidx := 1 }), [], by decide +kernel⟩,
    ⟨withFlits 9 4 7 [Flit.seal { flit opRd 17 0 0 with fidx := 1 }], 9, 4, 7, (Flit.seal { flit opRd 17 0 0 with fidx := 1 }),
      [], by decide +kernel⟩,
    ⟨(withFlits 9 4 7 [(Flit.seal { flit opRd 17 0 0 with route := 7 })]), 9, 4, 7,
      (Flit.seal { flit opRd 17 0 0 with route := 7 }), [], by decide +kernel⟩,
    ⟨(withFlits 9 4 7 [(Flit.seal { flit opRd 17 0 0 with route := 49 })]).setBit (Reg.RTR_PSTAT_ABS_STATE 9 0) true, 9, 4, 7,
      (Flit.seal { flit opRd 17 0 0 with route := 49 }), [], by decide +kernel⟩,
    ⟨withFlits 9 4 7 [flit opTmo 9 0 0], 9, 4, 7, flit opTmo 9 0 0, [], by decide +kernel⟩,
    ⟨((State.reset.setEnd 9 0 { State.reset.end_ 9 0 with credits := [(2, 8)] }).endUp 9 0).setVc 9 4 2 { State.reset.vcIn 9 4 2 with q := [flit opRsp 17 0 0], path := some (.out 0), headDone := true },
      9, 0, 4, 2, 17, false, flit opRsp 17 0 0, [], by decide +kernel⟩,
    ⟨((State.reset.setEnd 9 6 { State.reset.end_ 9 6 with credits := [(7, 8)] }).endUp 9 6).setNi 9 0 { State.reset.ni 9 0 with txq := [(7, [flit opRd 17 0 0])] },
      9, 0, 7, flit opRd 17 0 0, [], by decide +kernel⟩,
    ⟨State.reset.setVc 40 7 7 { State.reset.vcIn 40 7 7 with owed := 4 }, 40, 7, 7, by decide +kernel⟩,
    ⟨State.reset, 0, 0, by decide +kernel⟩,
    ⟨((State.reset.setEnd 40 5 { State.reset.end_ 40 5 with signalled := true }).setEnd (linkPeer 40 5).1 (linkPeer 40 5).2 { State.reset.end_ 40 5 with signalled := true }),
      40, 5, by decide +kernel⟩⟩

theorem met_interface_events_complete :
    (∃ (s : State) (n : Nat) (j : Nat) (rid : Nat) (entry : Nat) (pri : Nat) (len : Nat) (t : Nat) (toRtr : Bool) (h : Flit),
      niExists n j = true ∧ entry < 64 ∧ pri < 4 ∧ 1 ≤ len ∧ len ≤ 256 ∧
      s.entryHead n j entry toRtr opRd pri rid 0 (len - 1) = some h ∧ freeTag (s.ni n j).open_ = some t) ∧
    (∃ (s : State) (n : Nat) (j : Nat) (rid : Nat) (opc : Nat) (entry : Nat) (pri : Nat) (len : Nat) (t : Nat) (toRtr : Bool) (h : Flit),
      niExists n j = true ∧ entry < 64 ∧ pri < 4 ∧ 1 ≤ len ∧ len ≤ 248 ∧ opc = opWr ∧
      s.entryHead n j entry toRtr opc pri rid 0 (len - 1) = some h ∧ freeTag (s.ni n j).open_ = some t) ∧
    (∃ (s : State) (n : Nat) (j : Nat) (rid : Nat) (opc : Nat) (entry : Nat) (pri : Nat) (len : Nat) (t : Nat) (toRtr : Bool) (h : Flit),
      niExists n j = true ∧ entry < 64 ∧ pri < 4 ∧ 248 < len ∧ len ≤ 256 ∧ opc = opWr ∧
      s.entryHead n j entry toRtr opc pri rid 0 247 = some h ∧ freeTag (s.ni n j).open_ = some t) ∧
    (∃ (s : State) (n : Nat) (j : Nat) (rid : Nat) (opc : Nat) (entry : Nat) (pri : Nat) (len : Nat) (toRtr : Bool) (h : Flit),
      niExists n j = true ∧ entry < 64 ∧ pri < 4 ∧ 1 ≤ len ∧ len ≤ 248 ∧ opc = opWrp ∧
      s.entryHead n j entry toRtr opc pri rid 0 (len - 1) = some h) ∧
    (∃ (s : State) (n : Nat) (j : Nat) (opc : Nat) (entry : Nat) (pri : Nat) (len : Nat), niExists n j = true ∧ entry < 64 ∧
      pri < 4 ∧ 1 ≤ len ∧ len ≤ 256 ∧ (opc = opRd ∨ opc = opWr) ∧ s.on (Reg.NI_RT_VALID n j entry) = false) ∧
    (∃ (s : State) (n : Nat) (j : Nat) (opc : Nat) (entry : Nat) (pri : Nat) (len : Nat), niExists n j = true ∧ entry < 64 ∧
      pri < 4 ∧ 1 ≤ len ∧ len ≤ 256 ∧ (opc = opRd ∨ opc = opWr) ∧ s.on (Reg.NI_RT_VALID n j entry) = true ∧
      freeTag (s.ni n j).open_ = none) ∧
    (∃ (s : State) (n : Nat) (j : Nat) (vc : Nat) (f : Flit) (fs : List Flit) (facts : WriteFacts), niExists n j = true ∧
      vc < 8 ∧ niFront n (s.vcIn n (6 + j) vc).q = .packet (f :: fs) ∧ (f :: fs).any (·.poison) = false ∧ f.opc = opWr ∧
      nodeShard n = none ∧ ownCommand n f = false ∧
      (let b := packetBody (f :: fs); (let u := s.niPop n j vc (fs.length + 1); (let r := u.unitWrite n j f.rid (b % 2 ^ 48) (f.blen + 1) (b / 2 ^ 64 % 2 ^ (8 * (f.blen + 1))) facts; (u.linkUp n (6 + j) = true → r.1.linkUp n (6 + j) = true))))) ∧
    (∃ (s : State) (n : Nat) (j : Nat) (vc : Nat) (f : Flit) (fs : List Flit), niExists n j = true ∧ vc < 8 ∧
      niFront n (s.vcIn n (6 + j) vc).q = .packet (f :: fs) ∧ (f :: fs).any (·.poison) = false ∧ f.opc = opWrp ∧
      nodeShard n = none ∧ ownCommand n f = false) ∧
    (∃ (s : State) (n : Nat) (j : Nat) (vc : Nat) (f : Flit) (fs : List Flit), niExists n j = true ∧ vc < 8 ∧
      niFront n (s.vcIn n (6 + j) vc).q = .packet (f :: fs) ∧ (f :: fs).any (·.poison) = true ∧ ownCommand n f = false) ∧
    (∃ (s : State) (n : Nat) (j : Nat) (vc : Nat) (f : Flit) (fs : List Flit), niExists n j = true ∧ vc < 8 ∧
      niFront n (s.vcIn n (6 + j) vc).q = .packet (f :: fs) ∧ (f :: fs).any (·.poison) = false ∧ f.opc = opEvt ∧
      ownCommand n f = false) ∧
    (∃ (s : State) (n : Nat) (j : Nat) (vc : Nat) (f : Flit) (fs : List Flit), niExists n j = true ∧ vc < 8 ∧
      niFront n (s.vcIn n (6 + j) vc).q = .packet (f :: fs) ∧ (f :: fs).any (·.poison) = false ∧ f.opc = opRd ∧
      nodeShard n = none ∧ ownCommand n f = false) ∧
    (∃ (s : State) (n : Nat) (j : Nat) (vc : Nat) (f : Flit) (fs : List Flit), niExists n j = true ∧ vc < 8 ∧
      niFront n (s.vcIn n (6 + j) vc).q = .packet (f :: fs) ∧ (f :: fs).any (·.poison) = false ∧ f.opc = opRspd) ∧
    (∃ (s : State) (n : Nat) (j : Nat) (vc : Nat) (k : Nat) (f : Flit), niExists n j = true ∧ vc < 8 ∧
      niFront n (s.vcIn n (6 + j) vc).q = .malformed k (some f) ∧ f.isRequest = true) ∧
    (∃ (s : State) (n : Nat) (j : Nat) (tag : Nat) (x : NiTx), niExists n j = true ∧
      Tbl.get none (s.ni n j).open_ tag = some x ∧ x.quarantine = false) ∧
    (∃ (s : State) (n : Nat) (j : Nat) (tag : Nat) (x : NiTx), niExists n j = true ∧
      Tbl.get none (s.ni n j).open_ tag = some x ∧ x.quarantine = true) ∧
    (∃ (s : State) (n : Nat) (j : Nat) (e : Nat), niExists n j = true ∧ e < 64 ∧ s.nodeAccess n ≠ .ok) ∧
    (∃ (s : State) (n : Nat) (j : Nat) (e : Nat) (upper : BitVec 32), niExists n j = true ∧ e < 64 ∧ s.nodeAccess n = .ok ∧
      (let low := (Tbl.get none (s.ni n j).lower e).elim ((s.rd (Reg.NI_RT n j e)).toNat % 2 ^ 32) BitVec.toNat; (let v := low + upper.toNat * 2 ^ 32; routeEntryOk n (bitsOf v 0 42) (bitsOf v 42 6) = true))) ∧
    (∃ (s : State) (n : Nat) (j : Nat) (e : Nat) (upper : BitVec 32), niExists n j = true ∧ e < 64 ∧ s.nodeAccess n = .ok ∧
      (let low := (Tbl.get none (s.ni n j).lower e).elim ((s.rd (Reg.NI_RT n j e)).toNat % 2 ^ 32) BitVec.toNat; (let v := low + upper.toNat * 2 ^ 32; routeEntryOk n (bitsOf v 0 42) (bitsOf v 42 6) = false))) := ⟨
    ⟨(State.reset.setBit (Reg.NI_RT_VALID 47 0 63) true), 47, 0, 1, 63, 3, 256, 0, false,
      ((State.reset.setBit (Reg.NI_RT_VALID 47 0 63) true).entryHead 47 0 63 false opRd 3 1 0 255).get (by decide +kernel),
      by decide +kernel⟩,
    ⟨State.reset.setBit (Reg.NI_RT_VALID 47 0 63) true, 47, 0, 1, opWr, 63, 3, 248, 0, false,
      ((State.reset.setBit (Reg.NI_RT_VALID 47 0 63) true).entryHead 47 0 63 false opWr 3 1 0 247).get (by decide +kernel),
      by decide +kernel⟩,
    ⟨State.reset.setBit (Reg.NI_RT_VALID 47 0 63) true, 47, 0, 1, opWr, 63, 3, 256, 0, false,
      ((State.reset.setBit (Reg.NI_RT_VALID 47 0 63) true).entryHead 47 0 63 false opWr 3 1 0 247).get (by decide +kernel),
      by decide +kernel⟩,
    ⟨State.reset.setBit (Reg.NI_RT_VALID 47 0 63) true, 47, 0, 1, opWrp, 63, 3, 248, false,
      ((State.reset.setBit (Reg.NI_RT_VALID 47 0 63) true).entryHead 47 0 63 false opWrp 3 1 0 247).get (by decide +kernel),
      by decide +kernel⟩,
    ⟨(State.reset.setBit (Reg.NI_RT_VALID 0 0 0) false), 0, 0, opRd, 0, 0, 1, by decide +kernel⟩,
    ⟨allTags (State.reset.setBit (Reg.NI_RT_VALID (regionNode 23) 0 63) true), regionNode 23, 0, opRd, 63, 3, 256, ⟨by decide,
      by decide, by decide, by decide, by decide, by decide, by decide +kernel, allTags_none _⟩⟩,
    ⟨withFlits 40 7 7 [flit opWr 40 3 (0x20030 + 5 * 2 ^ 64)], 40, 1, 7, flit opWr 40 3 (0x20030 + 5 * 2 ^ 64), [], ⟨false,
      false, 0, false, []⟩, by decide +kernel⟩,
    ⟨withFlits 40 7 7 [flit opWrp 40 3 (0x20030 + 5 * 2 ^ 64)], 40, 1, 7, flit opWrp 40 3 (0x20030 + 5 * 2 ^ 64), [],
      by decide +kernel⟩,
    ⟨withFlits 40 7 7 [Flit.seal { flit opRd 40 7 0x20000 with poison := true }], 40, 1, 7,
      (Flit.seal { flit opRd 40 7 0x20000 with poison := true }), [], by decide +kernel⟩,
    ⟨withFlits 40 7 7 [flit opEvt 40 3 5], 40, 1, 7, flit opEvt 40 3 5, [], by decide +kernel⟩,
    ⟨withFlits 40 7 7 [flit opRd 40 7 0x20000], 40, 1, 7, flit opRd 40 7 0x20000, [], by decide +kernel⟩,
    ⟨withFlits 40 7 7 [flit opRspd 40 7 5], 40, 1, 7, flit opRspd 40 7 5, [], by decide +kernel⟩,
    ⟨withFlits 40 7 7 [flit opRd 41 7 5], 40, 1, 7, 1, flit opRd 41 7 5, by decide +kernel⟩,
    ⟨State.reset.setNi 40 1 { State.reset.ni 40 1 with open_ := [(1023, some ⟨5, flit opRd 41 7 0, 1, .ok, false⟩)] }, 40, 1,
      1023, ⟨5, flit opRd 41 7 0, 1, .ok, false⟩, by decide +kernel⟩,
    ⟨State.reset.setNi 40 1 { State.reset.ni 40 1 with open_ := [(1023, some ⟨5, flit opRd 41 7 0, 1, .ok, true⟩)] }, 40, 1,
      1023, ⟨5, flit opRd 41 7 0, 1, .ok, true⟩, by decide +kernel⟩,
    ⟨State.reset, regionNode 23, 0, 63, by decide +kernel⟩,
    ⟨(State.reset.setFld (Reg.REG_STATUS_STATE 0) 4).setNi 9 0 { State.reset.ni 9 0 with lower := [(63, some 49)] }, 9, 0, 63,
      17408, by decide +kernel⟩,
    ⟨(State.reset.setFld (Reg.REG_STATUS_STATE 0) 4).setNi 9 0 { State.reset.ni 9 0 with lower := [(63, some 49)] }, 9, 0, 63,
      16384, by decide +kernel⟩⟩

theorem met_crossings_and_ports_complete :
    (∃ (s : State) (n : Nat) (p : Nat), validPort n p = true ∧ (portBridged n p || p == 4 || p == 5) = true ∧
      (s.end_ n p).live = true ∧ (s.end_ (linkPeer n p).1 (linkPeer n p).2).live = false) ∧
    (∃ (s : State) (n : Nat) (p : Nat), validPort n p = true ∧ s.nodeAccess n = .ok ∧
      Tbl.get 0 s.net.restores (16 * n + p) = 0 ∧ s.on (Reg.RTR_PSTAT_ABS_STATE n p) = false ∧
      s.on (Reg.RTR_PSTAT_ABS_TMO n p) = true) ∧
    (∃ (s : State) (n : Nat) (p : Nat), validPort n p = true ∧ s.nodeAccess n = .ok ∧
      Tbl.get 0 s.net.restores (16 * n + p) = 0 ∧ (s.absorbing n p = false ∨ s.on (Reg.RTR_PSTAT_ABS_STATE n p) = true)) ∧
    (∃ (s : State) (n : Nat) (p : Nat), validPort n p = true ∧ s.nodeAccess n = .ok ∧ Tbl.get 0 s.net.restores (16 * n + p) ≠ 0) ∧
    (∃ (s : State) (n : Nat) (p : Nat), validPort n p = true ∧ s.nodeAccess n ≠ .ok) ∧
    (∃ (s : State) (n : Nat) (p : Nat) (req : Nat), validPort n p = true ∧ Tbl.get 0 s.net.restores (16 * n + p) = req + 1 ∧
      s.nodeOff (linkPeer n p).1 = false ∧ ((linkPeer n p).2 < 6 → s.absorbing (linkPeer n p).1 (linkPeer n p).2 = false) ∧
      s.nodeOff n = false ∧ s.on (Reg.RTR_PSTAT_ABS_STATE n p) = false) ∧
    (∃ (s : State) (n : Nat) (p : Nat) (req : Nat), validPort n p = true ∧ Tbl.get 0 s.net.restores (16 * n + p) = req + 1 ∧
      (s.nodeOff (linkPeer n p).1 = true ∨ ((linkPeer n p).2 < 6 ∧
      s.absorbing (linkPeer n p).1 (linkPeer n p).2 = true) ∨ s.nodeOff n = true ∨ s.on (Reg.RTR_PSTAT_ABS_STATE n p) = true)) ∧
    (∃ (s : State) (r : Nat) (i : Nat), s.fabricOn r = true ∧ i < 8 ∧ s.nipTxMode r i = 2 ∧ (s.nip r i).txack = false ∧
      s.destValid r 5 i 0 (16 * (s.fld (Reg.NIP_CFG_TXW r i) + 1)) = true ∧ (s.nip r i).tx.length < 4) ∧
    (∃ (s : State) (r : Nat) (i : Nat), s.fabricOn r = true ∧ i < 8 ∧ s.nipTxMode r i = 2 ∧ (s.nip r i).txack = true ∧
      s.destNull r 5 i 0 (16 * (s.fld (Reg.NIP_CFG_TXW r i) + 1)) = true) ∧
    (∃ (s : State) (r : Nat) (vc : Nat) (f : Flit), validRegion r = true ∧
      niFront (regionNode r) (s.vcIn (regionNode r) 6 vc).q = .packet [f] ∧ f.opc = opStrm ∧ f.poison = true) ∧
    (∃ (s : State) (r : Nat) (vc : Nat) (f : Flit), validRegion r = true ∧
      niFront (regionNode r) (s.vcIn (regionNode r) 6 vc).q = .packet [f] ∧ f.opc = opStrm ∧ f.poison = false ∧
      s.nipRxMode r (f.stat % 8) = 1 ∧ (s.nip r (f.stat % 8)).rx.length < 8) ∧
    (∃ (s : State) (r : Nat) (vc : Nat) (f : Flit), validRegion r = true ∧
      niFront (regionNode r) (s.vcIn (regionNode r) 6 vc).q = .packet [f] ∧ f.opc = opStrm ∧ f.poison = false ∧
      (s.nipRxMode r (f.stat % 8) = 0 ∨ 8 ≤ (s.nip r (f.stat % 8)).rx.length)) ∧
    (∃ (s : State) (r : Nat) (i : Nat), s.fabricOn r = true ∧ i < 8 ∧ s.nipRxMode r i = 2 ∧ (s.nip r i).token = true ∧
      (s.dest r 5 i 513).rail = .one) ∧
    (∃ (s : State) (r : Nat) (i : Nat), s.fabricOn r = true ∧ i < 8 ∧ s.nipRxMode r i = 2 ∧ (s.nip r i).token = false ∧
      (s.nip r i).rxacked = true ∧ (s.dest r 5 i 513).rail = .null) := ⟨
    ⟨((State.reset.setEnd 40 5 { (State.reset.end_ 40 5) with live := true }).setFld (Reg.RTR_PSTAT_STATE 40 5) psUp), 40, 5,
      by decide +kernel⟩,
    ⟨(((State.reset.setFld (Reg.REG_STATUS_STATE (nodeRegion 0)) 4).setBit (Reg.RTR_PSTAT_ABS_STATE 0 0) false).setBit (Reg.RTR_PSTAT_ABS_TMO 0 0) true),
      0, 0, by decide +kernel⟩,
    ⟨(State.reset.setFld (Reg.REG_STATUS_STATE (nodeRegion 0)) 4), 0, 0, by decide +kernel⟩,
    ⟨{ State.reset with net := { State.reset.net with restores := [(645, 17)] } }, 40, 5, by decide +kernel⟩,
    ⟨State.reset, regionNode 23, 0, by decide +kernel⟩,
    ⟨{ (State.reset.setBit (Reg.RTR_PSTAT_ABS_STATE 40 5) false) with net := { State.reset.net with restores := [(645, 17)] } },
      40, 5, 16, by decide +kernel⟩,
    ⟨{ (State.reset.setBit (Reg.RTR_PSTAT_ABS_STATE 40 5) true) with net := { State.reset.net with restores := [(645, 17)] } },
      40, 5, 16, by decide +kernel⟩,
    ⟨(fabricAt .evaluating []).setFld (Reg.NIP_CFG_TXMODE 23 7) 2, 23, 7, ⟨by decide +kernel, by decide +kernel,
      by decide +kernel, by decide +kernel, State.destValid_blank ⟨rfl, rfl⟩ rfl rfl 5 7 0 _, by decide +kernel⟩⟩,
    ⟨((fabricAt .nullWave []).setFld (Reg.NIP_CFG_TXMODE 23 7) 2).setNip 23 7 { State.reset.nip 23 7 with txack := true }, 23,
      7, by decide +kernel⟩,
    ⟨withFlits (regionNode 23) 6 7 [Flit.seal { flit opStrm (regionNode 23) 7 5 7 with poison := true }], 23, 7,
      (Flit.seal { flit opStrm (regionNode 23) 7 5 7 with poison := true }), by decide +kernel⟩,
    ⟨(withFlits (regionNode 23) 6 7 [flit opStrm (regionNode 23) 7 5 7] (fabricAt .evaluating [])).setFld (Reg.NIP_CFG_RXMODE 23 7) 1,
      23, 7, flit opStrm (regionNode 23) 7 5 7, by decide +kernel⟩,
    ⟨withFlits (regionNode 23) 6 7 [flit opStrm (regionNode 23) 7 5 7] (fabricAt .evaluating []), 23, 7,
      flit opStrm (regionNode 23) 7 5 7, by decide +kernel⟩,
    ⟨((fabricAt .evaluating (oneAt 5 7 513)).setFld (Reg.NIP_CFG_RXMODE 23 7) 2).setNip 23 7 { State.reset.nip 23 7 with token := true },
      23, 7, by decide +kernel⟩,
    ⟨((fabricAt .nullWave []).setFld (Reg.NIP_CFG_RXMODE 23 7) 2).setNip 23 7 { State.reset.nip 23 7 with rxacked := true },
      23, 7, by decide +kernel⟩⟩

theorem met_queue_commands_complete :
    (∃ (s : State) (q : Nat) (w : Nat), q < 1024 ∧ w < 4 ∧ s.qstate q = qDisabled) ∧
    (∃ (s : State) (q : Nat) (w : Nat), q < 1024 ∧ w < 4 ∧ s.qstate q ≠ qDisabled) ∧
    (∃ (s : State) (q : Nat), q < 1024 ∧ s.qstate q = qDisabled ∧ s.enableCode q = .ok) ∧
    (∃ (s : State) (q : Nat), q < 1024 ∧ s.qstate q = qDisabled ∧ s.enableCode q ≠ .ok) ∧
    (∃ (s : State) (q : Nat), q < 1024 ∧ s.qstate q = qActive ∧ (s.closePacket q true).qstate q ≠ qBroken) ∧
    (∃ (s : State) (q : Nat), q < 1024 ∧ s.qstate q = qActive ∧ (s.closePacket q true).qstate q = qBroken) ∧
    (∃ (s : State) (q : Nat), q < 1024 ∧ s.qstate q ≠ qActive) ∧
    (∃ (s : State) (q : Nat) (n : BitVec 15), q < 1024 ∧ s.qstate q ≠ qBroken ∧ n.toNat ≠ 0 ∧ n.toNat ≤ 16384 ∧
      s.qfld q Reg.QM_QRP_POS + n.toNat ≤ s.qfld q Reg.QM_QCOMMIT_POS) ∧
    (∃ (s : State) (q : Nat) (n : BitVec 15), q < 1024 ∧ s.qstate q ≠ qBroken ∧
      (n.toNat = 0 ∨ 16384 < n.toNat ∨ s.qfld q Reg.QM_QCOMMIT_POS < s.qfld q Reg.QM_QRP_POS + n.toNat)) ∧
    (∃ (s : State) (q : Nat), q < 1024 ∧ s.qstate q ≠ qBroken ∧ s.qon q Reg.QM_QSTAT_MARKV = true) ∧
    (∃ (s : State) (q : Nat), q < 1024 ∧ s.qon q Reg.QM_QSTAT_MARKV = false) ∧
    (∃ (s : State) (q : Nat), q < 1024 ∧ s.qstate q = qActive) ∧
    (∃ (s : State) (q : Nat), q < 1024 ∧ s.qstate q = qDisabled) ∧
    (∃ (s : State) (q : Nat), q < 1024 ∧ s.qstate q = qBroken) := ⟨
    ⟨(State.reset.setQfld 1023 Reg.QM_QSTAT_STATE qDisabled), 1023, 0, by decide +kernel⟩,
    ⟨(State.reset.setQfld 1023 Reg.QM_QSTAT_STATE qActive), 1023, 3, by decide +kernel⟩,
    ⟨((State.reset.setQfld 1023 Reg.QM_QSTAT_STATE qDisabled).setQfld 1023 Reg.QM_QDESC0_PROD 1 |>.setQfld 1023 Reg.QM_QDESC1_MAX_CELLS 8 |>.setQfld 1023 Reg.QM_QDESC2_CWIN 31),
      1023, by decide +kernel⟩,
    ⟨((State.reset.setQfld 1023 Reg.QM_QSTAT_STATE qDisabled).setQfld 1023 Reg.QM_QDESC1_MAX_CELLS 8), 1023, by decide +kernel⟩,
    ⟨((State.reset.setQfld 1023 Reg.QM_QSTAT_STATE qActive).setQfld 1023 Reg.QM_QDESC0_PROD 1 |>.setQfld 1023 Reg.QM_QDESC1_MAX_CELLS 8 |>.setQfld 1023 Reg.QM_QDESC2_CWIN 31),
      1023, by decide +kernel⟩,
    ⟨((((State.reset.setBit (Reg.QM_ECCSTAT_LINK_UE 3) true).setBit (Reg.QM_ECCSTAT_UE 3) true).setQfld 1023 Reg.QM_QSTAT_STATE qActive).setQueue 1023 { State.reset.queue 1023 with cells := [(0, ⟨0, []⟩)], pkt := some ⟨0, 5, 0, false, some 0⟩ }).setMark (poolLink 3 0) 2,
      1023, by decide +kernel⟩,
    ⟨State.reset, 1023, by decide +kernel⟩,
    ⟨(State.reset.setQfld 1023 Reg.QM_QCOMMIT_POS 16384), 1023, 16384, by decide +kernel⟩,
    ⟨State.reset, 1023, 16385, by decide +kernel⟩,
    ⟨(State.reset.setQbit 1023 Reg.QM_QSTAT_MARKV true), 1023, by decide +kernel⟩,
    ⟨State.reset, 1023, by decide +kernel⟩,
    ⟨(State.reset.setQfld 1023 Reg.QM_QSTAT_STATE qActive), 1023, by decide +kernel⟩,
    ⟨(State.reset.setQfld 1023 Reg.QM_QSTAT_STATE qDisabled), 1023, by decide +kernel⟩,
    ⟨(State.reset.setQfld 1023 Reg.QM_QSTAT_STATE qBroken), 1023, by decide +kernel⟩⟩

theorem met_queue_data_complete :
    (∃ (s : State) (h : Nat) (vc : Nat) (d : Nat) (f : Flit) (fs : List Flit), h < 4 ∧
      niFront (shardNode h) (s.vcIn (shardNode h) 6 vc).q = .packet (f :: fs) ∧ f.opc = opCap ∧
      (f :: fs).any (·.poison) = false ∧
      (let t := s.niPop (shardNode h) 0 vc (fs.length + 1); (let b := packetBody (f :: fs); (let q := bitsOf b 0 10; f.blen = 7 + d ∧
      d ≠ 0 ∧ d ≤ 248 ∧ bitsOf b 13 3 = 0 ∧ hasBit b 12 = false ∧ (hasBit b 11 || d % 8 == 0) = true ∧ q / 256 = h ∧
      f.rid = t.qfld q Reg.QM_QDESC0_PROD ∧ t.qstate q = qActive)))) ∧
    (∃ (s : State) (h : Nat) (vc : Nat) (f : Flit) (fs : List Flit), h < 4 ∧
      niFront (shardNode h) (s.vcIn (shardNode h) 6 vc).q = .packet (f :: fs) ∧ f.opc = opCap ∧
      (f :: fs).any (·.poison) = false ∧
      (let t := s.niPop (shardNode h) 0 vc (fs.length + 1); (let b := packetBody (f :: fs); (let q := bitsOf b 0 10; f.blen = 7 ∧
      bitsOf b 10 2 = 0 ∧ hasBit b 12 = true ∧ bitsOf b 13 3 = 0 ∧ q / 256 = h ∧ f.rid = t.qfld q Reg.QM_QDESC0_PROD ∧
      t.qstate q = qActive ∧ t.qfld q Reg.QM_QRXCNT_COUNT ≤ t.qfld q Reg.QM_QLIMIT_LIMIT)))) ∧
    (∃ (s : State) (h : Nat) (vc : Nat) (f : Flit) (fs : List Flit), h < 4 ∧
      niFront (shardNode h) (s.vcIn (shardNode h) 6 vc).q = .packet (f :: fs) ∧ f.opc = opCap ∧
      (f :: fs).any (·.poison) = false ∧
      (let b := packetBody (f :: fs); (let q := bitsOf b 0 10; (q / 256 ≠ h ∨ f.blen < 7 ∨ 255 < f.blen ∨ bitsOf b 13 3 ≠ 0 ∨ (hasBit b 12 = false ∧
      f.blen = 7) ∨ (hasBit b 12 = false ∧ hasBit b 11 = false ∧ (f.blen - 7) % 8 ≠ 0) ∨ (hasBit b 12 = true ∧
      7 < f.blen) ∨ (hasBit b 12 = true ∧ (hasBit b 10 = true ∨ hasBit b 11 = true)))))) ∧
    (∃ (s : State) (h : Nat) (vc : Nat) (d : Nat) (f : Flit) (fs : List Flit), h < 4 ∧
      niFront (shardNode h) (s.vcIn (shardNode h) 6 vc).q = .packet (f :: fs) ∧ f.opc = opCap ∧
      (f :: fs).any (·.poison) = false ∧
      (let t := s.niPop (shardNode h) 0 vc (fs.length + 1); (let b := packetBody (f :: fs); (let q := bitsOf b 0 10; f.blen = 7 + d ∧
      d ≠ 0 ∧ d ≤ 248 ∧ bitsOf b 13 3 = 0 ∧ hasBit b 12 = false ∧ (hasBit b 11 || d % 8 == 0) = true ∧ q / 256 = h ∧
      (f.rid = t.qfld q Reg.QM_QDESC0_PROD → t.qstate q ≠ qActive))))) ∧
    (∃ (s : State) (h : Nat) (vc : Nat) (f : Flit) (fs : List Flit), h < 4 ∧
      niFront (shardNode h) (s.vcIn (shardNode h) 6 vc).q = .packet (f :: fs) ∧ (f :: fs).any (·.poison) = true ∧ f.opc = opCap) ∧
    (∃ (s : State) (h : Nat) (vc : Nat) (f : Flit) (fs : List Flit), h < 4 ∧
      niFront (shardNode h) (s.vcIn (shardNode h) 6 vc).q = .packet (f :: fs) ∧ (f :: fs).any (·.poison) = true ∧
      f.opc = opWr ∧ 0x100000 ≤ packetBody (f :: fs) % 2 ^ 48 ∧ packetBody (f :: fs) % 2 ^ 48 < 0x200000) ∧
    (∃ (s : State) (h : Nat) (vc : Nat) (f : Flit) (fs : List Flit), h < 4 ∧
      niFront (shardNode h) (s.vcIn (shardNode h) 6 vc).q = .packet (f :: fs) ∧ f.opc = opWr ∧
      (f :: fs).any (·.poison) = false ∧ (let b := packetBody (f :: fs); (let a := b % 2 ^ 48; 0x100000 ≤ a ∧ a < 0x200000))) ∧
    (∃ (s : State) (q : Nat) (m : Notice) (l : List Notice), (s.queue q).notes = m :: l ∧
      (let h := q / 256; (let prod := s.fld (Reg.QM_NPROD_COUNT h); (prod + 2 ^ 32 - s.fld (Reg.QM_NCONS_COUNT h)) % 2 ^ 32 ≠ 4096))) ∧
    (∃ (s : State) (q : Nat) (m : Notice) (l : List Notice), (s.queue q).notes = m :: l ∧
      (let h := q / 256; (s.fld (Reg.QM_NPROD_COUNT h) + 2 ^ 32 - s.fld (Reg.QM_NCONS_COUNT h)) % 2 ^ 32 = 4096)) ∧
    (∃ (s : State) (q : Nat) (limit : Nat), q < 1024 ∧ s.qstate q = qActive ∧ s.qfld q Reg.QM_QLIMIT_LIMIT ≤ limit ∧
      limit ≤ max (s.qfld q Reg.QM_QLIMIT_LIMIT) (s.creditMax q)) ∧
    (∃ (s : State) (h : Nat) (value : BitVec 32), h < 4 ∧
      (let prod := s.fld (Reg.QM_NPROD_COUNT h); (let old := s.fld (Reg.QM_NCONS_COUNT h); (value.toNat + 2 ^ 32 - old) % 2 ^ 32 ≤ (prod + 2 ^ 32 - old) % 2 ^ 32))) ∧
    (∃ (s : State) (h : Nat) (value : BitVec 32), h < 4 ∧
      (let prod := s.fld (Reg.QM_NPROD_COUNT h); (let old := s.fld (Reg.QM_NCONS_COUNT h); (prod + 2 ^ 32 - old) % 2 ^ 32 < (value.toNat + 2 ^ 32 - old) % 2 ^ 32))) ∧
    (∃ (s : State) (req : Nat) (q : Nat) (off : Nat) (n : Nat), q < 1024 ∧ off + n ≤ 0x100000 ∧
      (s.shard (q / 256)).parked.any (fun p => p.req == req) = false ∧
      (let rp := s.qfld q Reg.QM_QRP_POS; s.qstate q ≠ qBroken ∧ s.onChip q (portWords rp off n ++ portTags rp off n) = true)) ∧
    (∃ (s : State) (req : Nat) (q : Nat) (off : Nat) (n : Nat), q < 1024 ∧ off + n ≤ 0x100000 ∧
      (s.shard (q / 256)).parked.any (fun p => p.req == req) = false ∧ s.qstate q = qBroken) ∧
    (∃ (s : State) (req : Nat) (q : Nat) (off : Nat) (n : Nat), q < 1024 ∧ off + n ≤ 0x100000 ∧
      (let rp := s.qfld q Reg.QM_QRP_POS; (let x := s.shard (q / 256); (x.parked.any (fun p => p.req == req) = true ∨ (s.qstate q ≠ qBroken ∧
      s.onChip q (portWords rp off n ++ portTags rp off n) = false))))) ∧
    (∃ (s : State) (a : Nat) (n : Nat) (h : Nat), a + n ≤ 2 ^ 35 ∧ n ≠ 0 ∧ s.on (Reg.QM_APCTL_EN 0) = true ∧
      (let page := s.fld (Reg.QM_APCTL_BASE 0) * 2 ^ 23 + a / 4096; s.pageShard page = some h ∧ s.pageUsable h page = true)) ∧
    (∃ (s : State) (a : Nat) (n : Nat), a + n ≤ 2 ^ 35 ∧ a % 4096 + n ≤ 4096 ∧ s.on (Reg.QM_APCTL_EN 0) = false) ∧
    (∃ (s : State) (a : Nat) (n : Nat), a + n ≤ 2 ^ 35 ∧ n ≠ 0 ∧ a % 4096 + n ≤ 4096 ∧
      (let page := s.fld (Reg.QM_APCTL_BASE 0) * 2 ^ 23 + a / 4096; (s.pageShard page = none ∨ ∃ h, s.pageShard page = some h ∧
      s.pageUsable h page = false))) ∧
    (∃ (s : State) (q : Nat), q < 1024 ∧ s.qon q Reg.QM_QSTAT_EXH = true) := ⟨
    ⟨withFlits 39 6 7 [flit opCap 39 15 (1023 + 2 ^ 11)] (((State.reset.setQfld 1023 Reg.QM_QSTAT_STATE qActive).setQfld 1023 Reg.QM_QDESC0_PROD 1).setQfld 1023 Reg.QM_QLIMIT_LIMIT 1),
      3, 7, 8, flit opCap 39 15 (1023 + 2 ^ 11), [], by decide +kernel⟩,
    ⟨withFlits 39 6 7 [flit opCap 39 7 (1023 + 2 ^ 12)] (((State.reset.setQfld 1023 Reg.QM_QSTAT_STATE qActive).setQfld 1023 Reg.QM_QDESC0_PROD 1).setQfld 1023 Reg.QM_QLIMIT_LIMIT 1),
      3, 7, flit opCap 39 7 (1023 + 2 ^ 12), [], by decide +kernel⟩,
    ⟨withFlits 39 6 7 [flit opCap 39 7 (1023 + 2 ^ 12 + 2 ^ 13)], 3, 7, flit opCap 39 7 (1023 + 2 ^ 12 + 2 ^ 13), [],
      by decide +kernel⟩,
    ⟨withFlits 39 6 7 [flit opCap 39 15 (1023 + 2 ^ 11)] (((State.reset.setQfld 1023 Reg.QM_QSTAT_STATE qActive).setQfld 1023 Reg.QM_QDESC0_PROD 2).setQfld 1023 Reg.QM_QLIMIT_LIMIT 1),
      3, 7, 8, flit opCap 39 15 (1023 + 2 ^ 11), [], by decide +kernel⟩,
    ⟨withFlits 39 6 7 [Flit.seal { flit opCap 39 15 (1023 + 2 ^ 11) with poison := true }], 3, 7,
      (Flit.seal { flit opCap 39 15 (1023 + 2 ^ 11) with poison := true }), [], by decide +kernel⟩,
    ⟨withFlits 39 6 7 [Flit.seal { flit opWr 39 0 (0x1FFFFF + 5 * 2 ^ 64) with poison := true }], 3, 7,
      (Flit.seal { flit opWr 39 0 (0x1FFFFF + 5 * 2 ^ 64) with poison := true }), [], by decide +kernel⟩,
    ⟨withFlits 39 6 7 [flit opWr 39 0 (0x1FFFFF + 5 * 2 ^ 64)], 3, 7, flit opWr 39 0 (0x1FFFFF + 5 * 2 ^ 64), [],
      by decide +kernel⟩,
    ⟨State.reset.setQueue 1023 { State.reset.queue 1023 with notes := [⟨1, 2, 3, 4⟩] }, 1023, ⟨1, 2, 3, 4⟩, [],
      by decide +kernel⟩,
    ⟨(State.reset.setFld (Reg.QM_NPROD_COUNT 3) 4096).setQueue 1023 { State.reset.queue 1023 with notes := [⟨1, 2, 3, 4⟩] },
      1023, ⟨1, 2, 3, 4⟩, [], by decide +kernel⟩,
    ⟨(State.reset.setQfld 1023 Reg.QM_QSTAT_STATE qActive), 1023, 0, by decide +kernel⟩,
    ⟨State.reset, 3, 0, by decide +kernel⟩,
    ⟨State.reset, 3, 1, by decide +kernel⟩,
    ⟨State.reset, 0, 1023, 0, 0, by decide +kernel⟩,
    ⟨(State.reset.setQfld 1023 Reg.QM_QSTAT_STATE qBroken), 0, 1023, 0, 0, by decide +kernel⟩,
    ⟨State.reset.setShard 3 { State.reset.shard 3 with parked := [⟨0, none, 1023, 0, 0, 8⟩] }, 0, 1023, 0, 0, by decide +kernel⟩,
    ⟨((State.reset.setBit (Reg.QM_APCTL_EN 0) true).setFld (Reg.QM_PGCNT_COUNT 3) 1 |>.setBit (Reg.QM_STMAP_EN 3 0) true), 0,
      8, 3, by decide +kernel⟩,
    ⟨(State.reset.setBit (Reg.QM_APCTL_EN 0) false), 0, 0, by decide +kernel⟩,
    ⟨State.reset, 0, 8, by decide +kernel⟩,
    ⟨(State.reset.setQbit 1023 Reg.QM_QSTAT_EXH true), 1023, by decide +kernel⟩⟩

theorem met_store_and_capture_complete :
    (∃ (s : State) (q : Nat) (first : Nat) (page : Nat) (bad : List Bool) (rest : List Bool), q < 1024 ∧
      s.pageAvailable q = true ∧ s.spillGroup q = some first ∧
      (let c := s.checkLinks q ((List.range 16).map (first + ·)); c.2 = false ∧ (c.1.spillPage q bad).2 = (some page, rest))) ∧
    (∃ (s : State) (q : Nat) (first : Nat), q < 1024 ∧ s.pageAvailable q = true ∧ s.spillGroup q = some first ∧
      (let c := s.checkLinks q ((List.range 16).map (first + ·)); c.2 = true)) ∧
    (∃ (s : State) (q : Nat) (first : Nat) (bad : List Bool), q < 1024 ∧ s.pageAvailable q = true ∧
      s.spillGroup q = some first ∧ (let c := s.checkLinks q ((List.range 16).map (first + ·)); c.2 = false ∧
      (c.1.spillPage q bad).2.1 = none)) ∧
    (∃ (s : State) (q : Nat) (j : QJob), (s.queue q).spill = some j ∧ (Tbl.find? j.done 0).isSome = true ∧
      (Tbl.find? j.done 1).isSome = true ∧ (Tbl.find? j.done 2).isSome = true) ∧
    (∃ (s : State) (q : Nat) (p : QPage), q < 1024 ∧ s.qstate q ≠ qBroken ∧ s.refillWanted q = some p) ∧
    (∃ (s : State) (t : State) (q : Nat) (data : Nat) (lo : Nat) (hi : Nat) (j : QJob), (s.queue q).refill = some j ∧
      Tbl.find? j.done 0 = some (some data) ∧ Tbl.find? j.done 1 = some (some lo) ∧ Tbl.find? j.done 2 = some (some hi) ∧
      (let record := lo % 2 ^ 512 + hi * 2 ^ 512; recordOk record = true ∧ s.takeGroup q j.first 16 = some t)) ∧
    (∃ (s : State) (q : Nat) (data : Nat) (lo : Nat) (hi : Nat) (j : QJob), (s.queue q).refill = some j ∧
      Tbl.find? j.done 0 = some (some data) ∧ Tbl.find? j.done 1 = some (some lo) ∧ Tbl.find? j.done 2 = some (some hi) ∧
      recordOk (lo % 2 ^ 512 + hi * 2 ^ 512) = false) ∧
    (∃ (s : State) (t : StoreTx), s.store = [t] ∧ t.stage = .delay) ∧
    (∃ (s : State) (h : Nat), h < 4 ∧ s.pagesUsed h ≠ 0) ∧
    (∃ (s : State) (h : Nat), h < 4 ∧ s.pagesUsed h = 0 ∧ s.fld (Reg.QM_PGCNT_COUNT h) = 0) ∧
    (∃ (s : State) (h : Nat) (value : BitVec 64), h < 4 ∧ s.pagesUsed h = 0 ∧
      2 ^ 33 < s.fld (Reg.QM_PGBASE_PAGE h) + value.toNat % 2 ^ 34) ∧
    (∃ (s : State) (h : Nat), h < 4 ∧ (s.shard h).reclaim = none) ∧
    (∃ (s : State) (h : Nat) (l : List Nat), h < 4 ∧ (s.shard h).reclaim = some l) ∧
    (∃ (s : State) (r : Nat) (i : Nat), s.fabricOn r = true ∧ i < 8 ∧ s.cqpWMode r i = 2 ∧
      2 ≤ s.fld (Reg.REG_STATUS_PAVANE r) ∧ (s.cqp r i).wack = false ∧ s.destValid r 6 i 0 68 = true ∧ (s.cqp r i).words < 32) ∧
    (∃ (s : State) (r : Nat) (i : Nat) (code : Nat) (tick : Nat) (l : List CapItem), validRegion r = true ∧ i < 8 ∧
      s.cqpWMode r i ≠ 0 ∧ (s.cqp r i).wbuf = .marker code tick :: l ∧
      (s.capCredit (s.fld (Reg.CQP_CFG_WQ r i))).resync = false) ∧
    (∃ (s : State) (t : State) (r : Nat) (i : Nat) (rest : List CapItem), validRegion r = true ∧ i < 8 ∧ s.cqpWMode r i ≠ 0 ∧
      (let q := s.fld (Reg.CQP_CFG_WQ r i); (let x := s.cqp r i; s.sendSegment (regionNode r) (56 + q / 256) capturePri (0x20 + r) q x.wbuf false = (t,
      rest) ∧ rest.length < x.wbuf.length))) ∧
    (∃ (s : State) (r : Nat) (i : Nat), validRegion r = true ∧ i < 8 ∧ s.cqpReads r i ≠ 0 ∧ (s.cqp r i).cmds = [] ∧
      (s.cqp r i).pair = none ∧ (s.cqp r i).rbuf.length < 4) ∧
    (∃ (s : State) (r : Nat) (i : Nat) (tag : Nat) (d : NetDone), validRegion r = true ∧ i < 8 ∧ s.net.done = [d] ∧
      d.node = regionNode r ∧ d.rid = 0x20 + r ∧ d.ref = 2 * i + 1 ∧ d.code = .ok ∧ (s.cqp r i).pair = some ⟨some tag, none,
      false⟩ ∧ hasBit tag 10 = true) ∧
    (∃ (s : State) (r : Nat) (i : Nat), s.fabricOn r = true ∧ i < 8 ∧ s.cqpReads r i = 2 ∧ (s.cqp r i).token = true ∧
      (s.dest r 6 i 69).rail = .one) ∧
    (∃ (s : State) (r : Nat) (i : Nat), s.fabricOn r = true ∧ i < 8 ∧ s.cqpReads r i = 2 ∧ (s.cqp r i).token = false ∧
      (s.cqp r i).racked = true ∧ (s.dest r 6 i 69).rail = .null) := ⟨
    ⟨storeAt, 1023, (storeAt.spillGroup 1023).get (by decide +kernel), 6, [], [], by decide +kernel⟩,
    ⟨((storeAt.setBit (Reg.QM_ECCSTAT_LINK_UE 3) true).setBit (Reg.QM_ECCSTAT_UE 3) true).setMark (poolLink 3 ((storeAt.spillGroup 1023).get (by decide +kernel))) 2,
      1023, (storeAt.spillGroup 1023).get (by decide +kernel), by decide +kernel⟩,
    ⟨storeAt.setQueue 1023 { storeAt.queue 1023 with succ := none }, 1023, (storeAt.spillGroup 1023).get (by decide +kernel),
      [true], by decide +kernel⟩,
    ⟨State.reset.setQueue 1023 { State.reset.queue 1023 with spill := some ⟨5, 0, [(0, none), (1, none), (2, none)]⟩ }, 1023,
      ⟨5, 0, [(0, none), (1, none), (2, none)]⟩, by decide +kernel⟩,
    ⟨State.reset.setQueue 1023 { State.reset.queue 1023 with pages := [⟨5, 16, []⟩] }, 1023, ⟨5, 16, []⟩, by decide +kernel⟩,
    ⟨((State.reset.setQfld 1023 Reg.QM_QDESC1_MIN_CELLS 16).setQueue 1023 { State.reset.queue 1023 with refill := some ⟨5, 0, [(0, some 9), (1, some 0), (2, some (crc32c 0 124 * 2 ^ 480))]⟩ }),
      (((State.reset.setQfld 1023 Reg.QM_QDESC1_MIN_CELLS 16).setQueue 1023 { State.reset.queue 1023 with refill := some ⟨5, 0, [(0, some 9), (1, some 0), (2, some (crc32c 0 124 * 2 ^ 480))]⟩ }).takeGroup 1023 0 16).get (by decide +kernel),
      1023, 9, 0, crc32c 0 124 * 2 ^ 480, ⟨5, 0, [(0, some 9), (1, some 0), (2, some (crc32c 0 124 * 2 ^ 480))]⟩,
      ⟨by decide +kernel, by decide +kernel, by decide +kernel, by decide +kernel, by decide +kernel, (Option.some_get _).symm⟩⟩,
    ⟨State.reset.setQueue 1023 { State.reset.queue 1023 with refill := some ⟨5, 0, [(0, some 9), (1, some 1), (2, some 0)]⟩ },
      1023, 9, 1, 0, ⟨5, 0, [(0, some 9), (1, some 1), (2, some 0)]⟩, by decide +kernel⟩,
    ⟨{ State.reset with store := [⟨0, 3, .free, 5, .rd64, 0, 0, 0, .delay⟩] }, ⟨0, 3, .free, 5, .rd64, 0, 0, 0, .delay⟩,
      by decide +kernel⟩,
    ⟨State.reset.setQueue 1023 { State.reset.queue 1023 with pages := [⟨5, 16, []⟩] }, 3, by decide +kernel⟩,
    ⟨(State.reset.setFld (Reg.QM_PGCNT_COUNT 3) 0), 3, by decide +kernel⟩,
    ⟨State.reset, 3, 2^33+1, by decide +kernel⟩,
    ⟨(State.reset.setShard 3 { (State.reset.shard 3) with reclaim := none }), 3, by decide +kernel⟩,
    ⟨(State.reset.setShard 3 { (State.reset.shard 3) with reclaim := some ([]) }), 3, [], by decide +kernel⟩,
    ⟨(fabricAt .evaluating []).setFld (Reg.CQP_CFG_WMODE 23 7) 2, 23, 7, ⟨by decide +kernel, by decide +kernel,
      by decide +kernel, by decide +kernel, by decide +kernel, State.destValid_blank ⟨rfl, rfl⟩ rfl rfl 6 7 0 68,
      by decide +kernel⟩⟩,
    ⟨(((State.reset.setFld (Reg.CQP_CFG_WMODE 23 7) 1).setFld (Reg.CQP_CFG_WQ 23 7) 1023).setCqp 23 7 { State.reset.cqp 23 7 with wbuf := [.marker 5 9] }).setCapCredit 1023 ⟨0,
      4, false⟩, 23, 7, 5, 9, [], by decide +kernel⟩,
    ⟨((State.reset.setFld (Reg.CQP_CFG_WMODE 23 7) 1).setFld (Reg.CQP_CFG_WQ 23 7) 1023).setCqp 23 7 { State.reset.cqp 23 7 with wbuf := [.marker 5 9] },
      ((((State.reset.setFld (Reg.CQP_CFG_WMODE 23 7) 1).setFld (Reg.CQP_CFG_WQ 23 7) 1023).setCqp 23 7 { State.reset.cqp 23 7 with wbuf := [.marker 5 9] }).sendSegment (regionNode 23) 59 capturePri 0x37 1023 [.marker 5 9] false).1,
      23, 7, [], ⟨by decide +kernel, by decide +kernel, by decide +kernel, pairOf _ _ (by decide +kernel), by decide +kernel⟩⟩,
    ⟨((fabricAt .evaluating (oneAt 6 7 69)).setFld (Reg.CQP_CFG_RMODE 23 7) 2).setCqp 23 7 { State.reset.cqp 23 7 with token := true },
      23, 7, by decide +kernel⟩,
    ⟨(({ State.reset with net := { State.reset.net with done := [⟨regionNode 23, 0x37, 15, .ok, 7⟩] } } : State).setFld (Reg.CQP_CFG_RMODE 23 7) 1).setCqp 23 7 { State.reset.cqp 23 7 with pair := some ⟨some 1024, none, false⟩ },
      23, 7, 1024, ⟨regionNode 23, 0x37, 15, .ok, 7⟩, by decide +kernel⟩,
    ⟨((fabricAt .evaluating (oneAt 6 7 69)).setFld (Reg.CQP_CFG_RMODE 23 7) 2).setCqp 23 7 { State.reset.cqp 23 7 with token := true },
      23, 7, by decide +kernel⟩,
    ⟨((fabricAt .nullWave []).setFld (Reg.CQP_CFG_RMODE 23 7) 2).setCqp 23 7 { State.reset.cqp 23 7 with racked := true }, 23,
      7, by decide +kernel⟩⟩

theorem met_lane_training_completes :
    (∃ (s : State) (n : Nat) (value : BitVec 32), n < 128 ∧ s.laneRole n ≠ 0 ∧
      (let v := withBit value.toNat 0; hasBit v 0 = true ∧ bitsOf v 8 8 ≠ 0 ∧
      (s.portHead n = n → s.dofsTooShort (n / 8) = false) ∧
      (let t := s.wr (Reg.LN_CTL n) (BitVec.ofNat 64 (v % 2 ^ 16 / 2 * 2 % 2 ^ 4 + bitsOf v 8 8 * 2 ^ 8 + bit (s.on (Reg.LN_CTL_EN n)))); t.on (Reg.LN_STATUS_ST_HOLD n) = false))) ∧
    (∃ (s : State) (n : Nat) (value : BitVec 32), n < 128 ∧ s.laneRole n ≠ 0 ∧
      (let v := withBit value.toNat 0; hasBit v 0 = true ∧ bitsOf v 8 8 ≠ 0 ∧
      (s.portHead n = n → s.dofsTooShort (n / 8) = false) ∧
      (let t := s.wr (Reg.LN_CTL n) (BitVec.ofNat 64 (v % 2 ^ 16 / 2 * 2 % 2 ^ 4 + bitsOf v 8 8 * 2 ^ 8 + bit (s.on (Reg.LN_CTL_EN n)))); t.on (Reg.LN_STATUS_ST_HOLD n) = true))) ∧
    (∃ (s : State) (n : Nat) (value : BitVec 32), n < 128 ∧ hasBit (withBit value.toNat 0) 0 = true ∧ s.laneRole n = 0) ∧
    (∃ (s : State) (n : Nat) (value : BitVec 32), n < 128 ∧ hasBit (withBit value.toNat 0) 0 = true ∧ s.laneRole n ≠ 0 ∧
      (bitsOf (withBit value.toNat 0) 8 8 = 0 ∨ (s.portHead n = n ∧ s.dofsTooShort (n / 8) = true))) ∧
    (∃ (s : State) (n : Nat) (value : BitVec 32), n < 128 ∧ (let v := withoutBit value.toNat 0; hasBit v 0 = false ∧
      bitsOf v 8 8 ≠ 0 ∧
      (let t := s.wr (Reg.LN_CTL n) (BitVec.ofNat 64 (v % 2 ^ 16 / 2 * 2 % 2 ^ 4 + bitsOf v 8 8 * 2 ^ 8 + bit (s.on (Reg.LN_CTL_EN n)))); t.on (Reg.LN_STATUS_ST_HOLD n) = false))) ∧
    (∃ (s : State) (n : Nat) (value : BitVec 32), n < 128 ∧ (let v := withoutBit value.toNat 0; hasBit v 0 = false ∧
      bitsOf v 8 8 ≠ 0 ∧
      (let t := s.wr (Reg.LN_CTL n) (BitVec.ofNat 64 (v % 2 ^ 16 / 2 * 2 % 2 ^ 4 + bitsOf v 8 8 * 2 ^ 8 + bit (s.on (Reg.LN_CTL_EN n)))); t.on (Reg.LN_STATUS_ST_HOLD n) = true))) ∧
    (∃ (n : Nat) (value : BitVec 32), n < 128 ∧ hasBit (withoutBit value.toNat 0) 0 = false ∧
      bitsOf (withoutBit value.toNat 0) 8 8 = 0) ∧
    (∃ (s : State) (n : Nat), n < 128 ∧ s.laneState n = lnPwrup) ∧
    (∃ (s : State) (n : Nat), n < 128 ∧ s.laneState n = lnWait ∧ s.portHeld (s.portHead n) = false) ∧
    (∃ (s : State) (n : Nat), n < 128 ∧ (∀ k ∈ s.portLanes (s.portHead n), s.laneState k = lnTrain)) ∧
    (∃ (s : State) (n : Nat) (skew : List (Nat × Nat)), n < 128 ∧ (let h := s.portHead n; (∀ k ∈ s.portLanes h,
      s.laneState k = lnLock ∧ 4 ≤ (s.lane k).good) ∧ s.aligned h = true ∧ (∀ e ∈ skew, e.2 ≤ 200))) ∧
    (∃ (s : State) (n : Nat), n < 128 ∧ (s.laneState n = lnTrain ∨ s.laneState n = lnLock)) ∧
    (∃ (s : State) (n : Nat), n < 128 ∧ s.laneState n = lnUp ∧ 8 ≤ (s.lane n).fails) ∧
    (∃ (s : State) (n : Nat) (ppm : Nat), n < 128 ∧ s.laneState n = lnUp ∧ 10 < ppm) := ⟨
    ⟨(laneAt rolePeer).setFld (Reg.LG_DOFS_D 15) 4096, 127, 0x101, by decide +kernel⟩,
    ⟨((laneAt rolePeer).setFld (Reg.LG_DOFS_D 15) 4096).setBit (Reg.LN_STATUS_ST_HOLD 127) true, 127, 0x101, by decide +kernel⟩,
    ⟨State.reset, 127, 0, by decide +kernel⟩,
    ⟨laneAt rolePeer, 127, 0, by decide +kernel⟩,
    ⟨State.reset, 127, 0x100, by decide +kernel⟩,
    ⟨State.reset.setBit (Reg.LN_STATUS_ST_HOLD 127) true, 127, 0x100, by decide +kernel⟩,
    ⟨127, 0, by decide +kernel⟩,
    ⟨(State.reset.setFld (Reg.LN_STATUS_STATE 127) lnPwrup), 127, by decide +kernel⟩,
    ⟨(State.reset.setFld (Reg.LN_STATUS_STATE 127) lnWait), 127, by decide +kernel⟩,
    ⟨((laneAt rolePeer).setFld (Reg.LN_STATUS_STATE 127) lnTrain).setLane 127 { State.reset.lane 127 with good := 4 }, 127,
      by decide +kernel⟩,
    ⟨((laneAt rolePeer).setFld (Reg.LN_STATUS_STATE 127) lnLock).setLane 127 { State.reset.lane 127 with good := 4 }, 127, [],
      by decide +kernel⟩,
    ⟨State.reset.setFld (Reg.LN_STATUS_STATE 127) lnTrain, 127, by decide +kernel⟩,
    ⟨((State.reset.setFld (Reg.LN_STATUS_STATE 127) lnUp).setLane 127 { State.reset.lane 127 with fails := 8 }), 127,
      by decide +kernel⟩,
    ⟨(State.reset.setFld (Reg.LN_STATUS_STATE 127) lnUp), 127, 11, by decide +kernel⟩⟩

theorem met_lane_commands_complete :
    (∃ (s : State) (n : Nat), n < 128 ∧ s.laneState n = lnLock) ∧
    (∃ (s : State) (n : Nat) (message : Nat) (parity : Nat), n < 128 ∧
      (let w := lineReceive (s.rxMode n) (s.lane n).rxLevel (codewordLevels message parity); (let r := decodeBlocks w.1; s.laneState n = lnUp ∧
      r.isSome = true))) ∧
    (∃ (s : State) (n : Nat) (message : Nat) (parity : Nat), n < 128 ∧
      (let w := lineReceive (s.rxMode n) (s.lane n).rxLevel (codewordLevels message parity); (let r := decodeBlocks w.1; (let blocks := (r.map (·.1)).getD []; (let t := (s.setLane n { s.lane n with rxLevel := w.2, cw := s.codewordNumber n blocks }).codeword n ((r.map (·.2)).getD 16); (let bad := (blocks.filter (fun b => blockKind b == .reserved)).length; (let u := if bad = 0 then t else (t.laneCount n Reg.LN_CTLBAD_COUNT bad).laneErr n 5; (let got := if r.isSome then blocks.map hubBlock else List.replicate 20 .errored; (let h := s.portHead n; (let up := u.setLane n { u.lane n with rxBlocks := (u.lane n).rxBlocks ++ got }; (let v := up.mergeBlocks h ((up.lane n).rxBlocks.length); (let y := v.link h; s.laneState n = lnUp ∧
      r.isSome = false ∧ y.ue < 12)))))))))))) ∧
    (∃ (s : State) (n : Nat) (message : Nat) (parity : Nat), n < 128 ∧
      (let w := lineReceive (s.rxMode n) (s.lane n).rxLevel (codewordLevels message parity); (let r := decodeBlocks w.1; (let blocks := (r.map (·.1)).getD []; (let t := (s.setLane n { s.lane n with rxLevel := w.2, cw := s.codewordNumber n blocks }).codeword n ((r.map (·.2)).getD 16); (let bad := (blocks.filter (fun b => blockKind b == .reserved)).length; (let u := if bad = 0 then t else (t.laneCount n Reg.LN_CTLBAD_COUNT bad).laneErr n 5; (let got := if r.isSome then blocks.map hubBlock else List.replicate 20 .errored; (let h := s.portHead n; (let up := u.setLane n { u.lane n with rxBlocks := (u.lane n).rxBlocks ++ got }; (let v := up.mergeBlocks h ((up.lane n).rxBlocks.length); (let y := v.link h; s.laneState n = lnUp ∧
      r.isSome = false ∧ 12 ≤ y.ue)))))))))))) ∧
    (∃ (s : State) (n : Nat), n < 128 ∧ s.on (Reg.LN_STATUS_ST_HOLD n) = false ∧ s.laneState n = lnUp) ∧
    (∃ (s : State) (n : Nat), n < 128 ∧ s.on (Reg.LN_STATUS_ST_HOLD n) = false ∧
      (s.laneState n = lnWait ∨ s.laneState n = lnTrain ∨ s.laneState n = lnLock)) ∧
    (∃ (s : State) (n : Nat), n < 128 ∧ s.on (Reg.LN_STATUS_ST_HOLD n) = false ∧ s.laneState n = lnDisabled) ∧
    (∃ (s : State) (n : Nat), n < 128 ∧ s.on (Reg.LN_STATUS_ST_HOLD n) = false ∧ s.laneState n = lnOff) ∧
    (∃ (s : State) (n : Nat), n < 128 ∧ s.on (Reg.LN_STATUS_ST_HOLD n) = false ∧ s.laneState n = lnLoop) ∧
    (∃ (s : State) (n : Nat), n < 128 ∧ s.on (Reg.LN_STATUS_ST_HOLD n) = false ∧ s.laneState n = lnUp ∧
      s.on (Reg.LN_EYESTAT_BUSY n) = false) ∧
    (∃ (s : State) (n : Nat), n < 128 ∧ s.on (Reg.LN_STATUS_ST_HOLD n) = false ∧ s.laneState n = lnUp ∧
      s.on (Reg.LN_EYESTAT_BUSY n) = true) ∧
    (∃ (s : State) (n : Nat), n < 128 ∧ s.on (Reg.LN_STATUS_ST_HOLD n) = true) ∧
    (∃ (s : State) (n : Nat), n < 128 ∧ s.on (Reg.LN_EYESTAT_BUSY n) = true ∧ s.laneState n = lnUp) ∧
    (∃ (s : State) (n : Nat), n < 128 ∧ s.on (Reg.LN_EYESTAT_BUSY n) = true ∧ s.laneState n ≠ lnUp) ∧
    (∃ (s : State) (g : Nat) (value : BitVec 32), g < 16 ∧
      Machine.groupOk (value.toNat % 2 ^ 16) (s.fld (Reg.LG_BOND_WIDTH g)) (s.fld (Reg.LG_PEER_PP g)) (s.otherPeers g) = true ∧
      (∀ i < 8, s.laneState (8 * g + i) = lnOff ∨ s.laneState (8 * g + i) = lnDisabled)) ∧
    (∃ (s : State) (g : Nat) (value : BitVec 32), g < 16 ∧
      Machine.groupOk (s.fld (Reg.LG_ROLE_ROLE g)) (value.toNat % 2 ^ 16) (s.fld (Reg.LG_PEER_PP g)) (s.otherPeers g) = true ∧
      (∀ i < 8, s.laneState (8 * g + i) = lnOff ∨ s.laneState (8 * g + i) = lnDisabled)) ∧
    (∃ (s : State) (g : Nat) (value : BitVec 32), g < 16 ∧
      Machine.groupOk (s.fld (Reg.LG_ROLE_ROLE g)) (s.fld (Reg.LG_BOND_WIDTH g)) (value.toNat % 2 ^ 24) (s.otherPeers g) = true ∧
      (∀ i < 8, s.laneState (8 * g + i) = lnOff ∨ s.laneState (8 * g + i) = lnDisabled)) ∧
    (∃ (s : State) (g : Nat) (value : BitVec 32), g < 16 ∧
      Machine.groupOk (s.fld (Reg.LG_ROLE_ROLE g)) (value.toNat % 2 ^ 16) (s.fld (Reg.LG_PEER_PP g)) (s.otherPeers g) = false) ∧
    (∃ (s : State) (g : Nat) (i : Nat) (value : BitVec 32), g < 16 ∧ i ∈ s.groupChanges g 0 value.toNat ∧
      s.laneState (8 * g + i) ≠ lnOff ∧ s.laneState (8 * g + i) ≠ lnDisabled) ∧
    (∃ (s : State) (g : Nat), g < 16 ∧ s.on Reg.TICK_CTL_RUN = false) ∧
    (∃ (s : State) (g : Nat), g < 16 ∧ s.on Reg.TICK_CTL_RUN = true) ∧
    (∃ (s : State) (n : Nat), n < 128 ∧ s.laneState n = lnLoop) := ⟨
    ⟨(State.reset.setFld (Reg.LN_STATUS_STATE 127) lnLock), 127, by decide +kernel⟩,
    ⟨nrzAt 0, 127, 0, 0, by simp only [zero_line]; exact ⟨by decide, by decide +kernel, zero_decode⟩⟩,
    ⟨nrzAt 0, 127, 0, badParity, by simp only [badLevels_line, badLevels_decode]; decide +kernel⟩,
    ⟨nrzAt 12, 127, 0, badParity, by simp only [badLevels_line, badLevels_decode]; decide +kernel⟩,
    ⟨((State.reset.setBit (Reg.LN_STATUS_ST_HOLD 127) false).setFld (Reg.LN_STATUS_STATE 127) lnUp), 127, by decide +kernel⟩,
    ⟨State.reset.setFld (Reg.LN_STATUS_STATE 127) lnWait, 127, by decide +kernel⟩,
    ⟨((State.reset.setBit (Reg.LN_STATUS_ST_HOLD 127) false).setFld (Reg.LN_STATUS_STATE 127) lnDisabled), 127,
      by decide +kernel⟩,
    ⟨((State.reset.setBit (Reg.LN_STATUS_ST_HOLD 127) false).setFld (Reg.LN_STATUS_STATE 127) lnOff), 127, by decide +kernel⟩,
    ⟨((State.reset.setBit (Reg.LN_STATUS_ST_HOLD 127) false).setFld (Reg.LN_STATUS_STATE 127) lnLoop), 127, by decide +kernel⟩,
    ⟨(((State.reset.setBit (Reg.LN_STATUS_ST_HOLD 127) false).setFld (Reg.LN_STATUS_STATE 127) lnUp).setBit (Reg.LN_EYESTAT_BUSY 127) false),
      127, by decide +kernel⟩,
    ⟨(((State.reset.setBit (Reg.LN_STATUS_ST_HOLD 127) false).setFld (Reg.LN_STATUS_STATE 127) lnUp).setBit (Reg.LN_EYESTAT_BUSY 127) true),
      127, by decide +kernel⟩,
    ⟨(State.reset.setBit (Reg.LN_STATUS_ST_HOLD 127) true), 127, by decide +kernel⟩,
    ⟨((State.reset.setBit (Reg.LN_EYESTAT_BUSY 127) true).setFld (Reg.LN_STATUS_STATE 127) lnUp), 127, by decide +kernel⟩,
    ⟨(State.reset.setBit (Reg.LN_EYESTAT_BUSY 127) true), 127, by decide +kernel⟩,
    ⟨State.reset, 15, 0, by decide +kernel⟩,
    ⟨State.reset, 15, 0, by decide +kernel⟩,
    ⟨State.reset, 15, 0, by decide +kernel⟩,
    ⟨State.reset, 15, 1, by decide +kernel⟩,
    ⟨State.reset.setFld (Reg.LN_STATUS_STATE 120) lnUp, 15, 0, 1, by decide +kernel⟩,
    ⟨(State.reset.setBit Reg.TICK_CTL_RUN false), 15, by decide +kernel⟩,
    ⟨(State.reset.setBit Reg.TICK_CTL_RUN true), 15, by decide +kernel⟩,
    ⟨(State.reset.setFld (Reg.LN_STATUS_STATE 127) lnLoop), 127, by decide +kernel⟩⟩

theorem met_link_events_complete :
    (∃ (s : State) (n : Nat) (len : Nat) (v : Nat) (errored : Bool) (cut : Bool) (room : Bool), s.linkSync n = true ∧
      s.nextIs n len v errored cut room = false) ∧
    (∃ (s : State) (n : Nat), s.linkSync n = true ∧
      (let u := skipFill (s.link n).rx (s.link n).rxPos; gather u.1 u.2 16 = none)) ∧
    (∃ (s : State) (n : Nat) (g : Gather), s.linkSync n = true ∧
      (let u := skipFill (s.link n).rx (s.link n).rxPos; gather u.1 u.2 16 = some g ∧ g.errored = true)) ∧
    (∃ (s : State) (n : Nat) (g : Gather), s.linkSync n = true ∧
      (let u := skipFill (s.link n).rx (s.link n).rxPos; gather u.1 u.2 16 = some g ∧ g.errored = false ∧ g.cut = true)) ∧
    (∃ (s : State) (n : Nat) (g : Gather), s.linkSync n = true ∧
      (let u := skipFill (s.link n).rx (s.link n).rxPos; gather u.1 u.2 16 = some g ∧ (let p : LinkPkt := ⟨16,
      g.v⟩; g.errored = false ∧ g.cut = false ∧ hcrcOk p = false))) ∧
    (∃ (s : State) (n : Nat) (g : Gather), s.linkSync n = true ∧
      (let u := skipFill (s.link n).rx (s.link n).rxPos; gather u.1 u.2 16 = some g ∧ (let p : LinkPkt := ⟨16,
      g.v⟩; g.errored = false ∧ g.cut = false ∧ hcrcOk p = true ∧ p.lenOk = false))) ∧
    (∃ (s : State) (n : Nat) (g : Gather), s.linkSync n = true ∧
      (let u := skipFill (s.link n).rx (s.link n).rxPos; gather u.1 u.2 16 = some g ∧ (let p : LinkPkt := ⟨16,
      g.v⟩; g.errored = false ∧ g.cut = false ∧ hcrcOk p = true ∧ p.lenOk = true ∧ gather u.1 u.2 p.total = none))) ∧
    (∃ (s : State) (n : Nat) (g : Gather) (w : Gather), s.linkSync n = true ∧
      (let u := skipFill (s.link n).rx (s.link n).rxPos; gather u.1 u.2 16 = some g ∧ g.errored = false ∧ g.cut = false ∧
      hcrcOk ⟨16, g.v⟩ = true ∧ LinkPkt.lenOk ⟨16, g.v⟩ = true ∧ gather u.1 u.2 (LinkPkt.total ⟨16, g.v⟩) = some w ∧
      w.errored = true)) ∧
    (∃ (s : State) (n : Nat) (g : Gather) (w : Gather), s.linkSync n = true ∧
      (let u := skipFill (s.link n).rx (s.link n).rxPos; gather u.1 u.2 16 = some g ∧ g.errored = false ∧ g.cut = false ∧
      hcrcOk ⟨16, g.v⟩ = true ∧ LinkPkt.lenOk ⟨16, g.v⟩ = true ∧ gather u.1 u.2 (LinkPkt.total ⟨16, g.v⟩) = some w ∧
      w.errored = false ∧ w.cut = true)) ∧
    (∃ (s : State) (n : Nat) (g : Gather) (w : Gather), s.linkSync n = true ∧
      (let u := skipFill (s.link n).rx (s.link n).rxPos; (let r := (s.setRx n u).setRx n (w.rest,
      w.pos); (let q : LinkPkt := ⟨LinkPkt.total ⟨16, g.v⟩, w.v⟩; gather u.1 u.2 16 = some g ∧ g.errored = false ∧
      g.cut = false ∧ hcrcOk ⟨16, g.v⟩ = true ∧ LinkPkt.lenOk ⟨16, g.v⟩ = true ∧ gather u.1 u.2 (LinkPkt.total ⟨16,
      g.v⟩) = some w ∧ w.errored = false ∧ w.cut = false ∧ typeAllowed (r.laneRole n) q.type = false)))) ∧
    (∃ (s : State) (n : Nat) (g : Gather) (w : Gather), s.linkSync n = true ∧
      (let u := skipFill (s.link n).rx (s.link n).rxPos; (let r := (s.setRx n u).setRx n (w.rest,
      w.pos); (let q : LinkPkt := ⟨LinkPkt.total ⟨16, g.v⟩, w.v⟩; gather u.1 u.2 16 = some g ∧ g.errored = false ∧
      g.cut = false ∧ hcrcOk ⟨16, g.v⟩ = true ∧ LinkPkt.lenOk ⟨16, g.v⟩ = true ∧ gather u.1 u.2 (LinkPkt.total ⟨16,
      g.v⟩) = some w ∧ w.errored = false ∧ w.cut = false ∧ typeAllowed (r.laneRole n) q.type = true ∧ isControl q.type = true ∧
      q.plen ≠ 0)))) ∧
    (∃ (s : State) (n : Nat) (g : Gather) (w : Gather), s.linkSync n = true ∧
      (let u := skipFill (s.link n).rx (s.link n).rxPos; (let r := (s.setRx n u).setRx n (w.rest,
      w.pos); (let q : LinkPkt := ⟨LinkPkt.total ⟨16, g.v⟩, w.v⟩; gather u.1 u.2 16 = some g ∧ g.errored = false ∧
      g.cut = false ∧ hcrcOk ⟨16, g.v⟩ = true ∧ LinkPkt.lenOk ⟨16, g.v⟩ = true ∧ gather u.1 u.2 (LinkPkt.total ⟨16,
      g.v⟩) = some w ∧ w.errored = false ∧ w.cut = false ∧ typeAllowed (r.laneRole n) q.type = true ∧
      (isControl q.type = true → q.plen = 0) ∧ (let room := w.room || (LinkPkt.type ⟨16,
      g.v⟩ == typCredit && packetAlone u.1 u.2); room = false))))) ∧
    (∃ (s : State) (n : Nat) (g : Gather) (w : Gather), s.linkSync n = true ∧
      (let u := skipFill (s.link n).rx (s.link n).rxPos; (let r := (s.setRx n u).setRx n (w.rest,
      w.pos); (let q : LinkPkt := ⟨LinkPkt.total ⟨16, g.v⟩, w.v⟩; gather u.1 u.2 16 = some g ∧ g.errored = false ∧
      g.cut = false ∧ hcrcOk ⟨16, g.v⟩ = true ∧ LinkPkt.lenOk ⟨16, g.v⟩ = true ∧ gather u.1 u.2 (LinkPkt.total ⟨16,
      g.v⟩) = some w ∧ w.errored = false ∧ w.cut = false ∧ typeAllowed (r.laneRole n) q.type = true ∧
      (isControl q.type = true → q.plen = 0) ∧ (let room := w.room || (LinkPkt.type ⟨16,
      g.v⟩ == typCredit && packetAlone u.1 u.2); room = true ∧ isControl q.type = false ∧ trailerOk q = false))))) ∧
    (∃ (s : State) (n : Nat) (g : Gather) (w : Gather), s.linkSync n = true ∧
      (let u := skipFill (s.link n).rx (s.link n).rxPos; (let r := (s.setRx n u).setRx n (w.rest,
      w.pos); (let q : LinkPkt := ⟨LinkPkt.total ⟨16, g.v⟩, w.v⟩; gather u.1 u.2 16 = some g ∧ g.errored = false ∧
      g.cut = false ∧ hcrcOk ⟨16, g.v⟩ = true ∧ LinkPkt.lenOk ⟨16, g.v⟩ = true ∧ gather u.1 u.2 (LinkPkt.total ⟨16,
      g.v⟩) = some w ∧ w.errored = false ∧ w.cut = false ∧ typeAllowed (r.laneRole n) q.type = true ∧
      (isControl q.type = true → q.plen = 0) ∧ (let room := w.room || (LinkPkt.type ⟨16,
      g.v⟩ == typCredit && packetAlone u.1 u.2); room = true ∧ (isControl q.type = false → trailerOk q = true) ∧
      fieldsOk q (r.laneRole n == rolePeer) = true ∧
      (isStamped q.type = true → (r.link n).lastStamp.elim false (fun l => stampBack l q.stamp) = false ∧
      r.classify n q.stamp ≠ .future)))))) ∧
    (∃ (s : State) (n : Nat), s.linkUpAt n = true ∧ s.inSync n = false) ∧
    (∃ (s : State) (n : Nat) (d : Nat) (p : LinkPkt), n < 128 ∧ (s.link n).held = [(d, p)] ∧ s.tickCome d = true) ∧
    (∃ (s : State) (n : Nat) (pause : Option Nat) (p : LinkPkt) (l : List LinkPkt), s.linkUpAt n = true ∧
      (let t := s.linkPause n pause; (let x := t.link n; x.txq = p :: l ∧ t.expired n p = false ∧
      t.creditCovers n (txBlocks x.txPos p.len) = true ∧ 64 ≤ t.codewordsSent n))) ∧
    (∃ (s : State) (n : Nat) (pause : Option Nat), s.linkUpAt n = true ∧
      (let t := s.linkPause n pause; ((t.link n).txq = [] ∨ t.codewordsSent n < 64 ∨ ∃ p l, (t.link n).txq = p :: l ∧
      (t.expired n p = true ∨ t.creditCovers n (txBlocks (t.link n).txPos p.len) = false)))) ∧
    (∃ (s : State) (n : Nat) (p : LinkPkt), s.linkSync n = true ∧ s.nextPkt n = some p ∧ p.type = typCredit) ∧
    (∃ (s : State) (n : Nat), s.linkUpAt n = true ∧ (let t := s.sendFill n; t.codewordsSent n < 64)) ∧
    (∃ (s : State) (n : Nat), s.linkUpAt n = true ∧ (let t := s.sendFill n; 64 ≤ t.codewordsSent n)) ∧
    (∃ (s : State) (n : Nat) (d : DriveOpen), n < 128 ∧ (s.link n).drive = some d ∧
      s.tickCome ((d.last + s.driveStep n + s.fld (Reg.LN_PIN_CFG2_FGAP n)) % 2 ^ 64) = true) ∧
    (∃ (s : State) (n : Nat) (p : LinkPkt), n < 128 ∧ (s.link n).txq = [p] ∧ s.expired n p = true) ∧
    (∃ (s : State) (n : Nat), n < 128 ∧ s.portHead n = n) := ⟨
    ⟨laneAt rolePin |>.setBit (Reg.LN_IDL_STAT_SYNC 127) true, 127, 16, 0, false, false, false, by decide +kernel⟩,
    ⟨((State.reset.setFld (Reg.LN_STATUS_STATE 0) lnUp).setBit (Reg.LN_IDL_STAT_SYNC 0) true), 0, by decide +kernel⟩,
    ⟨rxAt rolePeer ([⟨.errored, true⟩]), 127, taken ([⟨.errored, true⟩]) 16, by decide +kernel⟩,
    ⟨rxAt rolePeer [⟨.data (typBeacon * 2 ^ 248), true⟩, ⟨.control, true⟩], 127,
      ((gather [⟨.data (typBeacon * 2 ^ 248), true⟩, ⟨.control, true⟩] 31 16).getD ⟨0, false, false, true, [], 0⟩),
      by decide +kernel⟩,
    ⟨rxAt rolePeer (blocksOf typBeacon 1), 127, taken (blocksOf typBeacon 1) 16, by decide +kernel⟩,
    ⟨rxAt rolePeer (blocksOf (header typFwd).v 1), 127, taken (blocksOf (header typFwd).v 1) 16, by decide +kernel⟩,
    ⟨rxAt rolePeer (blocksOf (header (typFwd + 36 * 2 ^ 16)).v 1), 127,
      taken (blocksOf (header (typFwd + 36 * 2 ^ 16)).v 1) 16, by decide +kernel⟩,
    ⟨rxAt rolePeer (blocksOf (header (typFwd + 36 * 2 ^ 16)).v 1 ++ [⟨.errored, true⟩]), 127,
      taken (blocksOf (header (typFwd + 36 * 2 ^ 16)).v 1 ++ [⟨.errored, true⟩]) 16,
      taken (blocksOf (header (typFwd + 36 * 2 ^ 16)).v 1 ++ [⟨.errored, true⟩]) 56, by decide +kernel⟩,
    ⟨rxAt rolePeer (blocksOf (header (typFwd + 36 * 2 ^ 16)).v 1 ++ [⟨.control, true⟩]), 127,
      taken (blocksOf (header (typFwd + 36 * 2 ^ 16)).v 1 ++ [⟨.control, true⟩]) 16,
      taken (blocksOf (header (typFwd + 36 * 2 ^ 16)).v 1 ++ [⟨.control, true⟩]) 56, by decide +kernel⟩,
    ⟨rxAt rolePin (blocksOf (header typBeacon).v 1), 127, taken (blocksOf (header typBeacon).v 1) 16,
      taken (blocksOf (header typBeacon).v 1) 16, by decide +kernel⟩,
    ⟨rxAt rolePeer (blocksOf (header (typBeacon + 2 ^ 16)).v 1), 127, taken (blocksOf (header (typBeacon + 2 ^ 16)).v 1) 16,
      taken (blocksOf (header (typBeacon + 2 ^ 16)).v 1) 16, by decide +kernel⟩,
    ⟨rxAt rolePeer ([⟨.data (header typBeacon).v, false⟩]), 127, taken ([⟨.data (header typBeacon).v, false⟩]) 16,
      taken ([⟨.data (header typBeacon).v, false⟩]) 16, by decide +kernel⟩,
    ⟨rxAt rolePeer (blocksOf (header (typFwd + 36 * 2 ^ 16)).v 2), 127,
      taken (blocksOf (header (typFwd + 36 * 2 ^ 16)).v 2) 16, taken (blocksOf (header (typFwd + 36 * 2 ^ 16)).v 2) 56,
      by decide +kernel⟩,
    ⟨rxAt rolePeer (blocksOf (header typCredit).v 1), 127, taken (blocksOf (header typCredit).v 1) 16,
      taken (blocksOf (header typCredit).v 1) 16, by decide +kernel⟩,
    ⟨(State.reset.setFld (Reg.LN_STATUS_STATE 0) lnUp), 0, by decide +kernel⟩,
    ⟨linkAt rolePeer (fun x => { x with held := [(0, header typTrig)] }), 127, 0, header typTrig, by decide +kernel⟩,
    ⟨(linkAt rolePeer (fun x => { x with txq := [header typCredit], txCount := 20000 })).setFld (Reg.LN_CRED_PEER_LIMIT 127) 1,
      127, some 0, header typCredit, [], by decide +kernel⟩,
    ⟨laneAt rolePin, 127, some 0, ⟨by decide +kernel, Or.inl (by decide +kernel)⟩⟩,
    ⟨rxAt rolePeer (blocksOf (header typCredit).v 1), 127, header typCredit, by decide +kernel⟩,
    ⟨(State.reset.setFld (Reg.LN_STATUS_STATE 0) lnUp), 0, by decide +kernel⟩,
    ⟨linkAt rolePeer (fun x => { x with txCount := 20000 }), 127, by decide +kernel⟩,
    ⟨(linkAt rolePin (fun x => { x with drive := some ⟨0, 0, false, []⟩ })).setFld Reg.TICK_COUNT_COUNT 600, 127, ⟨0, 0, false,
      []⟩, by decide +kernel⟩,
    ⟨linkAt rolePeer (fun x => { x with txq := [header typTrig] }), 127, header typTrig, by decide +kernel⟩,
    ⟨State.reset, 127, by decide +kernel⟩⟩

theorem met_pin_and_store_links_complete :
    (∃ (s : State) (g : Nat) (vc : Nat) (f : Flit), g < 16 ∧ niFront (hubNode g) (s.vcIn (hubNode g) 6 vc).q = .packet [f] ∧
      f.opc = opStrm ∧ f.poison = false ∧ (let h := 8 * g + f.stat % 8; s.laneRole h = rolePin ∧
      s.on (Reg.LN_PIN_CFG_DRV_EN h) = true ∧ s.linkUpAt h = true)) ∧
    (∃ (s : State) (g : Nat) (vc : Nat) (f : Flit), g < 16 ∧ niFront (hubNode g) (s.vcIn (hubNode g) 6 vc).q = .packet [f] ∧
      f.opc = opStrm ∧ f.poison = true) ∧
    (∃ (s : State) (g : Nat) (vc : Nat) (f : Flit), g < 16 ∧ niFront (hubNode g) (s.vcIn (hubNode g) 6 vc).q = .packet [f] ∧
      f.opc = opStrm ∧ f.poison = false ∧
      (let h := 8 * g + f.stat % 8; (s.linkUpAt h = false ∨ s.laneRole h ≠ rolePin ∨ s.on (Reg.LN_PIN_CFG_DRV_EN h) = false))) ∧
    (∃ (s : State) (n : Nat) (d : Nat) (p : LinkPkt), s.isHead n rolePin = true ∧ s.fld (Reg.LN_PIN_CFG2_CWAIT n) ≠ 0 ∧
      s.frontPkt n typCapture = some (d, p)) ∧
    (∃ (s : State) (t : StoreTx) (k : Nat), s.storeTx t.id = some t ∧ t.stage = .waiting ∧ s.isHead t.lane roleStore = true ∧
      s.linkUpAt t.lane = true ∧ s.on (Reg.LN_STO_STAT_ISO t.lane) = false ∧
      (s.storeSent t.lane).any (storeOverlap t) = false ∧ s.freeStoreTag t.lane = some k) ∧
    (∃ (s : State) (t : StoreTx), s.storeTx t.id = some t ∧ t.stage = .waiting ∧ s.linkUpAt t.lane = false) ∧
    (∃ (s : State) (t : StoreTx), s.storeTx t.id = some t ∧ t.stage = .waiting ∧ s.isHead t.lane roleStore = true ∧
      s.linkUpAt t.lane = true ∧ s.on (Reg.LN_STO_STAT_ISO t.lane) = true) ∧
    (∃ (s : State) (t : StoreTx), s.storeTx t.id = some t ∧ t.stage = .waiting ∧ s.isHead t.lane roleStore = true ∧
      s.linkUpAt t.lane = true ∧ s.on (Reg.LN_STO_STAT_ISO t.lane) = false ∧
      ((s.storeSent t.lane).any (storeOverlap t) = true ∨ s.freeStoreTag t.lane = none)) ∧
    (∃ (s : State) (n : Nat) (tag : Nat) (status : Nat) (t : StoreTx) (data : Option (Nat × Nat)),
      s.storeByTag n tag = some t ∧ completionOk t status data = true) ∧
    (∃ (s : State) (n : Nat) (tag : Nat), s.storeByTag n tag = none) ∧
    (∃ (s : State) (n : Nat) (p : LinkPkt), s.isHead n roleStore = true ∧ s.linkSync n = true ∧ s.nextPkt n = some p ∧
      (p.type = typCpl ∨ p.type = typCpld)) ∧
    (∃ (s : State) (n : Nat) (tag : Nat) (t : StoreTx), s.isHead n roleStore = true ∧ s.storeByTag n tag = some t ∧
      (let x := s.link n; (let u := (s.setLink n { x with stoFails := x.stoFails + 1, stoQuar := tag :: x.stoQuar }).linkReject n cntStoTmo idlStoTmo 0; x.stoFails + 1 < u.fld (Reg.LN_STO_CTL_LIM n)))) ∧
    (∃ (s : State) (n : Nat) (tag : Nat) (t : StoreTx), s.isHead n roleStore = true ∧ s.storeByTag n tag = some t ∧
      (let x := s.link n; (let u := (s.setLink n { x with stoFails := x.stoFails + 1, stoQuar := tag :: x.stoQuar }).linkReject n cntStoTmo idlStoTmo 0; u.fld (Reg.LN_STO_CTL_LIM n) ≤ x.stoFails + 1))) ∧
    (∃ (s : State) (n : Nat), n < 128 ∧ s.portHead n = n ∧ s.on (Reg.LN_STO_STAT_ISO n) = true) ∧
    (∃ (s : State) (n : Nat), n < 128 ∧ s.portHead n = n ∧ s.on (Reg.LN_STO_STAT_ISO n) = false) ∧
    (∃ (n : Nat), n < 128) := ⟨
    ⟨withFlits (hubNode 15) 6 7 [flit opStrm (hubNode 15) 7 5 7] ((laneAt rolePin).setBit (Reg.LN_PIN_CFG_DRV_EN 127) true),
      15, 7, flit opStrm (hubNode 15) 7 5 7, by decide +kernel⟩,
    ⟨withFlits (hubNode 15) 6 7 [(Flit.seal { flit opStrm (hubNode 15) 7 5 7 with poison := true })], 15, 7,
      (Flit.seal { flit opStrm (hubNode 15) 7 5 7 with poison := true }), by decide +kernel⟩,
    ⟨withFlits (hubNode 15) 6 7 [flit opStrm (hubNode 15) 7 5 7] (laneAt rolePin), 15, 7, flit opStrm (hubNode 15) 7 5 7,
      by decide +kernel⟩,
    ⟨(linkAt rolePin (fun x => { x with ready := [.pkt 0 (withBody typCapture 8 5)] })).setFld (Reg.LN_PIN_CFG2_CWAIT 127) 1,
      127, 0, withBody typCapture 8 5, by decide +kernel⟩,
    ⟨{ laneAt roleStore with store := [⟨0, 3, .free, 5, .rd64, 0, 0, 127, .waiting⟩] }, ⟨0, 3, .free, 5, .rd64, 0, 0, 127,
      .waiting⟩, 0, by decide +kernel⟩,
    ⟨{ State.reset with store := [⟨0, 3, .free, 5, .rd64, 0, 0, 127, .waiting⟩] }, ⟨0, 3, .free, 5, .rd64, 0, 0, 127,
      .waiting⟩, by decide +kernel⟩,
    ⟨{ (laneAt roleStore).setBit (Reg.LN_STO_STAT_ISO 127) true with store := [⟨0, 3, .free, 5, .rd64, 0, 0, 127, .waiting⟩] },
      ⟨0, 3, .free, 5, .rd64, 0, 0, 127, .waiting⟩, by decide +kernel⟩,
    ⟨{ laneAt roleStore with store := [⟨0, 3, .free, 5, .rd64, 0, 0, 127, .waiting⟩, ⟨1, 3, .free, 5, .rd64, 63, 0, 127, .sent 7⟩] },
      ⟨0, 3, .free, 5, .rd64, 0, 0, 127, .waiting⟩, by decide +kernel⟩,
    ⟨{ laneAt roleStore with store := [⟨0, 3, .free, 5, .rd64, 0, 0, 127, .sent 1023⟩] }, 127, 1023, 0, ⟨0, 3, .free, 5, .rd64,
      0, 0, 127, .sent 1023⟩, some (64, 5), by decide +kernel⟩,
    ⟨State.reset, 0, 0, by decide +kernel⟩,
    ⟨rxAt roleStore (blocksOf (header typCpl).v 1), 127, header typCpl, by decide +kernel⟩,
    ⟨{ (laneAt roleStore).setFld (Reg.LN_STO_CTL_LIM 127) 2 with store := [⟨0, 3, .free, 5, .rd64, 0, 0, 127, .sent 1023⟩] },
      127, 1023, ⟨0, 3, .free, 5, .rd64, 0, 0, 127, .sent 1023⟩, by decide +kernel⟩,
    ⟨{ (laneAt roleStore).setFld (Reg.LN_STO_CTL_LIM 127) 1 with store := [⟨0, 3, .free, 5, .rd64, 0, 0, 127, .sent 1023⟩] },
      127, 1023, ⟨0, 3, .free, 5, .rd64, 0, 0, 127, .sent 1023⟩, by decide +kernel⟩,
    ⟨(State.reset.setBit (Reg.LN_STO_STAT_ISO 127) true), 127, by decide +kernel⟩,
    ⟨(State.reset.setBit (Reg.LN_STO_STAT_ISO 127) false), 127, by decide +kernel⟩,
    ⟨127, by decide +kernel⟩⟩

theorem met_peer_links_complete :
    (∃ (s : State) (n : Nat) (o : Nat) (d : Nat) (p : LinkPkt), n < 128 ∧ s.frontPkt n typFwd = some (d, p) ∧
      nestCheck p = .ok ∧ s.peerUp (bitsOf (p.byte 8) 0 3) = some o) ∧
    (∃ (s : State) (n : Nat) (d : Nat) (p : LinkPkt), n < 128 ∧ s.frontPkt n typFwd = some (d, p) ∧ nestCheck p = .deep) ∧
    (∃ (s : State) (n : Nat) (d : Nat) (p : LinkPkt), n < 128 ∧ s.frontPkt n typFwd = some (d, p) ∧ nestCheck p = .bad) ∧
    (∃ (s : State) (n : Nat) (d : Nat) (p : LinkPkt), n < 128 ∧ s.frontPkt n typFwd = some (d, p) ∧ nestCheck p = .ok ∧
      (s.popReady n).peerUp (bitsOf (p.byte 8) 0 3) = none) ∧
    (∃ (s : State) (g : Nat) (vc : Nat) (k : Nat) (f : Flit) (fs : List Flit), g < 16 ∧ s.tunnelFront g vc = some (f, fs) ∧
      (f :: fs).any (·.poison) = false ∧
      (let body := packetBody (f :: fs); (let addr := body % 2 ^ 48; (let h := 8 * g + bitsOf addr 41 3; (let d := bitsOf addr 37 4; f.opc ≠ opWrp ∧
      s.on (Reg.LN_TUN_VALID h d) = true ∧ s.isHead h rolePeer = true ∧ s.linkUpAt h = true ∧ (s.link h).freeXtag = some k))))) ∧
    (∃ (s : State) (g : Nat) (vc : Nat) (f : Flit) (fs : List Flit), g < 16 ∧ s.tunnelFront g vc = some (f, fs) ∧
      (f :: fs).any (·.poison) = true) ∧
    (∃ (s : State) (g : Nat) (vc : Nat) (f : Flit) (fs : List Flit), g < 16 ∧ s.tunnelFront g vc = some (f, fs) ∧
      (f :: fs).any (·.poison) = false ∧
      (let addr := packetBody (f :: fs) % 2 ^ 48; (let h := 8 * g + bitsOf addr 41 3; (let t := s.niPop (hubNode g) 0 vc (fs.length + 1); (t.on (Reg.LN_TUN_VALID h (bitsOf addr 37 4)) = false ∨ t.isHead h rolePeer = false))))) ∧
    (∃ (s : State) (g : Nat) (vc : Nat) (f : Flit) (fs : List Flit), g < 16 ∧ s.tunnelFront g vc = some (f, fs) ∧
      (f :: fs).any (·.poison) = false ∧
      (let addr := packetBody (f :: fs) % 2 ^ 48; (let h := 8 * g + bitsOf addr 41 3; (let t := s.niPop (hubNode g) 0 vc (fs.length + 1); t.on (Reg.LN_TUN_VALID h (bitsOf addr 37 4)) = true ∧
      t.isHead h rolePeer = true ∧ t.linkUpAt h = false)))) ∧
    (∃ (s : State) (g : Nat) (vc : Nat) (f : Flit) (fs : List Flit), g < 16 ∧ s.tunnelFront g vc = some (f, fs) ∧
      (f :: fs).any (·.poison) = false ∧
      (let addr := packetBody (f :: fs) % 2 ^ 48; (let h := 8 * g + bitsOf addr 41 3; (let t := s.niPop (hubNode g) 0 vc (fs.length + 1); t.on (Reg.LN_TUN_VALID h (bitsOf addr 37 4)) = true ∧
      t.isHead h rolePeer = true ∧ t.linkUpAt h = true ∧ f.opc ≠ opWrp ∧ (t.link h).freeXtag = none)))) ∧
    (∃ (s : State) (n : Nat) (d : Nat) (p : LinkPkt), n < 128 ∧ s.frontPkt n typTunReq = some (d, p) ∧
      (s.link n).remote.length < 256 ∧
      (let xtag := bitsOf p.v 64 10; (let opc := bitsOf (p.byte 10) 0 4; (let r := s.niIssue (hubNode (n / 8)) 0 ⟨0xA0 + n / 8,
      tunnelRef n xtag, opc, bitsOf (p.byte 11) 0 6, false, bitsOf (p.byte 10) 4 2, p.payload % 2 ^ 48, p.byte 12 + 1,
      p.payload / 2 ^ 64⟩; opc ≠ opWrp ∧ r.2 = true)))) ∧
    (∃ (s : State) (n : Nat) (xtag : Nat) (blen : Nat) (d : NetDone), n < 128 ∧ s.net.done = [d] ∧ d.node = hubNode (n / 8) ∧
      d.rid = 0xA0 + n / 8 ∧ d.ref = tunnelRef n xtag ∧ d.code = .ok ∧ (s.link n).remote = [(xtag, opRd + 16 * blen, false)] ∧
      s.linkUpAt n = true) ∧
    (∃ (s : State) (n : Nat) (d : Nat) (p : LinkPkt) (x : XTag), n < 128 ∧ s.frontPkt n typTunRsp = some (d, p) ∧
      p.type = typTunRsp ∧ (let t := s.popReady n; Tbl.get none (t.link n).xtags (bitsOf p.v 64 10) = some x ∧
      x.quarantine = false)) ∧
    (∃ (s : State) (n : Nat) (k : Nat) (x : XTag), n < 128 ∧ Tbl.get none (s.link n).xtags k = some x ∧ x.quarantine = false) ∧
    (∃ (s : State) (n : Nat) (k : Nat) (x : XTag), n < 128 ∧ Tbl.get none (s.link n).xtags k = some x ∧ x.quarantine = true) ∧
    (∃ (s : State) (n : Nat), s.isHead n rolePeer = true ∧ s.linkUpAt n = true ∧ s.ticking = true ∧
      s.trigLevels n ≠ (s.link n).trig) ∧
    (∃ (s : State) (n : Nat) (k : Nat) (d : Nat) (p : LinkPkt), n < 128 ∧ s.frontPkt n typTrig = some (d, p) ∧
      s.peerPort n = some k) := ⟨
    ⟨linkAt rolePeer (fun x => { x with ready := [.pkt 0 (withBody (typFwd + 6 * 2 ^ 64) 16 (header typTrig).v)] }), 127, 127,
      0, withBody (typFwd + 6 * 2 ^ 64) 16 (header typTrig).v, by decide +kernel⟩,
    ⟨linkAt rolePeer (fun x => { x with ready := [.pkt 0 (withBody typFwd 36 (withBody typFwd 16 (header typFwd).v).v)] }),
      127, 0, withBody typFwd 36 (withBody typFwd 16 (header typFwd).v).v, by decide +kernel⟩,
    ⟨linkAt rolePeer (fun x => { x with ready := [.pkt 0 (withBody typFwd 36 0)] }), 127, 0, withBody typFwd 36 0,
      by decide +kernel⟩,
    ⟨linkAt rolePeer (fun x => { x with ready := [.pkt 0 (withBody (typFwd + 5 * 2 ^ 64) 16 (header typTrig).v)] }), 127, 0,
      withBody (typFwd + 5 * 2 ^ 64) 16 (header typTrig).v, by decide +kernel⟩,
    ⟨withFlits (hubNode 15) 6 7 [flit opRd (hubNode 15) 7 (2 ^ 44 + 7 * 2 ^ 41 + 15 * 2 ^ 37)] ((laneAt rolePeer).setBit (Reg.LN_TUN_VALID 127 15) true),
      15, 7, 0, flit opRd (hubNode 15) 7 (2 ^ 44 + 7 * 2 ^ 41 + 15 * 2 ^ 37), [], by decide +kernel⟩,
    ⟨withFlits (hubNode 15) 6 7 [(Flit.seal { flit opRd (hubNode 15) 7 (2 ^ 44 + 7 * 2 ^ 41 + 15 * 2 ^ 37) with poison := true })],
      15, 7, (Flit.seal { flit opRd (hubNode 15) 7 (2 ^ 44 + 7 * 2 ^ 41 + 15 * 2 ^ 37) with poison := true }), [],
      by decide +kernel⟩,
    ⟨withFlits (hubNode 15) 6 7 [flit opRd (hubNode 15) 7 (2 ^ 44 + 7 * 2 ^ 41 + 15 * 2 ^ 37)] (laneAt rolePeer), 15, 7,
      flit opRd (hubNode 15) 7 (2 ^ 44 + 7 * 2 ^ 41 + 15 * 2 ^ 37), [], by decide +kernel⟩,
    ⟨withFlits (hubNode 15) 6 7 [flit opRd (hubNode 15) 7 (2 ^ 44 + 7 * 2 ^ 41 + 15 * 2 ^ 37)] (((laneAt rolePeer).setBit (Reg.LN_TUN_VALID 127 15) true).setFld (Reg.LN_STATUS_STATE 127) lnWait),
      15, 7, flit opRd (hubNode 15) 7 (2 ^ 44 + 7 * 2 ^ 41 + 15 * 2 ^ 37), [], by decide +kernel⟩,
    ⟨allXtags (withFlits (hubNode 15) 6 7 [flit opRd (hubNode 15) 7 (2 ^ 44 + 7 * 2 ^ 41 + 15 * 2 ^ 37)] ((laneAt rolePeer).setBit (Reg.LN_TUN_VALID 127 15) true)),
      15, 7, flit opRd (hubNode 15) 7 (2 ^ 44 + 7 * 2 ^ 41 + 15 * 2 ^ 37), [], ⟨by decide +kernel, by decide +kernel,
      by decide +kernel, by decide +kernel, by decide +kernel, by decide +kernel, by decide +kernel,
      allXtags_popped _ _ _ _ _ _ (by decide +kernel)⟩⟩,
    ⟨(linkAt rolePeer (fun x => { x with ready := [.pkt 0 (withBody (typTunReq + 2 ^ 80 + 63 * 2 ^ 88 + 7 * 2 ^ 96) 8 0x20000)] })).setBit (Reg.NI_RT_VALID (hubNode 15) 0 63) true,
      127, 0, withBody (typTunReq + 2 ^ 80 + 63 * 2 ^ 88 + 7 * 2 ^ 96) 8 0x20000, by decide +kernel⟩,
    ⟨{ linkAt rolePeer (fun x => { x with remote := [(1023, opRd + 16 * 7, false)] }) with net := { State.reset.net with done := [⟨hubNode 15, 0xAF, tunnelRef 127 1023, .ok, 5⟩] } },
      127, 1023, 7, ⟨hubNode 15, 0xAF, tunnelRef 127 1023, .ok, 5⟩, by decide +kernel⟩,
    ⟨linkAt rolePeer (fun x => { x with ready := [.pkt 0 (withBody (typTunRsp + 1023 * 2 ^ 64 + 7 * 2 ^ 96) 8 5)], xtags := [(1023, some ⟨flit opRd 31 7 0, false⟩)] }),
      127, 0, withBody (typTunRsp + 1023 * 2 ^ 64 + 7 * 2 ^ 96) 8 5, ⟨flit opRd 31 7 0, false⟩, by decide +kernel⟩,
    ⟨linkAt rolePeer (fun x => { x with xtags := [(1023, some ⟨flit opRd 31 7 0, false⟩)] }), 127, 1023, ⟨flit opRd 31 7 0,
      false⟩, by decide +kernel⟩,
    ⟨linkAt rolePeer (fun x => { x with xtags := [(1023, some ⟨flit opRd 31 7 0, true⟩)] }), 127, 1023, ⟨flit opRd 31 7 0,
      true⟩, by decide +kernel⟩,
    ⟨(linkAt rolePeer (fun x => { x with trig := 1 })).setBit Reg.TICK_STATUS_RUNNING true, 127, by decide +kernel⟩,
    ⟨linkAt rolePeer (fun x => { x with ready := [.pkt 0 (header typTrig)] }), 127, 6, 0, header typTrig, by decide +kernel⟩⟩

theorem met_host_port_completes :
    (∃ (s : State) (p : Nat), s.portUp p = true ∧ s.hk.retry = true) ∧
    (∃ (s : State) (p : Nat), s.portUp p = true ∧ s.hk.retry = false) ∧
    (∃ (s : State) (p : Nat) (addr : Nat) (n : Nat), s.portUp p = true ∧ 1 ≤ n ∧ n ≤ 4096 ∧ s.decodes p = true ∧
      0x10000 ≤ addr ∧ addr + n ≤ 0x4000000 ∧ s.hostCheck false false addr n = .ok) ∧
    (∃ (s : State) (p : Nat) (addr : Nat) (n : Nat), s.portUp p = true ∧ 1 ≤ n ∧ n ≤ 4096 ∧ s.decodes p = true ∧
      0x10000 ≤ addr ∧ addr + n ≤ 0x4000000 ∧
      (s.hostCheck false false addr n = .eState ∨ s.hostCheck false false addr n = .eIso)) ∧
    (∃ (s : State) (p : Nat) (addr : Nat) (n : Nat), s.portUp p = true ∧ 1 ≤ n ∧ n ≤ 4096 ∧ s.decodes p = true ∧
      0x10000 ≤ addr ∧ addr + n ≤ 0x4000000 ∧ s.hostCheck false false addr n = .eArg) ∧
    (∃ (s : State) (p : Nat) (bar : Nat) (addr : Nat) (n : Nat), s.portUp p = true ∧ 1 ≤ n ∧ n ≤ 4096 ∧
      (s.decodes p = false ∨ barSize bar < addr + n)) ∧
    (∃ (s : State) (p : Nat) (addr : Nat) (n : Nat), s.portUp p = true ∧ 1 ≤ n ∧ n ≤ 4096 ∧ s.decodes p = true ∧
      addr + n ≤ 0x10000) ∧
    (∃ (s : State) (p : Nat) (addr : Nat) (n : Nat), s.portUp p = true ∧ 1 ≤ n ∧ n ≤ 4096 ∧ s.decodes p = true ∧
      addr < 0x10000 ∧ addr ≠ Reg.RSC_CMD) ∧
    (∃ (s : State) (p : Nat) (addr : Nat) (n : Nat), s.portUp p = true ∧ 1 ≤ n ∧ n ≤ 4096 ∧ s.decodes p = true ∧
      0x10000 ≤ addr ∧ addr + n ≤ 0x4000000 ∧ s.hostCheck true false addr n = .ok) ∧
    (∃ (s : State) (p : Nat) (addr : Nat) (n : Nat), s.portUp p = true ∧ 1 ≤ n ∧ n ≤ 4096 ∧ s.decodes p = true ∧
      addr + n ≤ 0x1000000000 ∧ s.hostCheck true true addr n = .eArg) ∧
    (∃ (s : State) (p : Nat) (addr : Nat) (n : Nat), s.portUp p = true ∧ 1 ≤ n ∧ n ≤ 4096 ∧ s.decodes p = true ∧
      addr + n ≤ 0x1000000000 ∧ s.hostCheck true true addr n = .ok) ∧
    (∃ (s : State) (p : Nat) (addr : Nat) (n : Nat), s.portUp p = true ∧ 1 ≤ n ∧ n ≤ 4096 ∧ s.decodes p = true ∧
      addr + n ≤ 0x1000000000 ∧ (s.hostCheck true true addr n = .eState ∨ s.hostCheck true true addr n = .eIso)) ∧
    (∃ (s : State) (p : Nat) (addr : Nat) (n : Nat), s.portUp p = true ∧ 1 ≤ n ∧ n ≤ 4096 ∧ s.decodes p = true ∧
      addr + n ≤ 0x1000000000 ∧ s.hostCheck false true addr n = .ok) ∧
    (∃ (s : State) (p : Nat) (addr : Nat) (n : Nat), s.portUp p = true ∧ 1 ≤ n ∧ n ≤ 4096 ∧ s.decodes p = true ∧
      addr + n ≤ 0x1000000000 ∧ s.hostCheck false true addr n = .eArg) ∧
    (∃ (s : State) (p : Nat), p < 2 ∧ s.hk.up = true ∧ s.portUp p = true) ∧
    (∃ (s : State) (p : Nat) (speed : BitVec 3) (width : BitVec 4), p < 2 ∧ s.hk.up = true ∧ s.portUp p = false ∧
      1 ≤ speed.toNat ∧ speed.toNat ≤ 5 ∧ [1, 2, 4, 8].contains width.toNat = true) ∧
    (∃ (s : State) (p : Nat) (v : Nat), s.portUp p = true ∧ s.on (Reg.HP_STATUS_BME p) = true ∧
      s.on (Reg.HP_STATUS_MSIX_EN p) = true ∧ s.on (Reg.HP_STATUS_FMASK p) = false ∧ hasBit (s.msixEntry p v) 96 = false ∧
      v < 64 ∧ hasBit (s.fld (Reg.HP_VPEND_PEND p)) v = true) ∧
    (∃ (p : Nat), p < 2) := ⟨
    ⟨(({ State.reset with hk := { State.reset.hk with up := true, retry := true } } : State).setBit (Reg.HP_STATUS_LINK_UP 1) true),
      1, by decide +kernel⟩,
    ⟨(({ State.reset with hk := { State.reset.hk with up := true, retry := false } } : State).setBit (Reg.HP_STATUS_LINK_UP 1) true),
      1, by decide +kernel⟩,
    ⟨(({ State.reset with hk := { State.reset.hk with up := true } } : State).setBit (Reg.HP_STATUS_LINK_UP 1) true), 1,
      0x20008, 4, by decide +kernel⟩,
    ⟨(({ State.reset with hk := { State.reset.hk with up := true } } : State).setBit (Reg.HP_STATUS_LINK_UP 1) true), 1,
      0x3E00000, 4, by decide +kernel⟩,
    ⟨(({ State.reset with hk := { State.reset.hk with up := true } } : State).setBit (Reg.HP_STATUS_LINK_UP 1) true), 1,
      0x20008, 8, by decide +kernel⟩,
    ⟨(({ State.reset with hk := { State.reset.hk with up := true } } : State).setBit (Reg.HP_STATUS_LINK_UP 1) true), 1, 0,
      0x4000000, 1, by decide +kernel⟩,
    ⟨(({ State.reset with hk := { State.reset.hk with up := true } } : State).setBit (Reg.HP_STATUS_LINK_UP 1) true), 1, 0, 1,
      by decide +kernel⟩,
    ⟨(({ State.reset with hk := { State.reset.hk with up := true } } : State).setBit (Reg.HP_STATUS_LINK_UP 1) true), 1,
      0x8000, 4, by decide +kernel⟩,
    ⟨(({ State.reset with hk := { State.reset.hk with up := true } } : State).setBit (Reg.HP_STATUS_LINK_UP 1) true), 1,
      0x20008, 4, by decide +kernel⟩,
    ⟨(({ State.reset with hk := { State.reset.hk with up := true } } : State).setBit (Reg.HP_STATUS_LINK_UP 1) true), 1,
      0x800000000, 4, by decide +kernel⟩,
    ⟨(({ State.reset with hk := { State.reset.hk with up := true } } : State).setBit (Reg.HP_STATUS_LINK_UP 1) true), 1,
      0x20000, 4, by decide +kernel⟩,
    ⟨(({ State.reset with hk := { State.reset.hk with up := true } } : State).setBit (Reg.HP_STATUS_LINK_UP 1) true), 1,
      0x40000000, 4, by decide +kernel⟩,
    ⟨(({ State.reset with hk := { State.reset.hk with up := true } } : State).setBit (Reg.HP_STATUS_LINK_UP 1) true), 1, 0, 1,
      by decide +kernel⟩,
    ⟨(({ State.reset with hk := { State.reset.hk with up := true } } : State).setBit (Reg.HP_STATUS_LINK_UP 1) true), 1,
      0x40000FFE, 4, by decide +kernel⟩,
    ⟨(({ State.reset with hk := { State.reset.hk with up := true } } : State).setBit (Reg.HP_STATUS_LINK_UP 1) true), 1,
      by decide +kernel⟩,
    ⟨({ State.reset with hk := { State.reset.hk with up := true } } : State), 1, 5, 8, by decide +kernel⟩,
    ⟨((((({ State.reset with hk := { State.reset.hk with up := true } } : State).setBit (Reg.HP_STATUS_LINK_UP 1) true).setBit (Reg.HP_STATUS_BME 1) true).setBit (Reg.HP_STATUS_MSIX_EN 1) true).setFld (Reg.HP_VPEND_PEND 1) (2 ^ 63)) |> fun s => { s with host := { s.host with msix := [(127, 0xFEE00000)] } },
      1, 63, by decide +kernel⟩,
    ⟨1, by decide +kernel⟩⟩

theorem met_rescue_and_semaphores_complete :
    (∃ (s : State) (p : Nat) (addr : Nat) (n : Nat) (v : Nat) (x : RegAt), s.portUp p = true ∧ s.decodes p = true ∧
      addr < 0x10000 ∧ n ≠ 0 ∧ s.rescueAt p addr = some (x, v) ∧ widthOk x.desc.bytes x.off n = true) ∧
    (∃ (s : State) (p : Nat) (addr : Nat) (n : Nat) (v : Nat) (x : RegAt), s.portUp p = true ∧ s.decodes p = true ∧
      addr < 0x10000 ∧ n ≠ 0 ∧ s.rescueAt p addr = some (x, v) ∧ widthOk x.desc.bytes x.off n = false) ∧
    (∃ (s : State) (p : Nat) (addr : Nat) (n : Nat), s.portUp p = true ∧ s.decodes p = true ∧ addr < 0x10000 ∧ n ≠ 0 ∧
      s.rescueAt p addr = none) ∧
    (∃ (s : State) (p : Nat) (addr : Nat) (n : Nat), s.portUp p = true ∧ s.decodes p = false ∧ addr < 0x10000 ∧ n ≠ 0) ∧
    (∃ (s : State) (p : Nat) (n : Nat) (v : Nat), s.portUp p = true ∧ s.decodes p = true ∧ n = 4 ∧
      (bitsOf v 24 8 ≠ 0xA5 ∨ rescueArgOk (bitsOf v 0 4) (bitsOf v 8 8) = false)) ∧
    (∃ (s : State) (p : Nat) (r : Nat) (sem : Nat) (mask : Nat) (e : Nat × Nat), s.portUp p = true ∧ s.decodes p = true ∧
      s.host.rescue = some e ∧ r < 24 ∧ sem < 64 ∧ 0 < mask ∧ mask < 64) ∧
    (∃ (s : State) (p : Nat) (addr : Nat) (n : Nat), s.portUp p = true ∧ s.decodes p = true ∧ addr < 0x10000 ∧ n ≠ 0 ∧
      addr ≠ Reg.RSC_CMD) ∧
    (∃ (s : State) (p : Nat) (r : Nat), s.portUp p = true ∧ s.decodes p = true ∧ r < 24 ∧ s.host.rescue = none ∧
      (let q := s.capture (256 + p + 1) (fun s => s.regionCmdWrite (256 + p + 1) r cmdIsolate); q.2 = .ok ∧
      (q.1.rgn r).boundary.contains (cmdIsolate, 256 + p + 1) = true)) ∧
    (∃ (s : State) (p : Nat) (r : Nat), s.portUp p = true ∧ s.decodes p = true ∧ r < 24 ∧ s.host.rescue = none ∧
      (let q := s.capture (256 + p + 1) (fun s => s.regionCmdWrite (256 + p + 1) r cmdIsolate); (q.2 ≠ .ok ∨ (q.1.rgn r).boundary.contains (cmdIsolate,
      256 + p + 1) = false))) ∧
    (∃ (s : State) (p : Nat) (r : Nat), s.portUp p = true ∧ s.decodes p = true ∧ r < 24 ∧ s.host.rescue = none ∧
      (let q := s.capture (256 + p + 1) (fun s => s.regionCmdWrite (256 + p + 1) r cmdReset); q.2 = .ok ∧
      (q.1.rgn r).boundary.contains (cmdReset, 256 + p + 1) = true)) ∧
    (∃ (s : State) (p : Nat) (r : Nat), s.portUp p = true ∧ s.decodes p = true ∧ r < 24 ∧ s.host.rescue = none ∧
      (let q := s.capture (256 + p + 1) (fun s => s.regionCmdWrite (256 + p + 1) r cmdReset); (q.2 ≠ .ok ∨ (q.1.rgn r).boundary.contains (cmdReset,
      256 + p + 1) = false))) ∧
    (∃ (s : State) (p : Nat) (sem : Nat), s.portUp p = true ∧ s.decodes p = true ∧ sem < 64 ∧ s.host.rescue = none ∧
      s.fld (Reg.HSEM_OWNER sem) ≠ 0) ∧
    (∃ (s : State) (p : Nat) (sem : Nat), s.portUp p = true ∧ s.decodes p = true ∧ sem < 64 ∧ s.host.rescue = none ∧
      s.fld (Reg.HSEM_OWNER sem) = 0) ∧
    (∃ (s : State) (p : Nat) (mask : Nat), s.portUp p = true ∧ s.decodes p = true ∧ 0 < mask ∧ mask < 64 ∧ s.host.rescue = none) ∧
    (∃ (s : State) (p : Nat), s.portUp p = true ∧ s.decodes p = true ∧ s.host.rescue = none ∧ s.abortAll.2 = true) ∧
    (∃ (s : State) (p : Nat), s.portUp p = true ∧ s.decodes p = true ∧ s.host.rescue = none ∧ s.abortAll.2 = false) ∧
    (∃ (s : State) (p : Nat), s.portUp p = true ∧ s.decodes p = true ∧ s.host.rescue = none ∧
      (let q := s.queueStore (.summary none); q.2 = .ok)) ∧
    (∃ (s : State) (p : Nat), s.portUp p = true ∧ s.decodes p = true ∧ s.host.rescue = none ∧
      (let q := s.queueStore (.summary none); q.2 ≠ .ok)) ∧
    (∃ (s : State), s.host.resetDue = true) ∧
    (∃ (s : State) (n : Nat), n < 64 ∧ s.fld (Reg.HSEM_OWNER n) = 0) ∧
    (∃ (s : State) (n : Nat), n < 64 ∧ s.fld (Reg.HSEM_OWNER n) ≠ 0) ∧
    (∃ (s : State) (req : Nat) (n : Nat) (value : BitVec 32), n < 64 ∧ s.fld (Reg.HSEM_OWNER n) = req ∧ req ≠ 0 ∧
      value.toNat % 256 = req) ∧
    (∃ (s : State) (req : Nat) (n : Nat) (value : BitVec 32), n < 64 ∧
      (s.fld (Reg.HSEM_OWNER n) ≠ req ∨ s.fld (Reg.HSEM_OWNER n) = 0 ∨ value.toNat % 256 ≠ req)) := ⟨
    ⟨portAt, 1, Reg.RSC_STRAPS, 4, ((portAt.rescueAt 1 Reg.RSC_STRAPS).get (by decide +kernel)).2,
      ((portAt.rescueAt 1 Reg.RSC_STRAPS).get (by decide +kernel)).1, by decide +kernel⟩,
    ⟨portAt, 1, Reg.RSC_STRAPS, 3, ((portAt.rescueAt 1 Reg.RSC_STRAPS).get (by decide +kernel)).2,
      ((portAt.rescueAt 1 Reg.RSC_STRAPS).get (by decide +kernel)).1, by decide +kernel⟩,
    ⟨(({ State.reset with hk := { State.reset.hk with up := true } } : State).setBit (Reg.HP_STATUS_LINK_UP 1) true), 1,
      0x7FF0, 4, by decide +kernel⟩,
    ⟨portAt.setBit (Reg.HP_STATUS_D3HOT 1) true, 1, 0, 4, by decide +kernel⟩,
    ⟨(({ State.reset with hk := { State.reset.hk with up := true } } : State).setBit (Reg.HP_STATUS_LINK_UP 1) true), 1, 4, 0,
      by decide +kernel⟩,
    ⟨{ portAt with host := { portAt.host with rescue := some (1, 1) } }, 1, 23, 63, 63, (1, 1), by decide +kernel⟩,
    ⟨(({ State.reset with hk := { State.reset.hk with up := true } } : State).setBit (Reg.HP_STATUS_LINK_UP 1) true), 1, 0, 1,
      by decide +kernel⟩,
    ⟨((({ State.reset with hk := { State.reset.hk with up := true }, host := { State.reset.host with rescue := none } } : State).setBit (Reg.HP_STATUS_LINK_UP 1) true).setFld (Reg.REG_STATUS_STATE 23) 4 |>.setBit Reg.TICK_STATUS_RUNNING true),
      1, 23, by decide +kernel⟩,
    ⟨(({ State.reset with hk := { State.reset.hk with up := true }, host := { State.reset.host with rescue := none } } : State).setBit (Reg.HP_STATUS_LINK_UP 1) true),
      1, 23, by decide +kernel⟩,
    ⟨((({ State.reset with hk := { State.reset.hk with up := true }, host := { State.reset.host with rescue := none } } : State).setBit (Reg.HP_STATUS_LINK_UP 1) true).setFld (Reg.REG_STATUS_STATE 23) 4 |>.setBit Reg.TICK_STATUS_RUNNING true),
      1, 23, by decide +kernel⟩,
    ⟨((({ State.reset with hk := { State.reset.hk with up := true }, host := { State.reset.host with rescue := none } } : State).setBit (Reg.HP_STATUS_LINK_UP 1) true).setFld (Reg.REG_STATUS_STATE 23) 0),
      1, 23, by decide +kernel⟩,
    ⟨((({ State.reset with hk := { State.reset.hk with up := true }, host := { State.reset.host with rescue := none } } : State).setBit (Reg.HP_STATUS_LINK_UP 1) true).setFld (Reg.HSEM_OWNER 63) 1),
      1, 63, by decide +kernel⟩,
    ⟨((({ State.reset with hk := { State.reset.hk with up := true }, host := { State.reset.host with rescue := none } } : State).setBit (Reg.HP_STATUS_LINK_UP 1) true).setFld (Reg.HSEM_OWNER 63) 0),
      1, 63, by decide +kernel⟩,
    ⟨(({ State.reset with hk := { State.reset.hk with up := true }, host := { State.reset.host with rescue := none } } : State).setBit (Reg.HP_STATUS_LINK_UP 1) true),
      1, 1, by decide +kernel⟩,
    ⟨((({ State.reset with hk := { State.reset.hk with up := true }, host := { State.reset.host with rescue := none } } : State).setBit (Reg.HP_STATUS_LINK_UP 1) true).setFld (Reg.ST_SLICE_PHASE 23) phCopy),
      1, by decide +kernel⟩,
    ⟨(({ State.reset with hk := { State.reset.hk with up := true }, host := { State.reset.host with rescue := none } } : State).setBit (Reg.HP_STATUS_LINK_UP 1) true),
      1, by decide +kernel⟩,
    ⟨(({ State.reset with hk := { State.reset.hk with up := true }, host := { State.reset.host with rescue := none } } : State).setBit (Reg.HP_STATUS_LINK_UP 1) true),
      1, by decide +kernel⟩,
    ⟨{ portAt with hk := { portAt.hk with cur := some ⟨.summary none, 0, 0, none⟩, queue := [⟨.summary none, 0, 0, none⟩, ⟨.summary none, 0, 0, none⟩, ⟨.summary none, 0, 0, none⟩, ⟨.summary none, 0, 0, none⟩] } },
      1, by decide +kernel⟩,
    ⟨({ State.reset with host := { State.reset.host with resetDue := true } } : State), by decide +kernel⟩,
    ⟨(State.reset.setFld (Reg.HSEM_OWNER 0) 0), 0, by decide +kernel⟩,
    ⟨(State.reset.setFld (Reg.HSEM_OWNER 0) 1), 0, by decide +kernel⟩,
    ⟨(State.reset.setFld (Reg.HSEM_OWNER 63) 1), 1, 63, 1, by decide +kernel⟩,
    ⟨State.reset, 0, 0, 0, by decide +kernel⟩⟩

theorem met_configuration_stream_completes :
    (∃ (s : State) (n : Nat), n % 4 = 0 ∧ s.fromNor = false ∧ s.cfgSrc = srcData ∧ s.cfg.fifo.length + n / 4 ≤ 16384) ∧
    (∃ (s : State) (n : Nat), n % 4 = 0 ∧ s.cfgSrc = srcIdle ∧ s.hostStreams = true ∧ s.cfg.fifo.length + n / 4 ≤ 16384) ∧
    (∃ (n : Nat), n % 4 ≠ 0) ∧
    (∃ (s : State) (n : Nat), n % 4 = 0 ∧ s.fromNor = true) ∧
    (∃ (s : State) (n : Nat), n % 4 = 0 ∧ s.cfgSrc = srcIdle ∧ s.hostStreams = false) ∧
    (∃ (s : State) (n : Nat), n % 4 = 0 ∧ s.fromNor = false ∧ s.cfgSrc = srcData ∧ 16384 < s.cfg.fifo.length + n / 4) ∧
    (∃ (s : State), s.on Reg.CFG_STAT_SYNCED = false ∧ s.fromNor = false ∧ (∀ w ∈ s.cfg.fifo, w.toNat ≠ syncWord)) ∧
    (∃ (s : State) (w : Word) (l : List Word), s.on Reg.CFG_STAT_SYNCED = false ∧ s.fromNor = false ∧ w.toNat = syncWord ∧
      s.cfg.fifo = w :: l ∧
      (let t := (s.countBy Reg.CFG_PRECNT_COUNT Reg.CFG_ERR_CNT_SAT 0).setCfg { s.cfg with fifo := l, done := none, brought := 0 }; t.cfgSrc = srcData ∧
      t.lcState ≠ 4)) ∧
    (∃ (s : State) (w : Nat) (d : Nat), CfgReady s .nop w d) ∧
    (∃ (s : State) (w : Nat) (d : Nat), CfgReady s .far w d) ∧
    (∃ (s : State) (w : Nat) (d : Nat), CfgReady s .idmask w d) ∧
    (∃ (s : State) (w : Nat) (d : Nat), CfgReady s .ctl w d) ∧
    (∃ (s : State) (w : Nat) (d : Nat), CfgReady s .keysel w d) ∧
    (∃ (s : State) (w : Nat) (d : Nat), CfgReady s .regmap w d) ∧
    (∃ (s : State) (w : Nat) (d : Nat), CfgReady s .frame w d) ∧
    (∃ (s : State) (w : Nat) (d : Nat) (p : Nat), CfgReady s .commit w d ∧
      (let t := (s.cfgFill.cfgTook (pktWords w)).setBit Reg.CFG_STAT_FMODE false; t.physicalOf (bitsOf d 8 5) = some p ∧
      t.rstate p = .configuring ∧ hasBit (t.fld Reg.CFG_FERR_FERR) p = false)) ∧
    (∃ (s : State) (w : Nat) (d : Nat), CfgReady s .commit w d ∧
      (let t := (s.cfgFill.cfgTook (pktWords w)).setBit Reg.CFG_STAT_FMODE false; t.physicalOf (bitsOf d 8 5) = none)) ∧
    (∃ (s : State) (w : Nat) (d : Nat) (p : Nat), CfgReady s .commit w d ∧
      (let t := (s.cfgFill.cfgTook (pktWords w)).setBit Reg.CFG_STAT_FMODE false; t.physicalOf (bitsOf d 8 5) = some p ∧
      t.rstate p ≠ .configuring)) ∧
    (∃ (s : State) (w : Nat) (d : Nat) (p : Nat), CfgReady s .commit w d ∧
      (let t := (s.cfgFill.cfgTook (pktWords w)).setBit Reg.CFG_STAT_FMODE false; t.physicalOf (bitsOf d 8 5) = some p ∧
      t.rstate p = .configuring ∧ hasBit (t.fld Reg.CFG_FERR_FERR) p = true)) ∧
    (∃ (s : State) (w : Nat) (d : Nat) (p : Nat), CfgReady s .start w d ∧
      (let t := (s.cfgFill.cfgTook (pktWords w)).setBit Reg.CFG_STAT_FMODE false; t.physicalOf (bitsOf d 8 5) = some p)) ∧
    (∃ (s : State) (w : Nat) (d : Nat), CfgReady s .start w d ∧
      (let t := (s.cfgFill.cfgTook (pktWords w)).setBit Reg.CFG_STAT_FMODE false; t.physicalOf (bitsOf d 8 5) = none)) ∧
    (∃ (s : State) (w : Nat) (d : Nat), CfgReady s .end_ w d) ∧
    (∃ (s : State) (w : Nat) (d : Nat), CfgReady s .fdata w d) ∧
    (∃ (s : State) (w : Nat) (d : Nat), CfgReady s .fmask w d) ∧
    (∃ (s : State) (w : Nat) (d : Nat), CfgReady s .fzero w d) ∧
    (∃ (s : State) (w : Nat) (d : Nat) (k : Pkt) (c : Instr), (c,
      k) ∈ ([(.cfgRegwFar, .far), (.cfgRegwCtl, .ctl), (.cfgRegwRegmap, .regmap), (.cfgCmdFrame, .frame), (.cfgCmdCommit, .commit), (.cfgCmdStart, .start), (.cfgFzero, .fzero)] : List (Instr × Pkt)) ∧
      s.cfgFill.cfgFront = some (k, w, d) ∧ s.cfgFill.cfg.frame = [] ∧
      (s.cfgFill.reqAuth = true → s.cfgFill.on Reg.CFG_STAT_ENC = true) ∧ s.cfgFill.cfgApplies = false) ∧
    (∃ (s : State) (w : Nat) (d : Nat) (k : Pkt) (c : Instr), (c,
      k) ∈ ([(.cfgRegwFar, .far), (.cfgRegwCtl, .ctl), (.cfgRegwRegmap, .regmap), (.cfgCmdFrame, .frame), (.cfgCmdCommit, .commit), (.cfgCmdStart, .start), (.cfgFzero, .fzero)] : List (Instr × Pkt)) ∧
      s.cfgFill.cfgFront = some (k, w, d) ∧ s.cfgFill.cfg.frame = [] ∧ s.cfgFill.reqAuth = true ∧
      s.cfgFill.on Reg.CFG_STAT_ENC = false) ∧
    (∃ (s : State) (w : Nat) (d : Nat) (c : Instr),
      c ∈ [Instr.cfgNop, .cfgRegwFar, .cfgRegwIdmask, .cfgRegwCtl, .cfgRegwKeysel, .cfgRegwRegmap, .cfgCmdFrame, .cfgCmdCommit, .cfgCmdStart, .cfgCmdEnd, .cfgFzero] ∧
      s.cfgFill.cfgFront = some (.bad, w, d)) ∧
    (∃ (s : State) (w : Nat) (d : Nat), s.cfgFill.cfgFront = some (.nop, w, d) ∧ w / 2 ^ 28 ≠ 2) ∧
    (∃ (s : State) (p : CfgPkt), s.cfg.pkt = some p ∧ p.pt = 2) ∧
    (∃ (s : State) (p : CfgPkt), s.cfg.pkt = some p ∧ p.pt = 3) ∧
    (∃ (s : State) (w : Nat) (d : Nat), CfgReady s .cwr w d ∧ s.cfg.cwr = none ∧ (freeTag (s.ni cfgNode 0).open_).isSome = true) ∧
    (∃ (s : State) (k : Nat) (d : NetDone), s.cfg.cwr = some k ∧ s.cwrResponse k = some d) ∧
    (∃ (s : State), s.fromNor = false ∧ s.on Reg.CFG_STAT_SYNCED = true ∧ s.on Reg.CFG_STAT_ENC = true ∧ s.cfg.last = false ∧
      s.keyReady s.cfg.slot = true ∧ s.cfg.chunk.length + s.cfg.fifo.length < 8) ∧
    (∃ (s : State), s.fromNor = false ∧ s.on Reg.CFG_STAT_SYNCED = true ∧ s.on Reg.CFG_STAT_ENC = true ∧ s.cfg.last = false ∧
      s.keyReady s.cfg.slot = false) ∧
    (∃ (s : State), s.fromNor = false ∧ s.on Reg.CFG_STAT_SYNCED = true ∧ s.on Reg.CFG_STAT_ENC = true ∧ s.cfg.last = false ∧
      s.keyReady s.cfg.slot = true ∧ s.cfg.chunk = [] ∧ 8 ≤ s.cfg.fifo.length ∧
      chunkLenOk (chunkNum (s.cfg.fifo.take 8) 1 1) = false) ∧
    (∃ (s : State), s.fromNor = false ∧ s.on Reg.CFG_STAT_SYNCED = true ∧ s.on Reg.CFG_STAT_ENC = true ∧ s.cfg.last = false ∧
      s.keyReady s.cfg.slot = true ∧ s.cfg.chunk = [] ∧ 8 ≤ s.cfg.fifo.length ∧
      (let n := chunkNum (s.cfg.fifo.take 8) 1 1; chunkLenOk n = true ∧ 12 + n / 4 ≤ s.cfg.fifo.length)) := ⟨
    ⟨(State.reset.setFld Reg.CFG_STAT_SRC srcData), 4, by decide +kernel⟩,
    ⟨State.reset.setFld Reg.HK_BOOTSTAT_STATE 8, 4, by decide +kernel⟩,
    ⟨5, by decide +kernel⟩,
    ⟨State.reset.setFld Reg.CFG_STAT_SRC srcBoot, 4, by decide +kernel⟩,
    ⟨(State.reset.setFld Reg.CFG_STAT_SRC srcIdle), 4, by decide +kernel⟩,
    ⟨streamAt (List.replicate 16384 0), 4, by decide +kernel⟩,
    ⟨{ State.reset with cfg := { State.reset.cfg with fifo := [0] } }, ⟨by decide +kernel, by decide +kernel,
      fun w h => by rw [List.mem_singleton.mp h]; decide⟩⟩,
    ⟨(({ State.reset with cfg := { State.reset.cfg with fifo := [0x96245A3C] } } : State).setFld Reg.CFG_STAT_SRC srcData),
      0x96245A3C, [], by decide +kernel⟩,
    ⟨(streamAt [0x00000000, 0x0]), 0x00000000, 0x0, by simp only [CfgReady]; decide +kernel⟩,
    ⟨(streamAt [0x10000000, 0x5]), 0x10000000, 0x5, by simp only [CfgReady]; decide +kernel⟩,
    ⟨(streamAt [0x10020000, 0x1]), 0x10020000, 0x1, by simp only [CfgReady]; decide +kernel⟩,
    ⟨(streamAt [0x10030000, 0x7]), 0x10030000, 0x7, by simp only [CfgReady]; decide +kernel⟩,
    ⟨(streamAt [0x10040000, 0x1]), 0x10040000, 0x1, by simp only [CfgReady]; decide +kernel⟩,
    ⟨(streamAt [0x10050000, 0x1700]), 0x10050000, 0x1700, by simp only [CfgReady]; decide +kernel⟩,
    ⟨(streamAt [0x10010000, 0x1]), 0x10010000, 0x1, by simp only [CfgReady]; decide +kernel⟩,
    ⟨(streamAt [0x10010000, 0x1702]).setFld (Reg.REG_STATUS_STATE 23) 2, 0x10010000, 0x1702, 23,
      by simp only [CfgReady]; decide +kernel⟩,
    ⟨(streamAt [0x10010000, 0x1702]).setBit (Reg.CFG_REGMAP_NONE 23) true, 0x10010000, 0x1702,
      by simp only [CfgReady]; decide +kernel⟩,
    ⟨(streamAt [0x10010000, 0x1702]).setFld (Reg.REG_STATUS_STATE 23) 3, 0x10010000, 0x1702, 23,
      by simp only [CfgReady]; decide +kernel⟩,
    ⟨((streamAt [0x10010000, 0x1702]).setFld (Reg.REG_STATUS_STATE 23) 2).setFld Reg.CFG_FERR_FERR (2 ^ 23), 0x10010000,
      0x1702, 23, by simp only [CfgReady]; decide +kernel⟩,
    ⟨(streamAt [0x10010000, 0x1703]).setFld (Reg.REG_STATUS_STATE 23) 3 |>.setBit Reg.TICK_STATUS_RUNNING true, 0x10010000,
      0x1703, 23, by simp only [CfgReady]; decide +kernel⟩,
    ⟨(streamAt [0x10010000, 0x1703]).setBit (Reg.CFG_REGMAP_NONE 23) true, 0x10010000, 0x1703,
      by simp only [CfgReady]; decide +kernel⟩,
    ⟨(streamAt [0x10010000, 0x4]), 0x10010000, 0x4, by simp only [CfgReady]; decide +kernel⟩,
    ⟨(streamAt [0x20000001, 0x7]), 0x20000001, 0x7, by simp only [CfgReady]; decide +kernel⟩,
    ⟨(streamAt [0x30000001, 0x7]), 0x30000001, 0x7, by simp only [CfgReady]; decide +kernel⟩,
    ⟨(streamAt [0x40000001]), 0x40000001, 0, by simp only [CfgReady]; decide +kernel⟩,
    ⟨(streamAt [0x10000000, 0x5]).setFld Reg.CFG_IDMASK_MASK 0, 0x10000000, 0x5, .far, .cfgRegwFar, by decide +kernel⟩,
    ⟨(streamAt [0x10000000, 0x5]).setBit Reg.CFG_CTL_REQ_AUTH true, 0x10000000, 0x5, .far, .cfgRegwFar, by decide +kernel⟩,
    ⟨streamAt [0xF0000000], 0xF0000000, 0, Instr.cfgNop, by decide +kernel⟩,
    ⟨streamAt [0], 0, 0, by decide +kernel⟩,
    ⟨{ State.reset with cfg := { State.reset.cfg with pkt := some ⟨2, 5, true⟩ } }, ⟨2, 5, true⟩, by decide +kernel⟩,
    ⟨{ State.reset with cfg := { State.reset.cfg with pkt := some ⟨3, 5, true⟩ } }, ⟨3, 5, true⟩, by decide +kernel⟩,
    ⟨(streamAt [0x53FFFFFC, 0x7]), 0x53FFFFFC, 0x7, by simp only [CfgReady]; decide +kernel⟩,
    ⟨{ streamAt [] with cfg := { (streamAt []).cfg with cwr := some 5 }, net := { State.reset.net with done := [⟨cfgNode, reqCfg, 5, .ok, 0⟩] } },
      5, ⟨cfgNode, reqCfg, 5, .ok, 0⟩, by decide +kernel⟩,
    ⟨((streamAt [1, 2, 3, 4, 5, 6, 7]).setBit Reg.CFG_STAT_ENC true).setFld Reg.CFG_KEYSTAT_READY 1, by decide +kernel⟩,
    ⟨(streamAt [1, 2, 3, 4, 5, 6, 7]).setBit Reg.CFG_STAT_ENC true, by decide +kernel⟩,
    ⟨((streamAt [0, 5, 0, 0, 0, 0, 0, 0, 9, 9, 9, 9, 9]).setBit Reg.CFG_STAT_ENC true).setFld Reg.CFG_KEYSTAT_READY 1,
      by decide +kernel⟩,
    ⟨((streamAt [0, 4, 0, 0, 0, 0, 0, 0, 9, 9, 9, 9, 9]).setBit Reg.CFG_STAT_ENC true).setFld Reg.CFG_KEYSTAT_READY 1,
      by decide +kernel⟩⟩

theorem met_configuration_commands_complete :
    (∃ (s : State), s.cfgSrc ≠ srcIdle) ∧
    (∃ (s : State), s.cfg.pr = none) ∧
    (∃ (s : State) (p : PrPend), s.cfg.pr = some p) ∧
    (∃ (s : State) (p : PrPend), s.cfg.pr = some p ∧ s.ticking = false) ∧
    (∃ (s : State) (p : PrPend) (r : Nat), s.cfg.pr = some p ∧ s.ticking = true ∧ s.physicalOf p.region = some r ∧
      s.prTurn p = true) ∧
    (∃ (s : State) (p : PrPend) (r : Nat), s.cfg.pr = some p ∧ s.ticking = true ∧ s.physicalOf p.region = some r ∧
      (s.prDue p = false ∨ s.prTurn p = false)) ∧
    (∃ (s : State) (k : BitVec 4), s.cfgSrc = srcIdle ∧ s.on (Reg.CFG_SLOT_VALID k.toNat) = true) ∧
    (∃ (s : State) (k : BitVec 4), s.cfgSrc = srcIdle ∧ s.on (Reg.CFG_SLOT_VALID k.toNat) = false) ∧
    (∃ (s : State), s.cfgSrc = srcSlot ∧ s.fromNor = true ∧ s.listener = false ∧ s.cfg.fifo.length < 1024 ∧
      s.hk.holdEn = false ∧ s.hk.raw = none) ∧
    (∃ (s : State) (p : Nat) (value : BitVec 32), s.on Reg.CFG_CTL_RDBK_DIS = false ∧ s.lcState ≠ 2 ∧
      (let far := value.toNat % 2 ^ 22; farOk far = true ∧ s.physicalOf (farRegion far) = some p ∧ s.rstate p ≠ .off)) ∧
    (∃ (s : State) (value : BitVec 32), s.on Reg.CFG_CTL_RDBK_DIS = false ∧ s.lcState ≠ 2 ∧
      (let far := value.toNat % 2 ^ 22; (farOk far = false ∨ s.physicalOf (farRegion far) = none))) ∧
    (∃ (s : State) (value : BitVec 32) (p : Nat), s.on Reg.CFG_CTL_RDBK_DIS = false ∧ s.lcState ≠ 2 ∧
      (let far := value.toNat % 2 ^ 22; farOk far = true ∧ s.physicalOf (farRegion far) = some p ∧ s.rstate p = .off)) ∧
    (∃ (s : State), (s.on Reg.CFG_CTL_RDBK_DIS = true ∨ s.lcState = 2)) ∧
    (∃ (s : State), s.listener = true ∧ s.cfgSrc ≠ srcIdle) ∧
    (∃ (s : State) (r : Nat), r < 24 ∧ s.rstate r = .running ∧ s.fld (Reg.REG_STATUS_PAVANE r) = 1 ∧
      s.pavaneGap r 1 ≤ (s.rgn r).pavane) ∧
    (∃ (s : State) (r : Nat), r < 24 ∧ s.rstate r = .running ∧ s.fld (Reg.REG_STATUS_PAVANE r) = 2 ∧
      s.pavaneGap r 2 ≤ (s.rgn r).pavane) := ⟨
    ⟨State.reset.setFld Reg.CFG_STAT_SRC srcData, by decide +kernel⟩,
    ⟨({ State.reset with cfg := { State.reset.cfg with pr := none } } : State), by decide +kernel⟩,
    ⟨({ State.reset with cfg := { State.reset.cfg with pr := some ⟨23, 15, 0, 1, 0⟩ } } : State), ⟨23, 15, 0, 1, 0⟩,
      by decide +kernel⟩,
    ⟨({ State.reset with cfg := { State.reset.cfg with pr := some ⟨23, 15, 0, 1, 0⟩ } } : State), ⟨23, 15, 0, 1, 0⟩,
      by decide +kernel⟩,
    ⟨({ State.reset with cfg := { State.reset.cfg with pr := some ⟨23, 15, 0, 1, 0⟩ } } : State).setBit Reg.TICK_STATUS_RUNNING true,
      ⟨23, 15, 0, 1, 0⟩, 23, by decide +kernel⟩,
    ⟨({ State.reset with cfg := { State.reset.cfg with pr := some ⟨23, 15, 0, 1, 0⟩ } } : State).setBit Reg.TICK_STATUS_RUNNING true,
      ⟨23, 15, 0, 1, 0⟩, 23, by decide +kernel⟩,
    ⟨State.reset.setBit (Reg.CFG_SLOT_VALID 15) true, 15, by decide +kernel⟩,
    ⟨State.reset, 15, by decide +kernel⟩,
    ⟨(({ State.reset with hk := { State.reset.hk with holdEn := false, raw := none } } : State).setFld Reg.CFG_STAT_SRC srcSlot),
      by decide +kernel⟩,
    ⟨State.reset.setFld (Reg.REG_STATUS_STATE 23) 1, 23, 0x2E0000, by decide +kernel⟩,
    ⟨State.reset, 0x3FFFFF, by decide +kernel⟩,
    ⟨State.reset, 0x2E0000, 23, by decide +kernel⟩,
    ⟨State.reset.setBit Reg.CFG_CTL_RDBK_DIS true, by decide +kernel⟩,
    ⟨((State.reset.setFld Reg.RSC_STRAPS_BOOTSEL 1).setFld Reg.CFG_STAT_SRC srcBoot), by decide +kernel⟩,
    ⟨(fabricAt .evaluating []).setFld (Reg.REG_STATUS_PAVANE 23) 1 |>.setRgn 23 { State.reset.rgn 23 with pavane := 1 }, 23,
      by decide +kernel⟩,
    ⟨(fabricAt .evaluating []).setFld (Reg.REG_STATUS_PAVANE 23) 2 |>.setRgn 23 { State.reset.rgn 23 with pavane := 1 }, 23,
      by decide +kernel⟩⟩

theorem met_boot_completes :
    (∃ (s : State), s.hk.up = false ∧ s.lovage.st = .run ∧ s.lovage.tripHold = false) ∧
    (∃ (s : State), (s.hk.up = true ∨ s.lovage.st ≠ .run ∨ s.lovage.tripHold = true)) ∧
    (∃ (s : State) (size : Nat), s.hk.up = true ∧ s.bootMode ≠ 1 ∧ s.bootState = 0 ∧ norLeast ≤ size) ∧
    (∃ (s : State) (size : Nat), s.hk.up = true ∧ s.bootMode ≠ 1 ∧ s.bootState = 0 ∧ size < norLeast) ∧
    (∃ (s : State) (size : Nat), s.hk.up = true ∧ s.bootMode ≠ 1 ∧ s.bootState ≠ 0 ∧ s.imageDue = true ∧ s.hk.step = 0 ∧
      s.hk.norOk = false ∧ norLeast ≤ size) ∧
    (∃ (s : State), s.hk.up = true ∧ s.hk.journal = false ∧ s.bootState = 1 ∧ s.hk.norOk = true ∧ s.hk.retry = true ∧
      (let t := (s.resumeCompaction.applySettings).applyFailmap; (let u := (t.setHk { t.hk with journal := true, retry := false }).setBoot 2; u.lcState ≠ 4 ∧
      u.bootMode ≠ 3 ∧ u.hk.refclk = true))) ∧
    (∃ (s : State), s.hk.up = true ∧ s.hk.journal = false ∧ s.bootState = 1 ∧ s.hk.norOk = true ∧ s.hk.retry = true ∧
      (let t := (s.resumeCompaction.applySettings).applyFailmap; (let u := (t.setHk { t.hk with journal := true, retry := false }).setBoot 2; u.lcState ≠ 4 ∧
      u.bootMode ≠ 3 ∧ u.hk.refclk = false))) ∧
    (∃ (s : State), s.hk.up = true ∧ s.hk.journal = false ∧ s.bootState = 1 ∧ s.hk.norOk = true ∧ s.hk.retry = true ∧
      (let t := (s.resumeCompaction.applySettings).applyFailmap; (let u := (t.setHk { t.hk with journal := true, retry := false }).setBoot 2; (u.lcState = 4 ∨ u.bootMode = 3)))) ∧
    (∃ (s : State), s.hk.up = true ∧ s.hk.journal = false ∧ s.bootState = 1 ∧ s.hk.norOk = false ∧ s.listener = false ∧
      s.hk.retry = true ∧ (let u := (s.setHk { s.hk with journal := true, retry := false }).setBoot 2; u.lcState ≠ 4 ∧
      u.bootMode ≠ 3 ∧ u.hk.refclk = true)) ∧
    (∃ (s : State), s.hk.up = true ∧ s.hk.refclk = true ∧ s.on Reg.TICK_STATUS_PLL_LOCK = true ∧
      (s.bootState = 2 ∨ s.bootState = 3) ∧
      (let t := (List.range 24).foldl (fun t r => if t.hk.regpwr.testBit r then t.regionCmdWrite reqHk r cmdPowerOn else t) s; t.bootMode = 0)) ∧
    (∃ (s : State), s.hk.up = true ∧ s.hk.refclk = true ∧ s.on Reg.TICK_STATUS_PLL_LOCK = true ∧
      (s.bootState = 2 ∨ s.bootState = 3) ∧
      (let t := (List.range 24).foldl (fun t r => if t.hk.regpwr.testBit r then t.regionCmdWrite reqHk r cmdPowerOn else t) s; t.bootMode = 1)) ∧
    (∃ (s : State), s.hk.up = true ∧ s.hk.refclk = true ∧ s.on Reg.TICK_STATUS_PLL_LOCK = true ∧
      (s.bootState = 2 ∨ s.bootState = 3) ∧
      (let t := (List.range 24).foldl (fun t r => if t.hk.regpwr.testBit r then t.regionCmdWrite reqHk r cmdPowerOn else t) s; 2 ≤ t.bootMode)) ∧
    (∃ (s : State), s.imageDue = true ∧ s.regionsUp = true ∧ s.cfgSrc = srcIdle) ∧
    (∃ (s : State), s.hk.up = true ∧ s.bootMode = 0 ∧ (s.bootState = bsHostWait ∧ s.hk.step = 2) ∨ (s.bootState = bsBackoff ∧
      s.hk.step = 3) ∧ s.hk.attempt ≠ 3) ∧
    (∃ (s : State) (c : Code), s.cfg.done = some c ∧ s.hk.attempt ≠ 0 ∧ s.cfgSrc = srcIdle) ∧
    (∃ (s : State), s.bootMode = 0 ∧ 5 ≤ s.bootState ∧ s.bootState ≤ 8 ∧ (s.hk.attempt = 0 ∨ s.hk.attempt = 3)) ∧
    (∃ (s : State), s.bootMode = 0 ∧ 5 ≤ s.bootState ∧ s.bootState ≤ 8 ∧ (s.hk.attempt = 1 ∨ s.hk.attempt = 2)) ∧
    (∃ (s : State), (s.bootMode ≠ 0 ∨ s.bootState < 5 ∨ 8 < s.bootState)) ∧
    (∃ (s : State), s.bootState ≠ bsHeld) ∧
    (∃ (s : State), s.bootState = bsHeld) ∧
    (∃ (s : State), s.bootState = bsListen ∧ s.hk.seen = false) ∧
    (∃ (s : State) (a : Nat), s.hk.up = true ∧ s.listener = true ∧ s.bootState ≠ bsRescue ∧ a < 0x20000) ∧
    (∃ (s : State) (a : Nat) (n : Nat), s.hk.up = true ∧ s.listener = true ∧ s.bootState ≠ bsRescue ∧ a = imageBase 1 ∧ 32 ≤ n) ∧
    (∃ (s : State) (a : Nat) (n : Nat), s.hk.up = true ∧ s.listener = true ∧ s.bootState ≠ bsRescue ∧ a = imageBase 2 ∧ 32 ≤ n) ∧
    (∃ (s : State) (a : Nat), s.hk.up = true ∧ s.listener = true ∧ s.bootState ≠ bsRescue ∧ 0x20000 ≤ a ∧ a ≠ imageBase 1 ∧
      a ≠ imageBase 2 ∧ a = s.hk.expect ∧ s.cfgSrc = srcBoot) ∧
    (∃ (s : State) (a : Nat), s.hk.up = true ∧ s.listener = true ∧ s.bootState ≠ bsRescue ∧ 0x20000 ≤ a ∧ a ≠ imageBase 1 ∧
      a ≠ imageBase 2 ∧ a ≠ s.hk.expect) := ⟨
    ⟨({ State.reset with hk := { State.reset.hk with up := false }, lovage := { State.reset.lovage with st := .run, tripHold := false } } : State),
      by decide +kernel⟩,
    ⟨({ State.reset with hk := { State.reset.hk with up := true } } : State), by decide +kernel⟩,
    ⟨(({ State.reset with hk := { State.reset.hk with up := true } } : State)).setFld Reg.HK_BOOTSTAT_STATE 0, 0x10000000,
      by decide +kernel⟩,
    ⟨(({ State.reset with hk := { State.reset.hk with up := true } } : State).setFld Reg.HK_BOOTSTAT_STATE 0), 0,
      by decide +kernel⟩,
    ⟨(({ State.reset with hk := { State.reset.hk with up := true, step := 0, norOk := false } } : State)).setFld Reg.HK_BOOTSTAT_STATE 5,
      0x10000000, by decide +kernel⟩,
    ⟨({ State.reset with hk := { State.reset.hk with up := true, journal := false, norOk := true, retry := true, refclk := true } } : State).setFld Reg.HK_BOOTSTAT_STATE 1,
      by decide +kernel⟩,
    ⟨(({ State.reset with hk := { State.reset.hk with up := true, journal := false, norOk := true, retry := true, refclk := false } } : State)).setFld Reg.HK_BOOTSTAT_STATE 1,
      by decide +kernel⟩,
    ⟨((({ State.reset with hk := { State.reset.hk with up := true, journal := false, norOk := true, retry := true, refclk := false } } : State)).setFld Reg.HK_BOOTSTAT_STATE 1).setFld Reg.RSC_STRAPS_BOOTSEL 3,
      by decide +kernel⟩,
    ⟨(({ State.reset with hk := { State.reset.hk with up := true, journal := false, norOk := false, retry := true, refclk := true } } : State)).setFld Reg.HK_BOOTSTAT_STATE 1,
      by decide +kernel⟩,
    ⟨(((({ State.reset with hk := { State.reset.hk with up := true, refclk := true } } : State)).setBit Reg.TICK_STATUS_PLL_LOCK true).setFld Reg.HK_BOOTSTAT_STATE 3).setFld Reg.RSC_STRAPS_BOOTSEL 0,
      by decide +kernel⟩,
    ⟨(((({ State.reset with hk := { State.reset.hk with up := true, refclk := true } } : State)).setBit Reg.TICK_STATUS_PLL_LOCK true).setFld Reg.HK_BOOTSTAT_STATE 3).setFld Reg.RSC_STRAPS_BOOTSEL 1,
      by decide +kernel⟩,
    ⟨(((({ State.reset with hk := { State.reset.hk with up := true, refclk := true } } : State)).setBit Reg.TICK_STATUS_PLL_LOCK true).setFld Reg.HK_BOOTSTAT_STATE 3).setFld Reg.RSC_STRAPS_BOOTSEL 3,
      by decide +kernel⟩,
    ⟨({ State.reset with hk := { State.reset.hk with up := true, regpwr := 0 } } : State).setFld Reg.HK_BOOTSTAT_STATE 6,
      by decide +kernel⟩,
    ⟨(({ State.reset with hk := { State.reset.hk with up := true, step := 2 } } : State)).setFld Reg.HK_BOOTSTAT_STATE bsHostWait,
      by decide +kernel⟩,
    ⟨{ State.reset with hk := { State.reset.hk with attempt := 1 }, cfg := { State.reset.cfg with done := some .eCrc } },
      .eCrc, by decide +kernel⟩,
    ⟨(({ State.reset with hk := { State.reset.hk with up := true, attempt := 3 } } : State)).setFld Reg.HK_BOOTSTAT_STATE 8,
      by decide +kernel⟩,
    ⟨(({ State.reset with hk := { State.reset.hk with up := true, attempt := 2 } } : State)).setFld Reg.HK_BOOTSTAT_STATE 5,
      by decide +kernel⟩,
    ⟨State.reset, by decide +kernel⟩,
    ⟨State.reset, by decide +kernel⟩,
    ⟨(State.reset.setFld Reg.HK_BOOTSTAT_STATE bsHeld), by decide +kernel⟩,
    ⟨(({ State.reset with hk := { State.reset.hk with seen := false } } : State).setFld Reg.HK_BOOTSTAT_STATE bsListen),
      by decide +kernel⟩,
    ⟨(({ State.reset with hk := { State.reset.hk with up := true } } : State).setFld Reg.RSC_STRAPS_BOOTSEL 1), 0,
      by decide +kernel⟩,
    ⟨(({ State.reset with hk := { State.reset.hk with up := true } } : State)).setFld Reg.RSC_STRAPS_BOOTSEL 1, 0x100000, 32,
      by decide +kernel⟩,
    ⟨(({ State.reset with hk := { State.reset.hk with up := true } } : State)).setFld Reg.RSC_STRAPS_BOOTSEL 1, 0x8100000, 32,
      by decide +kernel⟩,
    ⟨((({ State.reset with hk := { State.reset.hk with up := true, expect := 0x20000 } } : State)).setFld Reg.RSC_STRAPS_BOOTSEL 1).setFld Reg.CFG_STAT_SRC srcBoot,
      0x20000, by decide +kernel⟩,
    ⟨(({ State.reset with hk := { State.reset.hk with up := true } } : State).setFld Reg.RSC_STRAPS_BOOTSEL 1), 0x20000,
      by decide +kernel⟩⟩

theorem met_journal_and_nor_complete :
    (∃ (s : State) (type : Nat) (dev : Nat) (part : Nat), type < 256 ∧ dev < 8 ∧ part < 8 ∧ s.on Reg.HK_JSTAT_BUSY = true) ∧
    (∃ (s : State), s.on Reg.HK_JSTAT_BUSY = false ∧ s.hk.outbox = []) ∧
    (∃ (s : State) (type : Nat) (dev : Nat) (part : Nat) (e : Nat × Nat), type < 256 ∧ dev < 8 ∧ part < 8 ∧
      s.on Reg.HK_JSTAT_BUSY = false ∧ s.inForce (keyOf type dev part) = some e) ∧
    (∃ (s : State) (type : Nat) (dev : Nat) (part : Nat), type < 256 ∧ dev < 8 ∧ part < 8 ∧ s.on Reg.HK_JSTAT_BUSY = false ∧
      s.inForce (keyOf type dev part) = none) ∧
    (∃ (s : State) (v : Nat) (l : List Nat), s.on Reg.HK_JSTAT_BUSY = false ∧ s.hk.outbox = v :: l) ∧
    (∃ (s : State) (x : HkStore), s.hk.up = true ∧ s.hk.cur = some x ∧ x.outcome = none ∧ s.storeBlocked = false ∧
      (let t := if x.tries = 0 ∧ x.bad = 0 then s.summaryStarts x else s; t.listener = true)) ∧
    (∃ (s : State) (x : HkStore), s.hk.up = true ∧ s.hk.cur = some x ∧ x.outcome = none ∧ s.storeBlocked = false ∧
      (let t := if x.tries = 0 ∧ x.bad = 0 then s.summaryStarts x else s; t.listener = false ∧ t.hk.norOk = false)) ∧
    (∃ (s : State) (x : HkStore), s.hk.up = true ∧ s.hk.cur = some x ∧ x.outcome = none ∧ s.storeBlocked = false ∧
      (let t := if x.tries = 0 ∧ x.bad = 0 then s.summaryStarts x else s; t.listener = false ∧ t.hk.norOk = true ∧
      t.storeIdle x = true)) ∧
    (∃ (s : State) (x : HkStore), s.hk.up = true ∧ s.hk.cur = some x ∧ x.outcome = none ∧ s.storeBlocked = false ∧
      (let t := if x.tries = 0 ∧ x.bad = 0 then s.summaryStarts x else s; t.listener = false ∧ t.hk.norOk = true ∧
      t.storeIdle x = false ∧ t.holdSenses = false)) ∧
    (∃ (s : State) (x : HkStore) (v1 : Nat) (v2 : Nat), s.hk.up = true ∧ s.hk.cur = some x ∧ x.outcome = none ∧
      s.storeBlocked = false ∧ (let t := if x.tries = 0 ∧ x.bad = 0 then s.summaryStarts x else s; t.listener = false ∧
      t.hk.norOk = true ∧ t.storeIdle x = false ∧ t.holdSenses = true ∧ (let k := t.holdCheck v1 v2; k.2 = false ∧
      k.1.fld Reg.HK_HOLDCFG_TRIES ≤ x.tries + 1))) ∧
    (∃ (s : State) (x : HkStore) (v1 : Nat) (v2 : Nat), s.hk.up = true ∧ s.hk.cur = some x ∧ x.outcome = none ∧
      s.storeBlocked = false ∧ (let t := if x.tries = 0 ∧ x.bad = 0 then s.summaryStarts x else s; t.listener = false ∧
      t.hk.norOk = true ∧ t.storeIdle x = false ∧ t.holdSenses = true ∧ (let k := t.holdCheck v1 v2; k.2 = false ∧
      x.tries + 1 < k.1.fld Reg.HK_HOLDCFG_TRIES))) ∧
    (∃ (s : State) (x : HkStore) (v1 : Nat) (v2 : Nat), s.hk.up = true ∧ s.hk.cur = some x ∧ x.outcome = none ∧
      s.storeBlocked = false ∧ (let t := if x.tries = 0 ∧ x.bad = 0 then s.summaryStarts x else s; t.listener = false ∧
      t.hk.norOk = true ∧ t.storeIdle x = false ∧ t.holdSenses = true ∧ (let k := t.holdCheck v1 v2; k.2 = true ∧
      (let u := k.1.setHk { k.1.hk with holdEn := true, waiting := false }; u.sectorFull = false)))) ∧
    (∃ (s : State) (x : HkStore) (v1 : Nat) (v2 : Nat), s.hk.up = true ∧ s.hk.cur = some x ∧ x.outcome = none ∧
      s.storeBlocked = false ∧ (let t := if x.tries = 0 ∧ x.bad = 0 then s.summaryStarts x else s; t.listener = false ∧
      t.hk.norOk = true ∧ t.storeIdle x = false ∧ t.holdSenses = true ∧ (let k := t.holdCheck v1 v2; k.2 = true ∧
      (let u := k.1.setHk { k.1.hk with holdEn := true, waiting := false }; u.sectorFull = true)))) ∧
    (∃ (s : State), (s.hk.cur = none ∨ s.storeBlocked = true)) ∧
    (∃ (s : State), s.hk.holdEn = true) ∧
    (∃ (s : State) (x : HkStore) (c : Code), s.lovage.st ≠ .holdup ∧ s.hk.cur = some x ∧ x.outcome = some c) ∧
    (∃ (s : State), s.lovage.st = .holdup) ∧
    (∃ (s : State) (op : RawOp), s.lovage.st ≠ .holdup ∧ s.hk.cur = none ∧ s.hk.raw = some op) ∧
    (∃ (s : State), s.norCode 1 false = .ok) ∧
    (∃ (s : State) (force : Bool), s.norCode 2 force = .ok) ∧
    (∃ (s : State) (force : Bool), s.norCode 2 force ≠ .ok) ∧
    (∃ (s : State) (p : Instr × Nat), s.norCode p.2 false ≠ .ok) ∧
    (∃ (s : State), s.norCode 3 false = .ok) ∧
    (∃ (s : State), s.norCode 4 false = .ok) := ⟨
    ⟨(State.reset.setBit Reg.HK_JSTAT_BUSY true), 0, 0, 0, by decide +kernel⟩,
    ⟨(({ State.reset with hk := { State.reset.hk with outbox := [] } } : State).setBit Reg.HK_JSTAT_BUSY false),
      by decide +kernel⟩,
    ⟨{ State.reset with nor := [(0, recMake (1 + 2 ^ 16) 5)] }, 1, 0, 0, (0, recMake (1 + 2 ^ 16) 5), by decide +kernel⟩,
    ⟨(State.reset.setBit Reg.HK_JSTAT_BUSY false), 0, 0, 0, by decide +kernel⟩,
    ⟨(({ State.reset with hk := { State.reset.hk with outbox := 0 :: ([]) } } : State).setBit Reg.HK_JSTAT_BUSY false), 0, [],
      by decide +kernel⟩,
    ⟨({ State.reset with hk := { State.reset.hk with up := true, cur := some ⟨.summary none, 0, 0, none⟩ } } : State).setFld Reg.RSC_STRAPS_BOOTSEL 1,
      ⟨.summary none, 0, 0, none⟩, by decide +kernel⟩,
    ⟨({ State.reset with hk := { State.reset.hk with up := true, cur := some ⟨.summary none, 0, 0, none⟩, norOk := false } } : State),
      ⟨.summary none, 0, 0, none⟩, by decide +kernel⟩,
    ⟨({ State.reset with hk := { State.reset.hk with up := true, cur := some ⟨.compaction, 0, 0, none⟩, norOk := true } } : State),
      ⟨.compaction, 0, 0, none⟩, by decide +kernel⟩,
    ⟨({ State.reset with hk := { State.reset.hk with up := true, cur := some ⟨.summary none, 0, 0, none⟩, norOk := true } } : State).setBit (Reg.CP_CFG_ANA 48) false,
      ⟨.summary none, 0, 0, none⟩, by decide +kernel⟩,
    ⟨({ State.reset with hk := { State.reset.hk with up := true, cur := some ⟨.summary none, 7, 0, none⟩, norOk := true } } : State).setBit (Reg.CP_CFG_ANA 48) true,
      ⟨.summary none, 7, 0, none⟩, 6000, 5500, by decide +kernel⟩,
    ⟨({ State.reset with hk := { State.reset.hk with up := true, cur := some ⟨.summary none, 0, 0, none⟩, norOk := true } } : State).setBit (Reg.CP_CFG_ANA 48) true,
      ⟨.summary none, 0, 0, none⟩, 6000, 5500, by decide +kernel⟩,
    ⟨({ State.reset with hk := { State.reset.hk with up := true, cur := some ⟨.summary none, 0, 0, none⟩, norOk := true } } : State).setBit (Reg.CP_CFG_ANA 48) true,
      ⟨.summary none, 0, 0, none⟩, 7990, 7991, by decide +kernel⟩,
    ⟨({ State.reset with hk := { State.reset.hk with up := true, cur := some ⟨.summary none, 0, 0, none⟩, norOk := true, next := some 256 } } : State).setBit (Reg.CP_CFG_ANA 48) true,
      ⟨.summary none, 0, 0, none⟩, 7990, 7991, by decide +kernel⟩,
    ⟨State.reset, by decide +kernel⟩,
    ⟨({ State.reset with hk := { State.reset.hk with holdEn := true } } : State), by decide +kernel⟩,
    ⟨({ State.reset with hk := { State.reset.hk with up := true, cur := some ⟨.summary none, 0, 0, some .ok⟩ } } : State),
      ⟨.summary none, 0, 0, some .ok⟩, .ok, by decide +kernel⟩,
    ⟨({ State.reset with lovage := { State.reset.lovage with st := .holdup } } : State), by decide +kernel⟩,
    ⟨{ State.reset with hk := { State.reset.hk with raw := some (.erase 512) } }, .erase 512, by decide +kernel⟩,
    ⟨({ State.reset with hk := { State.reset.hk with norOk := true, norSize := 0x1000000 } } : State), by decide +kernel⟩,
    ⟨({ State.reset with hk := { State.reset.hk with norOk := true, norSize := 0x1000000 } } : State).setFld Reg.HK_NORADDR_ADDR 0xFF0000,
      false, by decide +kernel⟩,
    ⟨({ State.reset with hk := { State.reset.hk with norOk := true, norSize := 0x1000000 } } : State).setFld Reg.HK_NORADDR_ADDR 0x100,
      true, by decide +kernel⟩,
    ⟨({ State.reset with hk := { State.reset.hk with norOk := true, norSize := 0x1000000 } } : State).setFld Reg.HK_NORADDR_ADDR 0x100,
      (.norRawErase 1, 3), by decide +kernel⟩,
    ⟨({ State.reset with hk := { State.reset.hk with norOk := true, norSize := 0x1000000 } } : State).setFld Reg.HK_NORADDR_ADDR 0xFF0000,
      by decide +kernel⟩,
    ⟨({ State.reset with hk := { State.reset.hk with norOk := true, norSize := 0x1000000 } } : State), by decide +kernel⟩⟩

theorem met_slice_events_complete :
    (∃ (s : State) (r : Nat) (p : Nat), s.sweepMay r = true ∧ s.sweepNext r = some p) ∧
    (∃ (s : State) (r : Nat), s.sweepMay r = true ∧ s.sweepNext r = none) ∧
    (∃ (s : State) (r : Nat) (f : Nat), r < 24 ∧ s.fld (Reg.ST_SLICE_KIND r) = 0 ∧
      (let k := s.fld (Reg.ST_SLICE_INDEX r); s.copyFault r k = some f ∧ s.slicePhase r = phCopy)) ∧
    (∃ (s : State) (r : Nat) (f : Nat), r < 24 ∧ s.fld (Reg.ST_SLICE_KIND r) = 0 ∧
      (let k := s.fld (Reg.ST_SLICE_INDEX r); s.copyFault r k = some f ∧ s.slicePhase r = phRestore)) ∧
    (∃ (s : State) (r : Nat), r < 24 ∧ s.slicePhase r = phCopy ∧
      (s.fld (Reg.ST_SLICE_KIND r) = 0 → s.copyFault r (s.fld (Reg.ST_SLICE_INDEX r)) = none)) ∧
    (∃ (s : State) (r : Nat), r < 24 ∧ s.slicePhase r = phWaitOut ∧ s.sliceEligible r = true ∧
      (let t := s.handover r; t.selfTest.marking.testBit r = false)) ∧
    (∃ (s : State) (r : Nat), r < 24 ∧ s.slicePhase r = phWaitOut ∧ s.sliceEligible r = true ∧
      (let t := s.handover r; t.selfTest.marking.testBit r = true)) ∧
    (∃ (s : State) (r : Nat), r < 24 ∧ s.slicePhase r = phTest ∧ s.fld (Reg.ST_SLICE_SPARE r) ≠ inPlace) ∧
    (∃ (s : State) (r : Nat), r < 24 ∧ s.slicePhase r = phTest ∧ s.fld (Reg.ST_SLICE_SPARE r) = inPlace) ∧
    (∃ (s : State) (r : Nat), r < 24 ∧ s.slicePhase r = phTest ∧ s.selfTest.once.testBit r = false) ∧
    (∃ (s : State) (r : Nat), r < 24 ∧ s.slicePhase r = phTest ∧ s.selfTest.once.testBit r = true) ∧
    (∃ (s : State) (r : Nat), r < 24 ∧ s.slicePhase r = phRestore ∧
      (s.fld (Reg.ST_SLICE_KIND r) = 0 → s.copyFault r (s.fld (Reg.ST_SLICE_INDEX r)) = none)) ∧
    (∃ (s : State) (r : Nat), r < 24 ∧ (s.slicePhase r = phWaitBack ∨ s.slicePhase r = phParked) ∧ s.sliceEligible r = true) ∧
    (∃ (s : State) (r : Nat), r < 24 ∧ s.slicePhase r = phWaitOut ∧ s.fld (Reg.ST_SLICE_KIND r) = 0 ∧
      s.on (Reg.ST_SLICE_FLOWBLK r) = true) ∧
    (∃ (s : State) (r : Nat), r < 24 ∧ s.slicePhase r = phWaitOut ∧ s.fld (Reg.ST_SLICE_KIND r) = 2) ∧
    (∃ (s : State), s.selfTest.restore = true) := ⟨
    ⟨(State.reset.setBit Reg.ST_CTL_EN true).setFld (Reg.REG_STATUS_STATE 23) 4, 23,
      (((State.reset.setBit Reg.ST_CTL_EN true).setFld (Reg.REG_STATUS_STATE 23) 4).sweepNext 23).get (by decide +kernel),
      by decide +kernel⟩,
    ⟨({ State.reset with selfTest := { State.reset.selfTest with pos := [(23, 367)] } } : State).setBit Reg.ST_CTL_EN true |>.setFld (Reg.REG_STATUS_STATE 23) 4,
      23, by decide +kernel⟩,
    ⟨({ State.reset with frameMarks := [(frameKey 23 0 0 0, 3)] } : State).setFld (Reg.ST_SLICE_PHASE 23) phCopy, 23, 0,
      by decide +kernel⟩,
    ⟨({ State.reset with frameMarks := [(frameKey 23 0 0 0, 3)] } : State).setFld (Reg.ST_SLICE_PHASE 23) phRestore, 23, 0,
      by decide +kernel⟩,
    ⟨(State.reset.setFld (Reg.ST_SLICE_PHASE 23) phCopy), 23, by decide +kernel⟩,
    ⟨(State.reset.setFld (Reg.REG_STATUS_STATE 23) 3).setFld (Reg.ST_SLICE_PHASE 23) phWaitOut, 23, by decide +kernel⟩,
    ⟨(({ State.reset with selfTest := { State.reset.selfTest with marking := 2 ^ 23 } } : State).setFld (Reg.REG_STATUS_STATE 23) 3).setFld (Reg.ST_SLICE_PHASE 23) phWaitOut,
      23, by decide +kernel⟩,
    ⟨(State.reset.setFld (Reg.ST_SLICE_PHASE 23) phTest), 23, by decide +kernel⟩,
    ⟨((State.reset.setFld (Reg.ST_SLICE_PHASE 23) phTest).setFld (Reg.ST_SLICE_SPARE 23) inPlace), 23, by decide +kernel⟩,
    ⟨(State.reset.setFld (Reg.ST_SLICE_PHASE 23) phTest), 23, by decide +kernel⟩,
    ⟨({ State.reset with selfTest := { State.reset.selfTest with once := 2 ^ 23 } } : State).setFld (Reg.ST_SLICE_PHASE 23) phTest,
      23, by decide +kernel⟩,
    ⟨(State.reset.setFld (Reg.ST_SLICE_PHASE 23) phRestore), 23, by decide +kernel⟩,
    ⟨(State.reset.setFld (Reg.REG_STATUS_STATE 23) 3).setFld (Reg.ST_SLICE_PHASE 23) phParked, 23, by decide +kernel⟩,
    ⟨(((State.reset.setFld (Reg.ST_SLICE_PHASE 23) phWaitOut).setFld (Reg.ST_SLICE_KIND 23) 0).setBit (Reg.ST_SLICE_FLOWBLK 23) true),
      23, by decide +kernel⟩,
    ⟨((State.reset.setFld (Reg.ST_SLICE_PHASE 23) phWaitOut).setFld (Reg.ST_SLICE_KIND 23) 2), 23, by decide +kernel⟩,
    ⟨({ State.reset with selfTest := { State.reset.selfTest with restore := true } } : State), by decide +kernel⟩⟩

theorem met_self_test_and_life_cycle_complete :
    (∃ (s : State) (r : Nat) (kind : Nat) (idx : Nat), s.sliceCode r kind idx = .ok ∧ Tbl.get (0, 0) s.selfTest.behind r = (0,
      0)) ∧
    (∃ (s : State) (r : Nat) (kind : Nat) (idx : Nat), s.sliceCode r kind idx ≠ .ok) ∧
    (∃ (s : State) (r : Nat) (kind : Nat) (idx : Nat), s.sliceCode r kind idx = .ok ∧ Tbl.get (0, 0) s.selfTest.behind r ≠ (0,
      0)) ∧
    (∃ (s : State), s.abortAll.2 = false) ∧
    (∃ (r : Nat), 24 ≤ r) ∧
    (∃ (s : State) (r : Nat), r < 24 ∧ Tbl.get (0, 0) s.selfTest.behind r ≠ (0, 0)) ∧
    (∃ (s : State) (r : Nat), r < 24 ∧ (s.testing r = true ∨ s.slicing r = true)) ∧
    (∃ (s : State) (r : Nat), r < 24 ∧ s.testing r = false ∧ s.slicing r = false ∧ s.rstate r ≠ .blank) ∧
    (∃ (s : State) (r : Nat), r < 24 ∧ s.slicing r = true) ∧
    (∃ (s : State), s.abortAll.2 = true) ∧
    (∃ (s : State) (r : Nat), r < 24 ∧ s.testing r = false ∧ s.slicing r = false ∧ s.rstate r = .blank) ∧
    (∃ (s : State) (r : Nat), r < 24 ∧ s.testing r = true ∧ (let x := s.selfTest; x.once.testBit r = false)) ∧
    (∃ (s : State) (r : Nat), r < 24 ∧ s.testing r = true ∧ (let x := s.selfTest; x.once.testBit r = true)) ∧
    (∃ (s : State), s.on Reg.ST_STAT_AN_BUSY = false ∧ s.on Reg.ST_ACTL_DIODE_EN = true ∧ s.diodeSenses = false) ∧
    (∃ (s : State), s.on Reg.ST_STAT_AN_BUSY = false ∧ (s.on Reg.ST_ACTL_DIODE_EN = true → s.diodeSenses = true)) ∧
    (∃ (s : State), s.on Reg.ST_STAT_AN_BUSY = true) ∧
    (∃ (s : State) (r : Nat) (kind : Nat) (p : Nat) (j : Nat), s.sliceable r = true ∧ s.slicing r = false ∧ Tbl.get (0,
      0) s.selfTest.behind r = (0, 0) ∧ kind < 3 ∧ p < userCount kind ∧ s.freeSpare r kind = some j) ∧
    (∃ (s : State) (r : Nat) (kind : Nat) (p : Nat), s.sliceable r = true ∧ s.slicing r = false ∧ Tbl.get (0,
      0) s.selfTest.behind r = (0, 0) ∧ r < 24 ∧ kind < 3 ∧ p < userCount kind ∧ s.freeSpare r kind = none) ∧
    (∃ (s : State) (r : Nat) (kind : Nat) (p : Nat) (j : Nat), s.sliceable r = true ∧ s.slicing r = false ∧ Tbl.get (0,
      0) s.selfTest.behind r = (0, 0) ∧ r < 24 ∧ kind < 3 ∧ posOk kind p = true ∧ spareOfIndex kind p = some j ∧
      s.on (Reg.ST_SUB_USED r j) = false) ∧
    (∃ (r : Nat) (kind : Nat) (p : Nat), (24 ≤ r ∨ (kind ≠ 3 ∧ posOk kind p = false))) ∧
    (∃ (s : State) (r : Nat) (kind : Nat) (p : Nat), r < 24 ∧ (kind = 3 ∨ posOk kind p = true) ∧ s.sliceable r = false) ∧
    (∃ (s : State) (r : Nat) (kind : Nat) (p : Nat), r < 24 ∧ (kind = 3 ∨ posOk kind p = true) ∧ s.sliceable r = true ∧
      (s.slicing r = true ∨ Tbl.get (0, 0) s.selfTest.behind r ≠ (0, 0))) ∧
    (∃ (n : Nat), 128 ≤ n) ∧
    (∃ (s : State) (n : Nat), n < 128 ∧ s.on (Reg.LN_STATUS_ST_HOLD n) = false ∧ s.laneState n ≠ lnUp) ∧
    (∃ (s : State) (n : Nat), n < 128 ∧ s.on (Reg.LN_STATUS_ST_HOLD n) = false ∧ s.laneState n = lnUp) ∧
    (∃ (s : State) (n : Nat), s.on Reg.ST_CTL_EN = true ∧ s.on Reg.ST_CTL_LANECHK = true ∧ n < 128 ∧ s.selfTest.lanes = n ∧
      s.on (Reg.LN_STATUS_ST_HOLD n) = false ∧ s.laneState n = lnUp) ∧
    (∃ (s : State) (n : Nat), s.on Reg.ST_CTL_EN = true ∧ s.on Reg.ST_CTL_LANECHK = true ∧ n < 128 ∧ s.selfTest.lanes = n ∧
      s.on (Reg.LN_STATUS_ST_HOLD n) = false ∧ (s.laneState n = lnOff ∨ s.laneState n = lnWait)) ∧
    (∃ (s : State) (n : Nat), s.on Reg.ST_CTL_EN = true ∧ s.on Reg.ST_CTL_LANECHK = true ∧ n < 128 ∧ s.selfTest.lanes = n ∧
      s.on (Reg.LN_STATUS_ST_HOLD n) = false ∧ s.laneState n ≠ lnUp ∧ s.laneState n ≠ lnOff ∧ s.laneState n ≠ lnWait) ∧
    (∃ (s : State) (n : Nat), n < 128 ∧ s.on (Reg.LN_STATUS_ST_HOLD n) = true) ∧
    (∃ (s : State), s.hk.holdEn = false ∧ s.on Reg.ST_STAT_AN_BUSY = true) ∧
    (∃ (s : State), s.hk.holdEn = false ∧ s.on Reg.ST_STAT_AN_BUSY = false ∧ s.on Reg.ST_CTL_EN = true ∧
      s.on Reg.ST_CTL_ANALOG = true ∧ s.selfTest.analog = false) ∧
    (∃ (s : State) (target : Nat), target < 8 ∧ s.on Reg.LC_CMDSTAT_BUSY = false ∧ lcAllowed s.lcState target = true ∧
      lcZeroises s.lcState target = false) ∧
    (∃ (s : State) (target : Nat), target < 8 ∧ s.on Reg.LC_CMDSTAT_BUSY = false ∧ lcAllowed s.lcState target = true ∧
      lcZeroises s.lcState target = true) ∧
    (∃ (key : BitVec 8), key ≠ 0xC3) ∧
    (∃ (s : State) (target : Nat), target < 8 ∧ s.on Reg.LC_CMDSTAT_BUSY = true) ∧
    (∃ (s : State) (target : Nat), target < 8 ∧ s.on Reg.LC_CMDSTAT_BUSY = false ∧ lcAllowed s.lcState target = false) ∧
    (∃ (slot : Nat) (key : BitVec 8), slot < 2 ∧ key ≠ 0xC3) ∧
    (∃ (s : State) (slot : Nat) (key : BitVec 8), slot < 2 ∧ key = 0xC3 ∧ s.on Reg.LC_CMDSTAT_BUSY = true) ∧
    (∃ (s : State) (slot : Nat) (key : BitVec 8), slot < 2 ∧ key = 0xC3 ∧ s.on Reg.LC_CMDSTAT_BUSY = false ∧ s.lcState ≠ 1) ∧
    (∃ (s : State) (slot : Nat) (key : BitVec 8), slot < 2 ∧ key = 0xC3 ∧ s.on Reg.LC_CMDSTAT_BUSY = false ∧ s.lcState = 1 ∧
      (Tbl.get none s.fuses.keys slot).isSome = true ∨ hasBit s.fuses.kill slot = true) ∧
    (∃ (s : State) (slot : Nat), slot < 2 ∧ s.on Reg.LC_CMDSTAT_BUSY = false ∧ s.lcState = 1 ∧
      Tbl.get none s.fuses.keys slot = none ∧ s.fuses.kill.testBit slot = false) := ⟨
    ⟨State.reset.setFld (Reg.REG_STATUS_STATE 23) 3, 23, 2, 3, by decide +kernel⟩,
    ⟨State.reset, 23, 0, 0, by decide +kernel⟩,
    ⟨({ State.reset with selfTest := { State.reset.selfTest with behind := [(23, (5, 0))] } } : State).setFld (Reg.REG_STATUS_STATE 23) 3,
      23, 2, 3, by decide +kernel⟩,
    ⟨State.reset, by decide +kernel⟩,
    ⟨24, by decide +kernel⟩,
    ⟨({ State.reset with selfTest := { State.reset.selfTest with behind := [(23, (5, 0))] } } : State).setFld (Reg.REG_STATUS_STATE 23) 3,
      23, by decide +kernel⟩,
    ⟨({ State.reset with selfTest := { State.reset.selfTest with testing := 2 ^ 23 } } : State), 23, by decide +kernel⟩,
    ⟨State.reset, 23, by decide +kernel⟩,
    ⟨(State.reset.setFld (Reg.ST_SLICE_PHASE 23) phCopy), 23, by decide +kernel⟩,
    ⟨State.reset.setFld (Reg.ST_SLICE_PHASE 23) phCopy, by decide +kernel⟩,
    ⟨(State.reset.setFld (Reg.REG_STATUS_STATE 23) 1), 23, by decide +kernel⟩,
    ⟨({ State.reset with selfTest := { State.reset.selfTest with testing := 2 ^ 23 } } : State), 23, by decide +kernel⟩,
    ⟨({ State.reset with selfTest := { State.reset.selfTest with testing := 2 ^ 23, once := 2 ^ 23 } } : State), 23,
      by decide +kernel⟩,
    ⟨State.reset.setBit Reg.ST_ACTL_DIODE_EN true |>.setBit (Reg.CP_CFG_ANA 50) false, by decide +kernel⟩,
    ⟨(State.reset.setBit Reg.ST_STAT_AN_BUSY false), by decide +kernel⟩,
    ⟨(State.reset.setBit Reg.ST_STAT_AN_BUSY true), by decide +kernel⟩,
    ⟨(State.reset.setFld (Reg.REG_STATUS_STATE 23) 4), 23, 0, 0, 0, by decide +kernel⟩,
    ⟨((State.reset.setFld (Reg.REG_STATUS_STATE 23) 3).setBit (Reg.ST_SUB_USED 23 10) true), 23, 2, 3, by decide +kernel⟩,
    ⟨State.reset.setFld (Reg.REG_STATUS_STATE 23) 3, 23, 2, 4, ((spareOfIndex 2 4).get (by decide)), by decide +kernel⟩,
    ⟨24, 0, 0, by decide +kernel⟩,
    ⟨State.reset, 23, 0, 0, by decide +kernel⟩,
    ⟨({ State.reset with selfTest := { State.reset.selfTest with behind := [(23, (5, 0))] } } : State).setFld (Reg.REG_STATUS_STATE 23) 3,
      23, 2, 3, by decide +kernel⟩,
    ⟨128, by decide +kernel⟩,
    ⟨(State.reset.setBit (Reg.LN_STATUS_ST_HOLD 127) false), 127, by decide +kernel⟩,
    ⟨((State.reset.setBit (Reg.LN_STATUS_ST_HOLD 127) false).setFld (Reg.LN_STATUS_STATE 127) lnUp), 127, by decide +kernel⟩,
    ⟨((((({ State.reset with selfTest := { State.reset.selfTest with lanes := 127 } } : State).setBit Reg.ST_CTL_EN true).setBit Reg.ST_CTL_LANECHK true).setBit (Reg.LN_STATUS_ST_HOLD 127) false).setFld (Reg.LN_STATUS_STATE 127) lnUp),
      127, by decide +kernel⟩,
    ⟨(((({ State.reset with selfTest := { State.reset.selfTest with lanes := 127 } } : State).setBit Reg.ST_CTL_EN true).setBit Reg.ST_CTL_LANECHK true).setBit (Reg.LN_STATUS_ST_HOLD 127) false),
      127, by decide +kernel⟩,
    ⟨({ State.reset with selfTest := { State.reset.selfTest with lanes := 127 } } : State).setBit Reg.ST_CTL_EN true |>.setBit Reg.ST_CTL_LANECHK true |>.setFld (Reg.LN_STATUS_STATE 127) lnTrain,
      127, by decide +kernel⟩,
    ⟨(State.reset.setBit (Reg.LN_STATUS_ST_HOLD 127) true), 127, by decide +kernel⟩,
    ⟨(({ State.reset with hk := { State.reset.hk with holdEn := false } } : State).setBit Reg.ST_STAT_AN_BUSY true),
      by decide +kernel⟩,
    ⟨(((({ State.reset with hk := { State.reset.hk with holdEn := false }, selfTest := { State.reset.selfTest with analog := false } } : State).setBit Reg.ST_STAT_AN_BUSY false).setBit Reg.ST_CTL_EN true).setBit Reg.ST_CTL_ANALOG true),
      by decide +kernel⟩,
    ⟨(State.reset.setBit Reg.LC_CMDSTAT_BUSY false), 1, by decide +kernel⟩,
    ⟨{ State.reset with fuses := { State.reset.fuses with states := 2 } }, 4, by decide +kernel⟩,
    ⟨0, by decide +kernel⟩,
    ⟨(State.reset.setBit Reg.LC_CMDSTAT_BUSY true), 0, by decide +kernel⟩,
    ⟨(State.reset.setBit Reg.LC_CMDSTAT_BUSY false), 7, by decide +kernel⟩,
    ⟨0, 0, by decide +kernel⟩,
    ⟨State.reset.setBit Reg.LC_CMDSTAT_BUSY true, 1, 0xC3, by decide +kernel⟩,
    ⟨State.reset, 1, 0xC3, by decide +kernel⟩,
    ⟨{ State.reset with fuses := { State.reset.fuses with states := 2, kill := 2 } }, 1, 0xC3, by decide +kernel⟩,
    ⟨{ State.reset with fuses := { State.reset.fuses with states := 2 } }, 1, by decide +kernel⟩⟩

theorem met_pin_data_completes :
    (∃ (s : State) (b : Nat) (p : Nat), s.pinLive b p 1 = true ∧ 2 ≤ ioDir ((s.bank b).word p) ∧
      (let xs := if ioDir ((s.bank b).word p) = 3 then [s.toBank b (5 * p), s.toBank b (5 * p + 1)] else [s.toBank b (5 * p)]; (let y := (s.bank b).pin p; y.oack = true ∧
      xs.all (fun v => v.rail == .null) = true))) ∧
    (∃ (s : State) (b : Nat) (p : Nat), s.pinLive b p 1 = true ∧ 2 ≤ ioDir ((s.bank b).word p) ∧
      (let xs := if ioDir ((s.bank b).word p) = 3 then [s.toBank b (5 * p), s.toBank b (5 * p + 1)] else [s.toBank b (5 * p)]; (let y := (s.bank b).pin p; y.oack = false ∧
      xs.all (·.rail.valid) = true))) ∧
    (∃ (s : State) (b : Nat) (p : Nat) (level : Option Bool), s.pinLive b p 1 = true ∧
      (ioDir ((s.bank b).word p)).testBit 0 = true ∧
      (let t := s.setBalls [(48 * b + p, level)]; (let y := (t.bank b).pin p; y.tok.isSome = true ∧
      (t.toBank b (5 * p + 2)).rail = .one))) ∧
    (∃ (s : State) (b : Nat) (p : Nat) (level : Option Bool), s.pinLive b p 1 = true ∧
      (ioDir ((s.bank b).word p)).testBit 0 = true ∧
      (let t := s.setBalls [(48 * b + p, level)]; (let y := (t.bank b).pin p; y.tok = none ∧
      (t.toBank b (5 * p + 2)).rail = .null))) ∧
    (∃ (s : State) (b : Nat) (p : Nat), s.pinLive b p 1 = false ∧ s.pinLive b p 2 = true ∧ ioDir ((s.bank b).word p) = 1 ∧
      (let x := s.bank b; (let g := x.gear (p / 2); g.tok = true ∧ (s.toBank b (5 * p + 8)).rail = .one))) ∧
    (∃ (s : State) (b : Nat) (p : Nat), s.pinLive b p 1 = false ∧ s.pinLive b p 2 = true ∧ ioDir ((s.bank b).word p) = 1 ∧
      (let x := s.bank b; (let g := x.gear (p / 2); g.tok = false ∧ g.iack = true ∧ (s.toBank b (5 * p + 8)).rail = .null))) ∧
    (∃ (s : State) (b : Nat) (q : Nat) (w : Nat) (l : List Nat), s.pinLive b (2 * q) 2 = true ∧
      ioDir ((s.bank b).word (2 * q)) = 2 ∧ (let x := s.bank b; (x.gear q).outq = w :: l)) ∧
    (∃ (s : State) (b : Nat) (q : Nat), s.pinLive b (2 * q) 2 = true ∧ ioDir ((s.bank b).word (2 * q)) = 2 ∧
      (let x := s.bank b; (let xs := (List.range 8).map (fun i => s.toBank b (10 * q + i)); (x.gear q).oack = false ∧
      xs.all (·.rail.valid) = true ∧ (x.gear q).outq.length < 4))) ∧
    (∃ (s : State) (b : Nat) (q : Nat), s.pinLive b (2 * q) 2 = true ∧ ioDir ((s.bank b).word (2 * q)) = 2 ∧
      (let x := s.bank b; (let xs := (List.range 8).map (fun i => s.toBank b (10 * q + i)); (x.gear q).oack = true ∧
      xs.all (fun v => v.rail == .null) = true))) ∧
    (∃ (s : State) (b : Nat) (q : Nat), s.pinLive b (2 * q) 2 = true ∧ ioDir ((s.bank b).word (2 * q)) = 2 ∧
      (let x := s.bank b; (x.gear q).outq = [])) ∧
    (∃ (s : State) (b : Nat) (q : Nat) (bits : BitVec 8), b < 12 ∧ s.gearedIn b q = true ∧
      ((s.bank b).pin (2 * q)).hold = none ∧
      (let x := s.bank b; (let rx := (x.gear q).receive ((List.range 8).map (fun i => bits.toNat.testBit i)); rx.2 = []))) ∧
    (∃ (s : State) (b : Nat) (q : Nat) (bits : BitVec 8) (w : Nat) (ws : List Nat), b < 12 ∧ s.gearedIn b q = true ∧
      ((s.bank b).pin (2 * q)).hold = none ∧
      (let x := s.bank b; (let rx := (x.gear q).receive ((List.range 8).map (fun i => bits.toNat.testBit i)); rx.2 = w :: ws ∧
      rx.1.inq.length < 4))) ∧
    (∃ (s : State) (b : Nat) (q : Nat) (bits : BitVec 8) (w : Nat) (ws : List Nat), b < 12 ∧ s.gearedIn b q = true ∧
      ((s.bank b).pin (2 * q)).hold = none ∧
      (let x := s.bank b; (let rx := (x.gear q).receive ((List.range 8).map (fun i => bits.toNat.testBit i)); rx.2 = w :: ws ∧
      4 ≤ rx.1.inq.length))) ∧
    (∃ (s : State) (b : Nat) (q : Nat), b < 12 ∧ s.gearedIn b q = true) ∧
    (∃ (s : State) (b : Nat) (q : Nat), b < 12 ∧ q < 32 ∧ s.gearedIn b q = false) ∧
    (∃ (b : Nat) (q : Nat), b < 12 ∧ q < 32 ∧ 6 ≤ b) ∧
    (∃ (s : State) (b : Nat) (q : Nat), b < 12 ∧ q < 32 ∧ b < 6 ∧ s.on (Reg.IOB_STAT_VOK b) = false) ∧
    (∃ (s : State) (b : Nat) (q : Nat), b < 12 ∧ q < 32 ∧ b < 6 ∧ s.on (Reg.IOB_STAT_VOK b) = true) := ⟨
    ⟨(fabricAt .nullWave []).setBank 11 { State.reset.bank 11 with cfg := [(46, 96)], pins := [(46, { (State.reset.bank 11).pin 46 with hold := none, oack := true })] },
      11, 46, by decide +kernel⟩,
    ⟨(fabricAt .evaluating []).setBank 11 { State.reset.bank 11 with cfg := [(46, 96)], pins := [(46, { (State.reset.bank 11).pin 46 with hold := none })] },
      11, 46, by decide +kernel⟩,
    ⟨(fabricAt .evaluating [(frameKey 23 41 13 40, 7 * 2 ^ 18 + 1)]).setBank 11 { State.reset.bank 11 with cfg := [(46, 80)], pins := [(46, { (State.reset.bank 11).pin 46 with hold := none, tok := some true })] },
      11, 46, some true, by decide +kernel⟩,
    ⟨(fabricAt .nullWave []).setBank 11 { State.reset.bank 11 with cfg := [(46, 80)], pins := [(46, { (State.reset.bank 11).pin 46 with hold := none })] },
      11, 46, some true, by decide +kernel⟩,
    ⟨(fabricAt .evaluating [(frameKey 23 41 13 46, 7 * 2 ^ 18 + 1)]).setBank 11 { State.reset.bank 11 with cfg := [(46, 152)], pins := [(46, { (State.reset.bank 11).pin 46 with hold := none })], gears := [(23, { (State.reset.bank 11).gear 23 with tok := true })] },
      11, 46, by decide +kernel⟩,
    ⟨(fabricAt .nullWave []).setBank 11 { State.reset.bank 11 with cfg := [(46, 152)], pins := [(46, { (State.reset.bank 11).pin 46 with hold := none })], gears := [(23, { (State.reset.bank 11).gear 23 with iack := true })] },
      11, 46, by decide +kernel⟩,
    ⟨(fabricAt .evaluating []).setBank 11 { State.reset.bank 11 with cfg := [(46, 168)], pins := [(46, { (State.reset.bank 11).pin 46 with hold := none })], gears := [(23, { (State.reset.bank 11).gear 23 with outq := [129] })] },
      11, 23, 129, [], by decide +kernel⟩,
    ⟨(fabricAt .evaluating []).setBank 11 { State.reset.bank 11 with cfg := [(46, 168)], pins := [(46, { (State.reset.bank 11).pin 46 with hold := none })] },
      11, 23, by decide +kernel⟩,
    ⟨(fabricAt .nullWave []).setBank 11 { State.reset.bank 11 with cfg := [(46, 168)], pins := [(46, { (State.reset.bank 11).pin 46 with hold := none })], gears := [(23, { (State.reset.bank 11).gear 23 with oack := true })] },
      11, 23, by decide +kernel⟩,
    ⟨(fabricAt .evaluating []).setBank 11 { State.reset.bank 11 with cfg := [(46, 168)], pins := [(46, { (State.reset.bank 11).pin 46 with hold := none })] },
      11, 23, by decide +kernel⟩,
    ⟨(fabricAt .evaluating []).setBank 11 { State.reset.bank 11 with cfg := [(46, 152)], pins := [(46, { (State.reset.bank 11).pin 46 with hold := none })], gears := [(23, { (State.reset.bank 11).gear 23 with slip := 1 })] },
      11, 23, 0x81, by decide +kernel⟩,
    ⟨(fabricAt .evaluating []).setBank 11 { State.reset.bank 11 with cfg := [(46, 152)], pins := [(46, { (State.reset.bank 11).pin 46 with hold := none })] },
      11, 23, 0x81, 0x81, [], by decide +kernel⟩,
    ⟨(fabricAt .evaluating []).setBank 11 { State.reset.bank 11 with cfg := [(46, 152)], pins := [(46, { (State.reset.bank 11).pin 46 with hold := none })], gears := [(23, { (State.reset.bank 11).gear 23 with inq := [1, 2, 3, 4] })] },
      11, 23, 0x81, 0x81, [], by decide +kernel⟩,
    ⟨(fabricAt .evaluating []).setBank 11 { State.reset.bank 11 with cfg := [(46, 152)], pins := [(46, { (State.reset.bank 11).pin 46 with hold := none })] },
      11, 23, by decide +kernel⟩,
    ⟨State.reset, 11, 31, by decide +kernel⟩,
    ⟨6, 0, by decide +kernel⟩,
    ⟨(State.reset.setBit (Reg.IOB_STAT_VOK 5) false), 5, 0, by decide +kernel⟩,
    ⟨(State.reset.setBit (Reg.IOB_STAT_VOK 5) true), 5, 0, by decide +kernel⟩⟩

theorem met_pin_events_complete :
    (∃ (s : State) (b : Nat) (p : Nat) (v : Bool), b < 6 ∧ p < 48 ∧ s.pinDrive b p = .level v ∧
      (s.bank b).set.testBit 3 = false) ∧
    (∃ (s : State) (b : Nat) (p : Nat) (v : Bool), b < 6 ∧ p < 48 ∧ s.pinDrive b p = .level v ∧ (s.bank b).set.testBit 3 = true) ∧
    (∃ (s : State) (b : Nat) (mv : Nat), b < 12 ∧ mv * 100 < nominalMv ((s.bank b).set % 4) * 80 ∧ s.hk.up = true ∧ b < 6) ∧
    (∃ (s : State) (b : Nat) (mv : Nat), b < 12 ∧ mv * 100 < nominalMv ((s.bank b).set % 4) * 80 ∧ s.hk.up = true ∧ 6 ≤ b) ∧
    (∃ (s : State) (b : Nat) (mv : Nat), b < 12 ∧ mv * 100 < nominalMv ((s.bank b).set % 4) * 80 ∧ s.hk.up = false) ∧
    (∃ (s : State) (b : Nat) (mv : Nat), b < 12 ∧ (let nom := nominalMv ((s.bank b).set % 4); s.hk.up = true ∧
      mv * 100 < nom * 90 ∧ s.on (Reg.IOB_STAT_VOK b) = true)) ∧
    (∃ (s : State) (b : Nat) (mv : Nat), b < 12 ∧ (let nom := nominalMv ((s.bank b).set % 4); s.hk.up = true ∧
      nom * 90 ≤ mv * 100 ∧ mv * 100 ≤ nom * 110 ∧ s.on (Reg.IOB_STAT_VOK b) = false)) ∧
    (∃ (s : State) (n : Nat), n < 52 ∧ ownPin n = false ∧ (hasFilter n = false ∨ s.hk.up = false)) ∧
    (∃ (s : State) (n : Nat), n < 52 ∧ ownPin n = false ∧ hasFilter n = true ∧ s.hk.up = true) ∧
    (∃ (s : State) (n : Nat), hasFilter n = true ∧ s.fld (Reg.CP_CFG_FILT n) = 1) ∧
    (∃ (s : State) (n : Nat), hasFilter n = true ∧ s.fld (Reg.CP_CFG_FILT n) = 2 ∧ Tbl.get false s.pins.window n = true) ∧
    (∃ (n : Nat) (value : BitVec 32), n < 52 ∧
      (let v := value.toNat &&& 0x37FFF; (let m := cpMask n; v &&& (0x37FFF - m) = (resetOf (Reg.CP_CFG n)).toNat &&& (0x37FFF - m) ∧
      bitsOf v 2 2 ≠ 3))) ∧
    (∃ (n : Nat) (value : BitVec 32), n < 52 ∧
      (let v := value.toNat &&& 0x37FFF; (let m := cpMask n; (v &&& (0x37FFF - m) ≠ (resetOf (Reg.CP_CFG n)).toNat &&& (0x37FFF - m) ∨ bitsOf v 2 2 = 3)))) ∧
    (∃ (k : Nat) (value : BitVec 32), k < 64 ∧ (value.toNat.testBit 4 = true → k < 8)) ∧
    (∃ (k : Nat) (value : BitVec 32), 8 ≤ k ∧ k < 64 ∧ value.toNat.testBit 4 = true) := ⟨
    ⟨(State.reset.setBit (Reg.IOB_STAT_VOK 5) true).setBank 5 { State.reset.bank 5 with set := 4, cfg := [(47, 32)], pins := [(47, { (State.reset.bank 5).pin 47 with hold := none })] },
      5, 47, false, by decide +kernel⟩,
    ⟨(State.reset.setBit (Reg.IOB_STAT_VOK 5) true).setBank 5 { State.reset.bank 5 with set := 12, cfg := [(47, 32)], pins := [(47, { (State.reset.bank 5).pin 47 with hold := none })] },
      5, 47, false, by decide +kernel⟩,
    ⟨({ State.reset with hk := { State.reset.hk with up := true } } : State), 5, 0, by decide +kernel⟩,
    ⟨({ State.reset with hk := { State.reset.hk with up := true } } : State), 6, 0, by decide +kernel⟩,
    ⟨({ State.reset with hk := { State.reset.hk with up := false } } : State), 11, 0, by decide +kernel⟩,
    ⟨(({ State.reset with hk := { State.reset.hk with up := true } } : State).setBit (Reg.IOB_STAT_VOK 11) true), 11, 0,
      by decide +kernel⟩,
    ⟨({ State.reset with hk := { State.reset.hk with up := true } } : State).setBit (Reg.IOB_STAT_VOK 11) false, 11, 1000,
      by decide +kernel⟩,
    ⟨State.reset, 2, by decide +kernel⟩,
    ⟨({ State.reset with hk := { State.reset.hk with up := true } } : State), 4, by decide +kernel⟩,
    ⟨(State.reset.setFld (Reg.CP_CFG_FILT 11) 1), 11, by decide +kernel⟩,
    ⟨({ State.reset with pins := { State.reset.pins with window := [(4, true)] } } : State).setFld (Reg.CP_CFG_FILT 4) 2, 4,
      by decide +kernel⟩,
    ⟨0, BitVec.ofNat 32 (resetOf (Reg.CP_CFG 0)).toNat, by decide +kernel⟩,
    ⟨0, 0, by decide +kernel⟩,
    ⟨7, 16, by decide +kernel⟩,
    ⟨8, 16, by decide +kernel⟩⟩

theorem met_incident_log_completes :
    (∃ (src : Nat) (n : Nat) (v : Sev) (code : Nat), sevOf n = some v ∧ allSources.contains src = true ∧ code < 128) ∧
    (∃ (s : State) (src : Nat) (i : Incident) (l : List Incident), (s.busPort src).slots = i :: l) ∧
    (∃ (value : BitVec 32), (let burst := value.toNat % 2 ^ 8; (let refill := bitsOf value.toNat 16 16; burst ≠ 0 ∧
      refill ≠ 0))) ∧
    (∃ (value : BitVec 32),
      (let burst := value.toNat % 2 ^ 8; (let refill := bitsOf value.toNat 16 16; (burst = 0 ∨ refill = 0)))) ∧
    (∃ (s : State), s.pmHeld = true) ∧
    (∃ (s : State), s.pmHeld = false) := ⟨
    ⟨srcBank 11, 5, .fatal, 127, by decide +kernel⟩,
    ⟨State.reset.setBusPort (srcBank 11) ⟨[⟨.fatal, srcBank 11, 0x60, 5, 9⟩], 0⟩, srcBank 11, ⟨.fatal, srcBank 11, 0x60, 5, 9⟩,
      [], by decide +kernel⟩,
    ⟨0x10001, by decide +kernel⟩,
    ⟨0, by decide +kernel⟩,
    ⟨{ State.reset with lovage := { State.reset.lovage with pm := 2 ^ 79 } }, by decide +kernel⟩,
    ⟨State.reset, by decide +kernel⟩⟩

theorem met_power_completes :
    (∃ (s : State), s.lovage.st = .stby ∧ s.cpBall 0 = false) ∧
    (∃ (s : State), s.lovage.st = .stby ∧ s.cpBall 0 = true ∧ s.lovage.tripHold = false) ∧
    (∃ (s : State), s.lovage.st = .off) ∧
    (∃ (s : State) (n : Nat) (mv : Nat), s.hk.up = true ∧ n < 7 ∧ mv < railFails n) ∧
    (∃ (s : State) (n : Nat) (mv : Nat), s.hk.up = true ∧ n < 7 ∧ railFails n ≤ mv) ∧
    (∃ (s : State) (mv : Nat), s.hk.up = true ∧ mv < 1500) ∧
    (∃ (s : State) (n : Nat), s.hk.up = true ∧ 8 ≤ n ∧ n < 20) ∧
    (∃ (s : State) (mv : Nat), s.hk.up = true ∧ 1500 ≤ mv) ∧
    (∃ (s : State) (mv : Nat), s.hk.up = true ∧ mv < 3000 ∧ s.holdSenses = true) ∧
    (∃ (s : State) (mv : Nat), s.hk.up = true ∧ (3000 ≤ mv ∨ s.holdSenses = false)) ∧
    (∃ (s : State) (n : Nat) (mv : Nat), s.hk.up = true ∧ n < 8 ∧ (n < 7 → railFails n ≤ mv) ∧ (n = 7 → 1500 ≤ mv) ∧
      (let w := s.monitorWindow n; (let was := s.on (Reg.PWR_RAIL_LOW n) || s.on (Reg.PWR_RAIL_HIGH n); (let out := decide (mv * 1000 < w.1) || decide (w.2 < mv * 1000); out = was)))) ∧
    (∃ (s : State) (n : Nat) (mv : Nat), s.hk.up = true ∧ n < 8 ∧ (n < 7 → railFails n ≤ mv) ∧ (n = 7 → 1500 ≤ mv) ∧
      (let w := s.monitorWindow n; (let was := s.on (Reg.PWR_RAIL_LOW n) || s.on (Reg.PWR_RAIL_HIGH n); (let out := decide (mv * 1000 < w.1) || decide (w.2 < mv * 1000); out = true ∧
      was = false)))) ∧
    (∃ (s : State) (n : Nat) (mv : Nat), s.hk.up = true ∧ n < 8 ∧ (n < 7 → railFails n ≤ mv) ∧ (n = 7 → 1500 ≤ mv) ∧
      (let w := s.monitorWindow n; (let was := s.on (Reg.PWR_RAIL_LOW n) || s.on (Reg.PWR_RAIL_HIGH n); (let out := decide (mv * 1000 < w.1) || decide (w.2 < mv * 1000); out = false ∧
      was = true)))) ∧
    (∃ (s : State) (temps : List (BitVec 16)) (k : Nat), s.hk.up = true ∧ s.lovage.tripHold = false ∧
      (let xs := (List.range 32).map (fun k => (k,
      (temps.getD k 0).toNat)); (let hot := fun (e : Nat × Nat) => decide (1200 ≤ tempOf e.2) && decide (1200 ≤ tempOf (s.fld (Reg.PWR_TS_TEMP e.1))); xs.find? hot = some (k,
      (temps.getD k 0).toNat) ∧
      (let t := xs.foldl (fun s e => s.setFld (Reg.PWR_TS_TEMP e.1) e.2) s; (let u := (t.setFld Reg.PWR_TMAX_TEMP (hottest xs).2).setFld Reg.PWR_TMAX_SENSOR (hottest xs).1; u.on Reg.PWR_STAT_TWARN_ACT = true))))) ∧
    (∃ (s : State) (temps : List (BitVec 16)), s.hk.up = true ∧ s.lovage.tripHold = false ∧ (∀ k : Nat,
      k < 32 → tempOf (temps.getD k 0).toNat < 1200) ∧ (let xs := (List.range 32).map (fun k => (k,
      (temps.getD k 0).toNat)); (let t := xs.foldl (fun s e => s.setFld (Reg.PWR_TS_TEMP e.1) e.2) s; (let u := (t.setFld Reg.PWR_TMAX_TEMP (hottest xs).2).setFld Reg.PWR_TMAX_SENSOR (hottest xs).1; tempOf (hottest xs).2 < 10 * (u.fld Reg.PWR_CTL_TWARN : Int))))) ∧
    (∃ (s : State) (temps : List (BitVec 16)), s.hk.up = true ∧ s.lovage.tripHold = false ∧ (∀ k : Nat,
      k < 32 → tempOf (temps.getD k 0).toNat < 1200) ∧ (let xs := (List.range 32).map (fun k => (k,
      (temps.getD k 0).toNat)); (let t := xs.foldl (fun s e => s.setFld (Reg.PWR_TS_TEMP e.1) e.2) s; (let u := (t.setFld Reg.PWR_TMAX_TEMP (hottest xs).2).setFld Reg.PWR_TMAX_SENSOR (hottest xs).1; 10 * (u.fld Reg.PWR_CTL_TWARN : Int) ≤ tempOf (hottest xs).2 ∧
      u.on Reg.PWR_STAT_TWARN_ACT = false)))) ∧
    (∃ (s : State), s.on Reg.PWR_STAT_TWARN_ACT = true ∧ (∀ k : Nat,
      k < 32 → tempOf (s.fld (Reg.PWR_TS_TEMP k)) < 10 * ((s.fld Reg.PWR_CTL_TWARN : Int) - 5))) ∧
    (∃ (s : State), s.lovage.tripHold = true ∧ s.hk.up = false ∧ s.lovage.st = .run ∧ s.cpBall 0 = true) ∧
    (∃ (s : State), s.lovage.tripHold = true ∧ s.hk.up = false ∧ s.lovage.st ≠ .run) ∧
    (∃ (s : State) (level : Bool), s.lovage.st = .stby ∧ s.cpBall 47 ≠ level) ∧
    (∃ (value : BitVec 32), (let t := value.toNat % 256; 60 ≤ t ∧ t ≤ 110)) ∧
    (∃ (value : BitVec 32), (let t := value.toNat % 256; (t < 60 ∨ 110 < t))) ∧
    (∃ (code : BitVec 8), code.toNat ≤ 6) ∧
    (∃ (code : BitVec 8), 6 < code.toNat ∧ code ≠ 0x40 ∧ code ≠ 0x41) ∧
    (∃ (s : State) (code : BitVec 8), (code = 0x40 ∨ code = 0x41) ∧ (s.lcState = 0 ∨ s.lcState = 3)) ∧
    (∃ (s : State) (code : BitVec 8), (code = 0x40 ∨ code = 0x41) ∧ s.lcState ≠ 0 ∧ s.lcState ≠ 3) ∧
    (∃ (s : State), s.jtag = 1) := ⟨
    ⟨{ State.reset with lovage := { State.reset.lovage with st := .stby }, pins := { State.reset.pins with balls := [(0, false)] } },
      by decide +kernel⟩,
    ⟨({ State.reset with lovage := { State.reset.lovage with st := .stby, tripHold := false } } : State), by decide +kernel⟩,
    ⟨({ State.reset with lovage := { State.reset.lovage with st := .off } } : State), by decide +kernel⟩,
    ⟨({ State.reset with hk := { State.reset.hk with up := true } } : State), 0, 0, by decide +kernel⟩,
    ⟨({ State.reset with hk := { State.reset.hk with up := true } } : State), 0, 2000, by decide +kernel⟩,
    ⟨({ State.reset with hk := { State.reset.hk with up := true } } : State), 0, by decide +kernel⟩,
    ⟨({ State.reset with hk := { State.reset.hk with up := true } } : State), 8, by decide +kernel⟩,
    ⟨({ State.reset with hk := { State.reset.hk with up := true } } : State), 1500, by decide +kernel⟩,
    ⟨({ State.reset with hk := { State.reset.hk with up := true } } : State), 0, by decide +kernel⟩,
    ⟨({ State.reset with hk := { State.reset.hk with up := true } } : State), 3000, by decide +kernel⟩,
    ⟨({ State.reset with hk := { State.reset.hk with up := true } } : State), 1, 750, by decide +kernel⟩,
    ⟨({ State.reset with hk := { State.reset.hk with up := true } } : State), 1, 800, by decide +kernel⟩,
    ⟨({ State.reset with hk := { State.reset.hk with up := true } } : State).setBit (Reg.PWR_RAIL_LOW 1) true, 1, 750,
      by decide +kernel⟩,
    ⟨(({ State.reset with hk := { State.reset.hk with up := true } } : State).setFld (Reg.PWR_TS_TEMP 0) 1200).setBit Reg.PWR_STAT_TWARN_ACT true,
      [1200], 0, by decide +kernel⟩,
    ⟨({ State.reset with hk := { State.reset.hk with up := true }, lovage := { State.reset.lovage with tripHold := false } } : State),
      [], by decide +kernel⟩,
    ⟨({ State.reset with hk := { State.reset.hk with up := true }, lovage := { State.reset.lovage with tripHold := false } } : State),
      [1100], by decide +kernel⟩,
    ⟨(State.reset.setBit Reg.PWR_STAT_TWARN_ACT true), by decide +kernel⟩,
    ⟨({ State.reset with lovage := { State.reset.lovage with tripHold := true, st := .run }, hk := { State.reset.hk with up := false } } : State),
      by decide +kernel⟩,
    ⟨{ State.reset with lovage := { State.reset.lovage with st := .stby, tripHold := true } }, by decide +kernel⟩,
    ⟨{ State.reset with lovage := { State.reset.lovage with st := .stby } }, !State.reset.cpBall 47, by decide +kernel⟩,
    ⟨60, by decide +kernel⟩,
    ⟨0, by decide +kernel⟩,
    ⟨0, by decide +kernel⟩,
    ⟨7, by decide +kernel⟩,
    ⟨State.reset, 0x40, by decide +kernel⟩,
    ⟨{ State.reset with fuses := { FuseSt.reset with states := 2 } }, 0x40, by decide +kernel⟩,
    ⟨State.reset, by decide +kernel⟩⟩

theorem met_step_runs_the_front_command :
    (∃ (s : State) (c : Instr) (rest : List Instr), s.pending = c :: rest) ∧
    (∃ (s : State), s.pending = []) := ⟨
    ⟨{ State.reset with pending := [.tickSyncArm 1, .pllLockLost] }, .tickSyncArm 1, [.pllLockLost], by decide +kernel⟩,
    ⟨State.reset, by decide +kernel⟩⟩

theorem met_reset_leaves :
    (∃ (r : Nat), r < 24) ∧
    (∃ (e : Nat), e < 96) ∧
    (∃ (k : Nat), k < 64) := ⟨
    ⟨23, by decide +kernel⟩,
    ⟨95, by decide +kernel⟩,
    ⟨63, by decide +kernel⟩⟩

theorem met_vectors_follow_kept :
    ∃ (s : State) (t : State), VectorsFollow s ∧ step s = .next t := 
  ⟨State.reset, State.reset, ⟨by unfold VectorsFollow; decide +kernel, rfl⟩⟩

theorem met_interrupt_routes :
    ∃ (p : Nat) (v : Nat), p < 2 ∧ v < 64 := 
  ⟨1, 0, by decide +kernel⟩

theorem met_vectors_set_pending_bits :
    ∃ (s : State) (u : State) (p : Nat) (v : Nat), VectorsFollow s ∧ u.host.vecActive = s.host.vecActive ∧ p < 2 ∧ v < 64 := 
  ⟨State.reset, State.reset, 1, 63, ⟨by unfold VectorsFollow; decide +kernel, by decide +kernel, by decide +kernel,
    by decide +kernel⟩⟩

theorem met_unassigned_places :
    ∃ (s : State) (addr : Nat), 0x10000 ≤ addr ∧ addr < 0x4000000 ∧ placeOf addr = .unassigned ∧ s.gate addr = .ok := 
  ⟨State.reset, 0x2FFFC, by decide +kernel⟩

theorem met_wide_register_reads :
    (∃ (s : State) (req : Nat) (addr : Nat) (x : RegAt) (q : Nat) (a : Nat), 0x10000 ≤ addr ∧ findReg addr = some x ∧
      placeOf addr = .reg x ∧ x.desc.bytes = 8 ∧ semAt x.base = none ∧ s.gate addr = .ok ∧ x.off = 0 ∧ (q, a) ≠ (req, x.base)) ∧
    (∃ (s : State) (addr : Nat) (x : RegAt), 0x10000 ≤ addr ∧ findReg addr = some x ∧ placeOf addr = .reg x ∧
      x.desc.bytes = 8 ∧ semAt x.base = none ∧ s.gate addr = .ok ∧ x.off = 4) := ⟨
    ⟨State.reset, 0, Reg.TICK_COUNT, (findReg Reg.TICK_COUNT).get (by decide +kernel), 1, 0, by decide +kernel⟩,
    ⟨State.reset, Reg.TICK_COUNT + 4, (findReg (Reg.TICK_COUNT + 4)).get (by decide +kernel), by decide +kernel⟩⟩

theorem met_semaphore_force :
    ∃ (s : State) (p : Nat) (sem : Nat), s.portUp p = true ∧ s.decodes p = true ∧ sem < 64 ∧ s.host.rescue = none ∧
      s.fld (Reg.HSEM_OWNER sem) ≠ 0 := 
  ⟨((({ State.reset with hk := { State.reset.hk with up := true }, host := { State.reset.host with rescue := none } } : State).setBit (Reg.HP_STATUS_LINK_UP 1) true).setFld (Reg.HSEM_OWNER 63) 1),
    1, 63, by decide +kernel⟩

theorem met_counters_saturate :
    ∃ (f : Fld) (sat : Fld), f.ok ∧ sat.ok ∧ sat.width = 1 ∧ f.apart sat ∧ sat.apart f := 
  ⟨Reg.CFG_PRECNT_COUNT, Reg.CFG_ERR_CNT_SAT, by unfold Fld.ok Fld.apart; decide +kernel⟩

theorem met_bus_ports_hold_their_slots :
    (∃ (s : State) (i : Incident),
      (let low := fun (u : State) => ((u.busPort i.src).slots.filter (fun j => j.sev != .fatal)).length; (let all := fun (u : State) => (u.busPort i.src).slots.length; all s ≤ 5 ∧
      low s ≤ 4 ∧ (let t := s.deliver i; i.sev = .fatal ∧ i ∉ (t.busPort i.src).slots)))) ∧
    (∃ (s : State) (i : Incident),
      (let low := fun (u : State) => ((u.busPort i.src).slots.filter (fun j => j.sev != .fatal)).length; (let all := fun (u : State) => (u.busPort i.src).slots.length; all s ≤ 5 ∧
      low s ≤ 4 ∧ (let t := s.deliver i; i.sev ≠ .fatal ∧ (t.busPort i.src).drops ≠ (s.busPort i.src).drops ∧
      s.fld Reg.IL_CTL_ALMSEV ≤ i.sev.num)))) ∧
    (∃ (s : State) (i : Incident) (k : Nat),
      (let low := fun (u : State) => ((u.busPort i.src).slots.filter (fun j => j.sev != .fatal)).length; (let all := fun (u : State) => (u.busPort i.src).slots.length; all s ≤ 5 ∧
      low s ≤ 4 ∧ k ≠ i.src))) := ⟨
    ⟨State.reset.setBusPort (srcBank 11) ⟨[⟨.fatal, srcBank 11, 0x60, 10, 9⟩, ⟨.fatal, srcBank 11, 0x60, 11, 9⟩, ⟨.fatal, srcBank 11, 0x60, 12, 9⟩, ⟨.fatal, srcBank 11, 0x60, 13, 9⟩, ⟨.fatal, srcBank 11, 0x60, 14, 9⟩],
      0⟩, ⟨.fatal, srcBank 11, 0x60, 5, 9⟩, by decide +kernel⟩,
    ⟨State.reset.setBusPort (srcBank 11) ⟨[⟨.notice, srcBank 11, 0x60, 10, 9⟩, ⟨.notice, srcBank 11, 0x60, 11, 9⟩, ⟨.notice, srcBank 11, 0x60, 12, 9⟩, ⟨.notice, srcBank 11, 0x60, 13, 9⟩],
      0⟩, ⟨.fault, srcBank 11, 0x60, 5, 9⟩, by decide +kernel⟩,
    ⟨State.reset, ⟨.fault, srcBank 11, 0x60, 5, 9⟩, 0, by decide +kernel⟩⟩

theorem met_region_ticks_recur :
    ∃ (s : State) (r : Nat) (n : Nat) (j : Nat), s.fld (Reg.TR_CTL_PHASE r) < s.tdiv r ∧ j < s.tdiv r ∧
      s.regionTickAt r (n + j) = true := 
  ⟨State.reset, 23, 0, 0, by decide +kernel⟩

theorem met_engine_classes :
    ∃ (w : Nat) (i : EInstr), w < 2 ^ 32 ∧ decodeEng w = some i := 
  ⟨0xCCFF0700, (decodeEng 0xCCFF0700).get (by decide +kernel), by decide +kernel⟩

theorem met_engine_frame :
    (∃ (c : Instr) (e : Nat) (op : EngOp) (s : State) (t : State) (k : Nat), engineOp c = some (e, op) ∧ exec c s = .next t ∧
      k ≠ e) ∧
    (∃ (c : Instr) (e : Nat) (op : EngOp) (s : State) (t : State), engineOp c = some (e, op) ∧ exec c s = .next t ∧
      s.engFetch e (s.eng e).bank (s.eng e).pc = none) ∧
    (∃ (c : Instr) (e : Nat) (op : EngOp) (s : State) (t : State) (i : EInstr), engineOp c = some (e, op) ∧
      exec c s = .next t ∧ s.engFetch e (s.eng e).bank (s.eng e).pc = some i ∧ i.op ≠ .st ∧ i.op ≠ .sta) ∧
    (∃ (c : Instr) (e : Nat) (op : EngOp) (s : State) (t : State) (i : EInstr) (a : Nat), engineOp c = some (e, op) ∧
      exec c s = .next t ∧ s.engFetch e (s.eng e).bank (s.eng e).pc = some i ∧ (∀ b ∈ s.engStored e i, ¬ (engData e b ≤ a ∧
      a < engData e b + 2))) := ⟨
    ⟨.engInstrNop 95, 95, .nop, engAt 0, _, 94, ⟨rfl, rfl, by decide⟩⟩,
    ⟨.engInstrNop 95, 95, .nop, engAt 0xFFFFFFFF, _, ⟨rfl, rfl, by decide +kernel⟩⟩,
    ⟨.engInstrNop 95, 95, .nop, engAt 0, _, .nop, ⟨rfl, rfl, by decide +kernel⟩⟩,
    ⟨.engInstrSt 95, 95, .st, engAt 0x857A0000, _, .st 5 ⟨7, 0, 2⟩, 0, ⟨rfl, rfl, by decide +kernel⟩⟩⟩

theorem met_block_memory_frame :
    (∃ (s : State) (t : State) (r : Nat) (m : Nat) (p : Nat) (near : Bool) (a : Nat),
      exec (.bmPortRequest r m p near []) s = .next t ∧
      (let w := s.bmWatch r m p; (let row := (wordPlace (w.1.bmWidth r m p) (s.bmRequest r m p).addr).1; (a < bmRow r m row ∨ bmRow r m row + 8 ≤ a)))) ∧
    (∃ (s : State) (t : State) (r : Nat) (m : Nat) (p : Nat) (near : Bool), exec (.bmPortRequest r m p near []) s = .next t ∧
      (s.bmRequest r m p).write = false) ∧
    (∃ (s : State) (t : State) (req : Nat) (r : Nat) (m : Nat) (off : Nat) (n : Nat) (be : Nat) (v : Nat) (a : Nat),
      exec (.bmMaintenanceAccess req r m off n true v be []) s = .next t ∧
      (a < bmRow r m (off / 8) ∨ bmRow r m ((off + n + 7) / 8) ≤ a)) ∧
    (∃ (s : State) (t : State) (req : Nat) (r : Nat) (m : Nat) (off : Nat) (n : Nat) (be : Nat) (v : Nat),
      exec (.bmMaintenanceAccess req r m off n false v be []) s = .next t) ∧
    (∃ (s : State) (t : State) (req : Nat) (r : Nat) (m : Nat) (p : Nat),
      (exec (.bmPortResponseAck r m p) s = .next t ∨ exec (.bmPortRequestNull r m p) s = .next t ∨ exec (.bmClear req r m) s = .next t)) := ⟨
    ⟨(fabricAt .evaluating []).setFld (Reg.BM_CFG_MODEB 23 95) 2, _, 23, 95, 1, false, 0, ⟨rfl, by decide +kernel⟩⟩,
    ⟨(fabricAt .evaluating []).setFld (Reg.BM_CFG_MODEB 23 95) 3, _, 23, 95, 1, false, ⟨rfl, by decide +kernel⟩⟩,
    ⟨fabricAt .evaluating [], _, 1, 23, 95, 0xFF8, 8, 255, 7, 0, ⟨rfl, by decide +kernel⟩⟩,
    ⟨fabricAt .evaluating [], _, 1, 23, 95, 0xFF8, 8, 255, 7, rfl⟩,
    ⟨fabricAt .evaluating [], _, 1, 23, 95, 1, Or.inl rfl⟩⟩

theorem met_memory_reads_what_was_written :
    (∃ (a : Nat) (n : Nat) (b : Nat), (b < a ∨ a + n ≤ b)) ∧
    (∃ (s : State), MemoryOk s) ∧
    (∃ (s : State) (t : State), MemoryOk s ∧ MemoryOk t ∧ SameMemory s t) := ⟨
    ⟨0, 0, 11, by decide +kernel⟩,
    ⟨State.reset, by unfold MemoryOk; decide +kernel⟩,
    ⟨State.reset, State.reset, ⟨by unfold MemoryOk; decide +kernel, by unfold MemoryOk; decide +kernel, fun _ => rfl⟩⟩⟩

theorem met_return_route_ends_at_the_sender :
    ∃ (n : Nat) (j : Nat) (route : Nat) (m : Nat) (c : Nat) (route' : Nat) (hops : Nat), niExists n j = true ∧ route < 2 ^ 42 ∧
      travel 14 n (4 + j) route 0 = some (m, c, route', hops) := 
  ⟨40, 1, 50, 41, 6, 2542620639232, 2, by decide +kernel⟩

theorem met_peripheral_frame :
    ∃ (c : Instr) (s : State) (t : State), isPeripheral c = true ∧ exec c s = .next t := 
  ⟨.ilAck 1, State.reset, _, ⟨rfl, rfl⟩⟩

end Sys2Proof.Tests
end

section
/-! Accesses to unassigned places of the C-window (R7). -/

namespace Sys2Proof.Machine

/-- R7, R31: the unit answers such a read itself, so no register, latch or memory is touched. -/
theorem State.accRead_unassigned (s : State) (req : Nat) {a : Nat} (n : Nat) (hplace : placeOf a = .unassigned)
    (hgate : s.gate a = .ok) : s.accRead req a n = (s, 0, .ok) := by
  simp only [State.accRead, hgate, hplace, ne_eq, not_true_eq_false, if_false]

/-- R7: the value and its width do not matter; what is left of the write is the gate's answer. -/
theorem State.accWrite_unassigned (s : State) (req : Nat) {a : Nat} (n v : Nat) (f : WriteFacts)
    (hplace : placeOf a = .unassigned) : s.accWrite req a n v f = s.respond req a (s.gate a) := by
  simp only [State.accWrite, hplace]

/-- A register write whose address lies in the C-window is the access of the unit that owns the place (R31). -/
theorem gives_registerWrite_accWrite (s : State) (req : Nat) {addr : Nat} (n : Nat) (value : BitVec 64) (facts : WriteFacts)
    (hlo : 0x10000 ≤ addr) (hhi : addr < 0x4000000) :
    Gives (.registerWrite req addr n value facts) s (s.accWrite req addr n value.toNat facts) := by
  have hexec : exec (.registerWrite req addr n value facts) s = execRegisterWrite req addr n value facts s := rfl
  have hwindow : (0x10000 ≤ addr && addr < 0x4000000) = true := by
    simp only [Bool.and_eq_true, decide_eq_true_eq]
    exact ⟨hlo, hhi⟩
  rw [Gives, hexec, execRegisterWrite, if_pos hwindow, answer]

/-- Settles O49: the read and the write of an unassigned place, behind an open gate. -/
theorem unassignedPlaces : Obligations.UnassignedPlaces := by
  refine ⟨fun s req _ n hplace hgate => s.accRead_unassigned req n hplace hgate, ?_⟩
  intro s req addr n value facts hlo hhi hplace hgate
  have hwrite : s.accWrite req addr n value.toNat facts = s.respond req addr .ok := by
    rw [s.accWrite_unassigned req n value.toNat facts hplace, hgate]
  exact hwrite ▸ gives_registerWrite_accWrite s req n value facts hlo hhi

end Sys2Proof.Machine
end

section
/-! The class of an engine instruction and the class field of its word (R285, Table 8-1). -/

namespace Sys2Proof.Machine

/-! ## The class of an instruction whose name depends on its operation -/

@[simp] theorem EInstr.cls_macm (c : MacCtl) (xa ya : EngAddr) (xd yd : Option Nat) :
    (EInstr.macm c xa ya xd yd).op.cls = 1 := by
  cases hop : c.op <;> simp [EInstr.op, EngOp.cls, hop]

@[simp] theorem EInstr.cls_macr (c : MacCtl) (da db : Nat) (xa ya : Option (EngAddr × Nat)) :
    (EInstr.macr c da db xa ya).op.cls = 2 := by
  cases hop : c.op <;> simp [EInstr.op, EngOp.cls, hop]

@[simp] theorem EInstr.cls_alu (op : AluOp) (dd ds1 ds2 : Nat) (imm sat : Bool) :
    (EInstr.alu op dd ds1 ds2 imm sat).op.cls = 3 := by
  cases op <;> rfl

@[simp] theorem EInstr.cls_acc (op : AccOp) (ad as_ dx imm : Nat) (sat : Bool) :
    (EInstr.acc op ad as_ dx imm sat).op.cls = 3 := by
  cases op <;> rfl

@[simp] theorem EInstr.cls_search (min : Bool) (dm ds ix : Nat) (unsigned last : Bool) (index : Nat) (xa : Option EngAddr) :
    (EInstr.search min dm ds ix unsigned last index xa).op.cls = 6 := by
  cases min <;> rfl

@[simp] theorem EInstr.cls_net (op : NetOp) (desc tag pn lenw : Nat) (dofs : Option Nat) :
    (EInstr.net op desc tag pn lenw dofs).op.cls = 6 := by
  cases op <;> rfl

/-! ## The class of what each class's decoder answers -/

theorem cls_of_decodeCtl {w : Nat} {i : EInstr} (h : decodeCtl w = some i) : i.op.cls = 0 := by
  unfold decodeCtl at h
  split at h
  case h_8 =>
    extract_lets step at h
    split at h
    all_goals
      obtain ⟨_, hi⟩ := Option.ite_none_right_eq_some.mp h
      cases hi
      rfl
  case h_10 => cases h
  all_goals
    obtain ⟨_, hi⟩ := Option.ite_none_right_eq_some.mp h
    cases hi
    rfl

theorem cls_of_decodeMacm {w : Nat} {i : EInstr} (h : decodeMacm w = some i) : i.op.cls = 1 := by
  obtain ⟨_, hi⟩ := Option.ite_none_left_eq_some.mp h
  cases hi
  exact EInstr.cls_macm ..

theorem cls_of_decodeMacr {w : Nat} {i : EInstr} (h : decodeMacr w = some i) : i.op.cls = 2 := by
  obtain ⟨_, h⟩ := Option.ite_none_left_eq_some.mp h
  split at h
  · cases h
    exact EInstr.cls_macr ..
  · cases h

theorem cls_of_decodeAluD {op : AluOp} {satOk unary : Bool} {w : Nat} {i : EInstr}
    (h : decodeAluD op satOk unary w = some i) : i.op.cls = 3 := by
  obtain ⟨_, hi⟩ := Option.ite_none_left_eq_some.mp h
  cases hi
  exact EInstr.cls_alu ..

theorem cls_of_decodeAluA {op : AccOp} {useAs useDx useImm satOk : Bool} {w : Nat} {i : EInstr}
    (h : decodeAluA op useAs useDx useImm satOk w = some i) : i.op.cls = 3 := by
  obtain ⟨_, hi⟩ := Option.ite_none_left_eq_some.mp h
  cases hi
  exact EInstr.cls_acc ..

theorem cls_of_decodeAlu {w : Nat} {i : EInstr} (h : decodeAlu w = some i) : i.op.cls = 3 := by
  unfold decodeAlu at h
  split at h
  iterate 11 exact cls_of_decodeAluD h
  iterate 10 exact cls_of_decodeAluA h
  · obtain ⟨_, hi⟩ := Option.ite_none_left_eq_some.mp h
    cases hi
    rfl
  · exact cls_of_decodeAluA h
  · cases h

theorem cls_of_decodeMem {w : Nat} {i : EInstr} (h : decodeMem w = some i) : i.op.cls = 4 := by
  unfold decodeMem at h
  split at h
  case h_4 =>
    split at h <;> cases h
    rfl
  case h_5 => cases h
  all_goals
    obtain ⟨_, h⟩ := Option.ite_none_left_eq_some.mp h
    obtain ⟨_, _, rfl⟩ := Option.map_eq_some_iff.mp h
    rfl

theorem cls_of_decodeImm {w : Nat} {i : EInstr} (h : decodeImm w = some i) : i.op.cls = 5 := by
  unfold decodeImm at h
  split at h
  case h_5 => cases h
  all_goals
    obtain ⟨_, hi⟩ := Option.ite_none_right_eq_some.mp h
    cases hi
    rfl

theorem cls_of_decodeSearch {min : Bool} {w : Nat} {i : EInstr} (h : decodeSearch min w = some i) : i.op.cls = 6 := by
  obtain ⟨_, hi⟩ := Option.ite_none_left_eq_some.mp h
  cases hi
  exact EInstr.cls_search ..

theorem cls_of_decodeSpc {w : Nat} {i : EInstr} (h : decodeSpc w = some i) : i.op.cls = 6 := by
  unfold decodeSpc at h
  split at h
  · exact cls_of_decodeSearch h
  · exact cls_of_decodeSearch h
  · obtain ⟨_, h⟩ := Option.ite_none_left_eq_some.mp h
    split at h <;> cases h
    rfl
  · obtain ⟨_, h⟩ := Option.ite_none_left_eq_some.mp h
    split at h <;> cases h <;> exact EInstr.cls_net ..
  · cases h

/-! ## The class field -/

/-- The decoder chooses by bits 31–29 alone, and answers instructions of that class only. -/
theorem cls_of_decodeEng {w : Nat} {i : EInstr} (h : decodeEng w = some i) : bitsOf w 29 3 = i.op.cls := by
  unfold decodeEng at h
  split at h
  case h_1 hc => rw [hc, cls_of_decodeCtl h]
  case h_2 hc => rw [hc, cls_of_decodeMacm h]
  case h_3 hc => rw [hc, cls_of_decodeMacr h]
  case h_4 hc => rw [hc, cls_of_decodeAlu h]
  case h_5 hc => rw [hc, cls_of_decodeMem h]
  case h_6 hc => rw [hc, cls_of_decodeImm h]
  case h_7 hc => rw [hc, cls_of_decodeSpc h]
  case h_8 => cases h

/-- Bits 31–29 are the top of a 32-bit word. -/
theorem bitsOf_class {w : Nat} (hw : w < 2 ^ 32) : bitsOf w 29 3 = w / 2 ^ 29 := by
  rw [bitsOf, Nat.shiftRight_eq_div_pow]
  exact Nat.mod_eq_of_lt (by omega)

/-- Settles O55: class 7 has no decoder, so its words decode to nothing. -/
theorem engineClasses : Obligations.EngineClasses := by
  intro w i hw h
  rw [← bitsOf_class hw, cls_of_decodeEng h]

end Sys2Proof.Machine
end

section
/-! The rescue command SEM_FORCE (R493, R500). -/

namespace Sys2Proof.Machine

/-- R485, R493: a rescue command named reaches the window of a port that is up and decodes. -/
theorem State.rescueNamed_of_decodes {s : State} {p : Nat} (hup : s.portUp p = true) (hdec : s.decodes p = true)
    (cmd arg : Nat) (together : Bool) : s.rescueNamed p cmd arg together = s.rescueCmd p 0xA5 cmd arg together := by
  rw [State.rescueNamed, hup, hdec, Bool.and_self, if_pos rfl]

/-- R493: with no rescue command running, a command whose outcome is known at once leaves its effect and its outcome. -/
theorem State.rescueCmd_of_done {s t : State} {p cmd arg : Nat} {together : Bool} {c : Code} (hidle : s.host.rescue = none)
    (harg : rescueArgOk cmd arg = true) (hdo : s.rescueDo p cmd arg together = (t, some c)) :
    s.rescueCmd p 0xA5 cmd arg together = t.rescueCode cmd (p + 1) c := by
  simp [State.rescueCmd, hidle, harg, hdo]

@[simp] theorem State.noteRefusal_ok (s : State) (src off req : Nat) : s.noteRefusal src off req .ok = s := rfl

theorem rescueArgOk_semForce {sem : Nat} (h : sem < 64) : rescueArgOk 3 sem = true := decide_eq_true h

/-- R500: whoever owns the semaphore. -/
theorem State.semForce_of_owned {s : State} {sem : Nat} (p : Nat) (howned : s.fld (Reg.HSEM_OWNER sem) ≠ 0) :
    s.semForce p sem =
      ((s.setFld (Reg.HSEM_OWNER sem) 0).raise srcHk .notice 0x6B
        (sem + s.fld (Reg.HSEM_OWNER sem) * 2 ^ 8 + (p + 1) * 2 ^ 16), .ok) := if_neg howned

/-- A semaphore forced free is an outcome known at once, and none that R13 logs as a refusal. -/
theorem State.rescueDo_semForce_of_ok {s t : State} {p sem : Nat} (together : Bool) (h : s.semForce p sem = (t, .ok)) :
    s.rescueDo p 3 sem together = (t, some .ok) := by
  simp only [State.rescueDo, h, State.noteRefusal_ok]

theorem State.owner_setFld (s : State) (sem owner : Nat) (h : owner < 2 ^ 8) :
    (s.setFld (Reg.HSEM_OWNER sem) owner).fld (Reg.HSEM_OWNER sem) = owner := by
  have hok : (Reg.HSEM_OWNER sem).ok := by simp [Fld.ok, Reg.HSEM_OWNER]
  rw [State.fld_setFld s _ hok]
  exact Nat.mod_eq_of_lt h

theorem gives_semForce (p sem : Nat) (s : State) : Gives (.semForce p sem) s (s.rescueNamed p 3 sem false) := rfl

/-- Settles O51: the semaphore has an owner and no rescue command runs, so the force is done at once. -/
theorem semaphoreForce : Obligations.SemaphoreForce := by
  intro s p sem hup hdec hsem hidle howned owner t
  refine ⟨s.owner_setFld sem 0 (by decide), ?_⟩
  have hdo := State.rescueDo_semForce_of_ok false (State.semForce_of_owned p howned)
  have hcmd := State.rescueCmd_of_done hidle (rescueArgOk_semForce hsem) hdo
  rw [← hcmd, ← State.rescueNamed_of_decodes hup hdec]
  exact gives_semForce p sem s

end Sys2Proof.Machine
end

section
/-! Interrupt routes: which sources drive the vectors and the pin of a port (R501, Table 13-10). -/

namespace Sys2Proof.Machine

/-! ## The reset value of a route -/

theorem instOffset_route {p k : Nat} (hp : p < 2) (hk : k < 64) :
    instOffset (Reg.HP_ROUTE 0 0) [(2, 0x10000), (64, 4)] 1 (Reg.HP_ROUTE p k) = some 0 := by
  have hbase : ¬ Reg.HP_ROUTE p k < Reg.HP_ROUTE 0 0 := by simp only [Reg.HP_ROUTE]; omega
  have hoff : Reg.HP_ROUTE p k - Reg.HP_ROUTE 0 0 = 0x10000 * p + 4 * k := by simp only [Reg.HP_ROUTE]; omega
  have hport : (0x10000 * p + 4 * k) / 0x10000 < 2 := by omega
  have hsrc : (0x10000 * p + 4 * k) % 0x10000 / 4 < 64 := by omega
  have hbyte : (0x10000 * p + 4 * k) % 0x10000 % 4 = 0 := by omega
  rw [instOffset, if_neg hbase, hoff, dimsOffset, if_pos hport, dimsOffset, if_pos hsrc, dimsOffset, hbyte]
  rfl

/-- Table 13-10: route k names vector k, and that of source 0 is enabled. -/
theorem instanceReset_route {p k : Nat} (hp : p < 2) (hk : k < 64) :
    instanceReset (Reg.HP_ROUTE p k) = some (k + if k = 0 then 2 ^ 8 else 0) := by
  have hlmap : ¬ Reg.REG_LMAP 0 ≤ Reg.HP_ROUTE p k := by simp only [Reg.REG_LMAP, Reg.HP_ROUTE]; omega
  have hrtr : ¬ (Reg.RTR_ID 0 ≤ Reg.HP_ROUTE p k ∧ Reg.HP_ROUTE p k < Reg.RTR_ID 48) := by
    simp only [Reg.RTR_ID, Reg.HP_ROUTE]; omega
  have hcfg : ¬ (Reg.CFG_REGMAP 0 ≤ Reg.HP_ROUTE p k ∧ Reg.HP_ROUTE p k < Reg.CFG_REGMAP 24 ∧ Reg.HP_ROUTE p k % 4 = 0) := by
    simp only [Reg.CFG_REGMAP, Reg.HP_ROUTE]; omega
  have hroute : Reg.HP_ROUTE 0 0 ≤ Reg.HP_ROUTE p k := by simp only [Reg.HP_ROUTE]; omega
  have hsrc : (Reg.HP_ROUTE p k - Reg.HP_ROUTE 0 0) % 0x10000 / 4 = k := by simp only [Reg.HP_ROUTE]; omega
  simp only [instanceReset, if_neg hlmap, if_neg hrtr, if_neg hcfg, if_pos hroute, instOffset_route hp hk, hsrc]

/-- Table 13-10: above VEC, the route of a source other than 0 is all zeros at reset. -/
theorem resetOf_route_getLsbD {p k i : Nat} (hp : p < 2) (hk : k < 64) (hk0 : k ≠ 0) (hi : 6 ≤ i) :
    (resetOf (Reg.HP_ROUTE p k)).getLsbD i = false := by
  have hbit : k.testBit i = false :=
    Nat.testBit_lt_two_pow (lt_of_lt_of_le hk (Nat.pow_le_pow_right (by decide : 0 < 2) hi))
  rw [resetOf, instanceReset_route hp hk, if_neg hk0, Option.getD_some, Nat.add_zero, BitVec.getLsbD_ofNat, hbit,
    Bool.and_false]

/-! ## The routes in use -/

theorem State.rd_of_find?_eq_none {s : State} {a : Nat} (h : Tbl.find? s.regs a = none) : s.rd a = resetOf a := by
  rw [State.rd, Tbl.get, h, Option.getD_none]

/-- A route with EN or PIN set is listed in the register file, but for source 0's. -/
theorem State.route_listed {s : State} {p k : Nat} {f : Fld} (hp : p < 2) (hk : k < 64) (haddr : f.addr = Reg.HP_ROUTE p k)
    (hlo : 6 ≤ f.lo) (hon : s.on f = true) : k = 0 ∨ (Tbl.find? s.regs (Reg.HP_ROUTE p k)).isSome = true := by
  by_contra hnot
  obtain ⟨hk0, hfind⟩ := not_or.mp hnot
  have hrd : s.rd f.addr = resetOf (Reg.HP_ROUTE p k) := by
    rw [haddr, State.rd_of_find?_eq_none (Option.not_isSome_iff_eq_none.mp hfind)]
  have hfld : s.fld f = 0 := by
    refine Nat.eq_of_testBit_eq fun i => ?_
    rw [State.fld, hrd, Fld.get_testBit, resetOf_route_getLsbD hp hk hk0 (hlo.trans (Nat.le_add_right ..)), Bool.and_false,
      Nat.zero_testBit]
  simp [State.on, hfld] at hon

/-- The sources routed by a flag of the route register are all those whose flag is set. -/
theorem State.mem_routed_on {s : State} {p k : Nat} {f : Nat → Fld} (hp : p < 2) (haddr : ∀ k, (f k).addr = Reg.HP_ROUTE p k)
    (hlo : ∀ k, 6 ≤ (f k).lo) : k ∈ s.routed p (fun k => s.on (f k)) ↔ k < 64 ∧ s.on (f k) = true := by
  simp only [State.routed, List.mem_filter, List.mem_range, Bool.and_eq_true, Bool.or_eq_true, beq_iff_eq]
  exact ⟨fun ⟨hk, _, hon⟩ => ⟨hk, hon⟩, fun ⟨hk, hon⟩ => ⟨hk, State.route_listed hp hk (haddr k) (hlo k) hon, hon⟩⟩

theorem State.mem_routed_en {s : State} {p k : Nat} (hp : p < 2) :
    k ∈ s.routed p (fun k => s.on (Reg.HP_ROUTE_EN p k)) ↔ k < 64 ∧ s.on (Reg.HP_ROUTE_EN p k) = true :=
  State.mem_routed_on hp (fun _ => rfl) (fun _ => (by decide : 6 ≤ 8))

theorem State.mem_routed_pin {s : State} {p k : Nat} (hp : p < 2) :
    k ∈ s.routed p (fun k => s.on (Reg.HP_ROUTE_PIN p k)) ↔ k < 64 ∧ s.on (Reg.HP_ROUTE_PIN p k) = true :=
  State.mem_routed_on hp (fun _ => rfl) (fun _ => (by decide : 6 ≤ 9))

/-! ## Vectors and the pin -/

theorem testBit_withBit (m i v : Nat) : (withBit m i).testBit v = true ↔ m.testBit v = true ∨ i = v := by
  rw [withBit, Nat.testBit_or, Bool.or_eq_true, Nat.testBit_two_pow, decide_eq_true_iff]

/-- Bits set one after another: what was set before, and what each element of the list sets. -/
theorem testBit_foldl_withBit (f : Nat → Nat) (l : List Nat) (m v : Nat) :
    (l.foldl (fun m k => withBit m (f k)) m).testBit v = true ↔ m.testBit v = true ∨ ∃ k ∈ l, f k = v := by
  induction l generalizing m with
  | nil => simp
  | cons k l ih => rw [List.foldl_cons, ih, testBit_withBit, List.exists_mem_cons_iff, or_assoc]

theorem State.vecMask_testBit (s : State) {p : Nat} (hp : p < 2) (v : Nat) : (s.vecMask p).testBit v = true ↔
    ∃ k, k < 64 ∧ s.on (Reg.HP_ROUTE_EN p k) = true ∧ s.fld (Reg.HP_ROUTE_VEC p k) = v ∧ s.srcActive p k = true := by
  simp only [State.vecMask, testBit_foldl_withBit, Nat.zero_testBit, Bool.false_eq_true, false_or, List.mem_filter,
    State.mem_routed_en hp]
  exact exists_congr fun k =>
    ⟨fun ⟨⟨⟨hk, hen⟩, hact⟩, hvec⟩ => ⟨hk, hen, hvec, hact⟩, fun ⟨hk, hen, hvec, hact⟩ => ⟨⟨⟨hk, hen⟩, hact⟩, hvec⟩⟩

theorem State.irqPin_iff (s : State) {p : Nat} (hp : p < 2) : s.irqPin p = true ↔
    ∃ k, k < 64 ∧ s.on (Reg.HP_ROUTE_PIN p k) = true ∧ s.srcActive p k = true := by
  simp only [State.irqPin, List.any_eq_true, State.mem_routed_pin hp, and_assoc]

/-- Settles O47: a route not listed in the register file is at its reset value, which routes source 0 only. -/
theorem interruptRoutes : Obligations.InterruptRoutes :=
  fun s _ hp => ⟨fun v _ => s.vecMask_testBit hp v, s.irqPin_iff hp⟩

end Sys2Proof.Machine
end

section
/-! The step, what follows from every command, and what reset leaves (O43–O46, O48). -/

namespace Sys2Proof.Machine

/-! ## The active vectors after a command (R501, R502) -/

@[simp] theorem State.vecActive_settlePort_same (s : State) (p : Nat) :
    Tbl.get 0 (s.settlePort p).host.vecActive p = s.vecMask p :=
  Tbl.get_put_same ..

theorem State.vecActive_settlePort_other (s : State) {p q : Nat} (h : q ≠ p) :
    Tbl.get 0 (s.settlePort p).host.vecActive q = Tbl.get 0 s.host.vecActive q :=
  Tbl.get_put_other _ _ _ _ h

theorem State.vecMask_settlePort (s : State) {p q : Nat} (hp : p < 2) (hq : q < 2) :
    (s.settlePort p).vecMask q = s.vecMask q :=
  (SameLevels.settlePort s p hp).vecMask q hq

/-- The interrupt sources do not look at fabric elements. -/
@[simp] theorem State.vecMask_settleElems (s : State) (p : Nat) : s.settleElems.vecMask p = s.vecMask p := rfl

theorem vecMask_settle (s : State) {p : Nat} (hp : p < 2) : (settle s).vecMask p = s.vecMask p := by
  rw [settle, State.vecMask_settlePort _ (by decide) hp, State.vecMask_settlePort _ (by decide) hp,
    State.vecMask_settleElems]

/-- Each port holds as active the vectors that were active as it was settled, and settling changes none of them. -/
theorem vectorsFollow_settle (s : State) : VectorsFollow (settle s) := by
  intro p hp
  rw [vecMask_settle s hp, settle]
  obtain rfl | rfl : p = 0 ∨ p = 1 := by omega
  · rw [State.vecActive_settlePort_other _ (by decide), State.vecActive_settlePort_same, State.vecMask_settleElems]
  · rw [State.vecActive_settlePort_same, State.vecMask_settlePort _ (by decide) (by decide), State.vecMask_settleElems]

/-- Whatever a command answers is settled. -/
theorem exec_settles {c : Instr} {s t : State} (h : exec c s = .next t) : ∃ u : State, t = settle { u with pending := s.pending } := by
  obtain ⟨u, hu⟩ := exec_answers c s
  rw [hu, answer] at h
  exact ⟨u, (Host.Outcome.next.inj h).symm⟩

/-- Settles O46: a step idles, or ends in `settle`. -/
theorem vectorsFollowKept : Obligations.VectorsFollowKept := by
  intro s t hs hstep
  cases hq : s.pending with
  | nil =>
    rw [step_nil s hq] at hstep
    exact Host.Outcome.next.inj hstep ▸ hs
  | cons c rest =>
    rw [step_cons s c rest hq] at hstep
    obtain ⟨u, rfl⟩ := exec_settles hstep
    exact vectorsFollow_settle _

/-! ## Steps and the queue -/

/-- Settles O43. -/
theorem stepRunsTheFrontCommand : Obligations.StepRunsTheFrontCommand :=
  ⟨step_cons, step_nil⟩

theorem exec_next (c : Instr) (s : State) : ∃ t, exec c s = .next t ∧ t.pending = s.pending := by
  obtain ⟨u, hu⟩ := exec_answers c s
  exact ⟨_, hu, settle_pending _⟩

theorem runSteps_drains (s : State) : ∃ t, runSteps s.pending.length s = .next t ∧ t.pending = [] := by
  generalize hq : s.pending = q
  induction q generalizing s with
  | nil => exact ⟨s, rfl, hq⟩
  | cons c rest ih =>
    obtain ⟨u, hu, hpend⟩ := exec_next c { s with pending := rest }
    obtain ⟨t, ht, hempty⟩ := ih u hpend
    refine ⟨t, ?_, hempty⟩
    rw [List.length_cons, runSteps, step_cons s c rest hq, hu]
    exact ht

/-- Settles O44: each step takes one command off the queue, and none puts one on it. -/
theorem everyQueueDrains : Obligations.EveryQueueDrains :=
  ⟨exec_next, runSteps_drains⟩

/-! ## The pending bits (R502) -/

/-- A route names one of 64 vectors. -/
theorem State.vecMask_lt (s : State) {p : Nat} (hp : p < 2) : s.vecMask p < 2 ^ 64 := by
  refine Nat.lt_pow_two_of_testBit _ fun v hv => ?_
  by_contra hset
  obtain ⟨k, -, -, hvec, -⟩ := (s.vecMask_testBit hp v).mp (by simpa using hset)
  have hlt : s.fld (Reg.HP_ROUTE_VEC p k) < 2 ^ 6 := BitVec.isLt _
  omega

theorem State.fld_settlePort_other (s : State) {p : Nat} {f : Fld} (h : f.addr ≠ Reg.HP_VPEND p) :
    (s.settlePort p).fld f = s.fld f := by
  rw [State.fld, State.fld, State.rd_settlePort_other s h]

theorem State.fld_settleElems (s : State) (f : Fld) : s.settleElems.fld f = s.fld f := by
  rw [State.fld, State.fld, State.settleElems_rd]

/-- R502: a port sets the pending bits of the vectors that are active now and were not at its latest change. -/
theorem State.vpend_settlePort (s : State) {p : Nat} (hwas : Tbl.get 0 s.host.vecActive p < 2 ^ 64) {v : Nat}
    (hv : v < 64) : ((s.settlePort p).fld (Reg.HP_VPEND_PEND p)).testBit v = true ↔
      ((s.fld (Reg.HP_VPEND_PEND p)).testBit v = true ∨
        ((s.vecMask p).testBit v = true ∧ (Tbl.get 0 s.host.vecActive p).testBit v = false)) := by
  have hfld : (s.settlePort p).fld (Reg.HP_VPEND_PEND p) =
      (s.fld (Reg.HP_VPEND_PEND p) ||| (s.vecMask p &&& (2 ^ 64 - 1 - Tbl.get 0 s.host.vecActive p))) % 2 ^ 64 :=
    State.fld_setFld s (Reg.HP_VPEND_PEND p) (by simp [Fld.ok, Reg.HP_VPEND_PEND]) _
  have hnot : 2 ^ 64 - 1 - Tbl.get 0 s.host.vecActive p = 2 ^ 64 - (Tbl.get 0 s.host.vecActive p + 1) := by omega
  rw [hfld, hnot, Nat.testBit_mod_two_pow, Nat.testBit_or, Nat.testBit_and, Nat.testBit_two_pow_sub_succ hwas]
  simp [hv]

/-- Settles O48: of the two ports each settles its own pending bits, and neither sees what the other does. -/
theorem vectorsSetPendingBits : Obligations.VectorsSetPendingBits := by
  intro s u hs hact
  have hwas : ∀ p, p < 2 → Tbl.get 0 u.host.vecActive p = s.vecMask p := fun p hp => hact ▸ hs p hp
  refine ⟨?_, ?_, settle_byte u, settle_engs u, settle_net u, settle_log u, settle_pins u, settle_out u, settle_pending u⟩
  · intro p v hp hv
    have hlt := s.vecMask_lt hp
    obtain rfl | rfl : p = 0 ∨ p = 1 := by omega
    · have hset := State.vpend_settlePort u.settleElems ((hwas 0 hp).symm ▸ hlt) hv
      rw [settle, State.fld_settlePort_other _ (by decide), hset, State.fld_settleElems, State.vecMask_settleElems,
        ← hwas 0 hp]
      rfl
    · have hother : Tbl.get 0 (u.settleElems.settlePort 0).host.vecActive 1 = s.vecMask 1 :=
        (State.vecActive_settlePort_other _ (by decide)).trans (hwas 1 hp)
      have hset := State.vpend_settlePort (u.settleElems.settlePort 0) (hother.symm ▸ hlt) hv
      rw [settle, hset, State.fld_settlePort_other _ (by decide), State.fld_settleElems,
        State.vecMask_settlePort _ (by decide) hp, State.vecMask_settleElems, hother]
  · intro a ha
    simp only [List.mem_cons, List.not_mem_nil, or_false, not_or] at ha
    exact rd_settle u ha

/-! ## Reset -/

/-- No vector is active: of all routes only that of source 0 is enabled, and the alarm latch is clear. -/
theorem State.vecMask_reset {p : Nat} (hp : p < 2) : State.reset.vecMask p = 0 := by
  refine Nat.eq_of_testBit_eq fun v => ?_
  rw [Nat.zero_testBit, Bool.eq_false_iff, Ne, State.vecMask_testBit _ hp]
  rintro ⟨k, hk, hen, -, hact⟩
  obtain rfl | hlisted := State.route_listed hp hk rfl (show 6 ≤ 8 by decide) hen
  · exact Bool.false_ne_true hact
  · exact Bool.false_ne_true hlisted

theorem State.vectorsFollow_reset : VectorsFollow State.reset :=
  fun _ hp => (State.vecMask_reset hp).symm

theorem State.rstate_reset {r : Nat} (hr : r < 24) : State.reset.rstate r = .off := by
  revert r
  decide

theorem State.owner_reset {k : Nat} (hk : k < 64) : State.reset.fld (Reg.HSEM_OWNER k) = 0 := by
  revert k
  decide

/-- Settles O45. -/
theorem resetLeaves : Obligations.ResetLeaves :=
  ⟨rfl, rfl, Memory.wf_reset, State.vectorsFollow_reset, by decide, by decide, by decide, fun _ => State.rstate_reset,
    fun _ _ => rfl, by decide, by decide, by decide, fun _ => State.owner_reset⟩

end Sys2Proof.Machine
end

section
/-! The return route of a packet (R329, R331). -/

namespace Sys2Proof.Machine

/-! ## One hop and back -/

theorem routeEnd_terminal (k n route : Nat) (h : route % 8 = 0 ∨ route % 8 = 5 ∨ route % 8 = 6) :
    routeEnd (k + 1) n route = some (n, route % 8) := by
  simp only [routeEnd, if_pos h]

theorem routeEnd_hop (k : Nat) {n m c : Nat} (rest : Nat) (hc : c < 8) (hhop : hopTo n c = some m) :
    routeEnd (k + 1) n (c + 8 * rest) = routeEnd k m rest := by
  have hcode : (c + 8 * rest) % 8 = c := by omega
  have hrest : (c + 8 * rest) / 8 = rest := by omega
  have hnot : ¬ (c = 0 ∨ c = 5 ∨ c = 6) := by
    rintro (rfl | rfl | rfl) <;> simp [hopTo] at hhop
  simp only [routeEnd, hcode, hrest, if_neg hnot, hhop]

theorem hopTo_eq_some {n c m : Nat} : hopTo n c = some m ↔ 1 ≤ c ∧ c ≤ 4 ∧ portExists n (c - 1) = true ∧ facing n (c - 1) = m := by
  simp only [hopTo, Option.ite_none_left_eq_some, Option.ite_none_right_eq_some, Option.some.injEq, not_or, Nat.not_lt,
    ← Nat.pos_iff_ne_zero, and_assoc, Nat.succ_le_iff]

/-- A link has a port at both of its ends, and each of the two faces the other's router. -/
theorem portExists_back {n p : Nat} (hn : n < 48) (hp : p < 4) (h : portExists n p = true) :
    facing n p < 48 ∧ portExists (facing n p) (backPort p) = true ∧ facing (facing n p) (backPort p) = n := by
  have hx : nodeX n = n % 8 := rfl
  have hy : nodeY n = n / 8 := rfl
  interval_cases p
  all_goals
    have hport := of_decide_eq_true h
    refine ⟨by simp only [facing]; omega, decide_eq_true ?_, by simp only [facing, backPort]; omega⟩
    simp only [facing, nodeX, nodeY]
    omega

theorem arrivalCode_of_lt {p : Nat} (hp : p < 4) : arrivalCode p = p + 1 := by
  interval_cases p <;> rfl

theorem backPort_lt {p : Nat} (hp : p < 4) : backPort p < 4 := by
  interval_cases p <;> decide

/-- The code that a router puts in for the port of arrival leads back over the link that the packet came by. -/
theorem hopTo_back {n c m : Nat} (hn : n < 48) (h : hopTo n c = some m) :
    m < 48 ∧ hopTo m (arrivalCode (backPort (c - 1))) = some n := by
  obtain ⟨hc, hc4, hport, rfl⟩ := hopTo_eq_some.mp h
  have hp : c - 1 < 4 := by omega
  obtain ⟨hm, hback, hface⟩ := portExists_back hn hp hport
  rw [arrivalCode_of_lt (backPort_lt hp)]
  have hq := backPort_lt hp
  exact ⟨hm, hopTo_eq_some.mpr ⟨by omega, by omega, hback, hface⟩⟩

theorem arrivalCode_lt (p : Nat) : arrivalCode p < 8 := by
  unfold arrivalCode
  split <;> decide

/-! ## The codes on top of the route -/

/-- The route as a router that takes a packet in by port `p` leaves it (R329). -/
def arrivedRoute (route p : Nat) : Nat := route / 8 + arrivalCode p * 2 ^ 39

theorem arrivedRoute_lt {route p : Nat} (hroute : route < 2 ^ 42) : arrivedRoute route p < 2 ^ 42 := by
  have hp := arrivalCode_lt p
  unfold arrivedRoute
  omega

theorem routeCode_arrivedRoute_top {route p : Nat} (hroute : route < 2 ^ 42) :
    routeCode (arrivedRoute route p) 13 = arrivalCode p := by
  have hp := arrivalCode_lt p
  unfold routeCode arrivedRoute
  omega

theorem routeCode_arrivedRoute {route p i : Nat} (hi : i < 13) :
    routeCode (arrivedRoute route p) i = routeCode route (i + 1) := by
  have hpow : arrivalCode p * 2 ^ 39 = 8 ^ i * (8 * (arrivalCode p * 8 ^ (12 - i))) := by
    have h39 : 2 ^ 39 = 8 ^ i * 8 * 8 ^ (12 - i) := by
      rw [← Nat.pow_succ, ← Nat.pow_add, show i + 1 + (12 - i) = 13 by omega]
      rfl
    rw [h39]
    ring
  unfold routeCode arrivedRoute
  rw [hpow, Nat.add_mul_div_left _ _ (Nat.pow_pos (by decide : 0 < 8)), Nat.add_mul_mod_self_left, Nat.div_div_eq_div_mul,
    ← Nat.pow_succ']

/-- R329, R331: the code put in by the latest router is the first of the return route. -/
theorem returnRoute_arrivedRoute {route p hops : Nat} (hroute : route < 2 ^ 42) (hhops : hops ≤ 13) :
    returnRoute (arrivedRoute route p) (hops + 1) = arrivalCode p + 8 * returnRoute route hops := by
  have hbelow : ∀ i ∈ List.range hops,
      routeCode (arrivedRoute route p) (13 - (i + 1)) * 8 ^ (i + 1) = 8 * (routeCode route (13 - i) * 8 ^ i) := by
    intro i hi
    have hi := List.mem_range.mp hi
    rw [routeCode_arrivedRoute (by omega), show 13 - (i + 1) + 1 = 13 - i by omega]
    ring
  rw [returnRoute, List.range_succ_eq_map, List.map_cons, List.map_map, List.sum_cons, Nat.sub_zero,
    routeCode_arrivedRoute_top hroute, Nat.pow_zero, Nat.mul_one, returnRoute, ← List.sum_map_mul_left]
  congr 2
  exact List.map_congr_left hbelow

/-! ## The way there and the way back -/

/-- The way back from router `n`, as a packet that came in by port `p` has it in its header, ends at `e`, given as many steps as
hops. -/
def LeadsBack (n p route hops : Nat) (e : Nat × Nat) : Prop :=
  ∀ k, hops + 1 ≤ k → routeEnd k n (arrivalCode p + 8 * returnRoute route hops) = some e

/-- One hop on, the way back has one hop more. -/
theorem LeadsBack.hop {n p route hops m c : Nat} {e : Nat × Nat} (h : LeadsBack n p route hops e) (hn : n < 48)
    (hroute : route < 2 ^ 42) (hhops : hops ≤ 13) (hhop : hopTo n c = some m) :
    LeadsBack m (backPort (c - 1)) (arrivedRoute route p) (hops + 1) e := by
  intro k hk
  obtain ⟨k, rfl⟩ : ∃ j, k = j + 1 := ⟨k - 1, by omega⟩
  rw [routeEnd_hop k _ (arrivalCode_lt _) (hopTo_back hn hhop).2, returnRoute_arrivedRoute hroute hhops]
  exact h k (by omega)

theorem travel_leadsBack {k n p route hops m c route' hops' : Nat} {e : Nat × Nat} (hk : k + hops = 14) (hn : n < 48)
    (hroute : route < 2 ^ 42) (hback : LeadsBack n p route hops e)
    (h : travel k n p route hops = some (m, c, route', hops')) : routeEnd 14 m (returnRoute route' hops') = some e := by
  induction k generalizing n p route hops with
  | zero => cases h
  | succ k ih =>
    have hhops : hops ≤ 13 := by omega
    rw [travel] at h
    split at h
    · cases h
      exact returnRoute_arrivedRoute (p := p) hroute hhops ▸ hback 14 (by omega)
    · split at h
      · rename_i q hhop
        exact ih (by omega) (hopTo_back hn hhop).1 (arrivedRoute_lt hroute) (hback.hop hn hroute hhops hhop) h
      · cases h

/-- Settles O59: at the first router the way back is the eject code of the interface, and each hop adds its own reversal. -/
theorem returnRouteEndsAtTheSender : Obligations.ReturnRouteEndsAtTheSender := by
  intro n j route m c route' hops hni hroute htravel
  obtain ⟨hn, hj⟩ : n < 48 ∧ (j = 0 ∨ j = 1) := by
    simp only [niExists, Bool.and_eq_true, Bool.or_eq_true, decide_eq_true_eq, beq_iff_eq] at hni
    exact ⟨hni.1, hni.2.imp_right And.left⟩
  refine travel_leadsBack (p := 4 + j) rfl hn hroute ?_ htravel
  intro k hk
  obtain ⟨k, rfl⟩ : ∃ i, k = i + 1 := ⟨k - 1, by omega⟩
  obtain rfl | rfl := hj
  · exact routeEnd_terminal k n 0 (by decide)
  · exact routeEnd_terminal k n 5 (by decide)

end Sys2Proof.Machine
end

section
/-! Reads of wide registers (R5), saturating counters (R10), and the bytes of the memories. -/

namespace Sys2Proof.Machine

/-! ## Latches of upper words (R5) -/

theorem State.latch?_setLatch_same (s : State) (req a : Nat) (w : Word) : (s.setLatch req a w).latch? req a = some w := by
  simp [State.latch?, State.setLatch]

theorem State.latch?_setLatch_other (s : State) {req a q b : Nat} (w : Word) (h : (q, b) ≠ (req, a)) :
    (s.setLatch req a w).latch? q b = s.latch? q b := by
  have hnot : ∀ l : Nat × Nat × Word, (l.1 == q && l.2.1 == b) = true → (!(l.1 == req && l.2.1 == a)) = true := by
    intro l hl
    simp only [Bool.and_eq_true, beq_iff_eq] at hl
    simp only [Bool.not_eq_true', Bool.and_eq_false_iff, beq_eq_false_iff_ne, ← not_and_or]
    rintro ⟨rfl, rfl⟩
    exact h (by rw [hl.1, hl.2])
  have hhead : (req == q && a == b) = false := by
    simp only [Bool.and_eq_false_iff, beq_eq_false_iff_ne, ← not_and_or]
    rintro ⟨rfl, rfl⟩
    exact h rfl
  have htail : ∀ l : List (Nat × Nat × Word), (l.filter (fun l => !(l.1 == req && l.2.1 == a))).find?
      (fun l => l.1 == q && l.2.1 == b) = l.find? (fun l => l.1 == q && l.2.1 == b) := by
    intro l
    rw [List.find?_filter]
    congr 1
    funext x
    cases hx : (x.1 == q && x.2.1 == b)
    · simp
    · simp [hnot x hx]
  simp only [State.latch?, State.setLatch, List.find?_cons, hhead, htail]

/-! ## Reads of a register -/

/-- A read of a register through an open gate gives what `readRegister` gives (R4, R495). -/
theorem State.accRead_reg (s : State) (req : Nat) {a n : Nat} {x : RegAt} (hgate : s.gate a = .ok) (hplace : placeOf a = .reg x)
    (hfits : widthOk x.desc.bytes x.off n = true) (hsem : semAt x.base = none) :
    s.accRead req a n = ((s.readRegister req x n).1, (s.readRegister req x n).2, .ok) := by
  simp only [State.accRead, hgate, hplace, ne_eq, not_true_eq_false, if_false, State.regRead, hfits, hsem, Bool.not_true,
    Bool.false_eq_true]

theorem State.regReadCmd_reg (s : State) (req : Nat) {a n : Nat} {x : RegAt} (hgate : s.gate a = .ok) (hplace : placeOf a = .reg x)
    (hfits : widthOk x.desc.bytes x.off n = true) (hsem : semAt x.base = none) :
    s.regReadCmd req a n = (s.readRegister req x n).1.emit (.readData req a (s.readRegister req x n).2) := by
  simp only [State.regReadCmd, s.accRead_reg req hgate hplace hfits hsem, if_true]

theorem wideAt_reg {a : Nat} {x : RegAt} (hplace : placeOf a = .reg x) (hwide : x.desc.bytes = 8) : wideAt a x.off = true := by
  simp [wideAt, hplace, hwide]

/-- R5: a read of the lower word of a wide register latches the upper word for the requester. -/
theorem State.readRegister_lower (s : State) (req : Nat) {x : RegAt} (hwide : x.desc.bytes = 8) (hoff : x.off = 0) :
    s.readRegister req x 4 =
      ((let t := s.setLatch req x.base (BitVec.ofNat 32 (s.readAt x / 2 ^ 32))
        if x.base = Reg.CP_RAW ∨ x.base = Reg.CP_FILT then t.tookFree else t).readDone x, s.readAt x % 2 ^ 32) := by
  simp only [State.readRegister, State.readHalf, hwide, hoff, and_self, if_true]

/-- R5: a read of the upper word gives the word latched, or the present one. -/
theorem State.readRegister_upper (s : State) (req : Nat) {x : RegAt} (hwide : x.desc.bytes = 8) (hoff : x.off = 4) :
    s.readRegister req x 4 =
      ((if x.base = Reg.CP_RAW ∨ x.base = Reg.CP_FILT then s.tookFree else s).readDone x,
        (s.latch? req x.base).elim (s.readAt x / 2 ^ 32) (·.toNat)) := by
  simp only [State.readRegister, State.readHalf, hwide, hoff, and_self, if_true]
  cases s.latch? req x.base <;> rfl

theorem exec_reg64LowerWordRead (s : State) (req : Nat) {addr : Nat} (hlo : 0x10000 ≤ addr) (hwide : wideAt addr 0 = true) :
    exec (.reg64LowerWordRead req addr) s = answer s (s.regReadCmd req addr 4) := by
  have hexec : exec (.reg64LowerWordRead req addr) s = execReg64LowerWordRead req addr s := rfl
  rw [hexec, execReg64LowerWordRead, hwide, decide_eq_true hlo]
  rfl

theorem exec_reg64UpperWordRead (s : State) (req : Nat) {addr : Nat} (hlo : 0x10000 ≤ addr) (hwide : wideAt addr 4 = true) :
    exec (.reg64UpperWordRead req addr) s = answer s (s.regReadCmd req addr 4) := by
  have hexec : exec (.reg64UpperWordRead req addr) s = execReg64UpperWordRead req addr s := rfl
  rw [hexec, execReg64UpperWordRead, hwide, decide_eq_true hlo]
  rfl

/-- Settles O50: a read touches the latch of its own requester and register, or none. -/
theorem wideRegisterReads : Obligations.WideRegisterReads := by
  intro s req addr x hlo _ hplace hbytes hsem hgate
  constructor
  · intro hoff
    have hfits : widthOk x.desc.bytes x.off 4 = true := by rw [hbytes, hoff]; rfl
    have hwide : wideAt addr 0 = true := hoff ▸ wideAt_reg hplace hbytes
    refine ⟨_, exec_reg64LowerWordRead s req hlo hwide, ?_⟩
    rw [s.regReadCmd_reg req hgate hplace hfits hsem, s.readRegister_lower req hbytes hoff]
    simp only [State.latch?, settle_latches, settle_out]
    split
    · exact ⟨s.latch?_setLatch_same .., fun q a h => s.latch?_setLatch_other _ h, rfl⟩
    · exact ⟨s.latch?_setLatch_same .., fun q a h => s.latch?_setLatch_other _ h, rfl⟩
  · intro hoff
    have hfits : widthOk x.desc.bytes x.off 4 = true := by rw [hbytes, hoff]; rfl
    have hwide : wideAt addr 4 = true := hoff ▸ wideAt_reg hplace hbytes
    refine ⟨_, exec_reg64UpperWordRead s req hlo hwide, ?_⟩
    rw [s.regReadCmd_reg req hgate hplace hfits hsem, s.readRegister_upper req hbytes hoff]
    simp only [settle_latches, settle_out]
    split <;> exact ⟨rfl, rfl⟩

/-- The register of the control pins' levels at the balls (Table 17-18). -/
def cpRawAt : RegAt := (findReg Reg.CP_RAW).getD ⟨logWordDesc, 0, 0⟩

/-- Refutes O1: a read of the control pins' levels takes a free value, that of the lines of a bus that moves, and the statement for
lower words leaves the count of free values as it was. -/
theorem not_registerAccessCompletes : ¬ Obligations.RegisterAccessCompletes := by
  rintro ⟨-, -, -, -, -, -, -, -, hlower, -⟩
  have hfind : findReg Reg.CP_RAW = some cpRawAt := by decide
  have hplace : placeOf Reg.CP_RAW = .reg cpRawAt := by decide
  have hgives := hlower State.reset 1 Reg.CP_RAW cpRawAt (by decide) hfind hplace (by decide) (by decide) (by decide) (by decide)
  have hexec := exec_reg64LowerWordRead State.reset 1 (addr := Reg.CP_RAW) (by decide) (wideAt_reg hplace (by decide))
  rw [Gives, hexec, State.regReadCmd_reg _ 1 (by decide) hplace (by decide) (by decide),
    State.readRegister_lower _ 1 (by decide) (by decide), answer] at hgives
  have hcount := congrArg State.freeCount (Host.Outcome.next.inj hgives)
  rw [settle_freeCount, settle_freeCount] at hcount
  exact absurd hcount (by decide)

/-! ## Saturating counters (R10) -/

/-- R10: one event. -/
theorem State.fld_count (s : State) {f sat : Fld} (hf : f.ok) (hapart : sat.apart f) :
    (s.count f sat).fld f = min (s.fld f + 1) (2 ^ f.width - 1) := by
  have hlt : s.fld f < 2 ^ f.width := BitVec.isLt _
  unfold State.count
  split
  · rename_i hroom
    rw [State.fld_setFld s f hf, Nat.mod_eq_of_lt hroom]
    omega
  · rw [State.setBit, State.fld_setFld_apart s sat f hf hapart]
    omega

theorem State.on_count (s : State) {f sat : Fld} (hsat : sat.ok) (hw : sat.width = 1) (hapart : f.apart sat) :
    (s.count f sat).on sat = true ↔ (s.on sat = true ∨ 2 ^ f.width - 1 < s.fld f + 1) := by
  have hpos : 0 < 2 ^ f.width := Nat.two_pow_pos _
  unfold State.count
  split
  · rw [State.on_setFld_apart s f sat hsat hapart]
    constructor
    · exact Or.inl
    · rintro (hon | hfull)
      · exact hon
      · omega
  · rw [State.on_setBit s sat hsat hw]
    simp only [true_iff]
    omega

/-- Settles O52: by induction on the number of events. -/
theorem countersSaturate : Obligations.CountersSaturate := by
  intro s f sat n hf hsat hw hfs hsf
  induction n generalizing s with
  | zero =>
    have hlt : s.fld f < 2 ^ f.width := BitVec.isLt _
    rw [State.countN]
    constructor
    · omega
    · constructor
      · exact Or.inl
      · rintro (hon | hfull)
        · exact hon
        · omega
  | succ n ih =>
    obtain ⟨hcount, hon⟩ := ih (s.count f sat)
    have hlt : s.fld f < 2 ^ f.width := BitVec.isLt _
    rw [State.countN, hcount, hon, s.fld_count hf hsf, s.on_count hsat hw hfs]
    constructor
    · omega
    · rw [or_assoc]
      refine or_congr_right ?_
      omega

/-! ## Bytes -/

/-- The bytes written read back as the number written, cut to their width. -/
theorem State.bytes_setBytes (s : State) (a v n : Nat) : (s.setBytes a v n).bytes a n = v % 2 ^ (8 * n) := by
  induction n generalizing s a v with
  | zero => simp [State.bytes, Nat.mod_one]
  | succ n ih =>
    rw [State.setBytes, State.bytes, ih, State.byte_setBytes_other _ _ _ _ _ (Or.inl (Nat.lt_succ_self a)), State.byte_setByte,
      if_pos rfl, Nat.mod_mod, Nat.mul_succ, Nat.pow_add, Nat.mul_comm (2 ^ (8 * n))]
    exact (Nat.mod_mul ..).symm

theorem Tbl.find?_eq_none_of_risingFrom {α : Type} {m : Tbl α} {lo k : Nat} (hm : Tbl.risingFrom lo m = true) (hk : k < lo) :
    Tbl.find? m k = none := by
  induction m generalizing lo with
  | nil => rfl
  | cons e t ih =>
    simp only [Tbl.risingFrom, Bool.and_eq_true, decide_eq_true_eq] at hm
    rw [Tbl.find?, if_neg (by omega), ih hm.2 (by omega)]

/-- Two tables in canonical form that read alike have the same entries. -/
theorem Tbl.eq_of_get_eq {α : Type} {d : α} {m m' : Tbl α} {lo : Nat} (hm : Tbl.risingFrom lo m = true)
    (hm' : Tbl.risingFrom lo m' = true) (hd : ∀ e ∈ m, e.2 ≠ d) (hd' : ∀ e ∈ m', e.2 ≠ d)
    (h : ∀ k, Tbl.get d m k = Tbl.get d m' k) : m = m' := by
  induction m generalizing m' lo with
  | nil =>
    cases m' with
    | nil => rfl
    | cons e t =>
      have hk := h e.1
      simp only [Tbl.get, Tbl.find?, if_true, Option.getD_none, Option.getD_some] at hk
      exact absurd hk.symm (hd' e List.mem_cons_self)
  | cons e t ih =>
    cases m' with
    | nil =>
      have hk := h e.1
      simp only [Tbl.get, Tbl.find?, if_true, Option.getD_none, Option.getD_some] at hk
      exact absurd hk (hd e List.mem_cons_self)
    | cons e' t' =>
      obtain ⟨i, v⟩ := e
      obtain ⟨j, w⟩ := e'
      simp only [Tbl.risingFrom, Bool.and_eq_true, decide_eq_true_eq] at hm hm'
      obtain ⟨-, ht⟩ := hm
      obtain ⟨-, ht'⟩ := hm'
      have hv : v ≠ d := hd _ List.mem_cons_self
      have hw : w ≠ d := hd' _ List.mem_cons_self
      have hi := h i
      have hj := h j
      rcases Nat.lt_trichotomy i j with hlt | rfl | hlt
      · simp only [Tbl.get, Tbl.find?, if_true, if_neg (Nat.ne_of_gt hlt),
          Tbl.find?_eq_none_of_risingFrom ht' (Nat.lt_succ_of_lt hlt), Option.getD_none, Option.getD_some] at hi
        exact absurd hi hv
      · simp only [Tbl.get, Tbl.find?, if_true, Option.getD_some] at hi
        have htail : t = t' := by
          refine ih ht ht' (fun e he => hd e (List.mem_cons_of_mem _ he)) (fun e he => hd' e (List.mem_cons_of_mem _ he)) ?_
          intro k
          by_cases hk : i = k
          · subst hk
            simp only [Tbl.get, Tbl.find?_eq_none_of_risingFrom ht (Nat.lt_succ_self i),
              Tbl.find?_eq_none_of_risingFrom ht' (Nat.lt_succ_self i)]
          · have hk' := h k
            simpa only [Tbl.get, Tbl.find?, if_neg hk] using hk'
        rw [hi, htail]
      · simp only [Tbl.get, Tbl.find?, if_true, if_neg (Nat.ne_of_gt hlt),
          Tbl.find?_eq_none_of_risingFrom ht (Nat.lt_succ_of_lt hlt), Option.getD_none, Option.getD_some] at hj
        exact absurd hj.symm hw

/-- Two memories in canonical form that read alike are the same list. -/
theorem Memory.ext {s t : State} (hs : MemoryOk s) (ht : MemoryOk t) (h : SameMemory s t) : s.mem = t.mem := by
  simp only [MemoryOk, Memory.wf, Tbl.wf, Bool.and_eq_true, List.all_eq_true, decide_eq_true_eq] at hs ht
  exact Tbl.eq_of_get_eq hs.1 ht.1 hs.2 ht.2 fun a => BitVec.eq_of_toNat_eq (h a).symm

/-- Settles O58. -/
theorem memoryReadsWhatWasWritten : Obligations.MemoryReadsWhatWasWritten :=
  ⟨State.bytes_setBytes, State.byte_setBytes_other, Memory.wf_setBytes, fun _ _ => Memory.ext⟩

end Sys2Proof.Machine
end

section
/-! The frame of the peripheral commands: what the voltage loop, the meters, the banks' pins, the control pins, the incident log and
the supply monitors leave alone. -/

namespace Sys2Proof.Machine

/-- What no peripheral command reaches: the memories, the engines, the network, the queues and their store, the configuration, the
lanes and links, the self-test controller, the fuses and the NOR. -/
def State.nonPeripheral (s : State) := (s.mem, s.bms, s.engs, s.net, s.queues, s.shards, s.store, s.frames, s.lanes, s.links, s.cfg, s.selfTest,
  s.fuses, s.nor)

/-! ## Shared operations -/

section
variable (s : State)

@[simp] theorem State.nonPeripheral_wr (a : Nat) (v : Word64) : (s.wr a v).nonPeripheral = s.nonPeripheral := (rfl)
@[simp] theorem State.nonPeripheral_setFld (f : Fld) (x : Nat) : (s.setFld f x).nonPeripheral = s.nonPeripheral := (rfl)
@[simp] theorem State.nonPeripheral_setBit (f : Fld) (b : Bool) : (s.setBit f b).nonPeripheral = s.nonPeripheral := (rfl)
@[simp] theorem State.nonPeripheral_setRgn (r : Nat) (x : RegionSt) : (s.setRgn r x).nonPeripheral = s.nonPeripheral := (rfl)
@[simp] theorem State.nonPeripheral_setBank (b : Nat) (x : BankSt) : (s.setBank b x).nonPeripheral = s.nonPeripheral := (rfl)
@[simp] theorem State.nonPeripheral_setLog (x : LogSt) : (s.setLog x).nonPeripheral = s.nonPeripheral := (rfl)
@[simp] theorem State.nonPeripheral_setHk (x : HkSt) : (s.setHk x).nonPeripheral = s.nonPeripheral := (rfl)
@[simp] theorem State.nonPeripheral_setFilt (n : Nat) (v : Bool) : (s.setFilt n v).nonPeripheral = s.nonPeripheral := (rfl)
@[simp] theorem State.nonPeripheral_setWindow (n : Nat) (v : Bool) : (s.setWindow n v).nonPeripheral = s.nonPeripheral := (rfl)
@[simp] theorem State.nonPeripheral_emit (o : Output) : (s.emit o).nonPeripheral = s.nonPeripheral := (rfl)
@[simp] theorem State.nonPeripheral_respond (req a : Nat) (c : Code) : (s.respond req a c).nonPeripheral = s.nonPeripheral := (rfl)
@[simp] theorem State.nonPeripheral_pins (p : PinsSt) : ({ s with pins := p } : State).nonPeripheral = s.nonPeripheral := (rfl)
@[simp] theorem State.nonPeripheral_tick (t : TickSt) : ({ s with tick := t } : State).nonPeripheral = s.nonPeripheral := (rfl)
@[simp] theorem State.nonPeripheral_lovage (l : LovageSt) : ({ s with lovage := l } : State).nonPeripheral = s.nonPeripheral := (rfl)
@[simp] theorem State.nonPeripheral_jtag (j : Nat) : ({ s with jtag := j } : State).nonPeripheral = s.nonPeripheral := (rfl)

@[simp] theorem State.nonPeripheral_settle : (settle s).nonPeripheral = s.nonPeripheral := by
  obtain ⟨r, v, e, h⟩ := settle_eq s
  rw [h]
  rfl

@[simp] theorem State.nonPeripheral_raise (src : Nat) (sev : Sev) (code arg : Nat) :
    (s.raise src sev code arg).nonPeripheral = s.nonPeripheral := by
  obtain ⟨b, l, h⟩ := s.raise_eq src sev code arg
  rw [h]
  rfl

@[simp] theorem State.nonPeripheral_noteRefusal (src off req : Nat) (c : Code) :
    (s.noteRefusal src off req c).nonPeripheral = s.nonPeripheral := by
  obtain ⟨b, l, h⟩ := s.noteRefusal_eq src off req c
  rw [h]
  rfl

@[simp] theorem State.nonPeripheral_errBit (f : Fld) (masked : Bool) (src : Nat) (sev : Sev) (code : Nat) (arg : State → Nat) :
    (s.errBit f masked src sev code arg).nonPeripheral = s.nonPeripheral := by
  obtain ⟨r, b, l, h⟩ := s.errBit_eq f masked src sev code arg
  rw [h]
  rfl

@[simp] theorem State.nonPeripheral_count (f sat : Fld) : (s.count f sat).nonPeripheral = s.nonPeripheral := by
  unfold State.count
  split <;> rfl

theorem State.nonPeripheral_foldl {β : Type} (f : State → β → State) (hf : ∀ u b, (f u b).nonPeripheral = u.nonPeripheral)
    (l : List β) (s : State) : (l.foldl f s).nonPeripheral = s.nonPeripheral :=
  foldl_keeps f State.nonPeripheral hf l s

theorem State.nonPeripheral_ite {s t u : State} {p : Prop} [Decidable p] (ht : t.nonPeripheral = s.nonPeripheral)
    (hu : u.nonPeripheral = s.nonPeripheral) : (if p then t else u).nonPeripheral = s.nonPeripheral := by
  split
  · exact ht
  · exact hu

/-! ## The voltage loop and the meters (R54–R56, R64–R72, R85) -/

@[simp] theorem State.nonPeripheral_tickRecord (req a : Nat) (c : Code) : (s.tickRecord req a c).nonPeripheral = s.nonPeripheral := by
  simp [State.tickRecord, State.tickNote]

theorem State.nonPeripheral_syncCtlWrite (req v : Nat) : (s.syncCtlWrite req v).nonPeripheral = s.nonPeripheral := by
  simp only [State.syncCtlWrite, State.nonPeripheral_tickRecord]
  split_ifs <;> rfl

@[simp] theorem State.nonPeripheral_sendVoltage (mv : Nat) : (s.sendVoltage mv).nonPeripheral = s.nonPeripheral := rfl

@[simp] theorem State.nonPeripheral_commandVoltage (mv : Nat) : (s.commandVoltage mv).nonPeripheral = s.nonPeripheral := by
  unfold State.commandVoltage
  split <;> rfl

@[simp] theorem State.nonPeripheral_commandFixed (mv : Nat) : (s.commandFixed mv).nonPeripheral = s.nonPeripheral := by
  unfold State.commandFixed
  split <;> rfl

@[simp] theorem State.nonPeripheral_avsRaise (step : Nat) : (s.avsRaise step).nonPeripheral = s.nonPeripheral := by
  simp only [State.avsRaise, State.nonPeripheral_commandVoltage]
  split_ifs <;> simp

@[simp] theorem State.nonPeripheral_avsNoRaise (high nofloor : Bool) : (s.avsNoRaise high nofloor).nonPeripheral = s.nonPeripheral := by
  simp only [State.avsNoRaise, apply_ite State.nonPeripheral, State.nonPeripheral_commandVoltage, State.nonPeripheral_setBit,
    State.nonPeripheral_tick, ite_self]

@[simp] theorem State.nonPeripheral_clearGather : s.clearGather.nonPeripheral = s.nonPeripheral := by
  unfold State.clearGather
  exact State.nonPeripheral_foldl _ (fun u r => u.nonPeripheral_setRgn ..) _ _

theorem State.nonPeripheral_avsInterval : s.avsInterval.nonPeripheral = s.nonPeripheral := by
  simp only [State.avsInterval, State.nonPeripheral_clearGather, apply_ite State.nonPeripheral, State.nonPeripheral_tick,
    State.nonPeripheral_avsRaise, State.nonPeripheral_avsNoRaise, State.nonPeripheral_setBit, ite_self]

theorem State.nonPeripheral_avsResponse (good : Bool) : (s.avsResponse good).nonPeripheral = s.nonPeripheral := by
  simp only [State.avsResponse, apply_ite State.nonPeripheral, State.nonPeripheral_setBit, State.nonPeripheral_setFld,
    State.nonPeripheral_emit, State.nonPeripheral_tick, State.nonPeripheral_raise, ite_self]

theorem State.nonPeripheral_avsCtlWrite (req v : Nat) : (s.avsCtlWrite req v).nonPeripheral = s.nonPeripheral := by
  simp only [State.avsCtlWrite, apply_ite State.nonPeripheral, State.nonPeripheral_setBit, State.nonPeripheral_tickRecord,
    State.nonPeripheral_commandFixed, State.nonPeripheral_tick, ite_self]

theorem State.nonPeripheral_avsVsetWrite (req v : Nat) : (s.avsVsetWrite req v).nonPeripheral = s.nonPeripheral := by
  simp only [State.avsVsetWrite, apply_ite State.nonPeripheral, State.nonPeripheral_setFld, State.nonPeripheral_tickRecord,
    State.nonPeripheral_commandFixed, ite_self]

@[simp] theorem State.nonPeripheral_clearBins (r : Nat) : (s.clearBins r).nonPeripheral = s.nonPeripheral := by
  unfold State.clearBins
  exact State.nonPeripheral_foldl _ (fun u b => u.nonPeripheral_setFld ..) _ _

@[simp] theorem State.nonPeripheral_trClrWrite (req r v : Nat) : (s.trClrWrite req r v).nonPeripheral = s.nonPeripheral := by
  simp only [State.trClrWrite, State.nonPeripheral_tickRecord]
  split_ifs <;> simp

/-! ## The banks (R625–R631) -/

@[simp] theorem State.nonPeripheral_bankEvent (b i : Nat) : (s.bankEvent b i).nonPeripheral = s.nonPeripheral :=
  s.nonPeripheral_errBit ..

@[simp] theorem State.nonPeripheral_quench (b mask i : Nat) (counts : Bool) :
    (s.quench b mask i counts).nonPeripheral = s.nonPeripheral := by
  simp only [State.quench, State.nonPeripheral_bankEvent]
  split <;> simp

@[simp] theorem State.nonPeripheral_releasePins (b : Nat) : (s.releasePins b).nonPeripheral = s.nonPeripheral := rfl

@[simp] theorem State.nonPeripheral_bankBoundary : s.bankBoundary.nonPeripheral = s.nonPeripheral := by
  refine State.nonPeripheral_foldl _ (fun u b => ?_) _ _
  dsimp only
  split_ifs <;> simp

@[simp] theorem State.nonPeripheral_bankNow : s.bankNow.nonPeripheral = s.nonPeripheral := by
  unfold State.bankNow
  split <;> simp

@[simp] theorem State.nonPeripheral_bankCtlWrite (req b v : Nat) (recent counts : Bool) :
    (s.bankCtlWrite req b v recent counts).nonPeripheral = s.nonPeripheral := by
  simp only [State.bankCtlWrite, State.nonPeripheral_respond, State.nonPeripheral_noteRefusal, State.nonPeripheral_setFld]
  split_ifs <;> simp

@[simp] theorem State.nonPeripheral_bankSupply (b mv : Nat) : (s.bankSupply b mv).nonPeripheral = s.nonPeripheral := by
  unfold State.bankSupply
  dsimp only
  split_ifs <;> simp

@[simp] theorem State.nonPeripheral_supplyChange (b mv : Nat) : (s.supplyChange b mv).nonPeripheral = s.nonPeripheral := by
  unfold State.supplyChange
  dsimp only
  split <;> simp

/-! ## The control pins (R635–R640) -/

@[simp] theorem State.nonPeripheral_filterInput (n : Nat) (v : Bool) : (s.filterInput n v).nonPeripheral = s.nonPeripheral := by
  unfold State.filterInput
  split
  · rfl
  · split <;> rfl
  · rfl

@[simp] theorem State.nonPeripheral_setCpBall (n : Nat) (v : Bool) : (s.setCpBall n v).nonPeripheral = s.nonPeripheral := by
  unfold State.setCpBall
  dsimp only
  split_ifs <;> simp

@[simp] theorem State.nonPeripheral_filterSettle (n : Nat) : (s.filterSettle n).nonPeripheral = s.nonPeripheral := by
  unfold State.filterSettle
  split
  · rfl
  · split <;> simp
  · rfl

@[simp] theorem State.nonPeripheral_cpRecord (req a : Nat) (c : Code) : (s.cpRecord req a c).nonPeripheral = s.nonPeripheral := rfl

@[simp] theorem State.nonPeripheral_cpCfgWrite (req n v : Nat) : (s.cpCfgWrite req n v).nonPeripheral = s.nonPeripheral := by
  simp only [State.cpCfgWrite, State.nonPeripheral_cpRecord]
  split_ifs <;> rfl

@[simp] theorem State.nonPeripheral_tlMapWrite (req k v : Nat) : (s.tlMapWrite req k v).nonPeripheral = s.nonPeripheral := by
  simp only [State.tlMapWrite, State.nonPeripheral_cpRecord]
  split
  · rfl
  · refine State.nonPeripheral_foldl _ (fun u l => ?_) _ _
    simp only [apply_ite State.nonPeripheral, State.nonPeripheral_errBit, ite_self]

/-! ## The incident log and PWR_CTL (R646, R650–R652, R671) -/

@[simp] theorem State.nonPeripheral_setTokens (src t : Nat) : (s.setTokens src t).nonPeripheral = s.nonPeripheral := rfl

@[simp] theorem State.nonPeripheral_logRecord (req a cmd : Nat) (c : Code) :
    (s.logRecord req a cmd c).nonPeripheral = s.nonPeripheral := by
  simp [State.logRecord]

@[simp] theorem State.nonPeripheral_logRate (req v : Nat) : (s.logRate req v).nonPeripheral = s.nonPeripheral := by
  unfold State.logRate
  dsimp only
  split
  · exact s.nonPeripheral_logRecord ..
  · rw [State.nonPeripheral_logRecord, State.nonPeripheral_foldl _ fun u e => u.nonPeripheral_setTokens ..,
      State.nonPeripheral_setFld, State.nonPeripheral_setFld]

@[simp] theorem State.nonPeripheral_logWrite (i : Incident) : (s.logWrite i).nonPeripheral = s.nonPeripheral := by
  simp only [State.logWrite, apply_ite State.nonPeripheral, State.nonPeripheral_setFld, State.nonPeripheral_setBit,
    State.nonPeripheral_setLog, ite_self]

@[simp] theorem State.nonPeripheral_logClear (req : Nat) : (s.logClear req).nonPeripheral = s.nonPeripheral := by
  simp [State.logClear]

@[simp] theorem State.nonPeripheral_logCmd (req v : Nat) (same : Bool) : (s.logCmd req v same).nonPeripheral = s.nonPeripheral := by
  unfold State.logCmd
  dsimp only
  split
  · rw [State.nonPeripheral_logRecord, State.nonPeripheral_setFld]
  · rw [State.nonPeripheral_logRecord, State.nonPeripheral_logClear]
  · rw [State.nonPeripheral_logRecord]
    split <;> rfl
  · rw [State.nonPeripheral_logRecord, State.nonPeripheral_lovage]
  · rw [State.nonPeripheral_logRecord, State.nonPeripheral_setBit, State.nonPeripheral_setBit,
      State.nonPeripheral_foldl _ fun u f => u.nonPeripheral_setFld ..]
  · rw [State.nonPeripheral_logRecord]

@[simp] theorem State.nonPeripheral_powerEvent (kind index value : Nat) :
    (s.powerEvent kind index value).nonPeripheral = s.nonPeripheral :=
  s.nonPeripheral_raise ..

@[simp] theorem State.nonPeripheral_pwrCtl (req v : Nat) : (s.pwrCtl req v).nonPeripheral = s.nonPeripheral := by
  simp only [State.pwrCtl, State.nonPeripheral_respond, State.nonPeripheral_setFld]
  split <;> rfl

end

/-! ## The commands -/

/-- A command leaves alone what its effect does. -/
theorem nonPeripheral_of_answer {s t u : State} (h : answer s u = .next t) (hu : u.nonPeripheral = s.nonPeripheral) :
    t.nonPeripheral = s.nonPeripheral := by
  obtain rfl := Host.Outcome.next.inj h
  rw [State.nonPeripheral_settle]
  exact hu

/-- A command that has its effect under a condition, and none else. -/
theorem nonPeripheral_of_guarded {s t u : State} {p : Prop} [Decidable p] (h : answer s (if p then u else s) = .next t)
    (hu : u.nonPeripheral = s.nonPeripheral) : t.nonPeripheral = s.nonPeripheral :=
  nonPeripheral_of_answer h (State.nonPeripheral_ite hu rfl)

theorem State.nonPeripheral_collapse (s : State) (b mv : Nat) (together : Bool) :
    (let u := s.supplyChange b mv
     if guarded b && u.hk.up then u.quench b allPins 4 (!together) else u).nonPeripheral = s.nonPeripheral :=
  State.nonPeripheral_ite ((State.nonPeripheral_quench ..).trans (s.nonPeripheral_supplyChange ..)) (s.nonPeripheral_supplyChange ..)

theorem nonPeripheral_exec {c : Instr} {s t : State} (hc : isPeripheral c = true) (h : exec c s = .next t) :
    t.nonPeripheral = s.nonPeripheral := by
  cases c
  case pllRelock => exact nonPeripheral_of_answer h (s.nonPeripheral_setBit ..)
  case tickSyncArm => exact nonPeripheral_of_answer h (s.nonPeripheral_syncCtlWrite ..)
  case tickMarkPulseEnd => exact nonPeripheral_of_answer h (s.nonPeripheral_tick _)
  case avsInterval => exact nonPeripheral_of_guarded h s.nonPeripheral_avsInterval
  case avsFrameResponse => exact nonPeripheral_of_answer h (s.nonPeripheral_avsResponse _)
  case avsCtlWrite => exact nonPeripheral_of_answer h (s.nonPeripheral_avsCtlWrite ..)
  case avsVsetWrite => exact nonPeripheral_of_answer h (s.nonPeripheral_avsVsetWrite ..)
  case trClrOverrunCounters => exact nonPeripheral_of_guarded h (s.nonPeripheral_trClrWrite ..)
  case trClrHistogram => exact nonPeripheral_of_guarded h (s.nonPeripheral_trClrWrite ..)
  case trClrSlkMinAll => exact nonPeripheral_of_guarded h (s.nonPeripheral_trClrWrite ..)
  case bankBitslip => exact nonPeripheral_of_guarded h (s.nonPeripheral_bankCtlWrite ..)
  case bankQuench => exact nonPeripheral_of_guarded h (s.nonPeripheral_bankCtlWrite ..)
  case bankQclr => exact nonPeripheral_of_guarded h (s.nonPeripheral_bankCtlWrite ..)
  case currentLimitEvent => exact nonPeripheral_of_guarded h (s.nonPeripheral_quench ..)
  case bankSupplyCollapse => exact nonPeripheral_of_guarded h (s.nonPeripheral_collapse ..)
  case bankSupplyOutOfRange => exact nonPeripheral_of_guarded h (s.nonPeripheral_supplyChange ..)
  case bankSupplyReturn => exact nonPeripheral_of_guarded h (s.nonPeripheral_supplyChange ..)
  case controlPinInputChange => exact nonPeripheral_of_guarded h (s.nonPeripheral_setCpBall ..)
  case cpCfgWrite => exact nonPeripheral_of_guarded h (s.nonPeripheral_cpCfgWrite ..)
  case tlMapWrite => exact nonPeripheral_of_guarded h (s.nonPeripheral_tlMapWrite ..)
  case pinFilterSettle => exact nonPeripheral_of_guarded h (s.nonPeripheral_filterSettle _)
  case rateTokenRefill => exact nonPeripheral_of_answer h (s.nonPeripheral_setTokens ..)
  case ilRateWrite => exact nonPeripheral_of_answer h (s.nonPeripheral_logRate ..)
  case ilAck => exact nonPeripheral_of_answer h (s.nonPeripheral_logCmd ..)
  case ilClear => exact nonPeripheral_of_answer h (s.nonPeripheral_logCmd ..)
  case ilAlmclr => exact nonPeripheral_of_answer h (s.nonPeripheral_logCmd ..)
  case ilPmAck => exact nonPeripheral_of_answer h (s.nonPeripheral_logCmd ..)
  case ilCntclr => exact nonPeripheral_of_answer h (s.nonPeripheral_logCmd ..)
  case refclkPresent => exact nonPeripheral_of_answer h (s.nonPeripheral_setHk _)
  case retryStatusTimeout => exact nonPeripheral_of_answer h (s.nonPeripheral_setHk _)
  case thermalWarningClear =>
    exact nonPeripheral_of_guarded h ((State.nonPeripheral_powerEvent ..).trans (s.nonPeripheral_setBit ..))
  case wakeChange =>
    exact nonPeripheral_of_answer h
      (State.nonPeripheral_ite rfl (State.nonPeripheral_ite ((State.nonPeripheral_lovage ..).trans (s.nonPeripheral_pins _))
        (s.nonPeripheral_pins _)))
  case pwrCtlWrite => exact nonPeripheral_of_answer h (s.nonPeripheral_pwrCtl ..)
  case jtagInstruction => exact nonPeripheral_of_answer h (s.nonPeripheral_jtag _)
  all_goals exact absurd hc Bool.false_ne_true

/-- Settles O60. -/
theorem peripheralFrame : Obligations.PeripheralFrame := by
  intro c s t hc h
  simpa only [State.nonPeripheral, Prod.mk.injEq] using nonPeripheral_exec hc h

end Sys2Proof.Machine
end

section
/-! The frame of the block memories' accesses (R187–R203): which bytes of the memories an access can change. -/

namespace Sys2Proof.Machine

section
variable (s : State)

/-! ## What leaves every byte alone -/

@[simp] theorem State.raise_mem (src : Nat) (sev : Sev) (code arg : Nat) : (s.raise src sev code arg).mem = s.mem := by
  obtain ⟨b, l, h⟩ := s.raise_eq src sev code arg
  rw [h]

@[simp] theorem State.noteRefusal_mem (src off req : Nat) (c : Code) : (s.noteRefusal src off req c).mem = s.mem := by
  obtain ⟨b, l, h⟩ := s.noteRefusal_eq src off req c
  rw [h]

@[simp] theorem State.errBit_mem (f : Fld) (masked : Bool) (src : Nat) (sev : Sev) (code : Nat) (arg : State → Nat) :
    (s.errBit f masked src sev code arg).mem = s.mem := by
  obtain ⟨r, b, l, h⟩ := s.errBit_eq f masked src sev code arg
  rw [h]
  rfl

@[simp] theorem State.count_mem (f sat : Fld) : (s.count f sat).mem = s.mem := by
  unfold State.count
  split <;> rfl

@[simp] theorem State.setBm_mem (r m : Nat) (x : BmSt) : (s.setBm r m x).mem = s.mem := rfl
@[simp] theorem State.setBmPort_mem (r m p : Nat) (x : BmPort) : (s.setBmPort r m p x).mem = s.mem := rfl
@[simp] theorem State.setMark_mem (a v : Nat) : (s.setMark a v).mem = s.mem := rfl
@[simp] theorem State.maintained_mem (r m : Nat) : (s.maintained r m).mem = s.mem := rfl
@[simp] theorem State.clearValid_mem (r m : Nat) : (s.clearValid r m).mem = s.mem := rfl
@[simp] theorem State.setScr_mem (r : Nat) (x : ScrubSt) : (s.setScr r x).mem = s.mem := rfl
@[simp] theorem State.respond_mem (req a : Nat) (c : Code) : (s.respond req a c).mem = s.mem := rfl

@[simp] theorem State.eccBit_mem (p : EccPlace) (i : Nat) (sev : Sev) : (s.eccBit p i sev).mem = s.mem := s.errBit_mem ..
@[simp] theorem State.bmError_mem (r m i : Nat) : (s.bmError r m i).mem = s.mem := s.errBit_mem ..

@[simp] theorem State.countCollision_mem (r m : Nat) : (s.countCollision r m).mem = s.mem := by
  simp only [State.countCollision, State.setBit_mem, State.count_mem]

@[simp] theorem State.windowRefuse_mem (req r a : Nat) (c : Code) : (s.windowRefuse req r a c).mem = s.mem := by
  simp only [State.windowRefuse, State.refuse, State.respond_mem, State.noteRefusal_mem]

@[simp] theorem State.eccEvent_mem (p : EccPlace) (addr : Nat) (ue : Bool) : (s.eccEvent p addr ue).mem = s.mem := by
  have hwr := s.wr_mem
  simp only [State.eccEvent, apply_ite State.mem, State.eccBit_mem, State.count_mem, State.setScr_mem, hwr, ite_self]

@[simp] theorem State.checkRow_mem (r m row hs finder : Nat) (x : RowImage) : (s.checkRow r m row hs finder x).1.mem = s.mem := by
  simp only [State.checkRow, apply_ite Prod.fst, apply_ite State.mem, State.eccEvent_mem, ite_self]
  rw [foldl_keeps _ State.mem]
  · simp only [apply_ite State.mem, State.eccEvent_mem, ite_self]
  · intro u w
    simp only [apply_ite State.mem, State.eccEvent_mem, ite_self]

@[simp] theorem State.readRow_mem (r m row mask finder : Nat) (x : RowImage) : (s.readRow r m row mask finder x).1.mem = s.mem :=
  s.checkRow_mem ..

@[simp] theorem State.arbTaken_mem (r cls unit mask : Nat) : (s.arbTaken r cls unit mask).mem = s.mem := by
  unfold State.arbTaken
  split
  · split <;> rfl
  · rfl

@[simp] theorem State.bmWatch_mem (r m p : Nat) : (s.bmWatch r m p).1.mem = s.mem := by
  simp only [State.bmWatch, apply_ite Prod.fst, apply_ite State.mem, State.bmError_mem, State.setBmPort_mem, ite_self]

@[simp] theorem State.maintRead_mem (r m off n finder : Nat) : (s.maintRead r m off n finder).1.mem = s.mem := by
  simp only [State.maintRead, apply_ite Prod.fst, ite_self]
  exact foldl_keeps _ (fun acc : State × Nat × Bool × Nat => acc.1.mem) (fun acc c => acc.1.readRow_mem ..) _ _

theorem SameMemory.of_mem {s t : State} (h : t.mem = s.mem) : SameMemory s t := by
  intro a
  rw [State.byte, State.byte, h]

theorem State.byte_of_mem {s t : State} (h : t.mem = s.mem) (a : Nat) : t.byte a = s.byte a := SameMemory.of_mem h a

/-! ## Rows -/

theorem State.byte_setRow_other {r m row a : Nat} (x : RowImage) (h : a < bmRow r m row ∨ bmRow r m row + 8 ≤ a) :
    (s.setRow r m row x).byte a = s.byte a := by
  have hmem : (s.setRow r m row x).mem = (s.setBytes (bmRow r m row) x.data 8).mem := rfl
  rw [State.byte_of_mem hmem, State.byte_setBytes_other _ _ _ _ _ h]

theorem State.byte_writeRow_other {r m row a : Nat} (mask value finder : Nat) (h : a < bmRow r m row ∨ bmRow r m row + 8 ≤ a) :
    (s.writeRow r m row mask value finder).1.byte a = s.byte a := by
  unfold State.writeRow
  extract_lets x ecc part hs
  have hcheck : (if hs = 0 then (s, false) else s.checkRow r m row hs finder x).1.mem = s.mem := by
    split
    · rfl
    · exact s.checkRow_mem ..
  generalize (if hs = 0 then (s, false) else s.checkRow r m row hs finder x) = checked at hcheck
  obtain ⟨u, ue⟩ := checked
  dsimp only
  split
  · exact State.byte_of_mem hcheck a
  · rw [State.byte_of_mem (State.setMark_mem ..), State.byte_setRow_other _ _ h]
    exact State.byte_of_mem hcheck a

/-! ## Port accesses -/

/-- A port that takes a request changes bytes of its row only (R188–R190, R194). -/
theorem State.byte_bmTake_other {r m p a : Nat} (q : BmRequest) (collides : Bool)
    (h : a < bmRow r m (wordPlace (s.bmWidth r m p) q.addr).1 ∨ bmRow r m (wordPlace (s.bmWidth r m p) q.addr).1 + 8 ≤ a) :
    (s.bmTake r m p q collides).byte a = s.byte a := by
  rcases hplace : wordPlace (s.bmWidth r m p) q.addr with ⟨row, lo⟩
  rw [hplace] at h
  simp only [State.bmTake, hplace]
  split
  · exact State.byte_of_mem (by simp only [State.setBmPort_mem, State.readRow_mem]) a
  · split
    · split
      · split
        · exact State.byte_of_mem (by simp only [State.setBmPort_mem, State.countCollision_mem]) a
        · rw [State.byte_of_mem (State.setBmPort_mem ..), State.byte_of_mem (State.setBmPort_mem ..),
            State.byte_writeRow_other _ _ _ _ h, State.byte_setRow_other _ _ h, State.byte_of_mem (s.countCollision_mem ..)]
      · rw [State.byte_of_mem (State.setBmPort_mem ..), State.byte_writeRow_other _ _ _ _ h]
    · rw [State.byte_of_mem (State.setBmPort_mem ..), State.byte_writeRow_other _ _ _ _ h]

/-- A port that takes a read changes none (R189). -/
theorem State.bmTake_mem_of_read {r m p : Nat} {q : BmRequest} (collides : Bool) (hread : q.write = false) :
    (s.bmTake r m p q collides).mem = s.mem := by
  simp only [State.bmTake, hread, Bool.not_false, if_true, State.setBmPort_mem, State.readRow_mem]

/-! ## The maintenance path -/

/-- R202: the rows of the pieces are those that the bytes lie in. -/
theorem row_of_mem_rowPieces {off n fuel : Nat} {c : Nat × Nat × Nat} (h : c ∈ rowPieces off n fuel) :
    off / 8 ≤ c.1 ∧ c.1 < (off + n + 7) / 8 := by
  induction fuel generalizing off n with
  | zero => cases n <;> cases h
  | succ fuel ih =>
    cases n with
    | zero => cases h
    | succ n =>
      simp only [rowPieces, List.mem_cons] at h
      obtain rfl | h := h
      · constructor <;> dsimp only <;> omega
      · obtain ⟨hlo, hhi⟩ := ih h
        constructor <;> omega

/-- A maintenance write changes bytes of the rows that it covers only (R202, R203). -/
theorem State.byte_maintWrite_other {r m off n a : Nat} (value be finder : Nat)
    (h : a < bmRow r m (off / 8) ∨ bmRow r m ((off + n + 7) / 8) ≤ a) :
    (s.maintWrite r m off n value be finder).1.byte a = s.byte a := by
  refine List.foldlRecOn (motive := fun acc : State × Bool × Nat => acc.1.byte a = s.byte a) _ _
    (State.byte_of_mem (s.maintained_mem r m) a) ?_
  intro acc hacc c hc
  obtain ⟨hlo, hhi⟩ := row_of_mem_rowPieces hc
  have hrow : a < bmRow r m c.1 ∨ bmRow r m c.1 + 8 ≤ a := by
    simp only [bmRow] at h ⊢
    omega
  dsimp only
  split
  · exact hacc
  · split
    · exact hacc
    · exact (acc.1.byte_writeRow_other _ _ _ hrow).trans hacc

theorem State.byte_bmAccess_write_other {req r m off n be v a : Nat}
    (h : a < bmRow r m (off / 8) ∨ bmRow r m ((off + n + 7) / 8) ≤ a) :
    (s.bmAccess req r m off n true v be).byte a = s.byte a := by
  simp only [State.bmAccess, if_true]
  split
  · exact State.byte_of_mem (s.windowRefuse_mem ..) a
  · split
    · exact State.byte_of_mem (s.respond_mem ..) a
    · exact (State.byte_of_mem (State.respond_mem ..) a).trans (s.byte_maintWrite_other _ _ _ h)

theorem State.bmAccess_mem_of_read (req r m off n v be : Nat) : (s.bmAccess req r m off n false v be).mem = s.mem := by
  simp only [State.bmAccess, Bool.false_eq_true, if_false]
  split
  · rfl
  · split
    · rfl
    · split
      · exact s.maintRead_mem ..
      · exact s.maintRead_mem ..

@[simp] theorem State.bmCmdWrite_mem (req r m v : Nat) : (s.bmCmdWrite req r m v).mem = s.mem := by
  simp only [State.bmCmdWrite, State.windowRefuse_mem, State.setFld_mem, apply_ite State.mem, State.setBit_mem,
    State.clearValid_mem, ite_self]

end

/-! ## The commands -/

theorem State.upset_nil (s : State) : s.upset [] = s := rfl

theorem byte_of_answer {s t u : State} {a : Nat} (h : answer s u = .next t) (hu : u.byte a = s.byte a) : t.byte a = s.byte a := by
  obtain rfl := Host.Outcome.next.inj h
  rw [settle_byte]
  exact hu

theorem sameMemory_of_answer {s t u : State} (h : answer s u = .next t) (hu : u.mem = s.mem) : SameMemory s t :=
  fun a => byte_of_answer h (State.byte_of_mem hu a)

/-- What a request at a port comes to: the port's look at its slots, and the access if there is one (R187–R191). -/
theorem exec_bmPortRequest (r m p : Nat) (near : Bool) (s : State) : ∃ u, exec (.bmPortRequest r m p near []) s = answer s u ∧
    (u.mem = s.mem ∨ u.mem = ((s.bmWatch r m p).1.bmTake r m p (s.bmRequest r m p) near).mem) := by
  refine ⟨_, rfl, ?_⟩
  dsimp only [State.upset]
  split_ifs
  · exact .inl rfl
  · exact .inl (s.bmWatch_mem r m p)
  · exact .inl (s.bmWatch_mem r m p)
  · exact .inr (State.arbTaken_mem ..)

theorem byte_bmPortRequest {s t : State} {r m p : Nat} {near : Bool} {a : Nat} (h : exec (.bmPortRequest r m p near []) s = .next t)
    (ha : let row := (wordPlace ((s.bmWatch r m p).1.bmWidth r m p) (s.bmRequest r m p).addr).1
      a < bmRow r m row ∨ bmRow r m row + 8 ≤ a) : t.byte a = s.byte a := by
  obtain ⟨u, hu, hmem⟩ := exec_bmPortRequest r m p near s
  refine byte_of_answer (hu ▸ h) ?_
  obtain hmem | hmem := hmem
  · exact State.byte_of_mem hmem a
  · rw [State.byte_of_mem hmem, State.byte_bmTake_other _ _ _ ha, State.byte_of_mem (s.bmWatch_mem r m p)]

theorem sameMemory_bmPortRequest_of_read {s t : State} {r m p : Nat} {near : Bool} (h : exec (.bmPortRequest r m p near []) s = .next t)
    (hread : (s.bmRequest r m p).write = false) : SameMemory s t := by
  obtain ⟨u, hu, hmem⟩ := exec_bmPortRequest r m p near s
  refine sameMemory_of_answer (hu ▸ h) ?_
  obtain hmem | hmem := hmem
  · exact hmem
  · rw [hmem, State.bmTake_mem_of_read _ _ hread, s.bmWatch_mem]

theorem sameMemory_bmPortResponseAck {s t : State} {r m p : Nat} (h : exec (.bmPortResponseAck r m p) s = .next t) :
    SameMemory s t := by
  refine sameMemory_of_answer h ?_
  simp only [apply_ite State.mem, State.setBmPort_mem, State.bmWatch_mem, ite_self]

theorem sameMemory_bmPortRequestNull {s t : State} {r m p : Nat} (h : exec (.bmPortRequestNull r m p) s = .next t) :
    SameMemory s t := by
  refine sameMemory_of_answer h ?_
  simp only [apply_ite State.mem, State.setBmPort_mem, State.bmWatch_mem, ite_self]

theorem sameMemory_bmClear {s t : State} {req r m : Nat} (h : exec (.bmClear req r m) s = .next t) : SameMemory s t := by
  refine sameMemory_of_answer h ?_
  split
  · rfl
  · split
    · exact s.bmCmdWrite_mem ..
    · exact s.windowRefuse_mem ..

/-- Settles O57. -/
theorem blockMemoryFrame : Obligations.BlockMemoryFrame := by
  refine ⟨fun s t r m p near h a ha => byte_bmPortRequest h ha, fun s t r m p near h => sameMemory_bmPortRequest_of_read h, ?_, ?_, ?_⟩
  · intro s t req r m off n be v h a ha
    refine byte_of_answer h ?_
    rw [State.upset_nil]
    split
    · exact s.byte_bmAccess_write_other ha
    · rfl
  · intro s t req r m off n be v h
    refine sameMemory_of_answer h ?_
    rw [State.upset_nil]
    split
    · exact s.bmAccess_mem_of_read ..
    · rfl
  · rintro s t req r m p (h | h | h)
    · exact sameMemory_bmPortResponseAck h
    · exact sameMemory_bmPortRequestNull h
    · exact sameMemory_bmClear h

end Sys2Proof.Machine
end

section
/-! How a statement of completion is met: the command's effect is the state that the statement names. -/

namespace Sys2Proof.Machine

/-- A command whose effect is `u` completes with the effect `u`. -/
theorem gives_of_effect {c : Instr} {s t u : State} (h : exec c s = answer s t) (e : t = u) : Gives c s u := by
  rw [Gives, h, answer, e]

end Sys2Proof.Machine
end

section
/-! The tick unit (O2, O3). -/

namespace Sys2Proof.Machine

/-! ## What the writes of TICK_CTL see of the tick -/

theorem State.ticking_setBit {s : State} {f : Fld} (b : Bool) (h : f.addr ≠ Reg.TICK_STATUS) : (s.setBit f b).ticking = s.ticking :=
  State.on_setBit_apart s f _ (by decide) (.inl h) b

theorem State.tickIdle_iff {s : State} : s.tickIdle = true ↔ s.on Reg.TICK_CTL_RUN = false ∧ s.ticking = false := by
  simp [State.tickIdle]

theorem State.ticking_afterCtl (s : State) (run sync : Bool) :
    ((s.setBit Reg.TICK_CTL_RUN run).setBit Reg.TICK_CTL_START_ON_SYNC sync).ticking = s.ticking := by
  rw [State.ticking_setBit _ (by decide), State.ticking_setBit _ (by decide)]

/-- Settles O2. -/
theorem tickControlCompletes : Obligations.TickControlCompletes := by
  refine ⟨?_, ?_, ?_, ?_, ?_, ?_, ?_, ?_, ?_, ?_, ?_, ?_, ?_, ?_, ?_⟩
  · intro s req b hlock hstop hticks
    refine gives_of_effect rfl ?_
    simp only [State.tickStart, hlock, State.ticking_afterCtl, hticks, State.setBit_tick, hstop, if_true, Bool.false_eq_true, if_false]
    rfl
  · intro s req b hlock hstop
    refine gives_of_effect rfl ?_
    simp only [State.tickStart, hlock, State.setBit_tick, hstop, if_true]
    rfl
  · intro s req b hlock hstop hticks
    refine gives_of_effect rfl ?_
    simp only [State.tickStart, hlock, State.ticking_afterCtl, hticks, State.setBit_tick, hstop, if_true, Bool.false_eq_true, if_false]
  · intro s req b hlock
    refine gives_of_effect rfl ?_
    simp only [State.tickStart, hlock, Bool.false_eq_true, if_false]
  · intro s req b hact hticks hstart
    refine gives_of_effect rfl ?_
    simp only [State.tickStop, hact, State.ticking_afterCtl, hticks, State.setBit_tick, hstart, Bool.or_false, Bool.false_eq_true,
      if_false]
  · intro s req b hact hruns
    have hruns : (s.ticking || s.tick.starting) = true := by simpa using hruns
    refine gives_of_effect rfl ?_
    simp only [State.tickStop, hact, State.ticking_afterCtl, State.setBit_tick, hruns, Bool.false_eq_true, if_false, if_true]
    rfl
  · intro s req b hact
    refine gives_of_effect rfl ?_
    simp only [State.tickStop, hact, if_true]
  · intro s req v hrun hticks
    refine gives_of_effect rfl ?_
    simp only [State.tickCountWrite, State.tickIdle_iff.mpr ⟨hrun, hticks⟩, if_true]
  · intro s req v hbusy
    have hbusy : ¬ s.tickIdle = true := by
      rw [State.tickIdle_iff]
      rintro ⟨hrun, hticks⟩
      simp [hrun, hticks] at hbusy
    refine gives_of_effect rfl ?_
    simp only [State.tickCountWrite, if_neg hbusy]
  · exact fun s => gives_of_effect rfl rfl
  · intro s hdue hticks hstart
    have hruns : (s.ticking || s.tick.starting) = false := by rw [hticks, hstart, Bool.or_false]
    refine gives_of_effect rfl ?_
    simp only [hdue, hruns, Bool.not_false, Bool.false_eq_true, if_false, if_true]
    rfl
  · exact fun s req => gives_of_effect rfl rfl
  · intro s harmed hrun hticks hsync hlock
    refine gives_of_effect rfl ?_
    simp only [State.syncEdge, harmed, State.tickIdle_iff.mpr ⟨hrun, hticks⟩, hsync, hlock, Bool.and_self, Bool.not_true,
      Bool.false_eq_true, if_false, if_true]
    rfl
  · intro s harmed hnot
    have hnot : ¬ (s.tickIdle && s.on Reg.TICK_CTL_START_ON_SYNC && s.on Reg.TICK_STATUS_PLL_LOCK) = true := by
      simp only [Bool.and_eq_true, State.tickIdle_iff]
      rintro ⟨⟨⟨hrun, hticks⟩, hsync⟩, hlock⟩
      simp [hrun, hticks, hsync, hlock] at hnot
    refine gives_of_effect rfl ?_
    simp only [State.syncEdge, harmed, if_neg hnot, Bool.not_true, Bool.false_eq_true, if_false]
  · intro s harmed
    refine gives_of_effect rfl ?_
    simp only [State.syncEdge, harmed, Bool.not_false, if_true]

/-! ## Boundaries -/

/-- R39: the tick that ends is counted, modulo 2 to the 64th. -/
theorem State.endTick_now (s : State) : s.endTick.now = (s.now + 1) % 2 ^ 64 := by
  have hnow : ∀ u : State, u.now = s.now → (u.setFld Reg.TICK_COUNT_COUNT ((u.now + 1) % 2 ^ 64)).now = (s.now + 1) % 2 ^ 64 := by
    intro u hu
    rw [State.now, State.fld_setFld _ _ (by decide), hu]
    exact Nat.mod_mod _ _
  refine hnow _ (foldl_keeps _ State.now (fun u r => ?_) _ _)
  dsimp only
  split <;> rfl

@[simp] theorem State.ticking_raise (s : State) (src : Nat) (sev : Sev) (code arg : Nat) :
    (s.raise src sev code arg).ticking = s.ticking := s.raise_on ..

/-- `RUNNING` is another bit of TICK_STATUS than those that the loss of the lock writes. -/
theorem State.ticking_setLost (s : State) (b : Bool) : (s.setBit Reg.TICK_STATUS_PLL_LOST b).ticking = s.ticking :=
  State.on_setBit_apart s _ _ (by decide) (by decide) b

theorem State.ticking_lockClear (s : State) (t : TickSt) :
    ({ s.setBit Reg.TICK_STATUS_PLL_LOCK false with tick := t } : State).ticking = s.ticking :=
  State.on_setBit_apart s Reg.TICK_STATUS_PLL_LOCK _ (by decide) (by decide) false

/-- Settles O3. -/
theorem tickBoundariesComplete : Obligations.TickBoundariesComplete := by
  refine ⟨?_, ?_, ?_, ?_, ?_, ?_, ?_, ?_⟩
  · intro s env hticks hdue hclean hstop
    refine ⟨gives_of_effect rfl ?_, s.endTick_now⟩
    simp only [hticks, hdue, hclean, hstop, Bool.not_true, Bool.or_self, Bool.false_eq_true, if_false]
  · intro s env hticks hdue hclean hstop
    refine gives_of_effect rfl ?_
    simp only [hticks, hdue, hclean, hstop, Bool.not_true, Bool.or_self, Bool.false_eq_true, if_false, if_true]
  · intro s env hticks hdue hclean
    refine gives_of_effect rfl ?_
    simp only [hticks, hdue, hclean, Bool.not_true, Bool.or_self, Bool.false_eq_true, if_false, if_true]
  · intro s env hticks hstart hstop
    refine gives_of_effect rfl ?_
    simp only [hticks, hstart, hstop, Bool.not_true, Bool.or_self, Bool.false_eq_true, if_false, State.firstTick]
  · intro s env hticks hstart hstop
    refine gives_of_effect rfl ?_
    simp only [hticks, hstart, hstop, Bool.not_true, Bool.or_self, Bool.false_eq_true, if_false, if_true]
  · intro s env hload hticks
    have hticks' : ({ s with tick := { s.tick with syncLoad := false } } : State).ticking = false := hticks
    refine gives_of_effect rfl ?_
    simp only [hload, hticks', Bool.not_true, Bool.false_eq_true, if_false]
    rfl
  · intro s hdue hticks
    refine gives_of_effect rfl ?_
    simp only [hdue, hticks, State.ticking_raise, State.ticking_setLost, State.ticking_lockClear, Bool.true_or, Bool.not_true,
      Bool.false_eq_true, if_false, if_true, State.setBit_tick]
  · intro s hdue hticks hstart
    refine gives_of_effect rfl ?_
    simp only [hdue, hticks, hstart, State.ticking_raise, State.ticking_setLost, State.ticking_lockClear, Bool.or_true, Bool.not_true,
      Bool.false_eq_true, if_false, State.setBit_tick]

end Sys2Proof.Machine
end

section
/-! The regions' waves and tick registers (O4, O5). -/

namespace Sys2Proof.Machine

/-! ## Tables written twice at one key -/

theorem Tbl.insert_insert {α : Type} (m : Tbl α) (k : Nat) (v w : α) : Tbl.insert (Tbl.insert m k v) k w = Tbl.insert m k w := by
  induction m with
  | nil => simp [Tbl.insert]
  | cons e t ih =>
    obtain ⟨i, u⟩ := e
    by_cases hik : i = k
    · simp [Tbl.insert, hik]
    · by_cases hlt : k < i
      · simp [Tbl.insert, hik, hlt]
      · simp [Tbl.insert, hik, hlt, ih]

/-- The second of two writes at a key stands, where the first is listed. -/
theorem Tbl.put_put {α : Type} [DecidableEq α] {d v : α} (m : Tbl α) (k : Nat) (w : α) (h : v ≠ d) :
    Tbl.put d (Tbl.put d m k v) k w = Tbl.put d m k w := by
  simp only [Tbl.put, if_neg h]
  split
  · exact Tbl.filter_insert m k v
  · exact Tbl.insert_insert m k v w

theorem State.setRgn_setRgn (s : State) (r : Nat) {x : RegionSt} (y : RegionSt) (h : x ≠ .reset) :
    (s.setRgn r x).setRgn r y = s.setRgn r y := by
  simp only [State.setRgn, Tbl.put_put s.regions r y h]

theorem RegionSt.ne_reset_of_ovrOpen {x : RegionSt} {m : Nat} (h : x.ovrOpen = some m) : x ≠ .reset := by
  rintro rfl
  cases h

/-! ## A region's state and pending command -/

@[simp] theorem validRegion_eq_true {r : Nat} : validRegion r = true ↔ r < 24 := decide_eq_true_iff

theorem State.rstate_clearPend (s : State) (r q : Nat) : (s.clearPend r).rstate q = s.rstate q := by
  have haddr : Reg.REG_STATUS q ≠ Reg.REG_CMDSTAT r := by
    simp only [Reg.REG_STATUS, Reg.REG_CMDSTAT]
    omega
  have hrd : (s.clearPend r).rd (Reg.REG_STATUS q) = s.rd (Reg.REG_STATUS q) := State.rd_setBit_other _ _ _ haddr
  simp only [State.rstate, State.fld, Reg.REG_STATUS_STATE, hrd]

/-! ## The wave (R47–R63) -/

theorem State.overrunDone_of_none {s : State} {r : Nat} (t : Nat) (h : (s.rgn r).ovrOpen = none) : s.overrunDone r t = s := by
  simp only [State.overrunDone, h]

theorem State.overrunDone_of_some {s : State} {r m : Nat} (t : Nat) (h : (s.rgn r).ovrOpen = some m) (hleft : s.missedLeft r m = false) :
    s.overrunDone r t = (s.setRgn r { s.rgn r with ovrOpen := none }).recordOverrun r m (-(t : Int)) := by
  simp only [State.overrunDone, h, hleft, Bool.false_eq_true, if_false]

/-- Settles O4. -/
theorem regionWaveCompletes : Obligations.RegionWaveCompletes := by
  refine ⟨?_, ?_, ?_, ?_, ?_, ?_, ?_⟩
  · intro s r hr hphase
    refine gives_of_effect rfl (if_pos ?_)
    simp [hr, hphase]
  · intro s r t hr hphase hruns hfabric hwin hopen
    have hcomes : s.doneComes r = true := by simp [State.doneComes, hruns, hwin, hopen, hphase, hfabric]
    refine gives_of_effect rfl ?_
    rw [if_pos (by simp [hr, hcomes])]
    simp only [hphase, reduceCtorEq, if_false]
    exact State.overrunDone_of_none t (by rw [State.setRgn_rgn_same]; exact hopen)
  · intro s r t m hr hphase hruns hfabric hwin hopen hleft
    have hcomes : s.doneComes r = true := by simp [State.doneComes, hruns, hwin, hopen, hphase, hfabric, hleft]
    refine gives_of_effect rfl ?_
    rw [if_pos (by simp [hr, hcomes])]
    simp only [hphase, reduceCtorEq, if_false]
    have hopen' : ((s.setRgn r { s.rgn r with phase := .done, doneAt := t }).rgn r).ovrOpen = some m := by
      rw [State.setRgn_rgn_same]
      exact hopen
    rw [State.overrunDone_of_some t hopen' hleft, State.setRgn_rgn_same, State.setRgn_setRgn]
    exact RegionSt.ne_reset_of_ovrOpen hopen
  · intro s r t m hr hphase hruns hwin hopen hleft
    have hcomes : s.doneComes r = true := by simp [State.doneComes, hruns, hwin, hopen, hphase, hleft]
    refine gives_of_effect rfl ?_
    rw [if_pos (by simp [hr, hcomes])]
    dsimp only
    rw [if_pos hphase]
    exact State.overrunDone_of_some t hopen hleft
  · intro s r hr hticks hends hwin
    refine gives_of_effect rfl (if_pos ?_)
    simp [hr, hticks, hends, hwin]
  · intro s r hgoes hfrozen
    refine gives_of_effect rfl ?_
    simp only [hgoes, if_true, State.rstate_clearPend, hfrozen]
  · intro s r p hgoes hpend hnot
    refine gives_of_effect rfl ?_
    simp only [hgoes, if_true, State.rstate_clearPend, hnot, if_false, hpend, Option.elim_some]

/-! ## The tick registers (R44, R45, R54–R56, R62) -/

theorem testBit_bitsOf (x lo w i : Nat) : (bitsOf x lo w).testBit i = (decide (i < w) && x.testBit (lo + i)) := by
  rw [bitsOf, Nat.testBit_mod_two_pow, Nat.testBit_shiftRight]

theorem testBit_withBit_other {x i j : Nat} (h : j ≠ i) : (withBit x i).testBit j = x.testBit j := by
  rw [withBit, Nat.testBit_or, Nat.testBit_two_pow_of_ne h.symm, Bool.or_false]

@[simp] theorem testBit_withBit_same (x i : Nat) : (withBit x i).testBit i = true := by
  simp [withBit]

theorem withoutBit_of_not_testBit {x i : Nat} (h : x.testBit i = false) : withoutBit x i = x := by
  simp [withoutBit, h]

theorem withBit_of_testBit {x i : Nat} (h : x.testBit i = true) : withBit x i = x := by
  refine Nat.eq_of_testBit_eq fun j => ?_
  by_cases hj : j = i
  · rw [hj, testBit_withBit_same, h]
  · exact testBit_withBit_other hj

/-- R45: what a write of TR_CTL leaves where its outcome is OK. -/
theorem State.trCtlWrite_ok {s : State} {req r v : Nat} (hcode : s.trCtlCode r v = .ok) (hresume : v.testBit 16 = false) :
    s.trCtlWrite req r v =
      (((((s.setFld (Reg.TR_CTL_TDIV r) (bitsOf v 0 2)).setFld (Reg.TR_CTL_PHASE r) (bitsOf v 2 3)).setBit
        (Reg.TR_CTL_POLICY r) (hasBit v 8)).setBit (Reg.TR_CTL_AVS_EXCL r) (hasBit v 9)).setBit
        (Reg.TR_CTL_HIST_EN r) (hasBit v 10)).tickRecord req (Reg.TR_CTL r) .ok := by
  have h16 : hasBit v 16 = false := hresume
  simp only [State.trCtlWrite, hcode, h16, Bool.and_false, Bool.false_eq_true, if_false, ne_eq, not_true_eq_false]

/-- R62: the same with RESUME, which the region takes. -/
theorem State.trCtlWrite_resume {s : State} {req r v : Nat} (hcode : s.trCtlCode r v = .ok) (hresume : v.testBit 16 = true)
    (htakes : s.resumeCode r = .ok) : s.trCtlWrite req r v =
      ((((((s.setFld (Reg.TR_CTL_TDIV r) (bitsOf v 0 2)).setFld (Reg.TR_CTL_PHASE r) (bitsOf v 2 3)).setBit
        (Reg.TR_CTL_POLICY r) (hasBit v 8)).setBit (Reg.TR_CTL_AVS_EXCL r) (hasBit v 9)).setBit
        (Reg.TR_CTL_HIST_EN r) (hasBit v 10)).setPend r .resume req).tickRecord req (Reg.TR_CTL r) .ok := by
  have h16 : hasBit v 16 = true := hresume
  simp only [State.trCtlWrite, hcode, h16, htakes, decide_true, Bool.and_self, if_true, ne_eq, not_true_eq_false, if_false]

theorem State.trCtlWrite_refused {s : State} {req r v : Nat} (hcode : s.trCtlCode r v ≠ .ok) :
    s.trCtlWrite req r v = s.tickRecord req (Reg.TR_CTL r) (s.trCtlCode r v) := by
  simp only [State.trCtlWrite, hcode, decide_false, Bool.false_and, Bool.false_eq_true, if_false, ne_eq, not_false_eq_true, if_true]

theorem State.trCtlWrite_resumeRefused {s : State} {req r v : Nat} (hcode : s.trCtlCode r v = .ok) (hresume : v.testBit 16 = true)
    (hrefuses : s.resumeCode r ≠ .ok) : s.trCtlWrite req r v = s.tickRecord req (Reg.TR_CTL r) (s.resumeCode r) := by
  have h16 : hasBit v 16 = true := hresume
  simp only [State.trCtlWrite, hcode, h16, hrefuses, decide_true, Bool.and_self, if_true, ne_eq, not_false_eq_true]

theorem State.trCtlCode_eq_ok {s : State} {r v : Nat}
    (hkeeps : (s.rstate r ≠ .running ∧ s.rstate r ≠ .frozen) ∨
      (bitsOf v 0 2 = s.fld (Reg.TR_CTL_TDIV r) ∧ bitsOf v 2 3 = s.fld (Reg.TR_CTL_PHASE r)))
    (hphase : bitsOf v 2 3 < 2 ^ bitsOf v 0 2) : s.trCtlCode r v = .ok := by
  have hnot : ¬ ((bitsOf v 0 2 != s.fld (Reg.TR_CTL_TDIV r) || bitsOf v 2 3 != s.fld (Reg.TR_CTL_PHASE r)) &&
      (s.rstate r == .running || s.rstate r == .frozen)) = true := by
    obtain ⟨hrun, hfrz⟩ | ⟨hdiv, hph⟩ := hkeeps
    · simp [hrun, hfrz]
    · simp [hdiv, hph]
  simp only [State.trCtlCode, if_neg hnot, ge_iff_le, if_neg (Nat.not_le.mpr hphase)]

theorem gives_trCtlWrite (s : State) (req : Nat) {r : Nat} {v : BitVec 32} (hr : r < 24) (h16 : v.toNat.testBit 16 = false) :
    Gives (.trCtlWrite req r v) s (s.trCtlWrite req r v.toNat) := by
  refine gives_of_effect rfl ?_
  rw [if_pos (validRegion_eq_true.mpr hr), withoutBit_of_not_testBit h16]

theorem gives_regionResume (s : State) (req : Nat) {r : Nat} {v : BitVec 32} (hr : r < 24) (h16 : v.toNat.testBit 16 = true) :
    Gives (.regionResume req r v) s (s.trCtlWrite req r v.toNat) := by
  refine gives_of_effect rfl ?_
  rw [if_pos (validRegion_eq_true.mpr hr), withBit_of_testBit h16]

/-- Settles O5. -/
theorem regionTickRegistersComplete : Obligations.RegionTickRegistersComplete := by
  refine ⟨?_, ?_, ?_, ?_, ?_, ?_, ?_, ?_, ?_, ?_⟩
  · intro s req r v hr h16 hkeeps hphase
    rw [← State.trCtlWrite_ok (State.trCtlCode_eq_ok hkeeps hphase) h16]
    exact gives_trCtlWrite s req hr h16
  · intro s req r v hr h16 hstate hchanges
    have hcode : s.trCtlCode r v.toNat = .eState := if_pos (by simpa using ⟨hchanges, hstate⟩)
    have hwrite := gives_trCtlWrite s req hr h16
    rwa [State.trCtlWrite_refused (by rw [hcode]; decide), hcode] at hwrite
  · intro s req r v hr h16 hrun hfrz hphase
    have hcode : s.trCtlCode r v.toNat = .eArg := by
      simp only [State.trCtlCode, beq_false_of_ne hrun, beq_false_of_ne hfrz, Bool.or_self, Bool.and_false, Bool.false_eq_true,
        if_false, ge_iff_le, hphase, if_true]
    have hwrite := gives_trCtlWrite s req hr h16
    rwa [State.trCtlWrite_refused (by rw [hcode]; decide), hcode] at hwrite
  · intro s req r v hr h16 hfrz hticks hpend hdiv hph hphase
    have htakes : s.resumeCode r = .ok := by simp [State.resumeCode, hpend, hfrz, hticks]
    rw [← State.trCtlWrite_resume (State.trCtlCode_eq_ok (.inr ⟨hdiv, hph⟩) hphase) h16 htakes]
    exact gives_regionResume s req hr h16
  · intro s req r v hr h16 hcode hpend
    have hbusy : s.resumeCode r = .eBusy := if_pos (Option.isSome_iff_ne_none.mpr hpend)
    have hwrite := gives_regionResume s req hr h16
    rwa [State.trCtlWrite_resumeRefused hcode h16 (by rw [hbusy]; decide), hbusy] at hwrite
  · intro s req r v hr h16 hcode hpend hnot
    have hstate : s.resumeCode r = .eState := by
      simp only [State.resumeCode, hpend, Option.isSome_none, Bool.false_eq_true, if_false]
      exact if_pos (by simpa using hnot)
    have hwrite := gives_regionResume s req hr h16
    rwa [State.trCtlWrite_resumeRefused hcode h16 (by rw [hstate]; decide), hstate] at hwrite
  · intro s req r v hr h16 hcode
    have hwrite := gives_regionResume s req hr h16
    rwa [State.trCtlWrite_refused hcode] at hwrite
  · exact fun s req r hr => gives_of_effect rfl (if_pos (validRegion_eq_true.mpr hr))
  · exact fun s req r hr => gives_of_effect rfl (if_pos (validRegion_eq_true.mpr hr))
  · exact fun s req r hr => gives_of_effect rfl (if_pos (validRegion_eq_true.mpr hr))

end Sys2Proof.Machine
end

section
/-! The voltage loop, Tarantella and the guard floor (O6). -/

namespace Sys2Proof.Machine

theorem State.loopRuns_iff {s : State} : s.loopRuns = true ↔
    s.on Reg.AVS_CTL_EN = true ∧ s.on Reg.AVS_CTL_MODE = false ∧ s.tick.avs.stopped = false := by
  simp [State.loopRuns, and_assoc]

/-- R65–R67: an interval of a loop that runs. -/
theorem gives_avsInterval {s : State} (h : s.loopRuns = true) : Gives .avsInterval s s.avsInterval :=
  gives_of_effect rfl (if_pos h)

/-- R74: a write that meets the limits of LEVEL and TMAX. -/
theorem State.tarCtlWrite_ok {s : State} {r v : Nat} (req : Nat) (hstate : v.testBit 0 = true → s.rstate r = .running)
    (hlevel : bitsOf v 4 5 ≤ 16) (hmin : 1 ≤ bitsOf v 16 10) (hmax : bitsOf v 16 10 ≤ 1000) :
    s.tarCtlWrite req r v =
      (let u := s.setBit (Reg.TAR_CTL_EN r) (hasBit v 0)
       let w := if v.testBit 1 = true then u.setBit (Reg.TAR_CTL_TIMEOUT r) false else u
       ((w.setFld (Reg.TAR_CTL_LEVEL r) (bitsOf v 4 5)).setFld (Reg.TAR_CTL_TMAX r) (bitsOf v 16 10)).tickRecord req (Reg.TAR_CTL r)
        .ok) := by
  have hrun : ¬ (hasBit v 0 && s.rstate r != .running) = true := by
    simp only [hasBit, Bool.and_eq_true, bne_iff_ne, ne_eq, not_and, not_not]
    exact hstate
  have hargs : ¬ (bitsOf v 4 5 > 16 ∨ bitsOf v 16 10 = 0 ∨ bitsOf v 16 10 > 1000) := by omega
  simp only [State.tarCtlWrite, if_neg hrun, if_neg hargs]
  rfl

/-- R76: a floor that LOCK does not bar and that is at least 20. -/
theorem State.trFloorWrite_ok {s : State} {r v : Nat} (req : Nat)
    (hlock : s.on (Reg.TR_FLOOR_LOCK r) = true → v % 2 ^ 16 = s.fld (Reg.TR_FLOOR_FLOOR r)) (hmin : 20 ≤ v % 2 ^ 16) :
    s.trFloorWrite req r v =
      (let u := (s.setFld (Reg.TR_FLOOR_FLOOR r) (v % 2 ^ 16)).setBit (Reg.TR_FLOOR_VALID r) true
       (if v.testBit 16 = true then u.setBit (Reg.TR_FLOOR_LOCK r) true else u).tickRecord req (Reg.TR_FLOOR r) .ok) := by
  have hbarred : ¬ (s.on (Reg.TR_FLOOR_LOCK r) && v % 2 ^ 16 != s.fld (Reg.TR_FLOOR_FLOOR r)) = true := by
    simp only [Bool.and_eq_true, bne_iff_ne, ne_eq, not_and, not_not]
    exact hlock
  simp only [State.trFloorWrite, if_neg hbarred, if_neg (Nat.not_lt.mpr hmin)]
  rfl

theorem State.trFloorWrite_locked {s : State} {r v : Nat} (req : Nat) (hlock : s.on (Reg.TR_FLOOR_LOCK r) = true)
    (hchanges : v % 2 ^ 16 ≠ s.fld (Reg.TR_FLOOR_FLOOR r)) :
    s.trFloorWrite req r v = s.tickRecord req (Reg.TR_FLOOR r) .eLock := by
  simp only [State.trFloorWrite, hlock, bne_iff_ne.mpr hchanges, Bool.and_self, if_true]

theorem gives_trFloorWrite (s : State) (req : Nat) {r : Nat} {v : BitVec 32} (hr : r < 24) (h16 : v.toNat.testBit 16 = false) :
    Gives (.trFloorWrite req r v) s (s.trFloorWrite req r v.toNat) := by
  refine gives_of_effect rfl ?_
  rw [if_pos (validRegion_eq_true.mpr hr), withoutBit_of_not_testBit h16]

theorem gives_trFloorLock (s : State) (req : Nat) {r : Nat} {v : BitVec 32} (hr : r < 24) (h16 : v.toNat.testBit 16 = true) :
    Gives (.trFloorLock req r v) s (s.trFloorWrite req r v.toNat) := by
  refine gives_of_effect rfl ?_
  rw [if_pos (validRegion_eq_true.mpr hr), withBit_of_testBit h16]

theorem gives_tarCtlWrite (s : State) (req : Nat) {r : Nat} (v : BitVec 32) (hr : r < 24) :
    Gives (.tarantellaCtlWrite req r v) s (s.tarCtlWrite req r v.toNat) :=
  gives_of_effect rfl (if_pos (validRegion_eq_true.mpr hr))

/-- Settles O6. -/
theorem voltageCommandsComplete : Obligations.VoltageCommandsComplete := by
  refine ⟨?_, ?_, ?_, ?_, ?_, ?_, ?_, ?_, ?_, ?_, ?_, ?_, ?_, ?_, ?_, ?_, ?_, ?_, ?_, ?_, ?_⟩
  · intro s hen hmode hstop
    have hgives := gives_avsInterval (State.loopRuns_iff.mpr ⟨hen, hmode, hstop⟩)
    refine ⟨fun hany hovr => ?_, fun hany hovr hshort => ?_, fun hany hovr hshort => ?_, fun hany => ?_⟩
    · simpa only [State.avsInterval, hany, hovr, Bool.not_true, Bool.false_eq_true, if_false, if_true] using hgives
    · simpa only [State.avsInterval, hany, hovr, hshort, Bool.not_true, Bool.false_eq_true, if_false, if_true] using hgives
    · simpa only [State.avsInterval, hany, hovr, hshort, Bool.not_true, Bool.false_eq_true, if_false] using hgives
    · simpa only [State.avsInterval, hany, Bool.not_false, if_true] using hgives
  · intro s hnot
    refine gives_of_effect rfl (if_neg ?_)
    rw [State.loopRuns_iff]
    rintro ⟨hen, hmode, hstop⟩
    simp [hen, hmode, hstop] at hnot
  · intro s hbusy
    refine gives_of_effect rfl ?_
    simp only [State.avsResponse, hbusy, Bool.not_true, Bool.false_eq_true, if_false, if_true]
  · intro s hbusy htries
    refine gives_of_effect rfl ?_
    simp only [State.avsResponse, hbusy, htries, Bool.not_true, Bool.false_eq_true, if_false, if_true]
  · intro s hbusy htries
    refine gives_of_effect rfl ?_
    simp only [State.avsResponse, hbusy, Nat.not_lt.mpr htries, Bool.not_true, Bool.false_eq_true, if_false]
  · intro s req v hen
    refine gives_of_effect rfl ?_
    simp only [State.avsCtlWrite, hasBit, hen, Bool.false_and, Bool.false_eq_true, if_false]
  · intro s req v hen hfixed
    refine gives_of_effect rfl ?_
    simp only [State.avsCtlWrite, hasBit, hen, hfixed, Bool.and_false, Bool.false_and, Bool.false_eq_true, if_false, if_true,
      State.setBit_tick]
  · intro s req v hen hfixed hvolts
    refine gives_of_effect rfl ?_
    simp only [State.avsCtlWrite, hasBit, hen, hfixed, hvolts, Bool.not_true, Bool.and_false, Bool.false_eq_true, if_false, if_true,
      State.setBit_tick]
  · intro s req v hen hfixed hvolts
    refine gives_of_effect rfl ?_
    simp only [State.avsCtlWrite, hasBit, hen, hfixed, hvolts, Bool.not_false, Bool.and_self, if_true]
  · intro s req v hmode hvolts
    refine gives_of_effect rfl ?_
    simp only [State.avsVsetWrite, hmode, hvolts, Bool.not_true, Bool.false_eq_true, if_false]
  · intro s req v hmode hvolts
    refine gives_of_effect rfl ?_
    simp only [State.avsVsetWrite, hmode, hvolts, Bool.not_true, Bool.not_false, Bool.false_eq_true, if_false, if_true]
  · intro s req v hmode
    refine gives_of_effect rfl ?_
    simp only [State.avsVsetWrite, hmode, Bool.not_false, if_true]
  · intro s req r v hr hstate hlevel hmin hmax
    have hwrite := gives_tarCtlWrite s req v hr
    rw [State.tarCtlWrite_ok req hstate hlevel hmin hmax] at hwrite
    exact hwrite
  · intro s req r v hr hen hstate
    refine gives_of_effect rfl ((if_pos (validRegion_eq_true.mpr hr)).trans ?_)
    simp only [State.tarCtlWrite, hasBit, hen, bne_iff_ne.mpr hstate, Bool.and_self, if_true]
  · intro s req r v hr hstate hargs
    have hrun : ¬ (hasBit v.toNat 0 && s.rstate r != .running) = true := by
      simp only [hasBit, Bool.and_eq_true, bne_iff_ne, ne_eq, not_and, not_not]
      exact hstate
    refine gives_of_effect rfl ((if_pos (validRegion_eq_true.mpr hr)).trans ?_)
    simp only [State.tarCtlWrite, if_neg hrun, gt_iff_lt, if_pos hargs]
  · intro s r hr hen
    refine gives_of_effect rfl ((if_pos ?_).trans rfl)
    simp [hr, hen]
  · intro s req r v hr hlock h16 hmin
    have hwrite := gives_trFloorWrite s req hr h16
    rw [State.trFloorWrite_ok req hlock hmin] at hwrite
    simpa only [h16, Bool.false_eq_true, if_false] using hwrite
  · intro s req r v hr hlock hchanges h16
    exact State.trFloorWrite_locked req hlock hchanges ▸ gives_trFloorWrite s req hr h16
  · intro s req r v hr hlock h16 hmin
    have hwrite := gives_trFloorWrite s req hr h16
    simpa only [State.trFloorWrite, hlock, Bool.false_and, Bool.false_eq_true, if_false, hmin, if_true] using hwrite
  · intro s req r v hr hlock h16 hmin
    have hwrite := gives_trFloorLock s req hr h16
    rw [State.trFloorWrite_ok req hlock hmin] at hwrite
    simpa only [h16, if_true] using hwrite
  · intro s req r v hr hlock hchanges h16
    exact State.trFloorWrite_locked req hlock hchanges ▸ gives_trFloorLock s req hr h16

end Sys2Proof.Machine
end

section
/-! Power ramp, START and STOP at their tick (O11). -/

namespace Sys2Proof.Machine

/-- Settles O11: clause by clause, from the effect that each command has in the region's state. -/
theorem regionEffectsComplete : Obligations.RegionEffectsComplete := by
  refine ⟨?_, ?_, ?_, ?_, ?_, ?_, ?_, ?_⟩
  · intro s r hr hpend hfailed
    refine gives_of_effect rfl ?_
    simp [validRegion, hr, hpend, hfailed]
  · intro s r hr hpend hfailed
    refine gives_of_effect rfl ?_
    simp [validRegion, hr, hpend, hfailed]
  · intro s r p hstart hpend hrstate hmapCheck
    refine gives_of_effect rfl ?_
    simp [State.startEffect, State.startHeld, State.rstate_clearPend, Option.elim, hstart, hpend, hrstate, hmapCheck]
  · intro s r e p hstart hpend hrstate hmapCheck
    refine gives_of_effect rfl ?_
    simp [State.startEffect, State.startHeld, State.rstate_clearPend, Option.elim, hstart, hpend, hrstate, hmapCheck]
  · intro s r p hstart hpend hrstate
    refine gives_of_effect rfl ?_
    simp [State.startEffect, State.rstate_clearPend, Option.elim, hstart, hpend, hrstate]
  · intro s r p hstart hpend hrstate hrstate2
    refine gives_of_effect rfl ?_
    simp [State.startEffect, State.rstate_clearPend, Option.elim, hstart, hpend]
  · intro s r p hstop hpend hrstate
    refine gives_of_effect rfl ?_
    simp [State.stopEffect, State.rstate_clearPend, Option.elim, hstop, hpend, hrstate]
  · intro s r p hstop hpend hrstate
    refine gives_of_effect rfl ?_
    simp [State.stopEffect, State.rstate_clearPend, Option.elim, hstop, hpend, hrstate]

end Sys2Proof.Machine
end

section
/-! Block memory accesses and the scrubbers (O12). -/

namespace Sys2Proof.Machine

/-- Settles O12: clause by clause, from the guards of each command. -/
theorem blockMemoriesComplete : Obligations.BlockMemoriesComplete := by
  refine ⟨?_, ?_, ?_, ?_, ?_, ?_, ?_, ?_, ?_, ?_, ?_, ?_, ?_, ?_, ?_, ?_, ?_, ?_, ?_⟩
  · dsimp only
    intro s r m p near hlive hok hidle hvalid hmode
    have hruns : ¬ ((s.bmRequest r m p).write && decide ((s.bmWatch r m p).1.fld (Reg.REG_STATUS_PAVANE r) < 2)) = true := by
      simpa only [Bool.and_eq_true, decide_eq_true_eq, not_and, Nat.not_lt] using hmode
    refine gives_of_effect rfl ?_
    rw [State.upset_nil]
    simp only [hlive, hok, hidle, hvalid, hruns, Bool.not_true, Bool.or_self, Bool.false_eq_true, if_false]
  · intro s r m p near hbmLive hbmWatch
    refine ⟨gives_of_effect rfl ?_, gives_of_effect rfl ?_, gives_of_effect rfl ?_⟩
    · simp [State.upset, hbmLive, hbmWatch]
    · simp [hbmLive, hbmWatch]
    · simp [hbmLive, hbmWatch]
  · dsimp only
    intro s r m p hbmLive hw hreqack hnull
    refine gives_of_effect rfl ?_
    simp [hbmLive, hw, hreqack, hnull]
  · dsimp only
    intro s r m p hbmLive hw hisSome hrail
    refine gives_of_effect rfl ?_
    simp [hbmLive, hw, hisSome, hrail]
  · dsimp only
    intro s r m p hbmLive hw hresp hracked hrail
    refine gives_of_effect rfl ?_
    simp [hbmLive, hw, hresp, hracked, hrail]
  · intro s req r m off n be v hr hm hregionAccess hoff
    refine gives_of_effect rfl ?_
    simp [State.bmAccess, State.upset, validRegion, hr, hm, hregionAccess, hoff]
  · intro s req r m off n be v w hr hm hregionAccess hx1000
    refine gives_of_effect rfl ?_
    simp [State.bmAccess, State.upset, validRegion, hr, hm, hregionAccess, hx1000]
  · intro s req r m off n be v hr hm hregionAccess hoff hmaintRead
    refine gives_of_effect rfl ?_
    simp [State.bmAccess, State.upset, validRegion, hr, hm, hregionAccess, hoff, hmaintRead]
  · intro s req r m off n be v hr hm hregionAccess hoff hmaintRead
    refine gives_of_effect rfl ?_
    simp [State.bmAccess, State.upset, validRegion, hr, hm, hregionAccess, hoff, hmaintRead]
  · intro s req r m off n be v hr hm hregionAccess
    refine ⟨gives_of_effect rfl ?_, gives_of_effect rfl ?_⟩
    · simp [State.bmAccess, State.upset, validRegion, hr, hm, hregionAccess]
    · simp [State.bmAccess, State.upset, validRegion, hr, hm, hregionAccess]
  · intro s req r m hr hm hgate hbusy hstate
    refine gives_of_effect rfl ?_
    simp [validRegion, hr, hm, hgate, State.bmCmdWrite, hasBit, hbusy, hstate, Code.num]
  · intro s req r m hr hm hcontrolGate hbusy
    refine gives_of_effect rfl ?_
    simp [State.bmCmdWrite, hasBit, validRegion, hr, hm, hcontrolGate, hbusy]
  · intro s req r m hr hm hbusy hrstate
    refine gives_of_effect rfl ?_
    simp [State.bmCmdWrite, hasBit, State.controlGate, validRegion, hr, hm, hbusy, hrstate]
  · intro s req r m hr hm hcontrolGate
    refine gives_of_effect rfl ?_
    simp [validRegion, hr, hm]
  · intro s r m hr hm
    refine gives_of_effect rfl ?_
    simp [validRegion, hr, hm]
  · dsimp only
    intro s r ups fr hr
    refine ⟨fun hscrubs => gives_of_effect rfl ?_, fun hidle => gives_of_effect rfl ?_⟩
    · simp [validRegion, hr, hscrubs]
    · simp [validRegion, hr, hidle]
  · intro s r hr hframes hfree
    have hgoes : (!s.ticking || s.betweenWaves r || !(s.rstate r == .running || s.rstate r == .frozen)) = true := by
      simpa [or_assoc] using hfree
    have hsome : ((s.scr r).writeback.isEmpty) = false := by simpa using hframes
    refine gives_of_effect rfl ((if_pos ?_).trans rfl)
    rw [hgoes, hsome, validRegion_eq_true.mpr hr]
    rfl
  · dsimp only
    intro s h hh hen hlink
    have hon : ¬ (4 ≤ h ∨ (!s.on (Reg.QM_SCRCTL_EN h)) = true) := by simpa [hen] using hh
    refine gives_of_effect rfl ?_
    rw [State.upset_nil]
    simp only [hon, hlink, Bool.not_false, if_true, if_false]
  · dsimp only
    intro s h e hh hen hlink hqueue hstate
    have hon : ¬ (4 ≤ h ∨ (!s.on (Reg.QM_SCRCTL_EN h)) = true) := by simpa [hen] using hh
    refine gives_of_effect rfl ?_
    rw [State.upset_nil]
    simp only [hon, hlink, hqueue, hstate, Bool.not_true, Bool.false_eq_true, if_false]

end Sys2Proof.Machine
end

section
/-! Action entries: their writes, their arming and cancelling, and the register write that one performs (O7). -/

namespace Sys2Proof.Machine

/-! ## The state of an entry that has just been set -/

theorem ActState.ofNum_num (a : ActState) : ActState.ofNum a.num = a := by cases a <;> rfl

theorem Code.num_lt_16 (c : Code) : c.num < 16 := by cases c <;> decide

theorem ActState.num_lt_8 (a : ActState) : a.num < 8 := by cases a <;> decide

/-- The two fields of ACT_STAT are written first; nothing that follows in `actSet` reaches that register. -/
theorem State.rd_actSet_stat (s : State) (i : Nat) (a : ActState) (c : Code) (hi : i < 64) :
    (s.actSet i a c).rd (Reg.ACT_STAT i) =
      ((s.setFld (Reg.ACT_STAT_STATE i) a.num).setFld (Reg.ACT_STAT_CODE i) c.num).rd (Reg.ACT_STAT i) := by
  have hctl : Reg.ACT_STAT i ≠ (Reg.ACT_CTL_ARM i).addr := by simp only [Reg.ACT_STAT, Reg.ACT_CTL_ARM, Reg.ACT_CTL]; omega
  have hdone : Reg.ACT_STAT i ≠ Reg.ACT_DONE_DONE.addr := by simp only [Reg.ACT_STAT, Reg.ACT_DONE_DONE, Reg.ACT_DONE]; omega
  have harmed : Reg.ACT_STAT i ≠ Reg.ACT_ARMED_ARMED.addr := by simp only [Reg.ACT_STAT, Reg.ACT_ARMED_ARMED, Reg.ACT_ARMED]; omega
  have hwork : ∀ (u : State) (w : ActWork), (u.setActWork i w).rd (Reg.ACT_STAT i) = u.rd (Reg.ACT_STAT i) := fun _ _ => rfl
  simp only [State.actSet, apply_ite (fun u : State => u.rd (Reg.ACT_STAT i)), State.setBitOf, State.clrBitOf, hwork,
    State.rd_setFld_other _ _ _ hdone, State.rd_setFld_other _ _ _ harmed, State.rd_setBit_other _ _ _ hctl, ite_self]

@[simp] theorem State.actState_actSet (s : State) (i : Nat) (a : ActState) (c : Code) (hi : i < 64) :
    (s.actSet i a c).actState i = a := by
  have hcode := State.fld_setFld_apart (s.setFld (Reg.ACT_STAT_STATE i) a.num) (Reg.ACT_STAT_CODE i) (Reg.ACT_STAT_STATE i)
    ((by decide : 0 + 3 ≤ 64)) (Or.inr (Or.inr ((by decide : 0 + 3 ≤ 4)))) c.num
  have hstate : (s.actSet i a c).fld (Reg.ACT_STAT_STATE i) = a.num := by
    calc (s.actSet i a c).fld (Reg.ACT_STAT_STATE i)
        = ((s.setFld (Reg.ACT_STAT_STATE i) a.num).setFld (Reg.ACT_STAT_CODE i) c.num).fld (Reg.ACT_STAT_STATE i) :=
          congrArg (Reg.ACT_STAT_STATE i).get (s.rd_actSet_stat i a c hi)
      _ = a.num % 2 ^ 3 := hcode.trans (State.fld_setFld s (Reg.ACT_STAT_STATE i) ((by decide : 0 + 3 ≤ 64)) a.num)
      _ = a.num := Nat.mod_eq_of_lt a.num_lt_8
  rw [State.actState, hstate, ActState.ofNum_num]

@[simp] theorem State.statCode_actSet (s : State) (i : Nat) (a : ActState) (c : Code) (hi : i < 64) :
    (s.actSet i a c).fld (Reg.ACT_STAT_CODE i) = c.num :=
  calc (s.actSet i a c).fld (Reg.ACT_STAT_CODE i)
      = ((s.setFld (Reg.ACT_STAT_STATE i) a.num).setFld (Reg.ACT_STAT_CODE i) c.num).fld (Reg.ACT_STAT_CODE i) :=
        congrArg (Reg.ACT_STAT_CODE i).get (s.rd_actSet_stat i a c hi)
    _ = c.num % 2 ^ 4 := State.fld_setFld _ (Reg.ACT_STAT_CODE i) ((by decide : 4 + 4 ≤ 64)) c.num
    _ = c.num := Nat.mod_eq_of_lt c.num_lt_16

/-! ## The writes of an entry (R77–R80) -/

/-- A write beside ACT_CTL: the field, in an entry that is neither ARMED nor ISSUED. -/
theorem gives_entryWrite {s : State} {i off : Nat} (req : Nat) (v : BitVec 64) (hi : i < 64) (hoff : actOffset off = true) :
    Gives (.actionEntryWrite req i off v) s
      (s.actWrite req i off (if off = 0 then withoutBit (withoutBit v.toNat 0) 1 else v.toNat)) :=
  gives_of_effect rfl (if_pos (by rw [hoff]; simpa using hi))

theorem gives_entryCtlWrite {s : State} {i : Nat} {v : BitVec 64} (req : Nat) (hi : i < 64) (harm : v.toNat.testBit 0 = false)
    (hcancel : v.toNat.testBit 1 = false) : Gives (.actionEntryWrite req i 0 v) s (s.actWrite req i 0 v.toNat) := by
  have hwrite := gives_entryWrite (s := s) req v hi (off := 0) rfl
  rwa [if_pos rfl, withoutBit_of_not_testBit harm, withoutBit_of_not_testBit hcancel] at hwrite

theorem gives_actionArm {s : State} {i : Nat} {v : BitVec 32} (req : Nat) (hi : i < 64) (harm : v.toNat.testBit 0 = true)
    (hcancel : v.toNat.testBit 1 = false) : Gives (.actionArm req i v) s (s.actWrite req i 0 v.toNat) := by
  refine gives_of_effect rfl ((if_pos hi).trans ?_)
  rw [withoutBit_of_not_testBit hcancel, withBit_of_testBit harm]

theorem gives_actionCancel {s : State} {i : Nat} {v : BitVec 32} (req : Nat) (hi : i < 64) (hcancel : v.toNat.testBit 1 = true) :
    Gives (.actionCancel req i v) s (s.actWrite req i 0 v.toNat) := by
  refine gives_of_effect rfl ((if_pos hi).trans ?_)
  rw [withBit_of_testBit hcancel]

theorem State.actWrite_busy {s : State} {i off v : Nat} (req : Nat) (hcancel : ¬ (off = 0 ∧ hasBit v 1 = true))
    (hbusy : s.actBusy i = true) : s.actWrite req i off v = s.tickRecord req (Reg.ACT_CTL i + off) .eBusy := by
  simp only [State.actWrite, if_neg hcancel, hbusy, if_true]

/-- ARM: the fields of the word, then the checks of R78, whose outcome is recorded. -/
theorem State.actWrite_arm {s : State} {i v : Nat} (req : Nat) (harm : v.testBit 0 = true) (hcancel : v.testBit 1 = false)
    (hfree : s.actBusy i = false) :
    s.actWrite req i 0 v =
      (let u := ((s.actSet i .empty .ok).actCtlFields i v).actArm i
       u.tickRecord req (Reg.ACT_CTL i) (if u.actState i = .refused then Code.ofNum (u.fld (Reg.ACT_STAT_CODE i)) else .ok)) := by
  simp only [State.actWrite, hasBit, harm, hcancel, hfree, Bool.false_eq_true, and_false, if_false, if_true, Nat.add_zero]

/-! ## The register write that an entry performs -/

theorem State.errBit_tick (s : State) (f : Fld) (masked : Bool) (src : Nat) (sev : Sev) (code : Nat) (arg : State → Nat) :
    (s.errBit f masked src sev code arg).tick = s.tick := by
  obtain ⟨r, b, l, h⟩ := s.errBit_eq f masked src sev code arg
  rw [h]
  rfl

theorem State.niError_tick (s : State) (n j i : Nat) : (s.niError n j i).tick = s.tick := by
  simp only [State.niError, State.errBit_tick]

theorem State.niSend_tick (s : State) (n j : Nat) (fs : List Flit) : (s.niSend n j fs).tick = s.tick := by
  cases fs <;> rfl

/-- A request that a unit issues into the network leaves the tick unit's own state alone. -/
theorem State.niIssue_tick (s : State) (n j : Nat) (q : NetRequest) (hq : q.opc ≠ opWrp) : (s.niIssue n j q).1.tick = s.tick := by
  have hset : ∀ (u : State) (x : NiSt), (u.setNi n j x).tick = u.tick := fun _ _ => rfl
  simp only [State.niIssue, if_neg hq]
  split
  · exact s.niError_tick n j 5
  · split
    · rfl
    · simp only [apply_ite State.tick, State.niSend_tick, State.setFld_tick, hset, ite_self]

/-- Settles O7: each write of an entry from the rules of `actWrite`, the response to its register write from the outcome
found. -/
theorem actionEntryCommandsComplete : Obligations.ActionEntryCommandsComplete := by
  refine ⟨?_, ?_, ?_, ?_, ?_, ?_, ?_, ?_, ?_, ?_, ?_, ?_, ?_, ?_, ?_, ?_, ?_⟩
  · intro s req i v hi hfree
    have hwrite := gives_entryWrite (s := s) req v hi (off := 8) rfl
    simpa [State.actWrite, hfree] using hwrite
  · intro s req i v hi hfree
    have hwrite := gives_entryWrite (s := s) req v hi (off := 0x10) rfl
    simpa [State.actWrite, hfree] using hwrite
  · intro s req i v hi hfree
    have hwrite := gives_entryWrite (s := s) req v hi (off := 0x14) rfl
    simpa [State.actWrite, hfree] using hwrite
  · intro s req i v hi hfree harm hcancel
    have hwrite := gives_entryCtlWrite (s := s) req hi harm hcancel
    simpa [State.actWrite, hasBit, hfree, harm, hcancel] using hwrite
  · intro s req i off v hi hoff hbusy
    have hnz : off ≠ 0 := by rintro rfl; exact absurd hoff (by decide)
    have hlist : actOffset off = true := by
      simp only [List.mem_cons, List.not_mem_nil, or_false] at hoff
      rcases hoff with rfl | rfl | rfl | rfl | rfl <;> rfl
    have hwrite := gives_entryWrite (s := s) req v hi hlist
    rwa [State.actWrite_busy req (fun h => hnz h.1) hbusy] at hwrite
  · intro s req i v hi harm hcancel hbusy
    have hwrite := gives_entryCtlWrite (s := s) req hi harm hcancel
    rwa [State.actWrite_busy req (by simp [hasBit, hcancel]) hbusy] at hwrite
  · dsimp only
    intro s req i v hi harm hcancel hfree hargs htime
    have hwrite := gives_actionArm (s := s) req hi harm hcancel
    rw [State.actWrite_arm req harm hcancel hfree] at hwrite
    have hstate : ∀ (u : State) (w : ActWork), (u.setActWork i w).actState i = u.actState i := fun _ _ => rfl
    simpa [State.actArm, hargs, State.actTimeCheck, htime, hstate, hi] using hwrite
  · dsimp only
    intro s req i v hi harm hcancel hfree hargs
    have hwrite := gives_actionArm (s := s) req hi harm hcancel
    rw [State.actWrite_arm req harm hcancel hfree] at hwrite
    simpa [State.actArm, hargs, hi, Code.ofNum, Code.num] using hwrite
  · dsimp only
    intro s req i v hi harm hcancel hfree hargs htime hlate
    have hwrite := gives_actionArm (s := s) req hi harm hcancel
    rw [State.actWrite_arm req harm hcancel hfree] at hwrite
    have hstate : ∀ (u : State) (w : ActWork), (u.setActWork i w).actState i = u.actState i := fun _ _ => rfl
    simpa [State.actArm, hargs, State.actTimeCheck, Nat.not_le.mpr htime, hlate, hstate, hi] using hwrite
  · dsimp only
    intro s req i v hi harm hcancel hfree hargs htime hlate
    have hwrite := gives_actionArm (s := s) req hi harm hcancel
    rw [State.actWrite_arm req harm hcancel hfree] at hwrite
    simpa [State.actArm, hargs, State.actTimeCheck, Nat.not_le.mpr htime, hlate, hi, Code.ofNum, Code.num] using hwrite
  · intro s req i v hi harm hcancel hbusy
    have hwrite := gives_actionArm (s := s) req hi harm hcancel
    rwa [State.actWrite_busy req (by simp [hasBit, hcancel]) hbusy] at hwrite
  · intro s req i v hi hcancel harmed htime
    have hwrite := gives_actionCancel (s := s) req hi hcancel
    simpa [State.actWrite, hasBit, hcancel, harmed, htime] using hwrite
  · intro s req i v hi hcancel hpast
    have hwrite := gives_actionCancel (s := s) req hi hcancel
    have hlate : ¬ (s.actState i = .armed ∧ s.now + 4 ≤ s.fld (Reg.ACT_TARGET_TARGET i)) := fun ⟨h, h'⟩ =>
      hpast.elim (fun hs => hs h) (fun hs => Nat.not_lt.mpr h' hs)
    simpa [State.actWrite, hasBit, hcancel, hlate] using hwrite
  · intro s i hready hlo hhi
    refine gives_of_effect rfl ?_
    simp [hready, hlo, hhi]
  · intro s i g t hready hout htarget hsent
    have hgo : (s.actReady i 1 || s.actUnsent i) = true := by simpa using hready
    have hwork : (t.setFld (Reg.ACT_EXEC_EXEC i) t.now).actWork i = s.actWork i := by
      have htick := s.niIssue_tick hkNode 0 ⟨reqTick, i, opWr, g.entry, g.toRtr, tickPri, g.addr, 4, s.fld (Reg.ACT_ARG1_ARG i)⟩
        ((by decide : opWr ≠ opWrp))
      rw [hsent] at htick
      exact congrArg (fun x : TickSt => Tbl.get ⟨false, 0, 0, none⟩ x.act i) htick
    refine gives_of_effect rfl ?_
    simp only [hgo, if_neg hout, htarget, hsent, hwork, Bool.not_true, Bool.false_eq_true, if_false, if_true]
  · intro s i hready htarget hout
    refine gives_of_effect rfl ?_
    simp only [hready, if_neg hout, htarget, Bool.true_or, Bool.not_true, Bool.false_eq_true, if_false]
  · intro s i d hresp htype hstate
    have hkept : ∀ n : NetSt, { s with net := n }.actType i = s.actType i ∧ { s with net := n }.actState i = s.actState i :=
      fun _ => ⟨rfl, rfl⟩
    refine gives_of_effect rfl ?_
    simp only [hresp, hkept, htype, hstate]
    rfl

end Sys2Proof.Machine
end

section
/-! The actions that due entries perform, and an overdue beacon (O8). -/

namespace Sys2Proof.Machine

/-- Settles O8: each action goes as its entry's turn comes, and the branch taken is the one that the hypotheses name. -/
theorem actionEffectsComplete : Obligations.ActionEffectsComplete := by
  refine ⟨?_, ?_, ?_, ?_, ?_, ?_, ?_, ?_, ?_, ?_, ?_, ?_, ?_, ?_⟩
  · intro s i hgoes
    exact gives_of_effect rfl (if_pos hgoes)
  · intro s i hgoes
    exact gives_of_effect rfl (if_pos hgoes)
  · intro s i hgoes
    exact gives_of_effect rfl (if_pos hgoes)
  · dsimp only
    intro s i r hgoes hregion htick
    refine gives_of_effect rfl ((if_pos hgoes).trans ?_)
    simp only [hregion, Option.elim, htick, if_true]
  · intro s i r hgoes hregion htick harmed
    refine gives_of_effect rfl ((if_pos hgoes).trans ?_)
    simp only [hregion, Option.elim, htick, harmed, Bool.false_eq_true, if_false, if_true]
  · dsimp only
    intro s i hgoes hregion
    refine gives_of_effect rfl ((if_pos hgoes).trans ?_)
    simp only [hregion, Option.elim, if_true]
  · dsimp only
    intro s i hready
    exact gives_of_effect rfl (if_pos hready)
  · intro s i hready
    exact gives_of_effect rfl (if_pos hready)
  · intro s i p l hflags hentry hend
    refine gives_of_effect rfl ?_
    simp only [hflags, dropPulse, hentry, hend, if_true]
  · intro s i hready hactive
    exact gives_of_effect rfl ((if_pos hready).trans (if_neg (not_not.mpr hactive)))
  · intro s i hready hactive
    exact gives_of_effect rfl ((if_pos hready).trans (if_pos hactive))
  · dsimp only
    intro s i hready hsliceable hslicing hbehind htestable
    refine gives_of_effect rfl ((if_pos hready).trans ?_)
    simp only [hsliceable, hslicing, hbehind, htestable, Bool.false_and, Bool.or_self, bne_self_eq_false, Bool.not_true,
      Bool.false_eq_true, if_false]
    rw [State.noteRefusal_other _ _ _ _ (by decide)]
  · intro s i hready hsliceable
    refine gives_of_effect rfl ((if_pos hready).trans ?_)
    simp only [hsliceable, Bool.not_false, if_true]
  · intro s p hp hticking hen hover
    refine gives_of_effect rfl ?_
    simp only [hp, hticking, hen, hover, decide_true, Bool.and_self, if_true, State.beaconFault, bit, Nat.mul_one]

end Sys2Proof.Machine
end

section
/-! Events of a region's fabric and its arbiter (O9). -/

namespace Sys2Proof.Machine

/-- Settles O9: each stage and each grant from the signals that the hypotheses name. -/
theorem fabricEventsComplete : Obligations.FabricEventsComplete := by
  refine ⟨?_, ?_, ?_, ?_, ?_, ?_, ?_, ?_, ?_, ?_, ?_, ?_, ?_, ?_, ?_, ?_, ?_, ?_, ?_, ?_, ?_⟩
  · intro s r kind unit sig id hid hon hrvf
    have hseen : ¬ (!s.fabricOn r || (kind == 2 && !s.rvf r unit)) = true := by simpa [hon] using hrvf
    exact gives_of_effect rfl (by simp only [hid, if_neg hseen, if_true])
  · intro s r kind unit sig id hid hon hrvf
    have hseen : ¬ (!s.fabricOn r || (kind == 2 && !s.rvf r unit)) = true := by simpa [hon] using hrvf
    exact gives_of_effect rfl (by simp only [hid, if_neg hseen, Bool.false_eq_true, if_false])
  · intro s r unit sig detected hrvf
    have hunseen : (!s.fabricOn r || ((2 : Nat) == 2 && !s.rvf r unit)) = true := by simp [hrvf]
    refine gives_of_effect rfl ?_
    split
    · rfl
    · exact if_pos hunseen
  · dsimp only
    intro s r b n hctlAt hfull hvalid hrail hw
    refine gives_of_effect rfl ?_
    simp [State.plainStage, hctlAt, hfull, hvalid, hrail, hw]
  · dsimp only
    intro s r b n hctlAt hfull hnull hrail hw
    refine gives_of_effect rfl ?_
    simp [State.plainStage, hctlAt, hfull, hnull, hrail, hw]
  · dsimp only
    intro s r b n hctlAt hw
    refine ⟨gives_of_effect rfl ?_, gives_of_effect rfl ?_⟩
    · simp [State.plainStage, hctlAt, hw]
    · simp [State.plainStage, hctlAt, hw]
  · dsimp only
    intro s r b n hctlAt hacko hnull hw
    refine gives_of_effect rfl ?_
    simp [State.sampleStage, hctlAt, hacko, hnull, hw]
  · intro s r b n hctlAt hdead hfull hacked hrail
    refine gives_of_effect rfl ?_
    simp [State.offerStage, hctlAt, hdead, hfull, hacked, hrail]
  · intro s r b n hctlAt hdead hfull hacked hrail
    refine gives_of_effect rfl ?_
    simp [State.offerStage, hctlAt, hdead, hfull, hacked, hrail]
  · intro s r b n hctlAt hdead hrail
    refine gives_of_effect rfl ?_
    simp [State.offerStage, hctlAt, hdead, hrail]
  · intro s r b n sideB harbAt hrail hrail2 hrail3 harbGrant
    refine gives_of_effect rfl ?_
    simp [State.arbRaise, State.arbCheck, harbAt, hrail, hrail2, hrail3, harbGrant]
  · intro s r b n hat hgrant hback hother
    have hside : (ArbGrant.a == ArbGrant.b) = false := rfl
    refine gives_of_effect rfl ?_
    simp [State.arbDrop, State.arbCheck, hat, hgrant, hback, hother, hside]
  · intro s r b n harbAt harbGrant hrail hrail2
    refine gives_of_effect rfl ?_
    simp [State.arbDrop, State.arbCheck, harbAt, harbGrant, hrail, hrail2]
  · intro s r b n harbAt harbGrant hrail hrail2
    refine gives_of_effect rfl ?_
    simp [State.arbDrop, State.arbCheck, harbAt, harbGrant, hrail, hrail2]
  · intro s r b n sideB harbAt hrail hrail2
    refine gives_of_effect rfl ?_
    simp [State.arbRaise, State.arbCheck, State.arbGrant, harbAt, hrail, hrail2]
  · dsimp only
    intro s r b k w hon hb hready hword
    refine gives_of_effect rfl ?_
    simp only [hon, Nat.not_le.mpr hb, decide_false, Bool.not_true, Bool.or_self, Bool.false_eq_true, if_false, hready, hword,
      Option.getD_some]
  · intro s r t g hfabricOn ht harbHold htgtBlocked harbPick
    refine gives_of_effect rfl ?_
    simp [hfabricOn, ht, harbHold, htgtBlocked, harbPick]
  · dsimp only
    intro s r t w h hon ht hhold hlength hack hword
    refine gives_of_effect rfl ?_
    simp only [hon, Nat.not_le.mpr ht, decide_false, Bool.not_true, Bool.or_self, Bool.false_eq_true, if_false, hhold, hlength, hack,
      Bool.not_false, and_self, if_true, hword]
  · intro s r t hfabricOn ht harbHold htgtBlocked
    refine gives_of_effect rfl ?_
    simp [hfabricOn, ht, harbHold, htgtBlocked]
  · intro s r t h c data hfabricOn ht harbHold harbResponse
    refine gives_of_effect rfl ?_
    simp [hfabricOn, ht, harbHold, harbResponse]
  · intro s r t h hfabricOn ht harbHold harbResponse
    refine gives_of_effect rfl ?_
    simp [hfabricOn, ht, harbHold, harbResponse]

end Sys2Proof.Machine
end

section
/-! Region commands at their arrival (O10). -/

namespace Sys2Proof.Machine

/-- The record and the answer of an accepted command, before its effect. -/
def State.regionTaken (s : State) (req r cmd : Nat) : State :=
  ((s.regionCode r cmd .ok).setFld (Reg.REG_CMDSTAT_REQ r) req).respond req (Reg.REG_CMD r) .ok

theorem State.regionCode_rgn (s : State) (r cmd : Nat) (c : Code) (q : Nat) : (s.regionCode r cmd c).rgn q = s.rgn q := by
  simp only [State.regionCode, apply_ite (fun u : State => u.rgn q), State.setFld_rgn, ite_self]

theorem State.regionCode_rd (s : State) (r cmd : Nat) (c : Code) {a : Nat} (h : a ≠ Reg.REG_CMDSTAT r) :
    (s.regionCode r cmd c).rd a = s.rd a := by
  have hset : ∀ (u : State) (f : Fld) (x : Nat), f.addr = Reg.REG_CMDSTAT r → (u.setFld f x).rd a = u.rd a :=
    fun u f x hf => u.rd_setFld_other f x (hf ▸ h)
  unfold State.regionCode
  split
  · rw [hset _ _ _ rfl, hset _ _ _ rfl]
  · rw [hset _ _ _ rfl, hset _ _ _ rfl]

theorem State.regionTaken_rgn (s : State) (req r cmd q : Nat) : (s.regionTaken req r cmd).rgn q = s.rgn q := by
  simp only [State.regionTaken, State.respond, State.emit_rgn, State.setFld_rgn, State.regionCode_rgn]

/-- The record of a command reaches REG_CMDSTAT alone, so the tick goes on or stands as before. -/
theorem State.regionTaken_ticking (s : State) (req r cmd : Nat) : (s.regionTaken req r cmd).ticking = s.ticking := by
  have hrd : ∀ u : State, (u.respond req (Reg.REG_CMD r) .ok).rd Reg.TICK_STATUS = u.rd Reg.TICK_STATUS := fun _ => rfl
  have hne : Reg.TICK_STATUS ≠ Reg.REG_CMDSTAT r := by simp only [Reg.TICK_STATUS, Reg.REG_CMDSTAT]; omega
  have hset : ∀ u : State, (u.setFld (Reg.REG_CMDSTAT_REQ r) req).rd Reg.TICK_STATUS = u.rd Reg.TICK_STATUS :=
    fun u => u.rd_setFld_other _ _ hne
  have hkeeps : (s.regionTaken req r cmd).rd Reg.TICK_STATUS = s.rd Reg.TICK_STATUS := by
    rw [State.regionTaken, hrd, hset, State.regionCode_rd s r cmd .ok hne]
  exact congrArg (fun v => Reg.TICK_STATUS_RUNNING.get v != 0) hkeeps

/-- A command that is accepted: recorded, answered, and given its effect at once or at its tick. -/
theorem State.regionCmdWrite_taken {s : State} {r cmd : Nat} (req : Nat) (hcmd : cmd < 16) (hok : s.regionCmdCode r cmd = .ok) :
    s.regionCmdWrite req r cmd =
      (if cmd = cmdPowerOn then (s.regionTaken req r cmd).setBit (Reg.REG_STATUS_PEND r) true
      else if cmd = cmdStart then (s.regionTaken req r cmd).setPend r .start req
      else if cmd = cmdStop then
        if s.ticking then (s.regionTaken req r cmd).setPend r .stop req
        else ((s.regionTaken req r cmd).stopRegion r).enterState r .held
      else if s.ticking then (s.regionTaken req r cmd).setRgn r { s.rgn r with boundary := (s.rgn r).boundary ++ [(cmd, req)] }
      else (s.regionTaken req r cmd).regionApply r cmd) := by
  have htaken : ((((s.regionCode r cmd .ok).setFld (Reg.REG_CMDSTAT_REQ r) req).noteRefusal (srcRegion r) 0 req .ok).respond req
      (Reg.REG_CMD r) .ok) = s.regionTaken req r cmd := rfl
  simp only [State.regionCmdWrite, Nat.mod_eq_of_lt hcmd, hok, htaken, ne_eq, not_true_eq_false, if_false,
    State.regionTaken_ticking, State.regionTaken_rgn]

theorem State.regionCmdWrite_refused {s : State} {r cmd : Nat} (req : Nat) (hcmd : cmd < 16) (h : s.regionCmdCode r cmd ≠ .ok) :
    s.regionCmdWrite req r cmd =
      (((s.regionCode r cmd (s.regionCmdCode r cmd)).setFld (Reg.REG_CMDSTAT_REQ r) req).noteRefusal (srcRegion r) 0 req
        (s.regionCmdCode r cmd)).respond req (Reg.REG_CMD r) (s.regionCmdCode r cmd) := by
  simp only [State.regionCmdWrite, Nat.mod_eq_of_lt hcmd, ne_eq, h, not_false_eq_true, if_true]

/-- The command that stands for each code of Table 4-14. -/
def regionCommands (req r : Nat) : List (Instr × Nat) :=
  [(.regCmdPowerOn req r, cmdPowerOn), (.regCmdPowerOff req r, cmdPowerOff), (.regCmdStart req r, cmdStart),
    (.regCmdStop req r, cmdStop), (.regCmdReset req r, cmdReset), (.regCmdIsolate req r, cmdIsolate),
    (.regCmdUnisolate req r, cmdUnisolate), (.regCmdClear req r, cmdClear)]

/-- Each region command is the write of its code. -/
theorem gives_regionCommand {s : State} {req r : Nat} {p : Instr × Nat} (hr : r < 24) (hp : p ∈ regionCommands req r) :
    Gives p.1 s (s.regionCmdWrite req r p.2) ∧ p.2 < 16 := by
  have hwrite : ∀ cmd, s.regionCmd req r cmd = s.regionCmdWrite req r cmd := fun cmd => if_pos (validRegion_eq_true.mpr hr)
  simp only [regionCommands, List.mem_cons, List.not_mem_nil, or_false] at hp
  rcases hp with rfl | rfl | rfl | rfl | rfl | rfl | rfl | rfl <;> exact ⟨gives_of_effect rfl (hwrite _), Nat.le_of_ble_eq_true rfl⟩

/-- Settles O10: every command is the write of its code, whose effect is that of `regionCmdWrite_taken`. -/
theorem regionCommandsComplete : Obligations.RegionCommandsComplete := by
  refine ⟨?_, ?_, ?_, ?_, ?_, ?_, ?_, ?_, ?_⟩
  · intro s req r hr hok
    have hgives := (gives_regionCommand (s := s) (req := req) (p := (.regCmdPowerOn req r, cmdPowerOn)) hr (by simp [regionCommands])).1
    rwa [State.regionCmdWrite_taken req (by decide) hok, if_pos rfl] at hgives
  · intro s req r hr hok
    have hgives := (gives_regionCommand (s := s) (req := req) (p := (.regCmdStart req r, cmdStart)) hr (by simp [regionCommands])).1
    rwa [State.regionCmdWrite_taken req (by decide) hok, if_neg (by decide), if_pos rfl] at hgives
  · intro s req r hr hok hticking
    have hgives := (gives_regionCommand (s := s) (req := req) (p := (.regCmdStop req r, cmdStop)) hr (by simp [regionCommands])).1
    rwa [State.regionCmdWrite_taken req (by decide) hok, if_neg (by decide), if_neg (by decide), if_pos rfl, if_pos hticking]
      at hgives
  · intro s req r hr hok hticking
    have hgives := (gives_regionCommand (s := s) (req := req) (p := (.regCmdStop req r, cmdStop)) hr (by simp [regionCommands])).1
    rwa [State.regionCmdWrite_taken req (by decide) hok, if_neg (by decide), if_neg (by decide), if_pos rfl,
      if_neg (by simp [hticking])] at hgives
  · intro s req r hr hok hticking
    have hgives := (gives_regionCommand (s := s) (req := req) (p := (.regCmdReset req r, cmdReset)) hr (by simp [regionCommands])).1
    rwa [State.regionCmdWrite_taken req (by decide) hok, if_neg (by decide), if_neg (by decide), if_neg (by decide),
      if_neg (by simp [hticking])] at hgives
  · intro s req r hr hok hticking
    have hgives := (gives_regionCommand (s := s) (req := req) (p := (.regCmdClear req r, cmdClear)) hr (by simp [regionCommands])).1
    rwa [State.regionCmdWrite_taken req (by decide) hok, if_neg (by decide), if_neg (by decide), if_neg (by decide),
      if_neg (by simp [hticking])] at hgives
  · intro s req r p hr hp hok hticking
    have hmem : p ∈ regionCommands req r ∧ p.2 ≠ cmdPowerOn ∧ p.2 ≠ cmdStart ∧ p.2 ≠ cmdStop := by
      simp only [List.mem_cons, List.not_mem_nil, or_false] at hp
      rcases hp with rfl | rfl | rfl <;> simp [regionCommands] <;> decide
    obtain ⟨hmem, hon, hstart, hstop⟩ := hmem
    obtain ⟨hgives, hcode⟩ := gives_regionCommand (s := s) hr hmem
    rwa [State.regionCmdWrite_taken req hcode hok, if_neg hon, if_neg hstart, if_neg hstop, if_neg (by simp [hticking])] at hgives
  · intro s req r p hr hp hok hticking
    have hmem : p ∈ regionCommands req r ∧ p.2 ≠ cmdPowerOn ∧ p.2 ≠ cmdStart ∧ p.2 ≠ cmdStop := by
      simp only [List.mem_cons, List.not_mem_nil, or_false] at hp
      rcases hp with rfl | rfl | rfl | rfl | rfl <;> simp [regionCommands] <;> decide
    obtain ⟨hmem, hon, hstart, hstop⟩ := hmem
    obtain ⟨hgives, hcode⟩ := gives_regionCommand (s := s) hr hmem
    rwa [State.regionCmdWrite_taken req hcode hok, if_neg hon, if_neg hstart, if_neg hstop, if_pos hticking] at hgives
  · intro s req r p hr hp hrefused
    obtain ⟨hgives, hcode⟩ := gives_regionCommand (s := s) (p := p) hr hp
    rwa [State.regionCmdWrite_refused req hcode hrefused] at hgives

end Sys2Proof.Machine
end

section
/-! What engines do beside their instructions (O13). -/

namespace Sys2Proof.Machine

@[simp] theorem validEngine_eq_true {e : Nat} : validEngine e = true ↔ e < 96 := decide_eq_true_iff

/-- Settles O13: each event goes where its hypotheses say that the engine stands. -/
theorem engineEventsComplete : Obligations.EngineEventsComplete := by
  refine ⟨?_, ?_, ?_, ?_, ?_, ?_, ?_, ?_, ?_, ?_, ?_, ?_, ?_⟩
  · dsimp only
    intro s e q he hfind hfree
    have hvalid : validEngine e = true := validEngine_eq_true.mpr he
    refine ⟨fun hok => gives_of_effect rfl ?_, fun hrefused => gives_of_effect rfl ?_⟩
    · simp only [hfind, hvalid, hfree, Bool.not_true, Bool.or_self, Bool.false_eq_true, if_false, hok, if_true]
    · simp only [hfind, hvalid, hfree, Bool.not_true, Bool.or_self, Bool.false_eq_true, if_false, if_neg hrefused]
  · intro s e t l he hidle htasks hp2
    refine gives_of_effect rfl ?_
    simp [he, hidle, htasks, State.engMayStart, hp2, EngSt.startTask]
  · intro s e i he hstalled hfetch hwaits
    refine gives_of_effect rfl ((if_pos (validEngine_eq_true.mpr he)).trans ?_)
    simp [State.engRetry, hstalled, hfetch, hwaits]
  · intro s e i he hstalled hfetch hwaits
    refine gives_of_effect rfl ((if_pos (validEngine_eq_true.mpr he)).trans ?_)
    simp [State.engRetry, hstalled, hfetch, hwaits]
  · dsimp only
    intro s e which hstreamLive hw hfull hacko hvalid
    refine gives_of_effect rfl ?_
    simp [hstreamLive, hw, hfull, hacko, hvalid]
  · dsimp only
    intro s e which hstreamLive hw hacko hnull
    refine gives_of_effect rfl ?_
    simp [hstreamLive, hw, hacko, hnull]
  · intro s e which hstreamLive hsinWatch
    refine ⟨gives_of_effect rfl ?_, gives_of_effect rfl ?_⟩
    · simp [hstreamLive, hsinWatch]
    · simp [hstreamLive, hsinWatch]
  · intro s e which hstreamLive hdest hdest2
    refine gives_of_effect rfl ?_
    simp [hstreamLive, hdest, hdest2]
  · intro s e which hstreamLive hfull hacked hdest
    refine gives_of_effect rfl ?_
    simp [hstreamLive, hfull, hacked, hdest]
  · intro s e which hstreamLive hfull hacked hdest
    refine gives_of_effect rfl ?_
    simp [hstreamLive, hfull, hacked, hdest]
  · intro s e t g d he htag hread hdone hok
    have hvalid : validEngine e = true := validEngine_eq_true.mpr he
    have hnotPosted : ¬ opRd = opWrp := by decide
    refine gives_of_effect rfl ?_
    simp only [hvalid, htag, hread, hdone, hok, hnotPosted, Bool.not_true, Bool.false_eq_true, if_false, and_self, if_true]
  · intro s e t g d he htag hopc hread hdone
    have hvalid : validEngine e = true := validEngine_eq_true.mpr he
    have hnoData : ¬ (g.opc = opRd ∧ d.code = .ok) := fun ⟨hrd, hok⟩ => hread hrd hok
    refine gives_of_effect rfl ?_
    simp only [hvalid, htag, hdone, if_neg hopc, if_neg hnoData, Bool.not_true, Bool.false_eq_true, if_false]
  · intro s e t g he htag hposted hleft
    have hvalid : validEngine e = true := validEngine_eq_true.mpr he
    refine gives_of_effect rfl ?_
    simp only [hvalid, htag, hposted, hleft, Bool.not_true, Bool.false_eq_true, if_false, if_true]

end Sys2Proof.Machine
end

section
/-! The commands of ENG_CTL and the writes of the engine window (O14). -/

namespace Sys2Proof.Machine

/-! ## The gate of R33 and a write of ENG_CTL -/

theorem State.engGate_open {s : State} {e : Nat} (req addr : Nat) (act : State → State) (he : e < 96)
    (hopen : s.regionAccess (e / 4) = .ok) : s.engGate req e addr act = act s := by
  simp only [State.engGate, validEngine_eq_true.mpr he, hopen, Bool.not_true, Bool.false_eq_true, if_false, if_true]

theorem State.engGate_shut {s : State} {e : Nat} (req addr : Nat) (act : State → State) (he : e < 96)
    (hshut : s.regionAccess (e / 4) ≠ .ok) :
    s.engGate req e addr act = s.windowRefuse req (e / 4) addr (s.regionAccess (e / 4)) := by
  simp only [State.engGate, validEngine_eq_true.mpr he, if_neg hshut, Bool.not_true, Bool.false_eq_true, if_false]

/-- A command that is accepted takes effect, and is recorded and answered with OK. -/
theorem State.engCtl_taken {s : State} {req e v cmd : Nat} (he : e < 96) (hopen : s.regionAccess (e / 4) = .ok)
    (hcmd : bitsOf v 0 4 = cmd) (hok : s.engCmdCode e cmd = .ok) :
    s.engCtl req e v =
      ((s.engCmd req e cmd (bitsOf v 4 6) (bitsOf v 12 1) (bitsOf v 16 12)).engRecord req e 0x30000 cmd .ok).respond req
        (Reg.ENG_CTL (e / 4) (e % 4)) .ok := by
  rw [State.engCtl, State.engGate_open _ _ _ he hopen]
  simp only [State.engCtlWrite, hcmd, hok, if_true]

/-- A command that is refused is recorded and answered with its code; a RELEASE is counted. -/
theorem State.engCtl_refused {s : State} {req e v cmd : Nat} (he : e < 96) (hopen : s.regionAccess (e / 4) = .ok)
    (hcmd : bitsOf v 0 4 = cmd) (hrefused : s.engCmdCode e cmd ≠ .ok) :
    s.engCtl req e v =
      ((if cmd = 7 then s.engRefuse e else s).engRecord req e 0x30000 cmd (s.engCmdCode e cmd)).respond req
        (Reg.ENG_CTL (e / 4) (e % 4)) (s.engCmdCode e cmd) := by
  rw [State.engCtl, State.engGate_open _ _ _ he hopen]
  simp only [State.engCtlWrite, hcmd, if_neg hrefused]

theorem State.engCtl_shut {s : State} {e : Nat} (req v : Nat) (he : e < 96) (hshut : s.regionAccess (e / 4) ≠ .ok) :
    s.engCtl req e v = s.windowRefuse req (e / 4) (Reg.ENG_CTL (e / 4) (e % 4)) (s.regionAccess (e / 4)) :=
  State.engGate_shut _ _ _ he hshut

/-! ## The words of SWAPREQ and RELEASE -/

/-- The word that SWAPREQ writes to ENG_CTL. -/
def swapWord (atEnd : Bool) (entry : BitVec 12) : Nat := 6 + bit atEnd * 2 ^ 12 + entry.toNat * 2 ^ 16

/-- The word that RELEASE writes to ENG_CTL. -/
def releaseWord (t : BitVec 6) : Nat := 7 + t.toNat * 2 ^ 4

theorem swapWord_fields (atEnd : Bool) (entry : BitVec 12) :
    bitsOf (swapWord atEnd entry) 0 4 = 6 ∧ bitsOf (swapWord atEnd entry) 12 1 = bit atEnd ∧
      bitsOf (swapWord atEnd entry) 16 12 = entry.toNat := by
  have hentry : entry.toNat < 4096 := entry.isLt
  cases atEnd <;> simp only [swapWord, bitsOf, bit] <;> simp <;> omega

theorem releaseWord_fields (t : BitVec 6) : bitsOf (releaseWord t) 0 4 = 7 ∧ bitsOf (releaseWord t) 4 6 = t.toNat := by
  have ht : t.toNat < 64 := t.isLt
  simp only [releaseWord, bitsOf]
  omega

theorem bit_eq_one_iff (b : Bool) : (bit b == 1) = b := by cases b <;> rfl

section
variable {s : State} {req e : Nat} (he : e < 96) (hopen : s.regionAccess (e / 4) = .ok)
include he hopen

/-- SWAPREQ where no swap waits and the engine is not in FAULT. -/
theorem gives_engSwapreq {atEnd : Bool} {entry : BitVec 12} (hok : s.engCmdCode e 6 = .ok) :
    Gives (.engSwapreq req e atEnd entry) s
      (((s.engCmd req e 6 (bitsOf (swapWord atEnd entry) 4 6) (bit atEnd) entry.toNat).engRecord req e 0x30000 6 .ok).respond req
        (Reg.ENG_CTL (e / 4) (e % 4)) .ok) := by
  obtain ⟨hcmd, hwhen, hentry⟩ := swapWord_fields atEnd entry
  have htaken := State.engCtl_taken (req := req) he hopen hcmd hok
  rw [hwhen, hentry] at htaken
  exact gives_of_effect rfl htaken

/-- A write of the engine's memory whose place is one of its memory (R240, R241). -/
theorem gives_engMemWrite {off n v be : Nat} (hn : n ≤ 256) (hplace : engMemOk off n = true) :
    Gives (.engMemoryHostWrite req e off n v be) s
      ((if (s.engMemWrite e off n v be).2 = .eState then
          (s.engMemWrite e off n v be).1.engRecord req e off 0 (s.engMemWrite e off n v be).2
        else (s.engMemWrite e off n v be).1).respond req (engBase e + off) (s.engMemWrite e off n v be).2) := by
  refine gives_of_effect rfl ((if_pos hn).trans ?_)
  rw [State.engMemAccess, State.engGate_open _ _ _ he hopen]
  simp only [hplace, Bool.not_true, Bool.false_eq_true, if_false]

end

/-- An access to the whole of a register fits it. -/
theorem widthOk_whole (w : Nat) : widthOk w 0 w = true := by simp [widthOk]

/-- A write that touches the active bank is refused (R241). -/
theorem State.engMemWrite_active {s : State} {e off n be : Nat} (v : Nat)
    (h : ∃ i < n, hasBit be i = true ∧ off + i < 0x8000 ∧ (off + i) / 0x4000 = (s.eng e).bank) :
    s.engMemWrite e off n v be = (s, .eState) := by
  have htouches : (List.range n).any (fun i => hasBit be i && decide (off + i < 0x8000) && (off + i) / 0x4000 == (s.eng e).bank)
      = true := by
    obtain ⟨i, hi, hbe, hlow, hbank⟩ := h
    exact List.any_eq_true.mpr ⟨i, List.mem_range.mpr hi, by simp [hbe, hlow, hbank]⟩
  simp only [State.engMemWrite, htouches, if_true]

/-- Settles O14: each command from the rule of ENG_CTL for an accepted or a refused one, each write of the window from the gate. -/
theorem engineCommandsComplete : Obligations.EngineCommandsComplete := by
  refine ⟨?_, ?_, ?_, ?_, ?_, ?_, ?_, ?_, ?_, ?_, ?_, ?_, ?_, ?_, ?_, ?_, ?_, ?_, ?_, ?_, ?_, ?_, ?_, ?_⟩
  · intro s req e he hopen hidle
    refine gives_of_effect rfl ((State.engCtl_taken he hopen (cmd := 1) rfl ?_).trans ?_)
    · simp only [State.engCmdCode, hidle, if_true]
    · simp only [State.engCmd, hidle, if_true]
  · intro s req e he hopen hactive hpend
    have hbusy : (s.eng e).st ≠ .idle := by rcases hactive with h | h <;> simp [h]
    refine gives_of_effect rfl ((State.engCtl_taken he hopen (cmd := 1) rfl ?_).trans ?_)
    · rcases hactive with h | h <;> simp [State.engCmdCode, h, hpend]
    · simp only [State.engCmd, if_neg hbusy]
  · intro s req e p he hopen hp hrefused
    simp only [List.mem_cons, List.not_mem_nil, or_false] at hp
    rcases hp with rfl | rfl | rfl | rfl | rfl <;> exact gives_of_effect rfl (State.engCtl_refused he hopen rfl hrefused)
  · intro s req e entry atEnd he hopen hrefused
    exact gives_of_effect rfl (State.engCtl_refused he hopen (swapWord_fields atEnd entry).1 hrefused)
  · intro s req e t he hopen hrefused
    exact gives_of_effect rfl (State.engCtl_refused he hopen (releaseWord_fields t).1 hrefused)
  · intro s req e entry atEnd t c he hshut hc
    simp only [List.mem_cons, List.not_mem_nil, or_false] at hc
    rcases hc with rfl | rfl | rfl | rfl | rfl | rfl | rfl <;> exact gives_of_effect rfl (State.engCtl_shut req _ he hshut)
  · intro s req e he hopen hhalt hcur
    refine gives_of_effect rfl ((State.engCtl_taken he hopen (cmd := 2) rfl ?_).trans ?_)
    · simp only [State.engCmdCode, hhalt, if_true]
    · simp only [State.engCmd, hcur, if_true]
  · intro s req e he hopen hhalt hcur hp2
    refine gives_of_effect rfl ((State.engCtl_taken he hopen (cmd := 2) rfl ?_).trans ?_)
    · simp only [State.engCmdCode, hhalt, if_true]
    · simp only [State.engCmd, hcur, State.engMayStart, hp2, decide_true, Bool.false_eq_true, if_false, if_true]
  · intro s req e he hopen hhalt htasks hcur hp2
    refine gives_of_effect rfl ((State.engCtl_taken he hopen (cmd := 3) rfl ?_).trans ?_)
    · simp [State.engCmdCode, hhalt, htasks]
    · simp only [State.engCmd, hcur, State.engMayStart, hp2, decide_true, Bool.false_eq_true, if_false, if_true]
  · intro s req e he hopen hhalt htasks hcur
    refine gives_of_effect rfl ((State.engCtl_taken he hopen (cmd := 3) rfl ?_).trans ?_)
    · simp [State.engCmdCode, hhalt, htasks]
    · simp only [State.engCmd, hcur, if_true]
  · intro s req e he hopen hactive
    refine gives_of_effect rfl (State.engCtl_taken he hopen (cmd := 4) rfl ?_)
    rcases hactive with h | h | ⟨h, hcur⟩
    · simp [State.engCmdCode, h]
    · simp [State.engCmdCode, h]
    · simp [State.engCmdCode, h, hcur]
  · intro s req e he hopen hfault
    refine gives_of_effect rfl (State.engCtl_taken he hopen (cmd := 5) rfl ?_)
    simp only [State.engCmdCode, hfault, if_true]
  · intro s req e entry he hopen hidle hswap
    have htaken := gives_engSwapreq (req := req) (atEnd := false) (entry := entry) he hopen
      (by simp [State.engCmdCode, hidle, hswap])
    simpa only [State.engCmd, hidle, if_true] using htaken
  · intro s req e entry atEnd he hopen hactive hswap
    have hstates : (s.eng e).st ≠ .idle ∧ (s.eng e).st ≠ .halt ∧ (s.eng e).st ≠ .fault := by
      rcases hactive with h | h <;> simp [h]
    obtain ⟨hidle, hhalt, hfault⟩ := hstates
    have htaken := gives_engSwapreq (req := req) (atEnd := atEnd) (entry := entry) he hopen
      (by simp [State.engCmdCode, hfault, hswap])
    simpa only [State.engCmd, hidle, hhalt, false_and, if_false, bit_eq_one_iff] using htaken
  · intro s req e entry atEnd he hopen hhalt hswap hnow
    have hcond : (s.eng e).st = .halt ∧ (bit atEnd = 0 ∨ (!(s.eng e).cur) = true) := ⟨hhalt, by
      rcases hnow with rfl | h
      · exact .inl rfl
      · exact .inr (by rw [h]; rfl)⟩
    have hidle : (s.eng e).st ≠ .idle := by simp [hhalt]
    have htaken := gives_engSwapreq (req := req) (atEnd := atEnd) (entry := entry) he hopen
      (by simp [State.engCmdCode, hhalt, hswap])
    simpa only [State.engCmd, if_neg hidle, if_pos hcond] using htaken
  · intro s req e t he hopen hengOpen hticking
    obtain ⟨hcmd, htask⟩ := releaseWord_fields t
    refine gives_of_effect rfl ((State.engCtl_taken he hopen hcmd ?_).trans ?_)
    · simp only [State.engCmdCode, hengOpen, hticking, Bool.not_true, Bool.or_self, Bool.false_eq_true, if_false]
    · simp only [State.engCmd, htask]
  · intro s req e off n v be he hn hopen hplace hok
    have hwrite := gives_engMemWrite (req := req) (v := v) (be := be) he hopen hn hplace
    rwa [hok, if_neg (by decide)] at hwrite
  · intro s req e off n v be he hn hopen hplace _ hstate
    have hwrite := gives_engMemWrite (req := req) (v := v) (be := be) he hopen hn hplace
    rwa [if_neg hstate] at hwrite
  · intro s req e off n v be he hn hopen hplace htouch
    have hwrite := gives_engMemWrite (req := req) (v := v) (be := be) he hopen hn hplace
    rwa [State.engMemWrite_active v htouch, if_pos rfl] at hwrite
  · intro s req e off n v be he hn hopen hplace
    refine gives_of_effect rfl ((if_pos hn).trans ?_)
    rw [State.engMemAccess, State.engGate_open _ _ _ he hopen]
    simp only [hplace, Bool.not_false, if_true]
  · intro s req e o w v old he hopen hentry hview hstate
    refine gives_of_effect rfl ?_
    simp only [State.engViewWrite, hentry]
    rw [State.engGate_open _ _ _ he hopen]
    simp only [hview, widthOk_whole, hstate, Bool.not_true, Bool.false_eq_true, if_false, if_true, Nat.sub_self]
  · intro s req e o w v he hopen hentry hview hidle hhalt
    obtain ⟨old, hold⟩ := Option.ne_none_iff_exists'.mp hview
    refine gives_of_effect rfl ?_
    simp only [State.engViewWrite, hentry]
    rw [State.engGate_open _ _ _ he hopen]
    simp only [hold, Nat.sub_self, widthOk_whole, hidle, hhalt, Bool.not_true, Bool.false_eq_true, if_false, or_self]
  · intro s req e he hopen
    refine gives_of_effect rfl ?_
    rw [State.engCntclrWrite, State.engGate_open _ _ _ he hopen]
    rfl
  · intro s req e he hopen
    refine gives_of_effect rfl ?_
    rw [State.engCntclrWrite, State.engGate_open _ _ _ he hopen]
    rfl

end Sys2Proof.Machine
end

section
/-! What an engine does with the instruction at its PC, and its control instructions (O15). -/

namespace Sys2Proof.Machine

/-! ## From the command to the instruction -/

/-- Every ENG_INSTR command runs its engine's instruction. -/
theorem exec_engineOp {c : Instr} {e : Nat} {op : EngOp} (s : State) (h : engineOp c = some (e, op)) :
    exec c s = answer s (s.engInstr e op) := by
  unfold engineOp at h
  split at h <;> cases h <;> rfl

/-- A code word without an error is read as it is. -/
theorem State.engCheck_clear {s : State} {e a finder : Nat} (h : s.mark a = 0) : s.engCheck e a finder = (s, false) :=
  if_pos h

theorem State.engCheckAll_clear {s : State} {e finder : Nat} {l : List Nat} (h : ∀ a ∈ l, s.mark a = 0) :
    s.engCheckAll e finder l = (s, false) := by
  induction l with
  | nil => rfl
  | cons a l ih =>
    have ha : s.mark a = 0 := h a List.mem_cons_self
    have hl := ih (fun b hb => h b (List.mem_cons_of_mem a hb))
    simp only [State.engCheckAll, State.engCheck_clear ha, hl, Bool.or_self]

section
variable {s : State} {e : Nat} (he : e < 96) (hrun : (s.eng e).st = .run)
include he hrun

theorem State.engInstr_runs : (!validEngine e || (s.eng e).st != .run) = false := by
  rw [validEngine_eq_true.mpr he, hrun]
  rfl

theorem State.engInstr_fetched {i : EInstr} (hmark : s.mark (engCode e (s.eng e).bank (s.eng e).pc) = 0)
    (hfetch : s.engFetch e (s.eng e).bank (s.eng e).pc = some i) : s.engInstr e i.op = s.engReach e i := by
  simp only [State.engInstr, State.engInstr_runs he hrun, hfetch, beq_self_eq_true, Bool.or_true, State.engCheck_clear hmark,
    Bool.false_eq_true, if_false, if_true]

/-- A reserved encoding puts the engine in FAULT (R278, R286). -/
theorem State.engInstr_reserved (op : EngOp) (hmark : s.mark (engCode e (s.eng e).bank (s.eng e).pc) = 0)
    (hfetch : s.engFetch e (s.eng e).bank (s.eng e).pc = none) : s.engInstr e op = s.engFault e causeIllop := by
  simp only [State.engInstr, State.engInstr_runs he hrun, hfetch, State.engCheck_clear hmark, Bool.false_eq_true, if_false]

/-- An uncorrectable code word puts the engine in FAULT, whatever it holds (R251, R287). -/
theorem State.engInstr_uncorrectable (op : EngOp) (hmark : s.mark (engCode e (s.eng e).bank (s.eng e).pc) = 2) :
    s.engInstr e op = (s.engCheck e (engCode e (s.eng e).bank (s.eng e).pc) 0).1.engFault e causeEcc := by
  have hbad : (s.engCheck e (engCode e (s.eng e).bank (s.eng e).pc) 0).2 = true := by
    simp only [State.engCheck, hmark, OfNat.ofNat_ne_zero, if_false, Nat.le_refl, decide_true]
  simp only [State.engInstr, State.engInstr_runs he hrun, hmark, hbad, decide_true, Bool.true_or, Bool.false_eq_true, if_false,
    if_true]
  split <;> rfl

end

/-! ## The effect of an instruction that is ready -/

theorem State.engInstr_ready {s : State} {e : Nat} {i : EInstr} (h : EngReady s e i) : s.engInstr e i.op = s.engComplete e i := by
  obtain ⟨he, hrun, hmark, hfetch, hcause, hwaits, -⟩ := h
  rw [State.engInstr_fetched he hrun hmark hfetch]
  simp only [State.engReach, hcause, hwaits, ne_eq, not_true_eq_false, if_false]

/-- An instruction that is no network instruction: it reaches the engine and its memory alone. -/
def EInstr.Local : EInstr → Prop
  | .net _ _ _ _ _ _ => False
  | .nwait _ => False
  | _ => True

/-- A ready instruction, its data read without an error, has its effect and retires. -/
theorem State.engComplete_local {s : State} {e : Nat} {i : EInstr} (h : EngReady s e i) (hi : i.Local) :
    s.engComplete e i =
      (s.engStore e ((s.eng e).effect (s.engPipe e) (s.engWord e) i).2).engRetire e
        ((s.eng e).effect (s.engPipe e) (s.engWord e) i).1 i := by
  obtain ⟨-, -, -, -, -, -, hreads⟩ := h
  have hdata : s.engCheckAll e 0 (((s.eng e).reads i).map (engData e)) = (s, false) :=
    State.engCheckAll_clear (by simpa only [List.mem_map, forall_exists_index, and_imp, forall_apply_eq_imp_iff₂] using hreads)
  have henters : s.netEnters e i = true := by
    cases i with
    | net => exact hi.elim
    | nwait => exact hi.elim
    | _ => rfl
  simp only [State.engComplete, henters, hdata, Bool.not_true, Bool.false_eq_true, if_false]
  cases i with
  | net => exact hi.elim
  | nwait => exact hi.elim
  | _ => rfl

theorem gives_ready {s : State} {c : Instr} {e : Nat} {i : EInstr} (hc : engineOp c = some (e, i.op)) (h : EngReady s e i) :
    Gives c s (s.engComplete e i) :=
  gives_of_effect (exec_engineOp s hc) (State.engInstr_ready h)

theorem gives_local {s : State} {c : Instr} {e : Nat} {i : EInstr} (hc : engineOp c = some (e, i.op)) (h : EngReady s e i)
    (hi : i.Local) :
    Gives c s ((s.engStore e ((s.eng e).effect (s.engPipe e) (s.engWord e) i).2).engRetire e
      ((s.eng e).effect (s.engPipe e) (s.engWord e) i).1 i) :=
  gives_of_effect (exec_engineOp s hc) ((State.engInstr_ready h).trans (State.engComplete_local h hi))

/-! ## Where a quiet engine goes on -/

theorem State.eng_setEng (s : State) (e : Nat) (x : EngSt) : (s.setEng e x).eng e = x := Tbl.get_put_same _ _ _ _

/-- The count of the instructions reaches two registers, neither of them ENG_CFG. -/
theorem State.engPipe_retired (s : State) (e : Nat) :
    (s.count (Reg.ENG_RETIRED_COUNT (e / 4) (e % 4)) (Reg.ENG_ERR_CNT_SAT (e / 4) (e % 4))).engPipe e = s.engPipe e := by
  have hcount : Reg.ENG_CFG (e / 4) (e % 4) ≠ (Reg.ENG_RETIRED_COUNT (e / 4) (e % 4)).addr := by
    simp only [Reg.ENG_CFG, Reg.ENG_RETIRED_COUNT, Reg.ENG_RETIRED]
    omega
  have hsat : Reg.ENG_CFG (e / 4) (e % 4) ≠ (Reg.ENG_ERR_CNT_SAT (e / 4) (e % 4)).addr := by
    simp only [Reg.ENG_CFG, Reg.ENG_ERR_CNT_SAT, Reg.ENG_ERR]
    omega
  have hrd : (s.count (Reg.ENG_RETIRED_COUNT (e / 4) (e % 4)) (Reg.ENG_ERR_CNT_SAT (e / 4) (e % 4))).rd
      (Reg.ENG_CFG (e / 4) (e % 4)) = s.rd (Reg.ENG_CFG (e / 4) (e % 4)) := by
    unfold State.count
    split
    · exact s.rd_setFld_other _ _ hcount
    · exact s.rd_setBit_other _ _ hsat
  exact congrArg (fun v => (Reg.ENG_CFG_LOOPMODE (e / 4) (e % 4)).get v != 0) hrd

/-- The engine as an instruction leaves it before its place is taken. -/
def EngSt.retired (y : EngSt) : EngSt := { y with st := .run, wait := 0 }

/-- An instruction of a quiet engine, other than DONE, retires: the engine goes on where `advance` says, and takes the events of its
event point. -/
theorem State.eng_engRetire {s : State} {e : Nat} {y : EngSt} {i : EInstr} (hquiet : EngQuiet s e) (hi : i ≠ .done) :
    (s.engRetire e y i).eng e =
      (let p := (s.eng e).advance y.retired (s.engPipe e) i
       if p.2 then p.1.events else p.1) := by
  obtain ⟨-, -, -, -, hraised, -, hbreak⟩ := hquiet
  have hnone : (y.bpRaised || s.breakpoint e (s.eng e).pc (s.eng e).bank) = y.bpRaised := by rw [hbreak, Bool.or_false]
  unfold State.engRetire
  simp only [hnone, State.engPipe_retired]
  cases i with
  | done => exact absurd rfl hi
  | _ => exact State.eng_setEng _ _ _

/-- The instructions whose effect is on the engine's place alone. -/
def controlOps : List EngOp := [.nop, .done, .halt, .jmp, .call, .ret, .rep, .loop]

theorem EInstr.local_of_control {i : EInstr} (h : i.op ∈ controlOps) :
    i.Local ∧ ∀ (x : EngSt) (pipe : Bool) (m : Nat → Nat), (x.effect pipe m i).2 = [] := by
  cases i with
  | macm c => cases hc : c.op <;> simp [EInstr.op, hc, controlOps] at h
  | macr c => cases hc : c.op <;> simp [EInstr.op, hc, controlOps] at h
  | alu op => cases op <;> simp [EInstr.op, controlOps] at h
  | acc op => cases op <;> simp [EInstr.op, controlOps] at h
  | net op => cases op <;> simp [EInstr.op, controlOps] at h
  | search min => cases min <;> simp [EInstr.op, controlOps] at h
  | nop | done | halt | jmp | call | ret | rep | loop => exact ⟨trivial, fun _ _ _ => rfl⟩
  | _ => simp [EInstr.op, controlOps] at h

theorem gives_control {s : State} {c : Instr} {e : Nat} {i : EInstr} (hc : engineOp c = some (e, i.op)) (h : EngReady s e i)
    (hi : i.op ∈ controlOps) :
    Gives c s (s.engRetire e ((s.eng e).effect (s.engPipe e) (s.engWord e) i).1 i) := by
  obtain ⟨hlocal, hstores⟩ := EInstr.local_of_control hi
  have hgives := gives_local hc h hlocal
  rwa [hstores] at hgives

/-- A control instruction other than HALT leaves the registers to its retirement. -/
theorem gives_jump {s : State} {c : Instr} {e : Nat} {i : EInstr} (hc : engineOp c = some (e, i.op)) (h : EngReady s e i)
    (hi : i.op ∈ controlOps) (heffect : ∀ (x : EngSt) (pipe : Bool) (m : Nat → Nat), (x.effect pipe m i).1 = x) :
    Gives c s (s.engRetire e (s.eng e) i) := by
  have hgives := gives_control hc h hi
  rwa [heffect] at hgives

/-- Settles O15: the faults and the stall from `engReach`, the rest from the effect of a ready instruction and the place where a quiet
engine goes on. -/
theorem engineControlCompletes : Obligations.EngineControlCompletes := by
  refine ⟨?_, ?_, ?_, ?_, ?_, ?_, ?_, ?_, ?_, ?_, ?_, ?_, ?_, ?_, ?_⟩
  · intro s c e k op i hc he hrun hmark hfetch hop hcause
    subst hop
    refine gives_of_effect (exec_engineOp s hc) ((State.engInstr_fetched he hrun hmark hfetch).trans ?_)
    simp only [State.engReach, hcause]
  · intro s c e op i hc he hrun hmark hfetch hop hcause hwaits
    subst hop
    refine gives_of_effect (exec_engineOp s hc) ((State.engInstr_fetched he hrun hmark hfetch).trans ?_)
    simp only [State.engReach, hcause, if_pos hwaits]
  · intro s c e op hc he hrun hmark hfetch
    exact gives_of_effect (exec_engineOp s hc) (State.engInstr_reserved he hrun op hmark hfetch)
  · intro s c e op hc he hrun hmark
    exact gives_of_effect (exec_engineOp s hc) (State.engInstr_uncorrectable he hrun op hmark)
  · intro s c e op i hc hop hready hmem
    subst hop
    exact gives_control hc hready hmem
  · dsimp only
    intro s e hready hquiet
    have heng := State.eng_engRetire (y := s.eng e) hquiet (i := .nop) (by decide)
    obtain ⟨hloops, hrep, hswap, hhalt, hbp, hstep, -⟩ := hquiet
    refine ⟨gives_jump rfl hready (by simp [EInstr.op, controlOps]) (fun _ _ _ => rfl), ?_⟩
    rw [heng]
    simp [EngSt.advance, EngSt.retired, EngSt.atLoopEnd, EngSt.target, EngSt.events, EngSt.reg, hloops, hrep, hswap, hhalt, hbp, hstep]
  · dsimp only
    intro s e a b l hready hquiet htasks hcur
    obtain ⟨hloops, -, hswap, hhalt, hbp, hstep, hbreak⟩ := hquiet
    refine ⟨gives_jump rfl hready (by decide) (fun _ _ _ => rfl), ?_⟩
    simp [State.engRetire, State.engDone, State.eng_setEng, EngSt.atLoopEnd, EngSt.endTask, EngSt.events, htasks, hcur, hloops, hswap,
      hhalt, hbp, hstep, hbreak]
  · dsimp only
    intro s e hready hquiet
    have heng := State.eng_engRetire (y := { s.eng e with haltPend := true }) hquiet (i := .halt) (by decide)
    obtain ⟨hloops, hrep, hswap, -, -, -, -⟩ := hquiet
    refine ⟨gives_control (i := .halt) rfl hready (by simp [EInstr.op, controlOps]), ?_⟩
    rw [heng]
    simp [EngSt.advance, EngSt.retired, EngSt.atLoopEnd, EngSt.target, EngSt.events, hloops, hrep, hswap]
  · dsimp only
    intro s e c a hready hquiet
    have heng := State.eng_engRetire (y := s.eng e) hquiet (i := .jmp c a) (by simp)
    obtain ⟨hloops, hrep, hswap, hhalt, hbp, hstep, -⟩ := hquiet
    refine ⟨gives_jump rfl hready (by simp [EInstr.op, controlOps]) (fun _ _ _ => rfl), ?_⟩
    rw [heng]
    cases hcond : (s.eng e).cond c <;>
      simp [EngSt.advance, EngSt.retired, EngSt.atLoopEnd, EngSt.target, EngSt.events, exitLoops, EngSt.setReg, hcond,
        hloops, hrep, hswap, hhalt, hbp, hstep]
  · dsimp only
    intro s e c a hready hquiet hcond
    have heng := State.eng_engRetire (y := s.eng e) hquiet (i := .call c a) (by simp)
    obtain ⟨hloops, hrep, hswap, hhalt, hbp, hstep, -⟩ := hquiet
    refine ⟨gives_jump rfl hready (by simp [EInstr.op, controlOps]) (fun _ _ _ => rfl), ?_⟩
    rw [heng]
    simp [EngSt.advance, EngSt.retired, EngSt.atLoopEnd, EngSt.target, EngSt.events, EngSt.setReg, hcond, hloops, hrep,
      hswap, hhalt, hbp, hstep]
  · dsimp only
    intro s e c a l hready hquiet hcond hcalls
    have heng := State.eng_engRetire (y := s.eng e) hquiet (i := .ret c) (by simp)
    obtain ⟨hloops, hrep, hswap, hhalt, hbp, hstep, -⟩ := hquiet
    refine ⟨gives_jump rfl hready (by simp [EInstr.op, controlOps]) (fun _ _ _ => rfl), ?_⟩
    rw [heng]
    simp [EngSt.advance, EngSt.retired, EngSt.atLoopEnd, EngSt.target, EngSt.events, exitLoops, EngSt.setReg, hcond, hcalls,
      hloops, hrep, hswap, hhalt, hbp, hstep]
  · dsimp only
    intro s e n hready hquiet
    have heng := State.eng_engRetire (y := s.eng e) hquiet (i := .rep n) (by simp)
    obtain ⟨-, hrep, -, -, -, -, -⟩ := hquiet
    refine ⟨gives_jump rfl hready (by simp [EInstr.op, controlOps]) (fun _ _ _ => rfl), ?_⟩
    rw [heng]
    simp [EngSt.advance, EngSt.retired, EngSt.reg, EngSt.setReg, Tbl.get_put_same, hrep]
  · dsimp only
    intro s e step count ofs reg hready hquiet hcount
    have heng := State.eng_engRetire (y := s.eng e) hquiet (i := .loop step reg count ofs) (by simp)
    obtain ⟨hloops, hrep, -, -, -, -, -⟩ := hquiet
    refine ⟨gives_jump rfl hready (by simp [EInstr.op, controlOps]) (fun _ _ _ => rfl), ?_⟩
    rw [heng]
    simp [EngSt.advance, EngSt.retired, EngSt.reg, EngSt.setReg, Tbl.get_put_same, hcount, hloops, hrep]
  · intro s e tag hready hcode
    have henters : s.netEnters e (.nwait tag) = true := rfl
    refine gives_of_effect (exec_engineOp s rfl) ((State.engInstr_ready hready).trans ?_)
    simp [State.engComplete, henters, EngSt.reads, State.engCheckAll, EngSt.effect, hcode, EngSt.raiseFlag]
  · intro s e tag hready hcode
    have henters : s.netEnters e (.nwait tag) = true := rfl
    refine gives_of_effect (exec_engineOp s rfl) ((State.engInstr_ready hready).trans ?_)
    simp [State.engComplete, henters, EngSt.reads, State.engCheckAll, EngSt.effect, hcode, EngSt.raiseFlag]

end Sys2Proof.Machine
end

section
/-! The instructions of an engine that compute and move data (O16–O19). -/

namespace Sys2Proof.Machine

theorem ite_neg_eq_abs (a : Int) : (if a < 0 then -a else a) = |a| := by
  split
  · next h => exact (abs_of_neg h).symm
  · next h => exact (abs_of_nonneg (Int.not_lt.mp h)).symm

/-- A ready instruction that stores nothing leaves the registers `y` to its retirement. -/
theorem gives_compute {s : State} {c : Instr} {e : Nat} {i : EInstr} {y : EngSt} (hc : engineOp c = some (e, i.op))
    (h : EngReady s e i) (hi : i.Local) (heffect : (s.eng e).effect (s.engPipe e) (s.engWord e) i = (y, [])) :
    Gives c s (s.engRetire e y i) := by
  have hgives := gives_local hc h hi
  rwa [heffect] at hgives

/-- A ready instruction that stores one word. -/
theorem gives_store {s : State} {c : Instr} {e : Nat} {i : EInstr} {y : EngSt} {a v : Nat} (hc : engineOp c = some (e, i.op))
    (h : EngReady s e i) (hi : i.Local) (heffect : (s.eng e).effect (s.engPipe e) (s.engWord e) i = (y, [(a, v)])) :
    Gives c s (((s.setBytes (engData e a) v 2).setMark (engData e a) 0).engRetire e y i) := by
  have hgives := gives_local hc h hi
  rwa [heffect] at hgives

/-! ## Multiply-accumulates (O16) -/

theorem EngSt.effect_macm (x : EngSt) (pipe : Bool) (m : Nat → Nat) (c : MacCtl) (xa ya : EngAddr) (xd yd : Option Nat) :
    x.effect pipe m (.macm c xa ya xd yd) =
      (x.macmMoves (x.mac c (m (x.addr xa)) (m (x.addr ya))) pipe xa ya xd yd (m (x.addr xa)) (m (x.addr ya)), []) := by
  cases xd <;> cases yd <;> rfl

theorem EngSt.effect_macr (x : EngSt) (pipe : Bool) (m : Nat → Nat) (c : MacCtl) (da db : Nat) (xa ya : Option (EngAddr × Nat)) :
    x.effect pipe m (.macr c da db xa ya) = (x.macrMoves (x.mac c (x.named pipe da) (x.named pipe db)) pipe m xa ya, []) := by
  cases xa <;> cases ya <;> rfl

/-- Settles O16: the effect of each form is its product in the accumulator, then its moves. -/
theorem engineMultipliesComplete : Obligations.EngineMultipliesComplete := by
  refine ⟨?_, ?_⟩
  · intro s e c xa ya xd yd hready
    refine ⟨fun hop => ?_, fun hop => ?_, fun hop => ?_, fun hop => ?_⟩ <;>
      refine gives_compute (by simp only [EInstr.op, hop]; rfl) hready trivial ?_ <;>
      simp only [EngSt.effect_macm, EngSt.mac, hop]
  · intro s e c da db xa ya hready
    refine ⟨fun hop => ?_, fun hop => ?_, fun hop => ?_, fun hop => ?_⟩ <;>
      refine gives_compute (by simp only [EInstr.op, hop]; rfl) hready trivial ?_ <;>
      simp only [EngSt.effect_macr, EngSt.mac, hop]

/-! ## Register operations and searches (O17) -/

theorem EngSt.effect_search (x : EngSt) (pipe : Bool) (m : Nat → Nat) (min : Bool) (dm ds ix : Nat) (u last : Bool) (index : Nat)
    (xa : Option EngAddr) :
    x.effect pipe m (.search min dm ds ix u last index xa) =
      (let v := xa.elim (x.named pipe ds) (fun a => m (x.addr a))
       let hit := improves min u last v (x.named pipe dm)
       let y := (xa.elim x (fun a => x.bump x a)).setFlag stCAP hit
       (if hit then (y.setNamed x pipe dm v).setReg ix (if index = 8 then x.reg rcLC else x.reg (rcP index)) else y, [])) := by
  cases xa <;> rfl

/-- Settles O17: each operation is a branch of `EngSt.alu`, each search of `improves`. -/
theorem engineRegisterOpsComplete : Obligations.EngineRegisterOpsComplete := by
  refine ⟨?_, ?_⟩
  · intro s e op dd ds1 ds2 imm sat hready
    refine ⟨?_, ?_, ?_, ?_, ?_, ?_, ?_, ?_, ?_, ?_, ?_⟩ <;> rintro rfl <;> refine gives_compute rfl hready trivial ?_ <;>
      simp only [EngSt.effect, EngSt.alu, EngSt.compare16, ite_neg_eq_abs]
  · intro s e min dm ds ix u last index xa hready
    refine ⟨?_, ?_⟩ <;> rintro rfl <;> exact gives_compute rfl hready trivial (EngSt.effect_search ..)

/-! ## Accumulator operations (O18) -/

/-- Settles O18: each operation is a branch of `EngSt.accOp`; a word moved out is the part of its accumulator that it names. -/
theorem engineAccumulatorOpsComplete : Obligations.EngineAccumulatorOpsComplete := by
  refine ⟨?_, ?_, ?_⟩
  · intro s e op ad as_ dx imm sat hready
    refine ⟨?_, ?_, ?_, ?_, ?_, ?_, ?_, ?_, ?_, ?_, ?_⟩ <;> rintro rfl <;> refine gives_compute rfl hready trivial ?_ <;>
      simp only [EngSt.effect, EngSt.accOp, ite_neg_eq_abs]
  · intro s e as_ dx part rnd sat hready
    exact gives_compute rfl hready trivial rfl
  · intro s e as_ part rnd sat a hready
    exact gives_store rfl hready trivial rfl

/-! ## Loads, stores, moves, STREAM and network instructions (O19) -/

theorem EngSt.effect_stream (x : EngSt) (pipe : Bool) (m : Nat → Nat) (rd0 rd1 wr0 wr1 : Option Nat) :
    x.effect pipe m (.stream rd0 rd1 wr0 wr1) =
      (let y := wr0.elim x (fun d => { x with so0 := ⟨x.named pipe d, true, false⟩ })
       let y := wr1.elim y (fun d => { y with so1 := ⟨x.named pipe d, true, false⟩ })
       let y := rd0.elim y (fun d => { y.setNamed x pipe d x.si0.data with si0 := { x.si0 with full := false } })
       rd1.elim y (fun d => { y.setNamed x pipe d x.si1.data with si1 := { x.si1 with full := false } }), []) := by
  cases rd0 <;> cases rd1 <;> cases wr0 <;> cases wr1 <;> rfl

theorem State.engComplete_net {s : State} {e : Nat} {op : NetOp} {desc tag pn lenw : Nat} {dofs : Option Nat}
    (h : EngReady s e (.net op desc tag pn lenw dofs))
    (henters : (s.niIssue (regionNode (e / 4)) 0 (s.engRequest e op desc tag pn lenw dofs)).2 = true) :
    s.engComplete e (.net op desc tag pn lenw dofs) =
      (s.niIssue (regionNode (e / 4)) 0 (s.engRequest e op desc tag pn lenw dofs)).1.engRetire e
        ((s.eng e).takeTag (s.engRequest e op desc tag pn lenw dofs) ((s.eng e).reg (rcP pn))) (.net op desc tag pn lenw dofs) := by
  obtain ⟨-, -, -, -, -, -, hreads⟩ := h
  have hdata : s.engCheckAll e 0 (((s.eng e).reads (.net op desc tag pn lenw dofs)).map (engData e)) = (s, false) :=
    State.engCheckAll_clear (by simpa only [List.mem_map, forall_exists_index, and_imp, forall_apply_eq_imp_iff₂] using hreads)
  simp only [State.engComplete, State.netEnters, henters, hdata, Bool.not_true, Bool.false_eq_true, if_false, EngSt.effect]

theorem State.engComplete_netWaits {s : State} {e : Nat} {op : NetOp} {desc tag pn lenw : Nat} {dofs : Option Nat}
    (hwaits : (s.niIssue (regionNode (e / 4)) 0 (s.engRequest e op desc tag pn lenw dofs)).2 = false) :
    s.engComplete e (.net op desc tag pn lenw dofs) = s.setEng e { s.eng e with st := .stall, wait := 16 } := by
  simp only [State.engComplete, State.netEnters, hwaits, Bool.not_false, if_true]

/-- A posted write waits for no tag of the interface (R251, R324). -/
theorem State.niIssue_posted {s : State} {n j : Nat} {q : NetRequest} (h : q.opc = opWrp) : (s.niIssue n j q).2 = true := by
  unfold State.niIssue
  simp only [h, if_true]
  split <;> rfl

/-- Settles O19: loads, stores and moves from the rules for a ready instruction, a network instruction from the answer of the
interface. -/
theorem engineMovesComplete : Obligations.EngineMovesComplete := by
  refine ⟨?_, ?_, ?_, ?_, ?_, ?_, ?_, ?_, ?_⟩
  · intro s e dd a hready
    exact gives_compute rfl hready trivial rfl
  · intro s e ds a hready
    exact gives_store rfl hready trivial rfl
  · intro s e dd1 dd2 a b hready
    exact gives_compute rfl hready trivial rfl
  · intro s e reg imm hready
    exact gives_compute rfl hready trivial rfl
  · intro s e dd ds imm hready
    exact gives_compute rfl hready trivial rfl
  · intro s e ds imm hready
    exact gives_compute rfl hready trivial rfl
  · intro s e dst src hready
    exact gives_compute rfl hready trivial rfl
  · intro s e rd0 rd1 wr0 wr1 hready
    exact gives_compute rfl hready trivial (EngSt.effect_stream ..)
  · dsimp only
    intro s e op desc tag pn lenw dofs hready
    refine ⟨?_, fun henters => ⟨?_, ?_⟩, fun hwaits => ⟨?_, ?_⟩⟩ <;> rintro rfl
    · have hgives := gives_ready (c := .engInstrNwr e) rfl hready
      rwa [State.engComplete_net hready (State.niIssue_posted rfl)] at hgives
    · have hgives := gives_ready (c := .engInstrNrd e) rfl hready
      rwa [State.engComplete_net hready henters] at hgives
    · have hgives := gives_ready (c := .engInstrNwrn e) rfl hready
      rwa [State.engComplete_net hready henters] at hgives
    · have hgives := gives_ready (c := .engInstrNrd e) rfl hready
      rwa [State.engComplete_netWaits hwaits] at hgives
    · have hgives := gives_ready (c := .engInstrNwrn e) rfl hready
      rwa [State.engComplete_netWaits hwaits] at hgives

end Sys2Proof.Machine
end

section
/-! Routers: the flit at the front of an input channel, the links, and their credit handshake (O20). -/

namespace Sys2Proof.Machine

theorem gives_routerHeadFlit {s t : State} {n p vc : Nat} {facts : WriteFacts} (hport : validPort n p = true) (hvc : vc < 8)
    (hfront : s.routeFront n p vc = (t, none)) : Gives (.routerHeadFlit n p vc facts) s t := by
  refine gives_of_effect rfl ?_
  simp only [hport, hvc, decide_true, Bool.true_or, Bool.and_self, if_true, hfront]

section
variable {s : State} {n p vc : Nat} {f : Flit} {rest : List Flit}

/-- A flit that fails its check, of a packet that is not being discarded (R323). -/
theorem State.routeFront_bad (hq : (s.vcIn n p vc).q = f :: rest) (hbad : f.bad = true)
    (hpath : f.fidx = 0 ∨ (s.vcIn n p vc).path ≠ some .sink) :
    s.routeFront n p vc =
      (((s.sinkFront n p vc).count (Reg.RTR_CRCCNT_COUNT n) (Reg.RTR_ERR_CNT_SAT n)).rtrError n 0 p vc 0, none) := by
  have hkept : (decide ((s.vcIn n p vc).path = some .sink) && decide (f.fidx ≠ 0)) = false := by
    rcases hpath with h | h <;> simp [h]
  simp only [State.routeFront, hq, hbad, hkept, Bool.false_eq_true, if_false, if_true]

/-- The header as the router passes it on: its first code consumed, the arrival code added (R329). -/
def Flit.passed (f : Flit) (p : Nat) : Flit := { f with route := f.route / 8 + arrivalCode p * 2 ^ 39, hops := f.hops + 1 }.seal

/-- Where the discard of a packet begins: its path is forgotten and its front flit goes. -/
def State.dropHead (s : State) (n p vc : Nat) : State := (s.setVc n p vc { s.vcIn n p vc with path := none }).sinkFront n p vc

variable (hq : (s.vcIn n p vc).q = f :: rest) (hbad : f.bad = false) (hfidx : f.fidx = 0) (hdone : (s.vcIn n p vc).headDone = false)
  (hpath : (s.vcIn n p vc).path = none)
include hq hbad hfidx hdone hpath

/-- A route that is not valid: the packet is discarded, and a request is answered (R330). -/
theorem State.routeFront_invalid (hrsp : ¬ (f.opc = opRsp ∨ f.opc = opRspd))
    (hroute : f.route % 8 = 7 ∨ 14 ≤ f.hops ∨ (1 ≤ f.route % 8 ∧ f.route % 8 ≤ 4 ∧ portExists n (f.route % 8 - 1) = false) ∨
      (f.route % 8 = 0 ∧ f.dst ≠ n)) :
    s.routeFront n p vc =
      (let t := ((s.dropHead n p vc).count (Reg.RTR_ROUTECNT_COUNT n) (Reg.RTR_ERR_CNT_SAT n)).rtrError n 2 p vc f.rid
       (if f.isRequest then t.routerAnswer n (f.passed p) .eArg 0 else t, none)) := by
  have hnoCount : ¬ ((f.opc = opRsp ∨ f.opc = opRspd) ∧ (p = 4 ∨ p = 5)) := fun h => hrsp h.1
  have hinvalid : f.route % 8 = 7 ∨ (f.route % 8 ≠ 6 ∧ (!portExists n (if (f.route % 8 == 0 || f.route % 8 == 5 || f.route % 8 == 6) = true
      then ejectPort (f.route % 8) else f.route % 8 - 1)) = true) ∨ 14 < f.hops + 1 ∨
      ((f.route % 8 == 0 || f.route % 8 == 5 || f.route % 8 == 6) = true ∧ f.dst ≠ n) := by
    rcases hroute with h | h | ⟨hlo, hhi, hport⟩ | ⟨hzero, hdst⟩
    · exact .inl h
    · exact .inr (.inr (.inl (Nat.lt_succ_of_le h)))
    · have hthrough : (f.route % 8 == 0 || f.route % 8 == 5 || f.route % 8 == 6) = false := by simp; omega
      exact .inr (.inl ⟨by omega, by simp [hthrough, hport]⟩)
    · exact .inr (.inr (.inr ⟨by simp [hzero], hdst⟩))
  simp only [State.routeFront, hq, hbad, hfidx, hdone, hpath, State.freeHolder, if_neg hnoCount, if_pos hinvalid,
    Bool.false_eq_true, if_false, ne_eq, not_true_eq_false, State.dropHead, Flit.passed]

/-- A route through port `c - 1` of the router. -/
theorem State.routeFront_through (hrsp : ¬ (f.opc = opRsp ∨ f.opc = opRspd)) (hlo : 1 ≤ f.route % 8) (hhi : f.route % 8 ≤ 4)
    (hport : portExists n (f.route % 8 - 1) = true) (hhops : f.hops < 14) :
    s.routeFront n p vc =
      (if s.absorbing n (f.route % 8 - 1) || s.on (Reg.RTR_PSTAT_IN_RESET n (f.route % 8 - 1)) then
        ((s.dropHead n p vc).refuseOut n (f.route % 8 - 1) p vc (f.passed p), none)
      else (s.setVc n p vc { s.vcIn n p vc with
        q := f.passed p :: rest, path := some (.out (f.route % 8 - 1)), headDone := true, hdr := some (f.passed p), gone := 0 },
        none)) := by
  have hthrough : (f.route % 8 == 0 || f.route % 8 == 5 || f.route % 8 == 6) = false := by simp; omega
  have hnoCount : ¬ ((f.opc = opRsp ∨ f.opc = opRspd) ∧ (p = 4 ∨ p = 5)) := fun h => hrsp h.1
  have hnotRouter : f.route % 8 ≠ 6 := by omega
  simp only [State.routeFront, hq, hbad, hfidx, hdone, hpath, State.freeHolder, if_neg hnoCount, hthrough, Bool.false_eq_true,
    if_false, ne_eq, not_true_eq_false, State.dropHead, Flit.passed]
  rw [if_neg (by simp [hport]; omega), if_neg (by simp), if_neg hnotRouter]
  rfl

/-- A TMO_NOTE for this router's own port 4 (R344). -/
theorem State.routeFront_tmoNote (hopc : f.opc = opTmo) (hroute : f.route % 8 = 0) (hport : portExists n 4 = true) (hhops : f.hops < 14)
    (hdst : f.dst = n) : s.routeFront n p vc = ((s.dropHead n p vc).tmoNote n 4 p vc f.rid, none) := by
  have hnoCount : ¬ ((opTmo = opRsp ∨ opTmo = opRspd) ∧ (p = 4 ∨ p = 5)) := fun h => absurd h.1 (by decide)
  have hterm : ((0 : Nat) == 0 || (0 : Nat) == 5 || (0 : Nat) == 6) = true := rfl
  have heject : ejectPort 0 = 4 := rfl
  simp only [State.routeFront, hq, hbad, hfidx, hdone, hpath, State.freeHolder, hopc, if_neg hnoCount, hroute, hterm, heject, hdst,
    Bool.false_eq_true, if_false, if_true, ne_eq, not_true_eq_false, State.dropHead]
  rw [if_neg (by simp [hport]; omega)]
  rfl

end

/-- Both ends of a link may take part in a handshake, and neither is up (R327, R345). -/
theorem State.handshake_ready {s : State} {n p : Nat}
    (h : ∀ x ∈ [(n, p), linkPeer n p], s.linkUp x.1 x.2 = false ∧ s.nodeOff x.1 = false ∧ (x.2 < 6 → s.absorbing x.1 x.2 = false)) :
    s.handshake n p =
      (if (s.end_ n p).signalled && (s.end_ (linkPeer n p).1 (linkPeer n p).2).signalled then
        (s.endUp n p).endUp (linkPeer n p).1 (linkPeer n p).2
      else (s.endInit n p).endInit (linkPeer n p).1 (linkPeer n p).2) := by
  have hends : ∀ x ∈ [(n, p), linkPeer n p], s.linkUp x.1 x.2 = false ∧ s.endReady x.1 x.2 = true := fun x hx => by
    obtain ⟨hdown, hnode, habsorb⟩ := h x hx
    have hopen : (decide (x.2 < 6) && s.absorbing x.1 x.2) = false := by
      simpa only [Bool.and_eq_false_imp, decide_eq_true_eq] using habsorb
    exact ⟨hdown, by simp only [State.endReady, hnode, hopen, Bool.not_false, Bool.and_self]⟩
  obtain ⟨hdown, hready⟩ := hends (n, p) (by simp)
  obtain ⟨hdown', hready'⟩ := hends (linkPeer n p) (by simp)
  simp only [State.handshake, hdown, hready, hdown', hready', Bool.not_true, Bool.or_self, Bool.false_eq_true, if_false]

/-- Settles O20: a head flit by what the router finds in it, the rest from the guard of each event. -/
theorem routerEventsComplete : Obligations.RouterEventsComplete := by
  refine ⟨?_, ?_, ?_, ?_, ?_, ?_, ?_, ?_, ?_, ?_, ?_, ?_⟩
  · dsimp only
    intro s n p vc f rest facts hport hvc hq hbad hfidx hdone hpath hrsp hrspd hlo hhi hexists hhops habsorb hreset
    refine gives_routerHeadFlit hport hvc ?_
    rw [State.routeFront_through hq hbad hfidx hdone hpath (by simp [hrsp, hrspd]) hlo hhi hexists hhops]
    simp only [habsorb, hreset, Bool.or_self, Bool.false_eq_true, if_false, Flit.passed]
  · intro s n p vc f rest facts hport hvc hq hbad hpath
    exact gives_routerHeadFlit hport hvc (State.routeFront_bad hq hbad hpath)
  · intro s n p vc f rest facts hvalidPort hvc hq hfidx hpath
    refine gives_of_effect rfl ?_
    simp [State.routeFront, hvalidPort, hvc, hq, hfidx, hpath]
  · intro s n p vc f rest facts hvalidPort hvc hq hbad hfidx hpath
    refine gives_of_effect rfl ?_
    simp [State.routeFront, hvalidPort, hvc, hq, hbad, hfidx, hpath]
  · dsimp only
    intro s n p vc f rest facts hport hvc hq hbad hfidx hdone hpath hrsp hrspd hroute
    exact gives_routerHeadFlit hport hvc (State.routeFront_invalid hq hbad hfidx hdone hpath (by simp [hrsp, hrspd]) hroute)
  · dsimp only
    intro s n p vc f rest facts hport hvc hq hbad hfidx hdone hpath hrsp hrspd hlo hhi hexists hhops habsorb
    refine gives_routerHeadFlit hport hvc ?_
    rw [State.routeFront_through hq hbad hfidx hdone hpath (by simp [hrsp, hrspd]) hlo hhi hexists hhops]
    simp only [habsorb, Bool.true_or, if_true, Flit.passed, State.dropHead]
  · intro s n p vc f rest facts hport hvc hq hbad hfidx hdone hpath hopc hroute hexists hhops hdst
    exact gives_routerHeadFlit hport hvc (State.routeFront_tmoNote hq hbad hfidx hdone hpath hopc hroute hexists hhops hdst)
  · dsimp only
    intro s n p sel i vc idx corrupt aged f rest hvalidPort hn hp hlinkUp harbitrate hq
    refine gives_of_effect rfl ?_
    simp [State.outputCycle, hvalidPort, hn, hp, hlinkUp, harbitrate, hq]
  · dsimp only
    intro s n j sel corrupt f rest hexists hup hsel hq hcredit
    simp only [niExists, Bool.and_eq_true, decide_eq_true_eq, Bool.or_eq_true, beq_iff_eq] at hexists
    obtain ⟨hn, hj⟩ := hexists
    have hport : 6 + j = 6 ∨ (6 + j = 7 ∧ n = cfgNode) := by omega
    refine gives_of_effect rfl ?_
    simp only [ge_iff_le, Nat.not_le.mpr hn, hup, Bool.not_true, Bool.false_eq_true, or_self, if_false, Nat.not_lt.mpr (Nat.le_add_right 6 j),
      hport, hsel, if_true, Nat.add_sub_cancel_left, State.niCycle, hq, hcredit]
  · dsimp only
    intro s n p vc hvalidEnd hvc howed
    refine gives_of_effect rfl ?_
    simp [State.creditBack, hvalidEnd, hvc, howed]
  · intro s n p hport hends hsignal
    have hnot : ((s.end_ n p).signalled && (s.end_ (linkPeer n p).1 (linkPeer n p).2).signalled) = false := by
      simpa only [Bool.and_eq_false_iff] using hsignal
    refine gives_of_effect rfl ((if_pos hport).trans ((State.handshake_ready hends).trans ?_))
    simp only [hnot, Bool.false_eq_true, if_false]
  · intro s n p hport hends
    have hready := State.handshake_ready fun x hx => ⟨(hends x hx).1, (hends x hx).2.1, (hends x hx).2.2.1⟩
    obtain ⟨-, -, -, hsignal⟩ := hends (n, p) (by simp)
    obtain ⟨-, -, -, hsignal'⟩ := hends (linkPeer n p) (by simp)
    refine gives_of_effect rfl ((if_pos hport).trans (hready.trans ?_))
    simp only [hsignal, hsignal', Bool.and_self, if_true]

end Sys2Proof.Machine
end

section
/-! Interfaces: requests issued and timed out, packets delivered, route entries (O21). -/

namespace Sys2Proof.Machine

theorem gives_niRequestIssue {s t : State} {n j rid ref opc entry pri addr len data : Nat} {toRtr sent : Bool} (hni : niExists n j = true)
    (hentry : entry < 64) (hpri : pri < 4) (hlo : 1 ≤ len) (hhi : len ≤ 256) (hopc : opc = opRd ∨ opc = opWr ∨ opc = opWrp)
    (hissue : s.niIssue n j ⟨rid, ref, opc, entry, toRtr, pri, addr, len, data⟩ = (t, sent)) :
    Gives (.niRequestIssue n j rid ref opc entry toRtr pri addr len data) s t := by
  have hkind : (opc == opRd || opc == opWr || opc == opWrp) = true := by simpa [or_assoc] using hopc
  refine gives_of_effect rfl ?_
  simp only [hni, hkind, hentry, hpri, hlo, hhi, decide_true, Bool.and_self, if_true, hissue]

section
variable {s : State} {n j vc : Nat} {f : Flit} {fs : List Flit} {facts : WriteFacts} (hni : niExists n j = true) (hvc : vc < 8)
  (hfront : niFront n (s.vcIn n (6 + j) vc).q = .packet (f :: fs)) (hclean : (f :: fs).any (·.poison) = false)
  (hown : ownCommand n f = false)
include hni hvc hfront hclean hown

/-- A whole packet without a poisoned flit is taken from its buffer and delivered (R319). -/
theorem gives_niDeliver {t : State}
    (hdeliver : (s.niPop n j vc (fs.length + 1)).niDeliver n j f (packetBody (f :: fs)) facts = t) :
    Gives (.niPacketReceive n j vc facts) s (t.hostServe n) := by
  subst hdeliver
  refine gives_of_effect rfl ?_
  simp only [hni, Nat.not_le.mpr hvc, decide_false, Bool.not_true, Bool.or_self, Bool.false_eq_true, if_false, hfront, hown, hclean,
    List.length_cons]

end

/-- A write to a node that is no shard: applied, and a WR answered. -/
theorem State.serveWrite_unit {s : State} {n j body : Nat} {f : Flit} {facts : WriteFacts} (hshard : nodeShard n = none) :
    s.serveWrite n j f body facts =
      (let r := s.unitWrite n j f.rid (body % 2 ^ 48) (f.blen + 1) (body / 2 ^ 64 % 2 ^ (8 * (f.blen + 1))) facts
       if f.opc ≠ opWr then r.1
       else if s.linkUp n (6 + j) && !r.1.linkUp n (6 + j) then r.1.answerAhead s n f r.2
       else r.1.niSend n j (responseFlits n f r.2 0)) := by
  have hno : (if f.opc = opWrp then (nodeShard n).bind (fun h => appendAt h (body % 2 ^ 48)) else none) = none := by
    rw [hshard, Option.bind_none, ite_self]
  simp only [State.serveWrite, hno]

/-- The note of a timeout is one flit. -/
theorem packetFlits_single (h : Flit) (hnfl : h.nfl = 0) :
    packetFlits h 0 = [{ h with fidx := 0, payload := 0, hops := 0 }.seal] := by
  simp only [packetFlits, hnfl, Nat.zero_add, List.range_one, List.map_cons, List.map_nil, if_true, Nat.zero_div, Nat.zero_mod]

/-- Settles O21: requests from the rules of `niIssue`, packets from those of their delivery. -/
theorem interfaceEventsComplete : Obligations.InterfaceEventsComplete := by
  refine ⟨?_, ?_, ?_, ?_, ?_, ?_, ?_, ?_, ?_, ?_, ?_, ?_, ?_, ?_, ?_, ?_, ?_, ?_, ?_⟩
  · dsimp only
    intro s n j rid ref entry pri addr len data t toRtr h hni hentry hpri hlo hhi hhead htag
    have hpost : ¬ opRd = opWrp := by decide
    refine gives_niRequestIssue hni hentry hpri hlo hhi (.inl rfl) (sent := true) ?_
    simp only [State.niIssue, ne_eq, not_true_eq_false, false_and, if_false, if_true, OfNat.one_ne_ofNat, hhead, if_neg hpost, htag]
  · dsimp only
    intro s n j rid ref opc entry pri addr len data t toRtr h hni hentry hpri hlo hhi hopc hhead htag
    subst hopc
    have hpost : ¬ opWr = opWrp := by decide
    have hread : ¬ opWr = opRd := by decide
    refine gives_niRequestIssue hni hentry hpri hlo (by omega) (.inr (.inl rfl)) (sent := true) ?_
    simp only [State.niIssue, Nat.not_lt.mpr hhi, and_false, if_false, OfNat.one_ne_ofNat, hhead, if_neg hpost, if_neg hread, htag]
  · dsimp only
    intro s n j rid ref opc entry pri addr len data t toRtr h hni hentry hpri hlo hhi hopc hhead htag
    subst hopc
    have hpost : ¬ opWr = opWrp := by decide
    have hread : ¬ opWr = opRd := by decide
    refine gives_niRequestIssue hni hentry hpri (by omega) hhi (.inr (.inl rfl)) (sent := true) ?_
    simp only [State.niIssue, ne_eq, hread, not_false_eq_true, hlo, and_self, if_true, if_false, hhead, if_neg hpost, htag]
  · intro s n j rid ref opc entry pri addr len data toRtr h hni hentry hpri hlo hhi hopc hhead
    subst hopc
    have hread : ¬ opWrp = opRd := by decide
    refine gives_niRequestIssue hni hentry hpri hlo (by omega) (.inr (.inr rfl)) (sent := true) ?_
    simp only [State.niIssue, Nat.not_lt.mpr hhi, and_false, if_false, if_true, OfNat.one_ne_ofNat, hhead, if_neg hread]
  · intro s n j rid ref opc entry pri addr len data toRtr hni hentry hpri hlo hhi hopc hvalid
    have hpost : ¬ opc = opWrp := by rcases hopc with rfl | rfl <;> decide
    refine gives_niRequestIssue hni hentry hpri hlo hhi (by simpa [or_assoc] using Or.inl hopc) (sent := true) ?_
    simp only [State.niIssue, State.entryHead, hvalid, Bool.not_false, if_true, if_neg hpost]
  · intro s n j rid ref entry pri addr len data toRtr hniExists hentry hpri hx hlen hvalid
    refine gives_of_effect rfl ?_
    simp [State.niIssue, State.entryHead, hniExists, hentry, hpri, hx, hlen, hvalid]
  · intro s n j rid ref opc entry pri addr len data toRtr hni hentry hpri hlo hhi hopc hvalid htag
    have hpost : ¬ opc = opWrp := by rcases hopc with rfl | rfl <;> decide
    refine gives_niRequestIssue hni hentry hpri hlo hhi (by simpa [or_assoc] using Or.inl hopc) (sent := false) ?_
    simp only [State.niIssue, State.entryHead, hvalid, Bool.not_true, Bool.false_eq_true, if_false, if_neg hpost, htag]
  · dsimp only
    intro s n j vc f fs facts hni hvc hfront hclean hopc hshard hown hlink
    have hread : ¬ opWr = opRd := by decide
    refine gives_niDeliver hni hvc hfront hclean hown ?_
    simp only [State.niDeliver, hopc, if_neg hread, true_or, if_true, State.serveWrite_unit hshard, ne_eq, not_true_eq_false, if_false]
    rw [if_neg]
    simpa using hlink
  · dsimp only
    intro s n j vc f fs facts hni hvc hfront hclean hopc hshard hown
    have hread : ¬ opWrp = opRd := by decide
    have hwrite : opWrp ≠ opWr := by decide
    refine gives_niDeliver hni hvc hfront hclean hown ?_
    simp only [State.niDeliver, hopc, if_neg hread, or_true, if_true, State.serveWrite_unit hshard, if_pos hwrite]
  · intro s n j vc f fs facts hniExists hvc hq hpoison hownCommand
    refine gives_of_effect rfl ?_
    simp [hniExists, hvc, hq, hpoison, hownCommand]
  · intro s n j vc f fs facts hni hvc hfront hclean hopc hown
    have hread : ¬ opEvt = opRd := by decide
    have hwrite : ¬ (opEvt = opWr ∨ opEvt = opWrp) := by decide
    have hrsp : ¬ (opEvt = opRsp ∨ opEvt = opRspd) := by decide
    refine gives_niDeliver hni hvc hfront hclean hown ?_
    simp only [State.niDeliver, hopc, if_neg hread, if_neg hwrite, if_neg hrsp, if_true]
  · dsimp only
    intro s n j vc f fs facts hniExists hvc hq hpoison hopc hnodeShard hownCommand
    refine gives_of_effect rfl ?_
    simp [State.niDeliver, State.serveRead, hniExists, hvc, hq, hpoison, hopc, hnodeShard, hownCommand]
  · intro s n j vc f fs facts hni hvc hfront hclean hopc
    have hread : ¬ opRspd = opRd := by decide
    have hwrite : ¬ (opRspd = opWr ∨ opRspd = opWrp) := by decide
    have hown : ownCommand n f = false := by
      simp [ownCommand, hopc, Flit.isRequest, opRspd, opStrm, opCap, opRd, opWr, opWrp]
    refine gives_niDeliver hni hvc hfront hclean hown ?_
    simp only [State.niDeliver, hopc, if_neg hread, if_neg hwrite, or_true, if_true]
  · intro s n j vc k f facts hniExists hvc hq hisRequest
    refine gives_of_effect rfl ?_
    simp [State.niMalformed, hniExists, hvc, hq, hisRequest]
  · dsimp only
    intro s n j tag x hni hopen hquarantine
    refine gives_of_effect rfl ((if_pos hni).trans ?_)
    simp only [State.niTimeout, hopen, hquarantine, Bool.false_eq_true, if_false]
    rw [packetFlits_single _ rfl]
  · intro s n j tag x hniExists hopen hquarantine
    refine gives_of_effect rfl ?_
    simp [hniExists, hopen, hquarantine]
  · intro s req n j e upper hniExists he hnodeAccess
    refine gives_of_effect rfl ?_
    simp [State.routeUpper, hniExists, he, hnodeAccess]
  · dsimp only
    intro s req n j e upper hni he haccess hok
    have hupper : upper.toNat % 2 ^ 32 = upper.toNat := Nat.mod_eq_of_lt upper.isLt
    refine gives_of_effect rfl ((if_pos (by simp [hni, he])).trans ?_)
    simp only [State.routeUpper, haccess, ne_eq, not_true_eq_false, if_false, hupper, hok, if_true]
  · dsimp only
    intro s req n j e upper hni he haccess hok
    have hupper : upper.toNat % 2 ^ 32 = upper.toNat := Nat.mod_eq_of_lt upper.isLt
    refine gives_of_effect rfl ((if_pos (by simp [hni, he])).trans ?_)
    simp only [State.routeUpper, haccess, ne_eq, not_true_eq_false, if_false, hupper, hok, Bool.false_eq_true]
end Sys2Proof.Machine
end

section
/-! Crossings and fabric ports (O22). -/

namespace Sys2Proof.Machine

theorem State.endReady_eq_true {s : State} {n p : Nat} :
    s.endReady n p = true ↔ s.nodeOff n = false ∧ (p < 6 → s.absorbing n p = false) := by
  simp only [State.endReady, Bool.and_eq_true, Bool.not_eq_true', Bool.and_eq_false_imp, decide_eq_true_eq]

theorem State.endReady_eq_false {s : State} {n p : Nat} :
    s.endReady n p = false ↔ s.nodeOff n = true ∨ (p < 6 ∧ s.absorbing n p = true) := by
  simp only [State.endReady, Bool.and_eq_false_iff, Bool.not_eq_false', Bool.and_eq_true, decide_eq_true_eq]

section
variable (s : State) (n j vc k r i : Nat)

theorem State.niPop_nip : (s.niPop n j vc k).nip r i = s.nip r i := rfl
theorem State.niPop_nipRxMode : (s.niPop n j vc k).nipRxMode r i = s.nipRxMode r i := rfl

end

/-- Settles O22: each event from its guard. -/
theorem crossingsAndPortsComplete : Obligations.CrossingsAndPortsComplete := by
  refine ⟨?_, ?_, ?_, ?_, ?_, ?_, ?_, ?_, ?_, ?_, ?_, ?_, ?_, ?_⟩
  · dsimp only
    intro s n p hvalidPort hportBridged hlive hlive2
    refine gives_of_effect rfl ?_
    simp [State.peerReset, hvalidPort, hportBridged, hlive, hlive2]
  · intro s req n p hvalidPort hnodeAccess hrestores hstate htmo
    refine gives_of_effect rfl ?_
    simp [State.rtrRestore, State.absorbing, hvalidPort, hnodeAccess, hrestores, hstate, htmo]
  · intro s req n p hport haccess hidle hstate
    have hnot : (s.on (Reg.RTR_PSTAT_ABS_STATE n p) || !s.absorbing n p) = true := by
      rcases hstate with h | h <;> simp [h]
    refine gives_of_effect rfl ((if_pos hport).trans ?_)
    simp [State.rtrRestore, haccess, hidle, hnot]
  · intro s req n p hvalidPort hnodeAccess hrestores
    refine gives_of_effect rfl ?_
    simp [State.rtrRestore, hvalidPort, hnodeAccess, hrestores]
  · intro s req n p hvalidPort hnodeAccess
    refine gives_of_effect rfl ?_
    simp [State.rtrRestore, hvalidPort, hnodeAccess]
  · dsimp only
    intro s n p req hport hwaits hnode habsorb hown hstate
    have hfar : (s.endReady (linkPeer n p).1 (linkPeer n p).2 && !s.nodeOff n && !s.on (Reg.RTR_PSTAT_ABS_STATE n p)) = true := by
      rw [State.endReady_eq_true.mpr ⟨hnode, habsorb⟩, hown, hstate]
      rfl
    refine gives_of_effect rfl ?_
    simp only [hport, hwaits, Bool.not_true, Bool.false_or, beq_iff_eq, Nat.add_eq_zero_iff, Nat.one_ne_zero, and_false, if_false, hfar,
      if_true, Nat.add_sub_cancel]
  · dsimp only
    intro s n p req hport hwaits hstate
    have hfar : (s.endReady (linkPeer n p).1 (linkPeer n p).2 && !s.nodeOff n && !s.on (Reg.RTR_PSTAT_ABS_STATE n p)) = false := by
      rcases hstate with h | h | h | h
      · rw [State.endReady_eq_false.mpr (.inl h)]
        rfl
      · rw [State.endReady_eq_false.mpr (.inr h)]
        rfl
      · simp [h]
      · simp [h]
    refine gives_of_effect rfl ?_
    simp only [hport, hwaits, Bool.not_true, Bool.false_or, beq_iff_eq, Nat.add_eq_zero_iff, Nat.one_ne_zero, and_false, if_false, hfar,
      Bool.false_eq_true, Nat.add_sub_cancel]
  · intro s r i hon hi hmode hack hvalid hroom
    have hnow : ∀ x : NipSt, (s.setNip r i x).now = s.now := fun _ => rfl
    refine gives_of_effect rfl ?_
    simp only [hon, Nat.not_le.mpr hi, hmode, hack, hvalid, hroom, hnow, decide_true, decide_false, Bool.not_true, bne_self_eq_false,
      Bool.or_self, Bool.and_self, Bool.false_eq_true, if_false, if_true]
  · intro s r i hfabricOn hi hnipTxMode htxack htxw
    refine gives_of_effect rfl ?_
    simp [hfabricOn, hi, hnipTxMode, htxack, htxw]
  · intro s r vc f hr hfront hopc hpoison
    refine gives_of_effect rfl ?_
    simp only [hr, hfront, hopc, hpoison, Bool.not_true, Bool.false_eq_true, if_false, ne_eq, not_true_eq_false, if_true]
  · intro s r vc f hr hfront hopc hpoison hmode hroom
    have hkeeps : ¬ ((s.niPop (regionNode r) 0 vc 1).nipRxMode r (f.stat % 8) = 0 ∨
        8 ≤ ((s.niPop (regionNode r) 0 vc 1).nip r (f.stat % 8)).rx.length) := by
      rw [State.niPop_nip, State.niPop_nipRxMode]
      omega
    have hpresent : ∀ u : State, u.nipRxMode r (f.stat % 8) = 1 → u.nipPresent r (f.stat % 8) = u := fun u hu =>
      if_pos (.inl (by rw [hu]; decide))
    refine gives_of_effect rfl ?_
    simp only [hr, hfront, hopc, hpoison, Bool.not_true, Bool.false_eq_true, if_false, ne_eq, not_true_eq_false, if_neg hkeeps]
    exact hpresent _ hmode
  · intro s r vc f hr hfront hopc hpoison hfull
    have hdrops : (s.niPop (regionNode r) 0 vc 1).nipRxMode r (f.stat % 8) = 0 ∨
        8 ≤ ((s.niPop (regionNode r) 0 vc 1).nip r (f.stat % 8)).rx.length := by
      rw [State.niPop_nip, State.niPop_nipRxMode]
      exact hfull
    refine gives_of_effect rfl ?_
    simp only [hr, hfront, hopc, hpoison, Bool.not_true, Bool.false_eq_true, if_false, ne_eq, not_true_eq_false, if_pos hdrops]
  · intro s r i hfabricOn hi hnipRxMode htoken hrail
    refine gives_of_effect rfl ?_
    simp [hfabricOn, hi, hnipRxMode, htoken, hrail]
  · intro s r i hfabricOn hi hnipRxMode htoken hrxacked hrail
    refine gives_of_effect rfl ?_
    simp [hfabricOn, hi, hnipRxMode, htoken, hrxacked, hrail]
end Sys2Proof.Machine
end

section
/-! The commands of a queue and the writes of its descriptor (O23). -/

namespace Sys2Proof.Machine

@[simp] theorem validQueue_eq_true {q : Nat} : validQueue q = true ↔ q < 1024 := decide_eq_true_iff

section
variable {s : State} {req q v good cmd sel n : Nat} (hq : q < 1024) (hcmd : bitsOf v 0 4 = cmd) (hsel : bitsOf v 8 1 = sel)
  (hn : bitsOf v 16 15 = n)
include hq hcmd hsel hn

/-- A queue command that is accepted takes effect; it may free what a waiting read needs. -/
theorem State.queueCtl_taken (hok : s.queueCmdCode q cmd sel n = .ok) :
    s.queueCtl req q v good =
      ((s.queueCmd q cmd sel n good).unpark (q / 256)).queueRecord req q (Reg.QM_QCMD (q / 256) (q % 256)) cmd .ok := by
  rw [State.queueCtl, if_pos (validQueue_eq_true.mpr hq)]
  simp only [State.queueCmdWrite, hcmd, hsel, hn, hok, if_true]

/-- A queue command that is refused is recorded, with no effect. -/
theorem State.queueCtl_refused {c : Code} (hcode : s.queueCmdCode q cmd sel n = c) (hc : c ≠ .ok) :
    s.queueCtl req q v good = s.queueRecord req q (Reg.QM_QCMD (q / 256) (q % 256)) cmd c := by
  rw [State.queueCtl, if_pos (validQueue_eq_true.mpr hq)]
  simp only [State.queueCmdWrite, hcmd, hsel, hn, hcode, if_neg hc]

end

/-- The word that READ writes to QM_QCMD. -/
theorem readWord_fields (n : BitVec 15) :
    bitsOf (3 + n.toNat * 2 ^ 16) 0 4 = 3 ∧ bitsOf (3 + n.toNat * 2 ^ 16) 8 1 = 0 ∧ bitsOf (3 + n.toNat * 2 ^ 16) 16 15 = n.toNat := by
  have hn : n.toNat < 32768 := n.isLt
  simp only [bitsOf]
  omega

/-- READ, by the word that it writes. -/
theorem State.queueRead_taken {s : State} {q : Nat} {n : BitVec 15} (req : Nat) (hq : q < 1024)
    (hok : s.queueCmdCode q 3 0 n.toNat = .ok) :
    s.queueCtl req q (3 + n.toNat * 2 ^ 16) 0 =
      ((s.queueCmd q 3 0 n.toNat 0).unpark (q / 256)).queueRecord req q (Reg.QM_QCMD (q / 256) (q % 256)) 3 .ok := by
  obtain ⟨hcmd, hsel, hlen⟩ := readWord_fields n
  exact State.queueCtl_taken hq hcmd hsel hlen hok

theorem State.queueRead_refused {s : State} {q : Nat} {n : BitVec 15} {c : Code} (req : Nat) (hq : q < 1024)
    (hcode : s.queueCmdCode q 3 0 n.toNat = c) (hc : c ≠ .ok) :
    s.queueCtl req q (3 + n.toNat * 2 ^ 16) 0 = s.queueRecord req q (Reg.QM_QCMD (q / 256) (q % 256)) 3 c := by
  obtain ⟨hcmd, hsel, hlen⟩ := readWord_fields n
  exact State.queueCtl_refused hq hcmd hsel hlen hcode hc

theorem qActive_ne_qDisabled : ¬ qActive = qDisabled := by decide
theorem qBroken_ne_qDisabled : ¬ qBroken = qDisabled := by decide
theorem qBroken_ne_qActive : ¬ qBroken = qActive := by decide
theorem qDisabled_ne_qActive : ¬ qDisabled = qActive := by decide
theorem qDisabled_ne_qBroken : ¬ qDisabled = qBroken := by decide

/-- Settles O23: each command from its row of Table 10-4, taken or refused. -/
theorem queueCommandsComplete : Obligations.QueueCommandsComplete := by
  refine ⟨?_, ?_, ?_, ?_, ?_, ?_, ?_, ?_, ?_, ?_, ?_, ?_, ?_, ?_, ?_, ?_, ?_, ?_, ?_, ?_⟩
  · dsimp only
    intro s req q w value hq hw hstate
    have hvalue : value.toNat % 2 ^ 32 = value.toNat := Nat.mod_eq_of_lt value.isLt
    refine gives_of_effect rfl ((if_pos (by simp [hq, hw])).trans ?_)
    simp only [State.queueDescWrite, if_pos hstate, if_true, hvalue]
  · intro s req q w value hq hw hstate
    refine gives_of_effect rfl ((if_pos (by simp [hq, hw])).trans ?_)
    simp only [State.queueDescWrite, if_neg hstate, reduceCtorEq, if_false]
  · intro s req q hq hstate hcheck
    refine gives_of_effect rfl ((State.queueCtl_taken hq (cmd := 1) rfl rfl rfl ?_).trans rfl)
    simp only [State.queueCmdCode, if_pos hstate, hcheck]
  · intro s req q hq hstate hcheck
    refine gives_of_effect rfl (State.queueCtl_refused hq (cmd := 1) rfl rfl rfl ?_ hcheck)
    simp only [State.queueCmdCode, if_pos hstate]
  · intro s req q hq hstate hwhole
    refine gives_of_effect rfl ((State.queueCtl_taken hq (cmd := 2) rfl rfl rfl ?_).trans ?_)
    · simp only [State.queueCmdCode, if_pos hstate]
    · simp only [State.queueCmd, if_neg hwhole]
  · intro s req q hq hstate hbroken
    refine gives_of_effect rfl ((State.queueCtl_taken hq (cmd := 2) rfl rfl rfl ?_).trans ?_)
    · simp only [State.queueCmdCode, if_pos hstate]
    · simp only [State.queueCmd, if_pos hbroken]
  · intro s req q hq hstate
    refine gives_of_effect rfl (State.queueCtl_refused hq (cmd := 2) rfl rfl rfl ?_ (by decide))
    simp only [State.queueCmdCode, if_neg hstate]
  · intro s req q n hq hstate hpos hmax hcommit
    have hargs : ¬ (n.toNat = 0 ∨ 16384 < n.toNat ∨ s.qfld q Reg.QM_QCOMMIT_POS < s.qfld q Reg.QM_QRP_POS + n.toNat) := by omega
    refine gives_of_effect rfl ((State.queueRead_taken req hq ?_).trans ?_)
    · simp only [State.queueCmdCode, if_neg hstate, if_neg hargs]
    · simp only [State.queueCmd]
  · intro s req q n hq hstate hargs
    refine gives_of_effect rfl (State.queueRead_refused req hq ?_ (by decide))
    simp only [State.queueCmdCode, if_neg hstate, if_pos hargs]
  · intro s req q hq hstate
    refine gives_of_effect rfl ((State.queueCtl_taken hq (cmd := 4) rfl rfl rfl ?_).trans ?_)
    · simp only [State.queueCmdCode, if_neg hstate]
    · simp only [State.queueCmd]
  · intro s req q hq hstate hmark
    refine gives_of_effect rfl ((State.queueCtl_taken hq (cmd := 5) rfl rfl rfl ?_).trans ?_)
    · simp [State.queueCmdCode, hstate, hmark]
    · simp only [State.queueCmd]
  · intro s req q hq hstate
    refine gives_of_effect rfl ((State.queueCtl_taken hq (cmd := 6) (sel := 0) rfl rfl rfl ?_).trans ?_)
    · simp [State.queueCmdCode, hstate]
    · simp only [State.queueCmd, if_true]
  · intro s req q hq hstate hmark
    refine gives_of_effect rfl ((State.queueCtl_taken hq (cmd := 6) (sel := 1) rfl rfl rfl ?_).trans ?_)
    · simp [State.queueCmdCode, hstate, hmark]
    · simp only [State.queueCmd, Nat.one_ne_zero, if_false]
  · intro s req q hq hstate
    refine gives_of_effect rfl ((State.queueCtl_taken hq (cmd := 7) rfl rfl rfl ?_).trans ?_)
    · simp only [State.queueCmdCode, if_neg hstate]
    · simp only [State.queueCmd]
  · intro s req q n hq hbroken p hp
    simp only [List.mem_cons, List.not_mem_nil, or_false] at hp
    rcases hp with rfl | rfl | rfl | rfl | rfl | rfl | rfl
    · refine gives_of_effect rfl (State.queueCtl_refused hq (cmd := 1) rfl rfl rfl ?_ (by decide))
      simp only [State.queueCmdCode, hbroken, if_neg qBroken_ne_qDisabled]
    · refine gives_of_effect rfl (State.queueRead_refused req hq ?_ (by decide))
      simp only [State.queueCmdCode, hbroken, if_true]
    · refine gives_of_effect rfl (State.queueCtl_refused hq (cmd := 4) rfl rfl rfl ?_ (by decide))
      simp only [State.queueCmdCode, hbroken, if_true]
    · refine gives_of_effect rfl (State.queueCtl_refused hq (cmd := 5) rfl rfl rfl ?_ (by decide))
      simp only [State.queueCmdCode, hbroken, true_or, if_true]
    · refine gives_of_effect rfl (State.queueCtl_refused hq (cmd := 6) rfl rfl rfl ?_ (by decide))
      simp only [State.queueCmdCode, hbroken, true_or, if_true]
    · refine gives_of_effect rfl (State.queueCtl_refused hq (cmd := 6) rfl rfl rfl ?_ (by decide))
      simp only [State.queueCmdCode, hbroken, true_or, if_true]
    · refine gives_of_effect rfl (State.queueCtl_refused hq (cmd := 7) rfl rfl rfl ?_ (by decide))
      simp only [State.queueCmdCode, hbroken, if_true]
  · intro s req q hq hmark p hp
    simp only [List.mem_cons, List.not_mem_nil, or_false] at hp
    rcases hp with rfl | rfl
    · refine gives_of_effect rfl (State.queueCtl_refused hq (cmd := 5) rfl rfl rfl ?_ (by decide))
      simp only [State.queueCmdCode, hmark, Bool.not_false, or_true, if_true]
    · refine gives_of_effect rfl (State.queueCtl_refused hq (cmd := 6) (sel := 1) rfl rfl rfl ?_ (by decide))
      simp only [State.queueCmdCode, hmark, Bool.not_false, and_self, or_true, if_true]
  · intro s req q hq hactive
    refine gives_of_effect rfl (State.queueCtl_refused hq (cmd := 1) rfl rfl rfl ?_ (by decide))
    simp only [State.queueCmdCode, hactive, if_neg qActive_ne_qDisabled]
  · intro s req q good hq hactive
    refine gives_of_effect rfl (State.queueCtl_refused hq (cmd := 8) rfl rfl rfl ?_ (by decide))
    simp only [State.queueCmdCode, hactive, if_true]
  · dsimp only
    intro s req q good hq hdisabled
    refine gives_of_effect rfl ((State.queueCtl_taken hq (cmd := 8) rfl rfl rfl ?_).trans ?_)
    · simp only [State.queueCmdCode, hdisabled, if_neg qDisabled_ne_qActive]
    · simp only [State.queueCmd, hdisabled, if_neg qDisabled_ne_qBroken]
  · intro s req q good hq hbroken
    refine gives_of_effect rfl ((State.queueCtl_taken hq (cmd := 8) rfl rfl rfl ?_).trans ?_)
    · simp only [State.queueCmdCode, hbroken, if_neg qBroken_ne_qActive]
    · simp only [State.queueCmd, hbroken, if_true]

end Sys2Proof.Machine
end

section
/-! What reaches and leaves a queue: segments, appends, notices, credit, reads, the aperture (O24). -/

namespace Sys2Proof.Machine

/-! ## Segments and appends -/

/-- The format of a segment (R365): its length, its reserved bits, and what a marker or data may carry. -/
def segmentOk (f : Flit) (b : Nat) : Bool :=
  decide (7 ≤ f.blen) && decide (f.blen - 7 ≤ 248) && bitsOf b 13 3 == 0 &&
    (if hasBit b 12 then f.blen - 7 == 0 && !hasBit b 10 && !hasBit b 11
      else f.blen - 7 != 0 && (hasBit b 11 || (f.blen - 7) % 8 == 0))

theorem segmentOk_data {f : Flit} {b d : Nat} (hlen : f.blen = 7 + d) (hd : d ≠ 0) (hmax : d ≤ 248) (hrsv : bitsOf b 13 3 = 0)
    (hmarker : hasBit b 12 = false) (hwhole : (hasBit b 11 || d % 8 == 0) = true) : segmentOk f b = true := by
  simp only [segmentOk, hlen, Nat.le_add_right, Nat.add_sub_cancel_left, hmax, hrsv, hmarker, hwhole, bne_iff_ne.mpr hd,
    decide_true, beq_self_eq_true, Bool.and_self, Bool.false_eq_true, if_false]

theorem segmentOk_marker {f : Flit} {b : Nat} (hlen : f.blen = 7) (hends : bitsOf b 10 2 = 0) (hmarker : hasBit b 12 = true)
    (hrsv : bitsOf b 13 3 = 0) : segmentOk f b = true := by
  have hsop : hasBit b 10 = false := by
    have h := testBit_bitsOf b 10 2 0
    rw [hends] at h
    simpa [hasBit] using h.symm
  have heop : hasBit b 11 = false := by
    have h := testBit_bitsOf b 10 2 1
    rw [hends] at h
    simpa [hasBit] using h.symm
  simp [segmentOk, hlen, hrsv, hmarker, hsop, heop]

theorem segmentOk_eq_false {f : Flit} {b : Nat}
    (h : f.blen < 7 ∨ 255 < f.blen ∨ bitsOf b 13 3 ≠ 0 ∨ (hasBit b 12 = false ∧ f.blen = 7) ∨
      (hasBit b 12 = false ∧ hasBit b 11 = false ∧ (f.blen - 7) % 8 ≠ 0) ∨ (hasBit b 12 = true ∧ 7 < f.blen) ∨
      (hasBit b 12 = true ∧ (hasBit b 10 = true ∨ hasBit b 11 = true))) : segmentOk f b = false := by
  rcases h with h | h | h | ⟨hm, h⟩ | ⟨hm, he, h⟩ | ⟨hm, h⟩ | ⟨hm, h⟩
  · simp [segmentOk, Nat.not_le.mpr h]
  · have hlong : ¬ f.blen - 7 ≤ 248 := by omega
    simp [segmentOk, hlong]
  · simp [segmentOk, h]
  · simp [segmentOk, hm, h]
  · simp [segmentOk, hm, he, h]
  · have hdata : ¬ f.blen - 7 = 0 := by omega
    simp [segmentOk, hm, hdata]
  · rcases h with h | h <;> simp [segmentOk, hm, h]

section
variable {s : State} {h vc : Nat} {f : Flit} {fs : List Flit} (hh : h < 4)
  (hfront : niFront (shardNode h) (s.vcIn (shardNode h) 6 vc).q = .packet (f :: fs))
include hh hfront

theorem gives_segment (hopc : f.opc = opCap) (hclean : (f :: fs).any (·.poison) = false) :
    Gives (.capSegmentReceive h vc) s
      (((s.niPop (shardNode h) 0 vc (fs.length + 1)).segment h f (packetBody (f :: fs))).unpark h) := by
  refine gives_of_effect rfl ?_
  simp only [if_neg (Nat.not_le.mpr hh), hfront, hopc, hclean, ne_eq, not_true_eq_false, Bool.false_eq_true, if_false,
    List.length_cons]

theorem gives_segmentPoisoned (hopc : f.opc = opCap) (hpoison : (f :: fs).any (·.poison) = true) :
    Gives (.capSegmentReceive h vc) s (s.niPoisoned (shardNode h) 0 vc (fs.length + 1) f) := by
  refine gives_of_effect rfl ?_
  simp only [if_neg (Nat.not_le.mpr hh), hfront, hopc, hpoison, ne_eq, not_true_eq_false, if_false, if_true, List.length_cons]

end

section
variable {s : State} {h b : Nat} {f : Flit}

/-- A segment that has the format of R365 for a queue of this shard. -/
theorem State.segment_formatted (hq : bitsOf b 0 10 / 256 = h) (hok : segmentOk f b = true) :
    s.segment h f b =
      (let q := bitsOf b 0 10
       let d := f.blen - 7
       if f.rid ≠ s.qfld q Reg.QM_QDESC0_PROD then s.queueDrop q true
       else if s.qstate q ≠ qActive then s.refuseSegment q (hasBit b 10) d
       else
         let rx := s.qfld q Reg.QM_QRXCNT_COUNT
         let u := s.setQfld q Reg.QM_QRXCNT_COUNT (rx + (d + 7) / 8)
         if s.qfld q Reg.QM_QLIMIT_LIMIT < rx + (d + 7) / 8 then u.queueDrop q true
         else if hasBit b 12 then u.queueIn q (.marker (bitsOf b 16 16) (bitsOf b 32 32))
         else u.queueIn q (.data (hasBit b 10) (hasBit b 11) f.stale (bitsOf b 32 32) d (b / 2 ^ 64 % 2 ^ (8 * d)))) := by
  have hgood : ¬ (bitsOf b 0 10 / 256 ≠ h ∨ (!segmentOk f b) = true) := by simp [hq, hok]
  exact if_neg hgood

theorem State.segment_malformed (h' : bitsOf b 0 10 / 256 ≠ h ∨ segmentOk f b = false) :
    s.segment h f b = s.srcBad h (bitsOf b 0 10) := by
  have hbad : bitsOf b 0 10 / 256 ≠ h ∨ (!segmentOk f b) = true := by simpa using h'
  exact if_pos hbad

end

/-! ## The aperture of the store (R404) -/

/-- A read within one page, of a page that is no page of a usable module, gives zero. -/
theorem State.apertureRead_zero {s : State} {req a n : Nat} (hpage : a % 4096 + n ≤ 4096)
    (hlost : s.on (Reg.QM_APCTL_EN 0) = false ∨
      ∀ h, s.pageShard (s.fld (Reg.QM_APCTL_BASE 0) * 2 ^ 23 + a / 4096) = some h →
        s.pageUsable h (s.fld (Reg.QM_APCTL_BASE 0) * 2 ^ 23 + a / 4096) = false) :
    s.apertureRead req a n none = s.emit (.readData req a 0) := by
  have hdone : ∀ fuel got, n ≤ got → s.apertureGo req a n none fuel got 0 = s.apertureDone req a none (0 % 2 ^ (8 * n)) := by
    intro fuel got hgot
    cases fuel with
    | zero => rfl
    | succ fuel => exact if_pos hgot
  have hzero : s.apertureDone req a none (0 % 2 ^ (8 * n)) = s.emit (.readData req a 0) := by
    rw [Nat.zero_mod]
    rfl
  rw [← hzero]
  by_cases hn : n ≤ 0
  · exact hdone _ 0 hn
  · have hrest : n ≤ 0 + (4096 - (a + 0) % 4096) := by omega
    rw [State.apertureRead, State.apertureGo, if_neg hn]
    rcases hlost with hoff | hlost
    · simp only [hoff, Bool.false_eq_true, if_false]
      exact hdone _ _ hrest
    · simp only [Nat.add_zero]
      split
      · next h hfound =>
        have hshard : s.pageShard (s.fld (Reg.QM_APCTL_BASE 0) * 2 ^ 23 + a / 4096) = some h := by
          split at hfound
          · exact hfound
          · cases hfound
        rw [hlost h hshard, if_neg Bool.false_ne_true]
        exact hdone _ _ hrest
      · exact hdone _ _ hrest

/-! ## Reads of a queue's port (R383–R386) -/

theorem gives_queueReadPortRead {s : State} {req q off n : Nat} (hq : q < 1024) (hwindow : off + n ≤ 0x100000) :
    Gives (.queueReadPortRead req q off n) s ((s.portRead req none q (s.qfld q Reg.QM_QRP_POS) off n).unpark (q / 256)) :=
  gives_of_effect rfl (if_pos (by simp [hq, hwindow]))

/-- Settles O24: a segment by its format and its queue, a read by what is on the chip, the rest from the guard of each event. -/
theorem queueDataComplete : Obligations.QueueDataComplete := by
  refine ⟨?_, ?_, ?_, ?_, ?_, ?_, ?_, ?_, ?_, ?_, ?_, ?_, ?_, ?_, ?_, ?_, ?_⟩
  · dsimp only
    intro s h vc d f fs hh hfront hopc hclean hlen hd hmax hrsv hmarker hwhole hq hprod hstate
    have hgives := gives_segment hh hfront hopc hclean
    rw [State.segment_formatted hq (segmentOk_data hlen hd hmax hrsv hmarker hwhole)] at hgives
    simpa only [hlen, Nat.add_sub_cancel_left, hprod, hstate, hmarker, ne_eq, not_true_eq_false, Bool.false_eq_true, if_false]
      using hgives
  · dsimp only
    intro s h vc f fs hh hfront hopc hclean hlen hends hmarker hrsv hq hprod hstate hcredit
    have hgives := gives_segment hh hfront hopc hclean
    rw [State.segment_formatted hq (segmentOk_marker hlen hends hmarker hrsv)] at hgives
    simpa [hlen, hprod, hstate, hmarker, Nat.not_lt.mpr hcredit] using hgives
  · dsimp only
    intro s h vc f fs hh hfront hopc hclean hbad
    have hgives := gives_segment hh hfront hopc hclean
    rwa [State.segment_malformed (hbad.imp id segmentOk_eq_false)] at hgives
  · dsimp only
    intro s h vc d f fs hh hfront hopc hclean hlen hd hmax hrsv hmarker hwhole hq hstate
    have hgives := gives_segment hh hfront hopc hclean
    rw [State.segment_formatted hq (segmentOk_data hlen hd hmax hrsv hmarker hwhole)] at hgives
    by_cases hprod : f.rid = (s.niPop (shardNode h) 0 vc (fs.length + 1)).qfld (bitsOf (packetBody (f :: fs)) 0 10) Reg.QM_QDESC0_PROD
    · rw [if_pos hprod]
      simpa only [hlen, Nat.add_sub_cancel_left, if_neg (not_not.mpr hprod), if_pos (hstate hprod)] using hgives
    · rw [if_neg hprod]
      simpa only [if_pos hprod] using hgives
  · intro s h vc f fs hh hfront hpoison
    refine ⟨fun hopc => gives_segmentPoisoned hh hfront hopc hpoison, fun hopc hlo hhi => ?_⟩
    have hplace : ¬ (f.opc ≠ opWr ∨ packetBody (f :: fs) % 2 ^ 48 < 0x100000 ∨ 0x200000 ≤ packetBody (f :: fs) % 2 ^ 48) := by omega
    refine gives_of_effect rfl ?_
    simp only [if_neg (Nat.not_le.mpr hh), hfront, if_neg hplace, hpoison, if_true, List.length_cons]
  · dsimp only
    intro s h vc f fs hh hfront hopc hclean hlo hhi
    have hplace : ¬ (f.opc ≠ opWr ∨ packetBody (f :: fs) % 2 ^ 48 < 0x100000 ∨ 0x200000 ≤ packetBody (f :: fs) % 2 ^ 48) := by omega
    refine gives_of_effect rfl ?_
    simp only [if_neg (Nat.not_le.mpr hh), hfront, if_neg hplace, hclean, Bool.false_eq_true, if_false, List.length_cons]
  · dsimp only
    intro s q m l hnotes hroom
    refine gives_of_effect rfl ?_
    simp only [hnotes]
    exact if_neg hroom
  · dsimp only
    intro s q m l hnotes hfull
    refine gives_of_effect rfl ?_
    simp only [hnotes]
    exact if_pos hfull
  · dsimp only
    intro s q limit hq hstate hlo hhi
    refine gives_of_effect rfl ?_
    simp only [validQueue_eq_true.mpr hq, hstate, Nat.not_lt.mpr hlo, Nat.not_lt.mpr hhi, Bool.not_true, bne_self_eq_false, decide_false,
      Bool.or_self, Bool.false_eq_true, if_false]
  · dsimp only
    intro s req h value hh
    refine ⟨fun hfits => gives_of_effect rfl ((if_pos hh).trans ?_), fun hpast => gives_of_effect rfl ((if_pos hh).trans ?_)⟩
    · simp only [State.noticeCons, hfits, decide_true, if_true]
    · simp only [State.noticeCons, Nat.not_le.mpr hpast, decide_false, Bool.false_eq_true, if_false]
  · dsimp only
    intro s req q off n hq hwindow hfirst hstate hchip
    have hgives := gives_queueReadPortRead (s := s) (req := req) hq hwindow
    simpa only [State.portRead, hfirst, hchip, Bool.not_true, Bool.and_false, Bool.or_self, Bool.false_eq_true, if_false,
      State.answerRead] using hgives
  · intro s req q off n hq hwindow hfirst hbroken
    have hgives := gives_queueReadPortRead (s := s) (req := req) hq hwindow
    simpa [State.portRead, hfirst, hbroken, State.readPort, State.answerRead] using hgives
  · dsimp only
    intro s req q off n hq hwindow hwaits
    have hpark : ((s.shard (q / 256)).parked.any (fun p => p.req == req) || (s.qstate q != qBroken &&
        !s.onChip q (portWords (s.qfld q Reg.QM_QRP_POS) off n ++ portTags (s.qfld q Reg.QM_QRP_POS) off n))) = true := by
      rcases hwaits with h | ⟨hstate, hchip⟩
      · rw [h, Bool.true_or]
      · rw [hchip, bne_iff_ne.mpr hstate, Bool.not_false, Bool.and_self, Bool.or_true]
    have hgives := gives_queueReadPortRead (s := s) (req := req) hq hwindow
    simpa only [State.portRead, if_pos hpark] using hgives
  · dsimp only
    intro s req a n h hwindow hn hen hshard husable
    have hstarts : ¬ n ≤ 0 := by omega
    refine gives_of_effect rfl ((if_pos hwindow).trans ?_)
    rw [State.apertureRead, State.apertureGo, if_neg hstarts]
    simp only [hen, if_true, Nat.add_zero, hshard, husable]
  · intro s req a n hwindow hpage hoff
    exact gives_of_effect rfl ((if_pos hwindow).trans (State.apertureRead_zero hpage (.inl hoff)))
  · dsimp only
    intro s req a n hwindow hn hpage hlost
    refine gives_of_effect rfl ((if_pos hwindow).trans (State.apertureRead_zero hpage (.inr fun h hshard => ?_)))
    rcases hlost with hnone | ⟨h', hshard', hunusable⟩
    · exact absurd (hnone.symm.trans hshard) (by simp)
    · cases Option.some.inj (hshard'.symm.trans hshard)
      exact hunusable
  · intro s q hq hexh
    exact gives_of_effect rfl (if_pos (by simp [hq, hexh]))

end Sys2Proof.Machine
end

section
/-! Store pages, the ranges of a shard, and the capture ports of the fabric (O25). -/

namespace Sys2Proof.Machine

theorem segmentMarker {s : State} {n entry pri rid q code tick : Nat} {l : List CapItem} (h : (s.capCredit q).resync = false) :
    s.sendSegment n entry pri rid q (.marker code tick :: l) false =
      (s.niPost n 0 entry opCap pri rid 0 0 false 7 (capHeader q false false true code tick), l) := by
  simp only [State.sendSegment, h, Bool.false_eq_true, if_false]

/-- Settles O25: each event from its guard, a range or a segment from what it asks for. -/
theorem storeAndCaptureComplete : Obligations.StoreAndCaptureComplete := by
  refine ⟨?_, ?_, ?_, ?_, ?_, ?_, ?_, ?_, ?_, ?_, ?_, ?_, ?_, ?_, ?_, ?_, ?_, ?_, ?_, ?_⟩
  · dsimp only
    intro s q first page bad rest hq havail hgroup hgood hpage
    refine gives_of_effect rfl ?_
    have hpair : (s.checkLinks q ((List.range 16).map (first + ·))).1.spillPage q bad =
        (((s.checkLinks q ((List.range 16).map (first + ·))).1.spillPage q bad).1, some page, rest) := by rw [← hpage]
    simp only [validQueue_eq_true.mpr hq, havail, Bool.and_self, if_true, hgroup, hgood, Bool.false_eq_true, if_false]
    rw [hpair]
  · dsimp only
    intro s q first bad hq havail hgroup
    refine ⟨fun hbad => gives_of_effect rfl ?_, fun hgood hnone => gives_of_effect rfl ?_⟩
    · simp only [validQueue_eq_true.mpr hq, havail, Bool.and_self, if_true, hgroup, hbad]
    · have hpair : (s.checkLinks q ((List.range 16).map (first + ·))).1.spillPage q bad =
          (((s.checkLinks q ((List.range 16).map (first + ·))).1.spillPage q bad).1, none,
            ((s.checkLinks q ((List.range 16).map (first + ·))).1.spillPage q bad).2.2) := by rw [← hnone]
      simp only [validQueue_eq_true.mpr hq, havail, Bool.and_self, if_true, hgroup, hgood, Bool.false_eq_true, if_false]
      rw [hpair]
  · dsimp only
    intro s q j hspill hisSome hisSome2 hisSome3
    refine gives_of_effect rfl ?_
    simp [hspill, hisSome, hisSome2, hisSome3]
  · dsimp only
    intro s q p hq hstate hwanted
    refine gives_of_effect rfl ?_
    simp only [validQueue_eq_true.mpr hq, bne_iff_ne.mpr hstate, Bool.and_self, if_true, hwanted]
  · dsimp only
    intro s t q data lo hi j hrefill hdone hdone2 hdone3 hrecordOk hfirst
    refine gives_of_effect rfl ?_
    simp only [hrefill, hdone, hdone2, hdone3, hrecordOk, hfirst, Bool.not_true, Bool.false_eq_true, if_false]
  · intro s q data lo hi j hrefill hdone hdone2 hdone3 hrecordOk
    refine gives_of_effect rfl ?_
    simp only [hrefill, hdone, hdone2, hdone3, hrecordOk, Bool.not_false, if_true]
  · intro s t hstore hstage
    refine gives_of_effect rfl ?_
    simp [hstore, hstage]
  · intro s req h count value hh hpagesUsed
    refine gives_of_effect rfl ?_
    simp [State.pageRange, hh, hpagesUsed]
  · dsimp only
    intro s req h value hh hunused hcount
    have hfits : ¬ 2 ^ 33 < value.toNat % 2 ^ 33 := Nat.not_lt.mpr (Nat.mod_lt _ (by decide)).le
    have hnone : ((List.range 4).any fun _ => false) = false := rfl
    refine gives_of_effect rfl ((if_pos hh).trans ?_)
    simp only [State.pageRange, hunused, hcount, hfits, Nat.add_zero, bne_self_eq_false, Bool.and_false, Bool.false_and, hnone,
      Bool.false_eq_true, or_self, if_false, if_true, ne_eq, not_true_eq_false]
  · intro s req h value hh hunused hpast
    refine gives_of_effect rfl ((if_pos hh).trans ?_)
    simp only [State.pageRange, hunused, hpast, true_or, if_true, ne_eq, not_true_eq_false, if_false, reduceCtorEq]
  · intro s req h hh hidle
    refine gives_of_effect rfl ((if_pos hh).trans ?_)
    simp [State.shardCmd, bitsOf, hidle]
  · intro s req h l hh hbusy
    refine gives_of_effect rfl ((if_pos hh).trans ?_)
    simp [State.shardCmd, bitsOf, hbusy]
  · intro s h l hreclaim
    refine gives_of_effect rfl ?_
    simp [hreclaim]
  · dsimp only
    intro s r i hon hi hmode hp2 hack hvalid hroom
    refine gives_of_effect rfl ?_
    simp only [hon, Nat.not_le.mpr hi, hmode, Nat.not_lt.mpr hp2, hack, hvalid, hroom, decide_true, decide_false, Bool.not_true,
      bne_self_eq_false, Bool.or_self, Bool.and_self, Bool.false_eq_true, if_false, if_true]
  · dsimp only
    intro s r i code tick l hr hi hmode hbuf hsync
    refine gives_of_effect rfl ?_
    simp only [hr, Nat.not_le.mpr hi, beq_eq_false_iff_ne.mpr hmode, decide_false, Bool.not_true, Bool.or_self, Bool.false_eq_true,
      if_false, hbuf, segmentMarker hsync, List.length_cons, Nat.lt_add_one, if_true, Nat.add_sub_cancel_left]
  · dsimp only
    intro s t r i rest hr hi hmode hsend hsent
    refine gives_of_effect rfl ?_
    simp only [hr, Nat.not_le.mpr hi, beq_eq_false_iff_ne.mpr hmode, decide_false, Bool.not_true, Bool.or_self, Bool.false_eq_true,
      if_false, hsend, hsent, if_true]
  · dsimp only
    intro s r i hr hi hreads hcmds hpair hroom
    have hflush : s.cqpFlush r i 0 = s := rfl
    refine gives_of_effect rfl ?_
    simp only [hr, Nat.not_le.mpr hi, beq_eq_false_iff_ne.mpr hreads, decide_false, Bool.not_true, Bool.or_self, Bool.false_eq_true,
      if_false, hcmds, List.length_nil, hflush, hpair, Option.isSome_none, Nat.not_le.mpr hroom, List.isEmpty_nil, or_self]
  · dsimp only
    intro s r i tag d hr hi hdone hnode hrid href hcode hpair hvalid
    have hother : (2 * i + 1 == 1000 + i) = false := by simp; omega
    have hfound : s.cqpDone r (2 * i + 1) = some d := by simp [State.cqpDone, hdone, hnode, hrid, href]
    refine gives_of_effect rfl ?_
    simp [hr, Nat.not_le.mpr hi, hdone, href, hother, hpair, hfound, hcode, hvalid]
    rfl
  · intro s r i hfabricOn hi hcqpReads htoken hrail
    refine gives_of_effect rfl ?_
    simp [hfabricOn, hi, hcqpReads, htoken, hrail]
  · dsimp only
    intro s r i hfabricOn hi hcqpReads htoken hracked hrail
    refine gives_of_effect rfl ?_
    simp [hfabricOn, hi, hcqpReads, htoken, hracked, hrail]
end Sys2Proof.Machine
end

section
/-! Lanes are enabled, and their ports train to UP (O26). -/

namespace Sys2Proof.Machine

@[simp] theorem validLane_eq_true {n : Nat} : validLane n = true ↔ n < 128 := decide_eq_true_iff

/-! ## What training leaves of a port's lanes -/

theorem State.portLanes_congr {s t : State} {h : Nat} (hrd : t.rd (Reg.LG_BOND (h / 8)) = s.rd (Reg.LG_BOND (h / 8))) :
    t.portLanes h = s.portLanes h := by
  have hbond : t.fld (Reg.LG_BOND_WIDTH (h / 8)) = s.fld (Reg.LG_BOND_WIDTH (h / 8)) := congrArg (Reg.LG_BOND_WIDTH (h / 8)).get hrd
  simp only [State.portLanes, State.portWidth, hbond]

theorem State.portLanes_setSkew (s : State) (h n x : Nat) : (s.setFld (Reg.LN_STATUS_SKEW n) x).portLanes h = s.portLanes h := by
  refine State.portLanes_congr (s.rd_setFld_other _ _ ?_)
  simp only [Reg.LN_STATUS_SKEW, Reg.LN_STATUS, Reg.LG_BOND]
  omega

theorem State.portLanes_trained (s : State) (h n txeq rxeq : Nat) (partner : Bool) :
    (s.trained n txeq rxeq partner).portLanes h = s.portLanes h := by
  have hstatus : Reg.LG_BOND (h / 8) ≠ Reg.LN_STATUS n := by simp only [Reg.LN_STATUS, Reg.LG_BOND]; omega
  have htx : Reg.LG_BOND (h / 8) ≠ Reg.LN_TXEQ n := by simp only [Reg.LN_TXEQ, Reg.LG_BOND]; omega
  have hrx : Reg.LG_BOND (h / 8) ≠ Reg.LN_RXEQ n := by simp only [Reg.LN_RXEQ, Reg.LG_BOND]; omega
  refine State.portLanes_congr ?_
  unfold State.trained
  rw [State.rd_setBit_other _ _ _ hstatus, State.rd_setBit_other _ _ _ hstatus, State.rd_wr_other _ _ hrx, State.rd_wr_other _ _ htx]

/-- What is done to each lane of a port, lane by lane, may look the port's lanes up at the start. -/
theorem State.foldl_portLanes {α : Type} (h : Nat) (lane : α → Nat) (act : State → α → State)
    (hact : ∀ u e, (act u e).portLanes h = u.portLanes h) (l : List α) (s : State) :
    l.foldl (fun u e => if (u.portLanes h).contains (lane e) then act u e else u) s =
      l.foldl (fun u e => if (s.portLanes h).contains (lane e) then act u e else u) s := by
  suffices hall : ∀ u : State, u.portLanes h = s.portLanes h →
      l.foldl (fun u e => if (u.portLanes h).contains (lane e) then act u e else u) u =
        l.foldl (fun u e => if (s.portLanes h).contains (lane e) then act u e else u) u from hall s rfl
  induction l with
  | nil => exact fun _ _ => rfl
  | cons e l ih =>
    intro u hu
    simp only [List.foldl_cons, hu]
    refine ih _ ?_
    split
    · exact (hact u e).trans hu
    · exact hu

/-! ## The write of LN_CTL -/

/-- A write of LN_CTL that is in order, of lane `n`, to the value `v`. -/
def State.laneCtlWord (s : State) (n v : Nat) : State :=
  s.wr (Reg.LN_CTL n) (BitVec.ofNat 64 (v % 2 ^ 16 / 2 * 2 % 2 ^ 4 + bitsOf v 8 8 * 2 ^ 8 + bit (s.on (Reg.LN_CTL_EN n))))

theorem State.laneCtlWrite_taken {s : State} {req n v : Nat} {mid : Bool} (hrole : hasBit v 0 = true → s.laneRole n ≠ 0)
    (hrate : bitsOf v 8 8 ≠ 0) (hshort : hasBit v 0 = true → s.portHead n = n → s.dofsTooShort (n / 8) = false) :
    s.laneCtlWrite req n v mid =
      (if (s.laneCtlWord n v).on (Reg.LN_STATUS_ST_HOLD n) then
          (s.laneCtlWord n v).setLane n { (s.laneCtlWord n v).lane n with enPend := some (hasBit v 0) }
        else (s.laneCtlWord n v).laneEnable n (hasBit v 0) mid).laneRecord req n (Reg.LN_CTL n) 0 .ok := by
  have hnoRole : (hasBit v 0 && s.laneRole n == 0) = false := by
    simpa only [Bool.and_eq_false_imp, beq_eq_false_iff_ne] using hrole
  have hfits : (hasBit v 0 && s.portHead n == n && s.dofsTooShort (n / 8)) = false := by
    simpa only [Bool.and_eq_false_imp, Bool.and_eq_true, beq_iff_eq, and_imp] using hshort
  simp only [State.laneCtlWrite, hnoRole, hfits, if_neg hrate, Bool.false_eq_true, if_false, ne_eq, not_true_eq_false, State.laneCtlWord]
  rfl

/-- Settles O26: a write of LN_CTL from the rule for one that is in order, the rest from the guard of each event. -/
theorem laneTrainingCompletes : Obligations.LaneTrainingCompletes := by
  refine ⟨?_, ?_, ?_, ?_, ?_, ?_, ?_, ?_, ?_, ?_, ?_⟩
  · dsimp only
    intro s req n value hn hrole hen hrate hshort
    have htaken := State.laneCtlWrite_taken (req := req) (mid := false) (fun _ => hrole) hrate (fun _ => hshort)
    rw [hen] at htaken
    refine ⟨fun hhold => gives_of_effect rfl ((if_pos (validLane_eq_true.mpr hn)).trans (htaken.trans ?_)),
      fun hhold => gives_of_effect rfl ((if_pos (validLane_eq_true.mpr hn)).trans (htaken.trans ?_))⟩
    · rw [if_neg (by rw [State.laneCtlWord, hhold]; decide)]
      rfl
    · rw [if_pos (show (s.laneCtlWord n (withBit value.toNat 0)).on (Reg.LN_STATUS_ST_HOLD n) = true from hhold)]
      rfl
  · intro s req n value hn hen
    refine ⟨fun hrole => gives_of_effect rfl ((if_pos (validLane_eq_true.mpr hn)).trans ?_),
      fun hrole hargs => gives_of_effect rfl ((if_pos (validLane_eq_true.mpr hn)).trans ?_)⟩
    · simp [State.laneCtlWrite, hen, hrole]
    · rcases hargs with hrate | ⟨hhead, hshort⟩
      · simp [State.laneCtlWrite, hrole, hrate]
      · simp [State.laneCtlWrite, hen, hrole, hhead, hshort]
  · dsimp only
    intro s req n value mid hn hen hrate
    have htaken := State.laneCtlWrite_taken (s := s) (req := req) (n := n) (mid := mid) (fun h => absurd h (by rw [hen]; decide)) hrate
      (fun h => absurd h (by rw [hen]; decide))
    rw [hen] at htaken
    refine ⟨fun hhold => gives_of_effect rfl ((if_pos (validLane_eq_true.mpr hn)).trans (htaken.trans ?_)),
      fun hhold => gives_of_effect rfl ((if_pos (validLane_eq_true.mpr hn)).trans (htaken.trans ?_))⟩
    · rw [if_neg (by rw [State.laneCtlWord, hhold]; decide)]
      rfl
    · rw [if_pos (show (s.laneCtlWord n (withoutBit value.toNat 0)).on (Reg.LN_STATUS_ST_HOLD n) = true from hhold)]
      rfl
  · intro s req n value mid hn hen hrate
    refine gives_of_effect rfl ((if_pos (validLane_eq_true.mpr hn)).trans ?_)
    simp [State.laneCtlWrite, hen, hrate]
  · dsimp only
    intro s n hn hstate
    exact gives_of_effect rfl (if_pos (by simp [hn, hstate]))
  · intro s n hn hstate hheld
    exact gives_of_effect rfl (if_pos (by simp [hn, hstate, hheld]))
  · dsimp only
    intro s n eq hn hstates
    refine gives_of_effect rfl ((if_pos ?_).trans ?_)
    · simpa [hn] using hstates
    · exact State.foldl_portLanes (s.portHead n) (fun e => e.1) (fun u e => u.trained e.1 e.2.1 e.2.2.1 e.2.2.2)
        (fun u e => u.portLanes_trained _ _ _ _ _) eq _
  · dsimp only
    intro s n skew hn hstates haligned hskew
    have hlock : (validLane n && (s.portLanes (s.portHead n)).all (fun m => s.laneState m == lnLock && decide (4 ≤ (s.lane m).good)) &&
        s.aligned (s.portHead n) && skew.all (fun e => decide (e.2 ≤ 200))) = true := by
      simp only [Bool.and_eq_true, List.all_eq_true, beq_iff_eq, decide_eq_true_eq, validLane_eq_true]
      exact ⟨⟨⟨hn, hstates⟩, haligned⟩, hskew⟩
    refine gives_of_effect rfl ((if_pos hlock).trans (congrArg (fun u : State => u.linkEnter (s.portHead n)) ?_))
    exact State.foldl_portLanes (s.portHead n) (fun e => e.1) (fun u e => u.setFld (Reg.LN_STATUS_SKEW e.1) e.2)
      (fun u e => u.portLanes_setSkew _ _ _) skew _
  · dsimp only
    intro s n hn hstate
    exact gives_of_effect rfl (if_pos (by simpa [hn] using hstate))
  · dsimp only
    intro s n mid hn hstate
    refine ⟨gives_of_effect rfl (if_pos ?_), fun hfails => gives_of_effect rfl (if_pos ?_), gives_of_effect rfl (if_pos ?_),
      gives_of_effect rfl (if_pos ?_)⟩
    · simp [hn, hstate]
    · simp [hn, hstate, hfails]
    · simp [hn, hstate]
    · simp [hn, hstate]
  · dsimp only
    intro s n ppm mid hn hstate hppm
    exact gives_of_effect rfl (if_pos (by simp [hn, hstate, hppm]))

end Sys2Proof.Machine
end

section
/-! Codewords, the commands of a lane, and the group registers (O27). -/

namespace Sys2Proof.Machine

/-- A lane command refused with code `c` is recorded, with no effect (Table 11-12). -/
theorem State.laneCmdWrite_refused {s : State} {n cmd : Nat} {c : Code} {mid : Bool} (req : Nat) (hcmd : cmd % 16 = cmd)
    (hcode : s.laneCmdCode n cmd = c) (hc : c ≠ .ok) :
    s.laneCmdWrite req n cmd mid = s.laneRecord req n (Reg.LN_CMD n) cmd c := by
  simp only [State.laneCmdWrite, hcmd, hcode, if_pos hc]

theorem State.laneCmdCode_held {s : State} {n : Nat} (cmd : Nat) (h : s.on (Reg.LN_STATUS_ST_HOLD n) = true) :
    s.laneCmdCode n cmd = .eBusy := if_pos h

/-- RETRAIN, LOOP_NEAR, PRBS_TX, LOOP_EXIT and the eye commands, each with its code. -/
def laneCommands (req n : Nat) (mid : Bool) : List (Instr × Nat) :=
  [(.laneRetrain req n mid, 1), (.laneLoopNear req n, 2), (.lanePrbsTx req n, 3), (.laneLoopExit req n, 4),
    (.laneEyeStart req n, 5), (.laneEyeAbort req n, 6)]

/-- A lane command refused with code `c` is recorded, with no effect. -/
theorem gives_laneRefused {s : State} {req n : Nat} {mid : Bool} {p : Instr × Nat} {c : Code} (hn : n < 128)
    (hp : p ∈ laneCommands req n mid) (hcode : s.laneCmdCode n p.2 = c) (hc : c ≠ .ok) :
    Gives p.1 s (s.laneRecord req n (Reg.LN_CMD n) p.2 c) := by
  have hlane : validLane n = true := validLane_eq_true.mpr hn
  simp only [laneCommands, List.mem_cons, List.not_mem_nil, or_false] at hp
  rcases hp with rfl | rfl | rfl | rfl | rfl | rfl <;>
    exact gives_of_effect rfl ((if_pos hlane).trans (State.laneCmdWrite_refused req rfl hcode hc))

/-- Every lane that a group write changes rests (R424). -/
theorem State.groupChanges_rest {s : State} {g : Nat} (off value : Nat)
    (h : ∀ i < 8, s.laneState (8 * g + i) = lnOff ∨ s.laneState (8 * g + i) = lnDisabled) :
    ((s.groupChanges g off value).all fun i => s.laneState (8 * g + i) == lnOff || s.laneState (8 * g + i) == lnDisabled) = true := by
  rw [List.all_eq_true]
  intro i hi
  unfold State.groupChanges at hi
  simpa using h i (List.mem_range.mp (List.mem_filter.mp hi).1)

theorem gives_groupWrite {s : State} {g off : Nat} (req : Nat) (value : BitVec 32) (hg : g < 16)
    (hoff : [0, 4, 8, 0xC].contains off = true) :
    Gives (.laneGroupConfigWrite req g off value) s (s.groupWrite req g off value.toNat) :=
  gives_of_effect rfl (if_pos (by rw [hoff]; simpa using hg))

/-- Settles O27: a codeword by the state of its lane, a command by its row of Table 11-12, a group write by the lanes it changes. -/
theorem laneCommandsComplete : Obligations.LaneCommandsComplete := by
  refine ⟨?_, ?_, ?_, ?_, ?_, ?_, ?_, ?_, ?_, ?_, ?_, ?_, ?_, ?_, ?_, ?_, ?_, ?_, ?_, ?_, ?_, ?_⟩
  · dsimp only
    intro s n message parity mid hn
    have hlane : validLane n = true := validLane_eq_true.mpr hn
    have hlock : (lnLock == lnLock) = true := rfl
    have hup : (lnUp == lnUp) = true := rfl
    have hnotUp : (lnLock == lnUp) = false := rfl
    refine ⟨fun hstate => gives_of_effect rfl ?_, fun hstate hdecoded => gives_of_effect rfl ?_,
      fun hstate hlost hue => gives_of_effect rfl ?_, fun hstate hlost hue => gives_of_effect rfl ?_⟩
    · simp only [hlane, hstate, hlock, hnotUp, Bool.true_or, Bool.not_true, Bool.or_self, Bool.not_false, Bool.false_eq_true, if_false,
        if_true]
    · simp only [hlane, hstate, hup, Bool.or_true, Bool.not_true, Bool.or_self, Bool.false_eq_true, if_false, hdecoded, if_true]
    · simp only [hlane, hstate, hup, Bool.or_true, Bool.not_true, Bool.or_self, Bool.false_eq_true, if_false, hlost] at hue ⊢
      exact if_neg (Nat.not_le.mpr (Nat.succ_lt_succ hue))
    · simp only [hlane, hstate, hup, Bool.or_true, Bool.not_true, Bool.or_self, Bool.false_eq_true, if_false, hlost] at hue ⊢
      exact if_pos (Nat.succ_le_succ hue)
  · intro s req n mid hn hhold hstate
    refine gives_of_effect rfl ((if_pos (validLane_eq_true.mpr hn)).trans ?_)
    simp [State.laneCmdWrite, State.laneCmdCode, hhold, hstate]
  · intro s req n mid hn hhold hstate
    have hcode : s.laneCmdCode n 1 = .ok := by
      rcases hstate with h | h | h <;> simp [State.laneCmdCode, hhold, h]
    have hnotUp : ¬ s.laneState n = lnUp := by
      rcases hstate with h | h | h <;> rw [h] <;> decide
    refine gives_of_effect rfl ((if_pos (validLane_eq_true.mpr hn)).trans ?_)
    simp [State.laneCmdWrite, hcode, hnotUp]
  · intro s req n hn hhold hstate
    refine gives_of_effect rfl ((if_pos (validLane_eq_true.mpr hn)).trans ?_)
    simp [State.laneCmdWrite, State.laneCmdCode, hhold, hstate]
  · intro s req n hn hhold hstate
    refine gives_of_effect rfl ((if_pos (validLane_eq_true.mpr hn)).trans ?_)
    simp [State.laneCmdWrite, State.laneCmdCode, hhold, hstate]
  · intro s req n hn hhold hstate
    refine gives_of_effect rfl ((if_pos (validLane_eq_true.mpr hn)).trans ?_)
    simp [State.laneCmdWrite, State.laneCmdCode, hhold, hstate]
  · intro s req n hn hhold hstate
    refine gives_of_effect rfl ((if_pos (validLane_eq_true.mpr hn)).trans ?_)
    simp [State.laneCmdWrite, State.laneCmdCode, hhold, hstate]
  · intro s req n hn hhold hstate
    refine ⟨fun hbusy => gives_of_effect rfl ((if_pos (validLane_eq_true.mpr hn)).trans ?_), fun hbusy => ?_,
      gives_of_effect rfl ((if_pos (validLane_eq_true.mpr hn)).trans ?_)⟩
    · simp [State.laneCmdWrite, State.laneCmdCode, hhold, hstate, hbusy]
    · exact gives_laneRefused (p := (.laneEyeStart req n, 5)) (mid := false) hn (by simp [laneCommands])
        (by simp [State.laneCmdCode, hhold, hstate, hbusy]) (by decide)
    · simp [State.laneCmdWrite, State.laneCmdCode, hhold, hstate]
  · intro s req n mid hn hhold p hp
    exact gives_laneRefused hn hp (State.laneCmdCode_held _ hhold) (by decide)
  · intro s req n mid hn hhold hoff p hp
    have hmem : p ∈ laneCommands req n mid := by
      simp only [List.mem_cons, List.not_mem_nil, or_false] at hp
      rcases hp with rfl | rfl | rfl | rfl | rfl <;> simp [laneCommands]
    refine gives_laneRefused (c := .eState) hn hmem ?_ (by decide)
    simp only [List.mem_cons, List.not_mem_nil, or_false] at hp
    rcases hp with rfl | rfl | rfl | rfl | rfl <;> simp [State.laneCmdCode, hhold, hoff, lnOff, lnUp, lnWait, lnTrain, lnLock, lnDisabled, lnLoop]
  · intro s n count hn hbusy hup
    exact gives_of_effect rfl ((if_pos (by simp [hn, hbusy])).trans (if_pos hup))
  · intro s n count hn hbusy hup
    exact gives_of_effect rfl ((if_pos (by simp [hn, hbusy])).trans (if_neg hup))
  · intro s req g value hg hrest
    have hgives := gives_groupWrite (s := s) req value hg (off := 0) rfl
    simpa [State.groupWrite, State.groupChanges_rest 0 value.toNat hrest] using hgives
  · intro s req g value hg hok hrest
    have hgives := gives_groupWrite (s := s) req value hg (off := 4) rfl
    simpa only [State.groupWrite, hok, State.groupChanges_rest 4 value.toNat hrest, Nat.reduceEqDiff, OfNat.ofNat_ne_zero, if_true, if_false,
      Bool.not_true, Bool.false_eq_true, and_false, ne_eq, not_true_eq_false, -Nat.reducePow] using hgives
  · intro s req g value hg hok hrest
    have hgives := gives_groupWrite (s := s) req value hg (off := 8) rfl
    simpa only [State.groupWrite, hok, State.groupChanges_rest 8 value.toNat hrest, Nat.reduceEqDiff, OfNat.ofNat_ne_zero, if_true, if_false,
      Bool.not_true, Bool.false_eq_true, and_false, ne_eq, not_true_eq_false, -Nat.reducePow] using hgives
  · intro s req g value hg hok hrest
    have hgives := gives_groupWrite (s := s) req value hg (off := 0xC) rfl
    simpa only [State.groupWrite, hok, State.groupChanges_rest 0xC value.toNat hrest, Nat.reduceEqDiff, OfNat.ofNat_ne_zero, if_true, if_false,
      Bool.not_true, Bool.false_eq_true, and_false, ne_eq, not_true_eq_false, -Nat.reducePow] using hgives
  · intro s req g value hg hbad
    have hgives := gives_groupWrite (s := s) req value hg (off := 8) rfl
    simpa only [State.groupWrite, hbad, Nat.reduceEqDiff, OfNat.ofNat_ne_zero, if_true, if_false, Bool.not_false, and_true, ne_eq,
      not_false_eq_true, reduceCtorEq, -Nat.reducePow] using hgives
  · intro s req g i value hg hi hoff hdis
    have hbusy : ((s.groupChanges g 0 value.toNat).all fun i => s.laneState (8 * g + i) == lnOff || s.laneState (8 * g + i) == lnDisabled)
        = false := by
      rw [List.all_eq_false]
      exact ⟨i, hi, by simp [hoff, hdis]⟩
    have hgives := gives_groupWrite (s := s) req value hg (off := 0) rfl
    simpa [State.groupWrite, hbusy] using hgives
  · intro s req g value hg hrun
    refine gives_of_effect rfl ((if_pos hg).trans ?_)
    simp only [State.dofsWrite, hrun, Bool.false_eq_true, if_false]
  · intro s req g value hg hrun
    refine gives_of_effect rfl ((if_pos hg).trans ?_)
    simp only [State.dofsWrite, hrun, if_true]
  · intro s req n hn
    exact gives_of_effect rfl (if_pos (validLane_eq_true.mpr hn))
  · intro s n errors lock hn hloop
    exact gives_of_effect rfl (if_pos (by simp [hn, hloop]))

end Sys2Proof.Machine
end

section
/-! Links receive, deliver, send and account for packets (O28). -/

namespace Sys2Proof.Machine

/-- What the command names is what comes next: it is parsed. -/
theorem gives_parsed {s : State} {n len : Nat} {g : Gather} (hsync : s.linkSync n = true) (hunit : s.nextUnit n = some (len, g)) :
    Gives (.idlisPacketReceive n len g.v g.errored g.cut g.room) s (s.linkParse n) := by
  refine gives_of_effect rfl ?_
  simp [hsync, State.nextIs, hunit]

/-- What the command names is not what comes next: only FILL is skipped (log entry 56). -/
theorem gives_fillSkipped {s : State} {n len v : Nat} {errored cut room : Bool} (hsync : s.linkSync n = true)
    (hnext : s.nextIs n len v errored cut room = false) :
    Gives (.idlisPacketReceive n len v errored cut room) s (s.setRx n (skipFill (s.link n).rx (s.link n).rxPos)) := by
  refine gives_of_effect rfl ?_
  simp only [hsync, hnext, Bool.not_true, Bool.false_eq_true, if_false]

/-- A packet in the stream of which no good header has come: what stands there is its first 16 bytes. -/
theorem State.nextUnit_badHeader {s : State} {n : Nat} {g : Gather}
    (hg : gather (skipFill (s.link n).rx (s.link n).rxPos).1 (skipFill (s.link n).rx (s.link n).rxPos).2 16 = some g)
    (hbad : (g.errored || g.cut || !hcrcOk ⟨16, g.v⟩ || !LinkPkt.lenOk ⟨16, g.v⟩) = true) : s.nextUnit n = some (16, g) := by
  simp only [State.nextUnit, hg, Option.bind_some, hbad, if_true]

/-- With a good header the packet is as long as the header says. -/
theorem State.nextUnit_goodHeader {s : State} {n : Nat} {g : Gather}
    (hg : gather (skipFill (s.link n).rx (s.link n).rxPos).1 (skipFill (s.link n).rx (s.link n).rxPos).2 16 = some g)
    (herr : g.errored = false) (hcut : g.cut = false) (hcrc : hcrcOk ⟨16, g.v⟩ = true) (hlen : LinkPkt.lenOk ⟨16, g.v⟩ = true) :
    s.nextUnit n = (gather (skipFill (s.link n).rx (s.link n).rxPos).1 (skipFill (s.link n).rx (s.link n).rxPos).2
      (LinkPkt.total ⟨16, g.v⟩)).map (fun w => (LinkPkt.total ⟨16, g.v⟩, w)) := by
  simp only [State.nextUnit, hg, Option.bind_some, herr, hcut, hcrc, hlen, Bool.not_true, Bool.or_self, Bool.false_eq_true, if_false]

theorem State.nextIs_of_nextUnit_none {s : State} {n : Nat} (len v : Nat) (errored cut room : Bool) (h : s.nextUnit n = none) :
    s.nextIs n len v errored cut room = false := by
  simp only [State.nextIs, h, Option.any_none]

/-- A whole packet with a good header goes to the checks of R446. -/
theorem State.linkParse_whole {s : State} {n : Nat} {g w : Gather}
    (hg : gather (skipFill (s.link n).rx (s.link n).rxPos).1 (skipFill (s.link n).rx (s.link n).rxPos).2 16 = some g)
    (herr : g.errored = false) (hcut : g.cut = false) (hcrc : hcrcOk ⟨16, g.v⟩ = true) (hlen : LinkPkt.lenOk ⟨16, g.v⟩ = true)
    (hw : gather (skipFill (s.link n).rx (s.link n).rxPos).1 (skipFill (s.link n).rx (s.link n).rxPos).2
      (LinkPkt.total ⟨16, g.v⟩) = some w) :
    s.linkParse n = ((s.setRx n (skipFill (s.link n).rx (s.link n).rxPos)).setRx n (w.rest, w.pos)).linkReceive n
      ⟨LinkPkt.total ⟨16, g.v⟩, w.v⟩ w.errored w.cut (w.room || (LinkPkt.type ⟨16, g.v⟩ == typCredit &&
        packetAlone (skipFill (s.link n).rx (s.link n).rxPos).1 (skipFill (s.link n).rx (s.link n).rxPos).2)) := by
  simp only [State.linkParse, hg, herr, hcut, hcrc, hlen, hw, Bool.not_true, Bool.false_eq_true, if_false]

theorem LinkPkt.control_withPayload {p : LinkPkt} (hctl : isControl p.type = true) (hplen : p.plen ≠ 0) :
    (isControl p.type && p.plen != 0) = true := by simp [hctl, hplen]

theorem LinkPkt.control_lengthOk {p : LinkPkt} (h : isControl p.type = true → p.plen = 0) : (isControl p.type && p.plen != 0) = false := by
  cases hc : isControl p.type with
  | false => rfl
  | true => simp [h hc]

theorem LinkPkt.body_checked {p : LinkPkt} (h : isControl p.type = false → trailerOk p = true) :
    (!isControl p.type && !trailerOk p) = false := by
  cases hc : isControl p.type with
  | false => simp [h hc]
  | true => rfl

/-- A packet that passes every check of R446 is accepted. -/
theorem State.linkReceive_accepted {s : State} {n : Nat} {p : LinkPkt} {errored cut room : Bool} (herr : errored = false)
    (hcut : cut = false) (htype : typeAllowed (s.laneRole n) p.type = true) (hargs : (isControl p.type && p.plen != 0) = false)
    (hroom : room = true) (hbody : (!isControl p.type && !trailerOk p) = false)
    (hfields : fieldsOk p (s.laneRole n == rolePeer) = true)
    (hstamp : isStamped p.type = true → (s.link n).lastStamp.elim false (fun l => stampBack l p.stamp) = false ∧
      s.classify n p.stamp ≠ .future) :
    s.linkReceive n p errored cut room = s.linkAccept n p := by
  have hinTime : (isStamped p.type && ((s.link n).lastStamp.elim false (fun l => stampBack l p.stamp) ||
      s.classify n p.stamp == .future)) = false := by
    cases hs : isStamped p.type with
    | false => rfl
    | true =>
      obtain ⟨hforth, hfuture⟩ := hstamp hs
      simp [hforth, hfuture]
  simp only [State.linkReceive, herr, hcut, htype, hargs, hroom, hbody, hfields, hinTime, Bool.not_true, Bool.false_eq_true, if_false]

/-- Settles O28: the header, then the whole packet, check by check; delivery, transmission and credit each by its command. -/
theorem linkEventsComplete : Obligations.LinkEventsComplete := by
  refine ⟨?_, ?_, ?_, ?_, ?_, ?_, ?_, ?_, ?_, ?_, ?_⟩
  · dsimp only
    intro s n hsync
    refine ⟨fun len v errored cut room hnext => gives_fillSkipped hsync hnext, fun len v errored cut room hnone => ?_,
      fun g hg => ⟨fun herr => ?_, fun herr hcut => ?_, fun herr hcut hcrc => ?_, fun herr hcut hcrc hlen => ?_,
        fun len v errored cut room herr hcut hcrc hlen hnone => ?_⟩⟩
    · exact gives_fillSkipped hsync (State.nextIs_of_nextUnit_none _ _ _ _ _ (by simp only [State.nextUnit, hnone, Option.bind_none]))
    · have hgives := gives_parsed hsync (State.nextUnit_badHeader hg (by simp [herr]))
      simpa only [State.linkParse, hg, herr, if_true] using hgives
    · have hgives := gives_parsed hsync (State.nextUnit_badHeader hg (by simp [hcut]))
      simpa only [State.linkParse, hg, herr, hcut, Bool.false_eq_true, if_false, if_true] using hgives
    · have hgives := gives_parsed hsync (State.nextUnit_badHeader hg (by simp [hcrc]))
      simpa only [State.linkParse, hg, herr, hcut, hcrc, Bool.not_false, Bool.false_eq_true, if_false, if_true] using hgives
    · have hgives := gives_parsed hsync (State.nextUnit_badHeader hg (by simp [hlen]))
      simpa only [State.linkParse, hg, herr, hcut, hcrc, hlen, Bool.not_false, Bool.not_true, Bool.false_eq_true, if_false, if_true]
        using hgives
    · refine gives_fillSkipped hsync (State.nextIs_of_nextUnit_none _ _ _ _ _ ?_)
      rw [State.nextUnit_goodHeader hg herr hcut hcrc hlen, hnone, Option.map_none]
  · dsimp only
    intro s n g w hsync hg herr hcut hcrc hlen hw
    have hunit := State.nextUnit_goodHeader hg herr hcut hcrc hlen
    rw [hw, Option.map_some] at hunit
    have hgives := gives_parsed hsync hunit
    rw [State.linkParse_whole hg herr hcut hcrc hlen hw] at hgives
    refine ⟨fun hwerr => ?_, fun hwerr hwcut => ?_, fun hwerr hwcut htype => ?_, fun hwerr hwcut htype hctl hplen => ?_,
      fun hwerr hwcut htype hctl => ⟨fun hroom => ?_, fun hroom hdata htrailer => ?_, fun hroom htrailer hfields hstamp => ?_⟩⟩
    · simpa only [State.linkReceive, hwerr, if_true] using hgives
    · simpa only [State.linkReceive, hwerr, hwcut, Bool.false_eq_true, if_false, if_true] using hgives
    · simpa only [State.linkReceive, hwerr, hwcut, htype, Bool.not_false, Bool.false_eq_true, if_false, if_true] using hgives
    · have hargs := LinkPkt.control_withPayload (p := ⟨LinkPkt.total ⟨16, g.v⟩, w.v⟩) hctl hplen
      simpa only [State.linkReceive, hwerr, hwcut, htype, hargs, Bool.not_true, Bool.false_eq_true, if_false, if_true] using hgives
    · have hargs := LinkPkt.control_lengthOk (p := ⟨LinkPkt.total ⟨16, g.v⟩, w.v⟩) hctl
      simpa only [State.linkReceive, hwerr, hwcut, htype, hargs, hroom, Bool.not_true, Bool.not_false, Bool.false_eq_true, if_false, if_true]
        using hgives
    · simpa only [State.linkReceive, hwerr, hwcut, htype, hroom, hdata, htrailer, Bool.not_true, Bool.not_false, Bool.and_self, Bool.false_and,
        Bool.false_eq_true, if_false, if_true] using hgives
    · have hargs := LinkPkt.control_lengthOk (p := ⟨LinkPkt.total ⟨16, g.v⟩, w.v⟩) hctl
      have hbody := LinkPkt.body_checked (p := ⟨LinkPkt.total ⟨16, g.v⟩, w.v⟩) htrailer
      rw [State.linkReceive_accepted hwerr hwcut htype hargs hroom hbody hfields hstamp] at hgives
      exact hgives
  · intro s n hup hsync
    refine gives_of_effect rfl (if_pos ?_)
    simp [hup, hsync]
  · dsimp only
    intro s n d p hn hheld hcome
    refine gives_of_effect rfl ((if_pos (validLane_eq_true.mpr hn)).trans ?_)
    simp only [State.deliverHeld, hheld, List.filter_cons, hcome, if_true, List.filter_nil, Bool.not_true, Bool.false_eq_true, if_false,
      List.foldl_cons, List.foldl_nil]
  · dsimp only
    intro s n pause p l hlinkUpAt htxq hexpired hlen hx
    refine gives_of_effect rfl ?_
    simp [State.linkTransmit, hlinkUpAt, htxq, hexpired, hlen, hx]
  · dsimp only
    intro s n pause hup hwait
    refine gives_of_effect rfl ((if_pos hup).trans ?_)
    unfold State.linkTransmit
    obtain hnil | hfew | ⟨p, l, hq, hheld⟩ := hwait
    · simp only [hnil]
    · cases hq : ((s.linkPause n pause).link n).txq with
      | nil => simp only [hq]
      | cons p l => simp only [hq, hfew, decide_true, Bool.or_true, if_true]
    · have hkept : ((s.linkPause n pause).expired n p || !(s.linkPause n pause).creditCovers n
          (txBlocks ((s.linkPause n pause).link n).txPos p.len)) = true := by
        rcases hheld with h | h <;> simp [h]
      simp only [hq, hkept, Bool.true_or, if_true]
  · intro s n p hlinkSync hnextPkt htype
    refine gives_of_effect rfl (if_pos ?_)
    simp [hlinkSync, hnextPkt, htype]
  · dsimp only
    intro s n hup
    refine ⟨fun hfew => gives_of_effect rfl ((if_pos hup).trans (if_pos hfew)),
      fun hmany => gives_of_effect rfl ((if_pos hup).trans (if_neg (Nat.not_lt.mpr hmany)))⟩
  · intro s n d hn hdrive hcome
    refine gives_of_effect rfl ?_
    simp only [hdrive, validLane_eq_true.mpr hn, hcome, Bool.and_self, if_true, State.driveClose]
  · intro s n p hn hq hexpired
    refine gives_of_effect rfl ?_
    simp only [hq, List.find?_cons, hexpired, validLane_eq_true.mpr hn, if_true, List.erase_cons_head]
  · intro s req n hn hhead
    exact gives_of_effect rfl (if_pos (by simp [hn, hhead]))

end Sys2Proof.Machine
end

section
/-! PIN lanes and store links (O29). -/

namespace Sys2Proof.Machine

/-- Taking a packet from a hub's interface leaves the lanes as they are. -/
theorem State.linkUpAt_niPop (s : State) (n j vc k h : Nat) : (s.niPop n j vc k).linkUpAt h = s.linkUpAt h := (rfl)

theorem State.laneRole_niPop (s : State) (n j vc k h : Nat) : (s.niPop n j vc k).laneRole h = s.laneRole h := (rfl)

/-- A store link's request that is not sent stays where its lane is UP and not isolated, and it overlaps one sent or has no tag (R461). -/
theorem State.storeSend_waits {s : State} {t : StoreTx} (hhead : s.isHead t.lane roleStore = true) (hup : s.linkUpAt t.lane = true)
    (hiso : s.on (Reg.LN_STO_STAT_ISO t.lane) = false)
    (hwait : (s.storeSent t.lane).any (storeOverlap t) = true ∨ s.freeStoreTag t.lane = none) : s.storeSend t = s := by
  simp only [State.storeSend, hhead, hup, hiso, Bool.and_self, Bool.not_true, Bool.false_eq_true, if_false]
  obtain hover | hnone := hwait
  · exact if_pos hover
  · simp only [hnone, ite_self]

/-- Settles O29: a frame by what its lane is, a store request by its link, a completion by its tag, a timeout by the limit it meets. -/
theorem pinAndStoreLinksComplete : Obligations.PinAndStoreLinksComplete := by
  refine ⟨?_, ?_, ?_, ?_, ?_, ?_, ?_, ?_, ?_, ?_, ?_, ?_, ?_, ?_, ?_, ?_, ?_⟩
  · dsimp only
    intro s g vc f hg hq hopc hpoison hrole hdrv hup
    have hready : ((s.niPop (hubNode g) 0 vc 1).laneRole (8 * g + f.stat % 8) == rolePin &&
        (s.niPop (hubNode g) 0 vc 1).on (Reg.LN_PIN_CFG_DRV_EN (8 * g + f.stat % 8)) &&
        (s.niPop (hubNode g) 0 vc 1).linkUpAt (8 * g + f.stat % 8)) = true := by
      rw [State.linkUpAt_niPop, State.laneRole_niPop, hrole, hup]
      exact congrArg (fun b => (true && b) && true) hdrv
    refine gives_of_effect rfl ((if_neg (Nat.not_le.mpr hg)).trans ?_)
    simp only [hq, hopc, hpoison, hready, ne_eq, not_true_eq_false, Bool.not_true, Bool.false_eq_true, if_false]
    rfl
  · intro s g vc f hg hq hopc hpoison
    refine gives_of_effect rfl ((if_neg (Nat.not_le.mpr hg)).trans ?_)
    simp only [hq, hopc, hpoison, ne_eq, not_true_eq_false, if_false, if_true]
  · dsimp only
    intro s g vc f hg hq hopc hpoison hnot
    have hnotReady : ((s.niPop (hubNode g) 0 vc 1).laneRole (8 * g + f.stat % 8) == rolePin &&
        (s.niPop (hubNode g) 0 vc 1).on (Reg.LN_PIN_CFG_DRV_EN (8 * g + f.stat % 8)) &&
        (s.niPop (hubNode g) 0 vc 1).linkUpAt (8 * g + f.stat % 8)) = false := by
      rw [State.linkUpAt_niPop, State.laneRole_niPop, show (s.niPop (hubNode g) 0 vc 1).on (Reg.LN_PIN_CFG_DRV_EN (8 * g + f.stat % 8)) =
        s.on (Reg.LN_PIN_CFG_DRV_EN (8 * g + f.stat % 8)) from rfl]
      obtain h | h | h := hnot <;> simp [h]
    refine gives_of_effect rfl ((if_neg (Nat.not_le.mpr hg)).trans ?_)
    simp only [hq, hopc, hpoison, hnotReady, ne_eq, not_true_eq_false, Bool.not_false, Bool.false_eq_true, if_false, if_true]
  · intro s n hhead
    exact gives_of_effect rfl (if_pos hhead)
  · dsimp only
    intro s n d p hhead hcwait hfront
    exact gives_of_effect rfl (if_pos (by simp [hhead, hcwait, hfront]))
  · intro s t k hid hstage hhead hup hiso hany htag
    refine gives_of_effect rfl ?_
    simp only [hid, hstage, State.storeSend, hhead, hup, hiso, hany, htag, Bool.and_self, Bool.not_true, Bool.false_eq_true, if_false,
      if_true]
  · intro s t hid hstage hup
    refine gives_of_effect rfl ?_
    simp only [hid, hstage, State.storeSend, hup, Bool.and_false, Bool.not_false, if_true]
  · intro s t hid hstage hhead hup hiso
    refine gives_of_effect rfl ?_
    simp only [hid, hstage, State.storeSend, hhead, hup, hiso, Bool.and_self, Bool.not_true, Bool.false_eq_true, if_false, if_true]
  · intro s t hid hstage hhead hup hiso hwait
    refine gives_of_effect rfl ?_
    simp only [hid, hstage, if_true, State.storeSend_waits hhead hup hiso hwait]
  · intro s n tag status t data htag hok
    simp only [State.storeCompletion, htag, hok, Bool.not_true, Bool.false_eq_true, if_false]
  · intro s n tag status data htag
    simp only [State.storeCompletion, htag]
  · intro s n p hhead hsync hnext htype
    exact gives_of_effect rfl (if_pos (by simp [hhead, hsync, hnext, htype]))
  · dsimp only
    intro s n tag t hhead htag hfew
    refine gives_of_effect rfl ((if_pos hhead).trans ?_)
    simp only [State.storeTimeout, htag]
    rw [if_neg (fun h => Nat.not_le.mpr hfew h.1)]
  · dsimp only
    intro s n tag t hhead htag hlim
    refine gives_of_effect rfl ((if_pos hhead).trans ?_)
    simp only [State.storeTimeout, htag, hlim, true_and]
    cases hiso : State.on _ (Reg.LN_STO_STAT_ISO n) <;> simp only [Bool.not_true, Bool.not_false, Bool.false_eq_true, if_false, if_true]
  · intro s req n hn hhead hiso
    exact gives_of_effect rfl ((if_pos (by simp [hn, hhead])).trans (if_pos hiso))
  · intro s req n hn hhead hiso
    exact gives_of_effect rfl ((if_pos (by simp [hn, hhead])).trans (if_neg (by simp [hiso])))
  · intro s n tag hn
    exact gives_of_effect rfl (if_pos (validLane_eq_true.mpr hn))

end Sys2Proof.Machine
end

section
/-! Peer links carry packets, accesses and trigger levels (O30). -/

namespace Sys2Proof.Machine

theorem State.peerUp_popReady (s : State) (n k : Nat) : (s.popReady n).peerUp k = s.peerUp k := (rfl)

theorem State.peerPort_popReady (s : State) (n k : Nat) : (s.popReady n).peerPort k = s.peerPort k := (rfl)

theorem State.restamp_popReady (s : State) (n o : Nat) (p : LinkPkt) : (s.popReady n).restamp o p = s.restamp o p := (rfl)

/-- A FWD packet at the front of a link is taken off and forwarded (R470). -/
theorem gives_forward {s : State} {n d : Nat} {p : LinkPkt} (hn : n < 128) (hfront : s.frontPkt n typFwd = some (d, p)) :
    Gives (.fwdDelivery n) s ((s.popReady n).forward n p) := by
  refine gives_of_effect rfl ?_
  simp only [hfront, validLane_eq_true.mpr hn, if_true]

/-- An access to a tunnel aperture without a poisoned flit is taken off and goes to its port (R472). -/
theorem gives_tunnel {s : State} {g vc : Nat} {f : Flit} {fs : List Flit} (hg : g < 16) (hfront : s.tunnelFront g vc = some (f, fs))
    (hclean : (f :: fs).any (·.poison) = false) :
    Gives (.tunnelAccess g vc) s ((s.niPop (hubNode g) 0 vc (fs.length + 1)).tunnel g f (packetBody (f :: fs))) := by
  refine gives_of_effect rfl ((if_neg (Nat.not_le.mpr hg)).trans ?_)
  simp only [hfront, hclean, Bool.false_eq_true, if_false]

/-- Settles O30: a FWD packet by its nesting, an access by its port, a response by its XTAG, a level by its change. -/
theorem peerLinksComplete : Obligations.PeerLinksComplete := by
  refine ⟨?_, ?_, ?_, ?_, ?_, ?_, ?_, ?_, ?_, ?_, ?_, ?_⟩
  · intro s n o d p hn hfront hnest hup
    have hgives := gives_forward hn hfront
    simpa only [State.forward, hnest, State.peerUp_popReady, hup, State.restamp_popReady] using hgives
  · intro s n d p hn hfront hnest
    have hgives := gives_forward hn hfront
    simpa only [State.forward, hnest] using hgives
  · intro s n d p hn hfront
    have hgives := gives_forward hn hfront
    refine ⟨fun hnest => ?_, fun hnest hdown => ?_⟩
    · simpa only [State.forward, hnest] using hgives
    · simpa only [State.forward, hnest, hdown] using hgives
  · dsimp only
    intro s g vc k f fs hg hfront hclean hopc hvalid hhead hup htag
    have hgives := gives_tunnel hg hfront hclean
    have hvalid' : (s.niPop (hubNode g) 0 vc (fs.length + 1)).on (Reg.LN_TUN_VALID (8 * g + bitsOf (packetBody (f :: fs) % 2 ^ 48) 41 3)
      (bitsOf (packetBody (f :: fs) % 2 ^ 48) 37 4)) = true := hvalid
    have hhead' : (s.niPop (hubNode g) 0 vc (fs.length + 1)).isHead (8 * g + bitsOf (packetBody (f :: fs) % 2 ^ 48) 41 3) rolePeer = true :=
      hhead
    have hup' : (s.niPop (hubNode g) 0 vc (fs.length + 1)).linkUpAt (8 * g + bitsOf (packetBody (f :: fs) % 2 ^ 48) 41 3) = true := hup
    have htag' : ((s.niPop (hubNode g) 0 vc (fs.length + 1)).link (8 * g + bitsOf (packetBody (f :: fs) % 2 ^ 48) 41 3)).freeXtag = some k :=
      htag
    have hposted : (f.opc == opWrp) = false := by simpa using hopc
    simp only [State.tunnel, hvalid', hhead', hup', htag', hposted, Bool.not_true, Bool.or_self, Bool.false_eq_true, if_false] at hgives
    exact hgives
  · intro s g vc f fs hg hfront
    refine ⟨fun hpoison => ?_, fun hclean => ?_⟩
    · refine gives_of_effect rfl ((if_neg (Nat.not_le.mpr hg)).trans ?_)
      simp only [hfront, hpoison, if_true]
    · have hgives := gives_tunnel hg hfront hclean
      dsimp only
      refine ⟨fun hbad => ?_, fun hvalid hhead hdown => ?_, fun hvalid hhead hup hopc hnone => ?_⟩
      · rw [State.tunnel, if_pos (by rcases hbad with h | h <;> simp only [h, Bool.not_false, Bool.true_or, Bool.or_true])] at hgives
        exact hgives
      · rw [State.tunnel, if_neg (by simp only [hvalid, hhead, Bool.not_true, Bool.or_self, Bool.false_eq_true, not_false_eq_true]),
          if_pos (by simp only [hdown, Bool.not_false])] at hgives
        exact hgives
      · simp only [State.tunnel, hvalid, hhead, hup, Bool.not_true, Bool.or_self, Bool.false_eq_true, if_false] at hgives
        have hposted : (f.opc == opWrp) = false := by simpa using hopc
        simpa only [hposted, Bool.false_eq_true, if_false, hnone, hopc] using hgives
  · dsimp only
    intro s n d p hn hfront hroom hopc hentered
    refine gives_of_effect rfl ?_
    simp only [hfront, validLane_eq_true.mpr hn, Bool.not_true, Bool.false_eq_true, if_false, State.tunnelRequest, Nat.not_le.mpr hroom,
      hentered, hopc, if_true]
  · dsimp only
    intro s n xtag blen d hn hdone hnode hrid href hcode hremote hup
    refine gives_of_effect rfl ?_
    have hmine : (d.node == hubNode (n / 8) && d.rid == 0xA0 + n / 8 && d.ref == tunnelRef n xtag) = true := by
      simp [hnode, hrid, href]
    have hread : (opRd + 16 * blen) % 16 = opRd := by simp [opRd]
    have hlen : (opRd + 16 * blen) / 16 = blen := by simp only [opRd]; omega
    simp only [hdone, hremote, List.find?_cons, List.any_cons, List.any_nil, hmine, Bool.or_false, validLane_eq_true.mpr hn, Bool.not_true,
      Bool.false_eq_true, if_false, List.erase_cons_head, hread, hlen, hcode, and_self, if_true]
    exact if_neg (by simp only [Bool.false_or, Bool.not_eq_true, Bool.not_eq_false']; exact hup)
  · dsimp only
    intro s n d p x hn hfront htype htag hlive
    refine gives_of_effect rfl ?_
    rw [hfront, show (some (d, p)).or (s.frontPkt n typTunCpl) = some (d, p) from rfl]
    simp only [validLane_eq_true.mpr hn, if_true, State.tunnelResponse, htag, hlive, htype, Bool.false_eq_true, if_false]
  · intro s n k x hn htag hlive
    refine gives_of_effect rfl ?_
    simp only [htag, hlive, validLane_eq_true.mpr hn, Bool.not_true, Bool.or_self, Bool.false_eq_true, if_false]
  · intro s n k x hn htag hquar
    refine gives_of_effect rfl ?_
    simp only [htag, hquar, validLane_eq_true.mpr hn, Bool.and_self, if_true]
  · intro s n hhead hup htick hchanged
    exact gives_of_effect rfl (if_pos (by simp [hhead, hup, htick, hchanged]))
  · dsimp only
    intro s n k d p hn hfront hport
    refine gives_of_effect rfl ?_
    simp only [hfront, validLane_eq_true.mpr hn, Bool.not_true, Bool.false_eq_true, if_false, State.peerPort_popReady, hport]

end Sys2Proof.Machine
end

section
/-! Host requests, resets, interrupts and the doorbell (O31). -/

namespace Sys2Proof.Machine

/-- A request that its port decodes goes by its BAR: MSI-X, the rescue window, or the C-window and the Q-window. -/
theorem State.hostRequest_decoded {s : State} {p n bar addr : Nat} {write : Bool} (v : Nat) (hup : s.portUp p = true) (h1 : 1 ≤ n)
    (hn : n ≤ 4096) (hdec : s.decodes p = true) (hfit : addr + n ≤ barSize bar) :
    s.hostRequest p write bar addr n v =
      if bar = 4 then s.msixAccess p write addr n v
      else if bar = 0 ∧ addr < 0x10000 then s.rescueAccess p write addr n v false
      else s.hostAccess p write (bar == 2) addr n (v % 2 ^ (8 * n)) := by
  rw [State.hostRequest, if_neg, if_neg]
  · simpa [hdec] using hfit
  · simp [hup]
    omega

/-- BAR 0 above the rescue window is the C-window. -/
theorem State.hostRequest_cWindow {s : State} {p n addr : Nat} {write : Bool} (v : Nat) (hup : s.portUp p = true) (h1 : 1 ≤ n)
    (hn : n ≤ 4096) (hdec : s.decodes p = true) (hlow : 0x10000 ≤ addr) (hfit : addr + n ≤ 0x4000000) :
    s.hostRequest p write 0 addr n v = s.hostAccess p write false addr n (v % 2 ^ (8 * n)) := by
  rw [State.hostRequest_decoded v hup h1 hn hdec hfit, if_neg (by decide), if_neg (fun h => Nat.not_lt.mpr hlow h.2)]
  rfl

/-- BAR 2 is the Q-window. -/
theorem State.hostRequest_qWindow {s : State} {p n addr : Nat} {write : Bool} (v : Nat) (hup : s.portUp p = true) (h1 : 1 ≤ n)
    (hn : n ≤ 4096) (hdec : s.decodes p = true) (hfit : addr + n ≤ 0x1000000000) :
    s.hostRequest p write 2 addr n v = s.hostAccess p write true addr n (v % 2 ^ (8 * n)) := by
  rw [State.hostRequest_decoded v hup h1 hn hdec hfit, if_neg (by decide), if_neg (fun h => absurd h.1 (by decide))]
  rfl

/-- BAR 4 holds the MSI-X table and its pending bits. -/
theorem State.hostRequest_msix {s : State} {p n addr : Nat} {write : Bool} (v : Nat) (hup : s.portUp p = true) (h1 : 1 ≤ n)
    (hn : n ≤ 4096) (hdec : s.decodes p = true) (hfit : addr + n ≤ 0x10000) :
    s.hostRequest p write 4 addr n v = s.msixAccess p write addr n v := by
  rw [State.hostRequest_decoded v hup h1 hn hdec hfit, if_pos rfl]

/-- The rescue window is the lowest 64 KiB of BAR 0. -/
theorem State.hostRequest_rescue {s : State} {p n addr : Nat} {write : Bool} (v : Nat) (hup : s.portUp p = true) (h1 : 1 ≤ n)
    (hn : n ≤ 4096) (hdec : s.decodes p = true) (hlow : addr < 0x10000) :
    s.hostRequest p write 0 addr n v = s.rescueAccess p write addr n v false := by
  have hfit : addr + n ≤ barSize 0 := by
    simp only [barSize]
    omega
  rw [State.hostRequest_decoded v hup h1 hn hdec hfit, if_neg (by decide), if_pos ⟨rfl, hlow⟩]

/-- An access that its port does not decode, or that goes past the BAR, is an unsupported request (R485). -/
theorem State.hostRequest_unsupported {s : State} {p bar n addr : Nat} {write : Bool} (v : Nat) (hup : s.portUp p = true) (h1 : 1 ≤ n)
    (hn : n ≤ 4096) (hbad : s.decodes p = false ∨ barSize bar < addr + n) :
    s.hostRequest p write bar addr n v = s.emit (.unsupported p addr) := by
  rw [State.hostRequest, if_neg, if_pos]
  · simpa using hbad
  · simp [hup]
    omega

theorem State.hostAccess_ok {s : State} {p addr n data : Nat} {write qwin : Bool} (hok : s.hostCheck write qwin addr n = .ok) :
    s.hostAccess p write qwin addr n data = s.hostTake p write qwin addr n data := if_pos hok

theorem State.hostAccess_arg {s : State} {p addr n data : Nat} {write qwin : Bool} (harg : s.hostCheck write qwin addr n = .eArg) :
    s.hostAccess p write qwin addr n data = s.hostAnswer p write qwin addr n 0 .eArg := by
  simp [State.hostAccess, harg]

/-- A window of a region that does not answer is logged and answered with the region's code (R33). -/
theorem State.hostAccess_closed {s : State} {p addr n data : Nat} {write qwin : Bool}
    (hclosed : s.hostCheck write qwin addr n = .eState ∨ s.hostCheck write qwin addr n = .eIso) :
    s.hostAccess p write qwin addr n data =
      (s.raise (srcHost p) .notice 0x60 (addr % 2 ^ 32 + (p + 1) * 2 ^ 32)).hostAnswer p write qwin addr n 0
        (s.hostCheck write qwin addr n) := by
  have hcode : s.hostCheck write qwin addr n ≠ .ok := by
    rcases hclosed with h | h <;> rw [h] <;> decide
  simp only [State.hostAccess, if_neg hcode, if_pos hclosed]

/-- A read of configuration space gives the bits that are held, and free values elsewhere. -/
theorem gives_cfgRead {s : State} {p : Nat} (reg : ConfigReg) (value : BitVec 32) (hup : s.portUp p = true) (hretry : s.hk.retry = false) :
    Gives (.hostConfigRequest p false reg value) s
      (s.tookFree.emit (.config p false ((s.cfgHeld p reg).1 + ((s.freeBits 32).toNat &&& (2 ^ 32 - 1 - (s.cfgHeld p reg).2))))) := by
  refine gives_of_effect rfl ?_
  simp only [hup, hretry, Bool.not_true, Bool.false_eq_true, if_false, State.cfgSpaceRead]

theorem gives_cfgWrite {s : State} {p : Nat} (reg : ConfigReg) (value : BitVec 32) (hup : s.portUp p = true)
    (hretry : s.hk.retry = false) :
    Gives (.hostConfigRequest p true reg value) s ((s.cfgSpaceWrite p reg value.toNat).emit (.config p false 0)) := by
  refine gives_of_effect rfl ?_
  simp only [hup, hretry, Bool.not_true, Bool.false_eq_true, if_false, if_true]

/-- Settles O31: a configuration request by its register, a memory request by its BAR and window, a reset by its kind. -/
theorem hostPortCompletes : Obligations.HostPortCompletes := by
  refine ⟨?_, ?_, ?_, ?_, ?_, ?_, ?_, ?_, ?_, ?_, ?_, ?_, ?_, ?_, ?_, ?_, ?_, ?_, ?_⟩
  · intro s p write reg value hup hretry
    refine gives_of_effect rfl ?_
    simp only [hup, hretry, Bool.not_true, Bool.false_eq_true, if_false, if_true]
  · intro s p value hup hretry
    exact gives_cfgWrite .command value hup hretry
  · intro s p value hup hretry
    refine ⟨gives_cfgWrite .power value hup hretry, gives_cfgWrite .msix value hup hretry, fun reg hreg => ?_⟩
    have hgives := gives_cfgWrite reg value hup hretry
    simp only [List.mem_cons, List.not_mem_nil, or_false] at hreg
    rcases hreg with rfl | rfl | rfl | rfl <;> exact hgives
  · intro s p value hup hretry
    refine ⟨?_, ?_, fun reg _ => gives_cfgRead reg value hup hretry⟩
    · have hgives := gives_cfgRead .ident value hup hretry
      simpa only [State.cfgHeld, Nat.sub_self, Nat.and_zero, Nat.add_zero] using hgives
    · have hgives := gives_cfgRead .subsystem value hup hretry
      simpa only [State.cfgHeld, Nat.sub_self, Nat.and_zero, Nat.add_zero] using hgives
  · intro s p addr n hup h1 hn hdec hlow hfit hok
    refine gives_of_effect rfl ((State.hostRequest_cWindow 0 hup h1 hn hdec hlow hfit).trans ?_)
    rw [State.hostAccess_ok hok, Nat.zero_mod]
  · intro s p addr n hup h1 hn hdec hlow hfit hclosed
    exact gives_of_effect rfl ((State.hostRequest_cWindow 0 hup h1 hn hdec hlow hfit).trans (State.hostAccess_closed hclosed))
  · intro s p addr n hup h1 hn hdec hlow hfit harg
    exact gives_of_effect rfl ((State.hostRequest_cWindow 0 hup h1 hn hdec hlow hfit).trans (State.hostAccess_arg harg))
  · intro s p bar addr n v hup h1 hn hbad
    exact ⟨gives_of_effect rfl (State.hostRequest_unsupported 0 hup h1 hn hbad),
      gives_of_effect rfl (State.hostRequest_unsupported v hup h1 hn hbad)⟩
  · intro s p addr n v hup h1 hn hdec hfit
    exact ⟨gives_of_effect rfl (State.hostRequest_msix 0 hup h1 hn hdec hfit),
      gives_of_effect rfl (State.hostRequest_msix v hup h1 hn hdec hfit)⟩
  · intro s p addr n v hup h1 hn hdec hlow
    refine ⟨gives_of_effect rfl (State.hostRequest_rescue 0 hup h1 hn hdec hlow),
      fun hcmd => gives_of_effect rfl ((State.hostRequest_rescue v hup h1 hn hdec hlow).trans ?_)⟩
    simp only [State.rescueAccess, hcmd, false_and, Bool.not_true, Bool.false_eq_true, if_false]
  · intro s p addr n v hup h1 hn hdec hlow hfit hok
    exact gives_of_effect rfl ((State.hostRequest_cWindow v hup h1 hn hdec hlow hfit).trans (State.hostAccess_ok hok))
  · intro s p addr n v hup h1 hn hdec hfit
    have hrequest := State.hostRequest_qWindow (write := true) v hup h1 hn hdec hfit
    exact ⟨fun harg => gives_of_effect rfl (hrequest.trans (State.hostAccess_arg harg)),
      fun hok => gives_of_effect rfl (hrequest.trans (State.hostAccess_ok hok)),
      fun hclosed => gives_of_effect rfl (hrequest.trans (State.hostAccess_closed hclosed))⟩
  · intro s p addr n hup h1 hn hdec hfit
    have hrequest := State.hostRequest_qWindow (write := false) 0 hup h1 hn hdec hfit
    rw [Nat.zero_mod] at hrequest
    exact ⟨fun hok => gives_of_effect rfl (hrequest.trans (State.hostAccess_ok hok)),
      fun harg => gives_of_effect rfl (hrequest.trans (State.hostAccess_arg harg))⟩
  · dsimp only
    intro s p hp hup
    refine ⟨gives_of_effect rfl ?_, fun hport => gives_of_effect rfl ?_⟩
    · rw [if_neg (by simp [hup]; omega)]
      rfl
    · rw [if_neg (by simp [hup, hport]; omega)]
      rfl
  · intro s p hup
    exact gives_of_effect rfl (if_pos hup)
  · intro s p speed width hp hup hport h1 h5 hwidth
    exact gives_of_effect rfl (if_pos ⟨hp, hup, by rw [hport]; rfl, h1, h5, hwidth⟩)
  · intro s p v hup hbme hen hfmask hentry hv hpend
    refine gives_of_effect rfl ?_
    simp only [hup, hbme, hen, hfmask, hentry, decide_eq_true hv, hpend, Bool.not_false, Bool.and_self, if_true]
  · intro s req p value hp
    refine gives_of_effect rfl ((if_pos hp).trans ?_)
    rw [State.vackWrite, Nat.mod_eq_of_lt value.isLt]
  · intro s req p value hp
    exact gives_of_effect rfl (if_pos hp)

end Sys2Proof.Machine
end

section
/-! Acquiring reads of the hardware semaphores (O32). -/

namespace Sys2Proof.Machine

/-- A state in which requester 1 holds semaphore 0. -/
def semHeld : State := State.reset.setFld (Reg.HSEM_OWNER 0) 1

/-- R495: a holder that reads its own semaphore is told so. -/
theorem State.semRead_holder {s : State} {req n : Nat} (hreq : req ≠ 0) (hown : s.fld (Reg.HSEM_OWNER n) = req) :
    s.semRead req n = (s, req + 2 ^ 8 + 2 ^ 9) := by
  simp only [State.semRead, hown, if_neg hreq, if_true]

/-- Refutes O32: a semaphore that the reader itself holds is read as R495 has it, with bits 8 and 9 set, and the statement for held
semaphores has every reader read the owner alone. -/
theorem not_rescueAndSemaphoresComplete : ¬ Obligations.RescueAndSemaphoresComplete := by
  rintro ⟨-, -, -, -, -, -, -, -, -, -, -, -, -, -, -, -, -, -, -, -, hheld, -⟩
  have howner : semHeld.fld (Reg.HSEM_OWNER 0) = 1 := by decide
  have hgives := hheld semHeld 1 0 (by decide) (by rw [howner]; decide)
  have hexec : exec (.hsemAcquire 1 0 false) semHeld = answer semHeld (semHeld.emit (.readData 1 (Reg.HSEM 0) (1 + 2 ^ 8 + 2 ^ 9))) := by
    show execHsemAcquire 1 0 false semHeld = _
    simp only [execHsemAcquire, State.semRead_holder (by decide) howner, Bool.false_eq_true, if_false]
    rfl
  rw [Gives, hexec, answer, howner] at hgives
  have hout := congrArg State.out (Host.Outcome.next.inj hgives)
  rw [settle_out, settle_out] at hout
  exact absurd hout (by decide)

end Sys2Proof.Machine
end

section
/-! The packets of a configuration stream (O33). -/

namespace Sys2Proof.Machine

/-! ## What taking words from the stream leaves as it was -/

theorem State.rd_cfgTook (s : State) (n : Nat) {a : Nat} (h : a ≠ Reg.CFG_SPOS) : (s.cfgTook n).rd a = s.rd a := by
  unfold State.cfgTook
  split
  · rfl
  · exact State.rd_setFld_other _ _ _ h

theorem State.fld_cfgTook (s : State) (n : Nat) {f : Fld} (h : f.addr ≠ Reg.CFG_SPOS) : (s.cfgTook n).fld f = s.fld f := by
  rw [State.fld, State.rd_cfgTook s n h]
  rfl

theorem State.on_cfgTook (s : State) (n : Nat) {f : Fld} (h : f.addr ≠ Reg.CFG_SPOS) : (s.cfgTook n).on f = s.on f := by
  rw [State.on, State.fld_cfgTook s n h]
  rfl

theorem State.lcState_setFld (s : State) (f : Fld) (x : Nat) : (s.setFld f x).lcState = s.lcState := (rfl)

theorem State.lcState_setBit (s : State) (f : Fld) (b : Bool) : (s.setBit f b).lcState = s.lcState := (rfl)

theorem State.lcState_cfgTook (s : State) (n : Nat) : (s.cfgTook n).lcState = s.lcState := by
  unfold State.cfgTook
  split <;> rfl

theorem State.reqAuth_cfgTook (s : State) (n : Nat) : (s.cfgTook n).reqAuth = s.reqAuth := by
  rw [State.reqAuth, State.on_cfgTook s n (by decide), State.lcState_cfgTook]
  rfl

theorem State.cfgApplies_cfgTook (s : State) (n : Nat) : (s.cfgTook n).cfgApplies = s.cfgApplies := by
  rw [State.cfgApplies, State.fld_cfgTook s n (by decide), State.fld_cfgTook s n (by decide)]
  rfl

/-! ## A packet at the front of the stream -/

theorem State.dropPartial_none {s : State} (h : s.cfg.frame = []) : s.dropPartial = s := by
  simp only [State.dropPartial, h, List.isEmpty_nil, if_true]

theorem State.dropPartial_frameEnd {s : State} (h : s.cfg.frame = []) (pt : Nat) : (if pt = 2 then s else s.dropPartial) = s := by
  rw [State.dropPartial_none h, ite_self]

/-- A packet that may act where it stands acts where it applies, and is skipped elsewhere (R511). -/
theorem State.cfgPacket_taken {s : State} {k : Pkt} {w d : Nat} (act : State → Nat → Nat → State)
    (hfront : s.cfgFill.cfgFront = some (k, w, d)) (hk : k ≠ .bad) (hframe : s.cfgFill.cfg.frame = [])
    (hauth : s.cfgFill.reqAuth = true → s.cfgFill.on Reg.CFG_STAT_ENC = true) :
    s.cfgPacket k act = (if k.always || s.cfgFill.cfgApplies then act (s.cfgFill.cfgTook (pktWords w)) w d
      else s.cfgFill.cfgTook (pktWords w)).cfgAfter := by
  have hplain : (s.cfgFill.reqAuth && !s.cfgFill.on Reg.CFG_STAT_ENC && !k.plainOk) = false := by
    cases hreq : s.cfgFill.reqAuth with
    | false => rfl
    | true => rw [hauth hreq]; rfl
  simp only [State.cfgPacket, hfront, ne_eq, not_true_eq_false, false_and, if_false, State.dropPartial_frameEnd hframe, if_neg hk,
    State.reqAuth_cfgTook, State.on_cfgTook _ _ (show Reg.CFG_STAT_ENC.addr ≠ Reg.CFG_SPOS by decide), hplain, Bool.false_eq_true,
    State.cfgApplies_cfgTook]

/-- A packet that is ready acts. -/
theorem CfgReady.cfgPacket {s : State} {k : Pkt} {w d : Nat} (h : CfgReady s k w d) (act : State → Nat → Nat → State) :
    s.cfgPacket k act = (act (s.cfgFill.cfgTook (pktWords w)) w d).cfgAfter := by
  obtain ⟨hfront, hk, -, hframe, hauth, happlies⟩ := h
  rw [State.cfgPacket_taken act hfront hk hframe hauth, happlies, Bool.or_true, if_pos rfl]

/-- A packet that may stand in an encrypted section only aborts a stream outside of one (R531). -/
theorem State.cfgPacket_unauthenticated {s : State} {k : Pkt} {w d : Nat} (act : State → Nat → Nat → State)
    (hfront : s.cfgFill.cfgFront = some (k, w, d)) (hk : k ≠ .bad) (hframe : s.cfgFill.cfg.frame = [])
    (hreq : s.cfgFill.reqAuth = true) (henc : s.cfgFill.on Reg.CFG_STAT_ENC = false) (hplain : k.plainOk = false) :
    s.cfgPacket k act = (s.cfgFill.cfgTook (pktWords w)).cfgAbort .eAuth (w / 2 ^ 28) (if w / 2 ^ 28 = 1 then bitsOf w 16 8 else 0)
      (some ceAuth) := by
  simp only [State.cfgPacket, hfront, ne_eq, not_true_eq_false, false_and, if_false, State.dropPartial_frameEnd hframe, if_neg hk,
    State.reqAuth_cfgTook, State.on_cfgTook _ _ (show Reg.CFG_STAT_ENC.addr ≠ Reg.CFG_SPOS by decide), hreq, henc, hplain, Bool.not_false,
    Bool.and_self, if_true]

/-- A packet that is not well formed aborts the stream, whichever packet command meets it (log entry 30). -/
theorem State.cfgPacket_bad {s : State} {w d : Nat} (k : Pkt) (act : State → Nat → Nat → State)
    (hfront : s.cfgFill.cfgFront = some (.bad, w, d)) :
    s.cfgPacket k act = ((if w / 2 ^ 28 = 2 then s.cfgFill else s.cfgFill.dropPartial).cfgTook (pktWords w)).cfgAbort .eArg (w / 2 ^ 28)
      (if w / 2 ^ 28 = 1 then bitsOf w 16 8 else 0) (some ceSyntax) := by
  simp only [State.cfgPacket, hfront, ne_eq, not_true_eq_false, and_false, if_false, if_true]

/-- A NOP is accepted everywhere, and drops a partial frame. -/
theorem State.cfgPacket_nop {s : State} {w d : Nat} (hfront : s.cfgFill.cfgFront = some (.nop, w, d)) (hpt : w / 2 ^ 28 ≠ 2) :
    s.cfgPacket .nop (fun s _ _ => s) = (s.cfgFill.dropPartial.cfgTook (pktWords w)).cfgAfter := by
  simp only [State.cfgPacket, hfront, ne_eq, not_true_eq_false, false_and, if_false, if_neg hpt, reduceCtorEq, Pkt.plainOk, Pkt.always,
    Bool.not_true, Bool.and_false, Bool.false_eq_true, Bool.true_or, if_true]

/-- The header of a frame data packet that is ready is taken, and what has come of its words. -/
theorem CfgReady.cfgFrames {s : State} {k : Pkt} {w d pt : Nat} (h : CfgReady s k w d) :
    s.cfgFrames k pt = (((s.cfgFill.cfgTook 1).cfgFrameHead pt w true).cfgData).cfgAfter := by
  obtain ⟨hfront, hk, hpkt, hframe, hauth, happlies⟩ := h
  have hplain : (s.cfgFill.reqAuth && !s.cfgFill.on Reg.CFG_STAT_ENC) = false := by
    cases hreq : s.cfgFill.reqAuth with
    | false => rfl
    | true => rw [hauth hreq]; rfl
  have hnone : (Option.map CfgPkt.pt (none : Option CfgPkt) == some pt) = false := rfl
  simp only [State.cfgFrames, hpkt, hnone, Bool.false_eq_true, if_false, Option.isSome_none, hfront, ne_eq, not_true_eq_false,
    State.dropPartial_frameEnd hframe, State.reqAuth_cfgTook,
    State.on_cfgTook _ _ (show Reg.CFG_STAT_ENC.addr ≠ Reg.CFG_SPOS by decide), hplain, State.cfgApplies_cfgTook, happlies]

/-! ## The stream outside its packets -/

theorem State.cfgFill_host {s : State} (h : s.fromNor = false) : s.cfgFill = s := by
  simp only [State.cfgFill, h, Bool.not_false, Bool.true_or, if_true]

theorem State.fromNor_idle {s : State} (h : s.cfgSrc = srcIdle) : s.fromNor = false := by
  have hboot : (srcIdle == srcBoot) = false := rfl
  have hslot : (srcIdle == srcSlot) = false := rfl
  simp only [State.fromNor, h, hboot, hslot, Bool.false_and, Bool.or_self]

/-- Settles O33: a packet by whether it is ready, applies and may act where it stands; the words of the stream by its source. -/
theorem configurationStreamCompletes : Obligations.ConfigurationStreamCompletes := by
  refine ⟨?_, ?_, ?_, ?_, ?_, ?_, ?_, ?_, ?_, ?_, ?_, ?_, ?_, ?_, ?_, ?_, ?_, ?_, ?_, ?_, ?_, ?_, ?_, ?_, ?_, ?_, ?_, ?_, ?_, ?_⟩
  · intro s req off n v hn hnor hsrc hroom
    have hidle : ¬ srcData = srcIdle := by decide
    refine gives_of_effect rfl ?_
    simp only [State.cfgDataWrite, hn, hnor, hsrc, hidle, Nat.not_lt.mpr hroom, ne_eq, not_true_eq_false, Bool.false_eq_true, false_and,
      if_false, State.noteRefusal_ok]
  · dsimp only
    intro s req off n v hn hsrc hhost hroom
    refine gives_of_effect rfl ?_
    have hnor := State.fromNor_idle hsrc
    simp only [State.cfgDataWrite, hn, hnor, hsrc, hhost, Nat.not_lt.mpr hroom, ne_eq, not_true_eq_false, Bool.not_true,
      Bool.false_eq_true, and_false, if_false, if_true, State.noteRefusal_ok]
  · dsimp only
    intro s req off n v
    have harg : ∀ src o r, s.noteRefusal src o r .eArg = s := fun src o r => State.noteRefusal_other s src o r (by decide)
    have hbusy : ∀ src o r, s.noteRefusal src o r .eBusy = s := fun src o r => State.noteRefusal_other s src o r (by decide)
    refine ⟨fun hn => gives_of_effect rfl ?_, fun hn hnor => gives_of_effect rfl ?_, fun hn hsrc hhost => gives_of_effect rfl ?_,
      fun hn hnor hsrc hfull => gives_of_effect rfl ?_⟩
    · simp only [State.cfgDataWrite, if_pos hn, ne_eq, reduceCtorEq, not_false_eq_true, if_true, harg]
    · simp only [State.cfgDataWrite, hn, hnor, ne_eq, reduceCtorEq, not_true_eq_false, not_false_eq_true, if_false, if_true, hbusy]
    · simp only [State.cfgDataWrite, hn, State.fromNor_idle hsrc, hsrc, hhost, ne_eq, reduceCtorEq, not_true_eq_false, not_false_eq_true,
        Bool.not_false, and_self, Bool.false_eq_true, if_false, if_true]
    · have hidle : ¬ srcData = srcIdle := by decide
      simp only [State.cfgDataWrite, hn, hnor, hsrc, hidle, hfull, ne_eq, reduceCtorEq, not_true_eq_false, not_false_eq_true, false_and,
        Bool.false_eq_true, if_false, if_true, hbusy]
  · dsimp only
    intro s hsynced hnor hwords
    have hpre : s.cfg.fifo.takeWhile (fun w => w.toNat != syncWord) = s.cfg.fifo :=
      List.takeWhile_eq_self_iff.mpr fun w hw => by simpa using hwords w hw
    refine gives_of_effect rfl ?_
    simp only [hsynced, Bool.false_eq_true, if_false, State.cfgSync, State.cfgFill_host hnor, hpre, List.drop_length]
  · dsimp only
    intro s w l hsynced hnor hw hfifo hsrc hlife
    have hpre : (w :: l).takeWhile (fun w => w.toNat != syncWord) = [] := List.takeWhile_cons_of_neg (by simp [hw])
    have hidle : ¬ srcData = srcIdle := by decide
    refine gives_of_effect rfl ?_
    simp only [hsynced, Bool.false_eq_true, if_false, State.cfgSync, State.cfgFill_host hnor, hfifo, hpre, List.length_nil, List.drop_zero,
      hsrc, hidle, State.lcState_setBit, State.lcState_setFld, hlife]
  · intro s w d h
    exact gives_of_effect rfl (h.cfgPacket _)
  · intro s w d h
    exact gives_of_effect rfl (h.cfgPacket _)
  · intro s w d h
    exact gives_of_effect rfl (h.cfgPacket _)
  · dsimp only
    intro s w d h
    exact gives_of_effect rfl (h.cfgPacket _)
  · intro s w d h
    exact gives_of_effect rfl (h.cfgPacket _)
  · dsimp only
    intro s w d h
    exact gives_of_effect rfl (h.cfgPacket _)
  · intro s w d h
    exact gives_of_effect rfl (h.cfgPacket _)
  · dsimp only
    intro s w d p h hphys hstate hferr
    refine gives_of_effect rfl ((h.cfgPacket _).trans ?_)
    simp only [State.cfgCommit, hphys, hstate, hferr, ne_eq, not_true_eq_false, Bool.false_eq_true, if_false]
  · dsimp only
    intro s w d h
    refine ⟨fun hphys => gives_of_effect rfl ((h.cfgPacket _).trans ?_), fun p hphys hstate => gives_of_effect rfl ((h.cfgPacket _).trans ?_),
      fun p hphys hstate hferr => gives_of_effect rfl ((h.cfgPacket _).trans ?_)⟩
    · simp only [State.cfgCommit, hphys]
    · simp only [State.cfgCommit, hphys, if_pos hstate]
    · simp only [State.cfgCommit, hphys, hstate, hferr, ne_eq, not_true_eq_false, if_false, if_true]
  · dsimp only
    intro s w d p h hphys
    refine gives_of_effect rfl ((h.cfgPacket _).trans ?_)
    simp only [hphys]
  · dsimp only
    intro s w d h hphys
    refine gives_of_effect rfl ((h.cfgPacket _).trans ?_)
    simp only [hphys]
  · intro s w d h
    exact gives_of_effect rfl (h.cfgPacket _)
  · intro s w d h
    exact gives_of_effect rfl h.cfgFrames
  · intro s w d h
    exact gives_of_effect rfl h.cfgFrames
  · dsimp only
    intro s w d h
    exact gives_of_effect rfl (h.cfgPacket _)
  · intro s w d k c hc hfront hframe hauth happlies
    have hskip : ∀ act, k ≠ .bad → k.always = false → s.cfgPacket k act = (s.cfgFill.cfgTook (pktWords w)).cfgAfter := by
      intro act hk halways
      rw [State.cfgPacket_taken act hfront hk hframe hauth, halways, happlies, Bool.or_self, if_neg (by decide)]
    simp only [List.mem_cons, Prod.mk.injEq, List.not_mem_nil, or_false] at hc
    rcases hc with ⟨rfl, rfl⟩ | ⟨rfl, rfl⟩ | ⟨rfl, rfl⟩ | ⟨rfl, rfl⟩ | ⟨rfl, rfl⟩ | ⟨rfl, rfl⟩ | ⟨rfl, rfl⟩ <;>
      exact gives_of_effect rfl (hskip _ (by decide) rfl)
  · intro s w d k c hc hfront hframe hreq henc
    simp only [List.mem_cons, Prod.mk.injEq, List.not_mem_nil, or_false] at hc
    rcases hc with ⟨rfl, rfl⟩ | ⟨rfl, rfl⟩ | ⟨rfl, rfl⟩ | ⟨rfl, rfl⟩ | ⟨rfl, rfl⟩ | ⟨rfl, rfl⟩ | ⟨rfl, rfl⟩ <;>
      exact gives_of_effect rfl (State.cfgPacket_unauthenticated _ hfront (by decide) hframe hreq henc rfl)
  · dsimp only
    intro s w d c hc hfront
    simp only [List.mem_cons, List.not_mem_nil, or_false] at hc
    rcases hc with rfl | rfl | rfl | rfl | rfl | rfl | rfl | rfl | rfl | rfl | rfl <;>
      exact gives_of_effect rfl (State.cfgPacket_bad _ _ hfront)
  · intro s w d hfront hpt
    exact gives_of_effect rfl (State.cfgPacket_nop hfront hpt)
  · intro s p hpkt
    refine ⟨fun hpt => gives_of_effect rfl (if_pos ?_), fun hpt => gives_of_effect rfl (if_pos ?_)⟩
    · simp only [hpkt, Option.map_some, hpt, beq_self_eq_true]
    · simp only [hpkt, Option.map_some, hpt, beq_self_eq_true]
  · intro s w d h hcwr htag
    refine gives_of_effect rfl ?_
    simp only [hcwr]
    rw [if_neg (by simpa using Option.isSome_iff_ne_none.mp htag)]
    exact h.cfgPacket _
  · intro s k d hcwr hresponse
    refine gives_of_effect rfl ?_
    simp only [hcwr, hresponse]
  · intro s hnor hsynced henc hlast hkey hshort
    have hhead : s.cfg.chunk ++ s.cfg.fifo.take (8 - s.cfg.chunk.length) = s.cfg.chunk ++ s.cfg.fifo := by
      rw [List.take_of_length_le (by omega)]
    have hfew : (s.cfg.chunk ++ s.cfg.fifo).length < 8 := by
      rw [List.length_append]
      exact hshort
    have hall : min s.cfg.fifo.length (8 - s.cfg.chunk.length) = s.cfg.fifo.length := by omega
    refine gives_of_effect rfl ?_
    simp only [State.cfgChunk, State.cfgFill_host hnor, hsynced, henc, hlast, hkey, Bool.and_self, Bool.not_true, Bool.or_self,
      Bool.false_eq_true, if_false, hhead, decide_eq_false (Nat.not_le.mpr hfew), Bool.false_and, if_pos hfew, hall, List.take_length,
      List.drop_length]
  · intro s hnor hsynced henc hlast
    refine ⟨fun hkey => gives_of_effect rfl ?_, fun hkey hchunk hlong hbad => gives_of_effect rfl ?_⟩
    · simp only [State.cfgChunk, State.cfgFill_host hnor, hsynced, henc, hlast, hkey, Bool.and_self, Bool.not_true, Bool.not_false, Bool.or_self,
        Bool.false_eq_true, if_false, if_true]
    · have hhead : 8 ≤ (s.cfg.fifo.take 8).length := by
        rw [List.length_take]
        omega
      simp only [State.cfgChunk, State.cfgFill_host hnor, hsynced, henc, hlast, hkey, Bool.and_self, Bool.not_true, Bool.or_self,
        Bool.false_eq_true, if_false, hchunk, List.nil_append, List.length_nil, Nat.sub_zero, hhead, decide_true, hbad, Bool.not_false,
        if_true]
  · dsimp only
    intro s hfromNor hsynced henc hlast hslot hchunk hx hchunkLenOk hn
    refine gives_of_effect rfl ?_
    simp [State.cfgChunk, State.cfgFill, hfromNor, hsynced, henc, hlast, hslot, hchunk, hx, hchunkLenOk, hn]

end Sys2Proof.Machine
end

section
/-! Commands of the configuration controller, its map, readback and Pavane (O34). -/

namespace Sys2Proof.Machine

/-! ## The words of CFG_HCMD -/

theorem prStartWord_fields (l : BitVec 5) (k : BitVec 4) :
    bitsOf (2 + l.toNat * 2 ^ 4 + k.toNat * 2 ^ 12) 0 4 = 2 ∧ bitsOf (2 + l.toNat * 2 ^ 4 + k.toNat * 2 ^ 12) 4 5 = l.toNat ∧
      bitsOf (2 + l.toNat * 2 ^ 4 + k.toNat * 2 ^ 12) 12 4 = k.toNat := by
  have hl := l.isLt
  have hk := k.isLt
  simp only [bitsOf, Nat.shiftRight_eq_div_pow]
  omega

theorem runSlotWord_fields (k : BitVec 4) : bitsOf (3 + k.toNat * 2 ^ 12) 0 4 = 3 ∧ bitsOf (3 + k.toNat * 2 ^ 12) 12 4 = k.toNat := by
  have hk := k.isLt
  simp only [bitsOf, Nat.shiftRight_eq_div_pow]
  omega

theorem State.cfgHcmd_abort (s : State) (req : Nat) : s.cfgHcmd req 1 = s.cfgHostAbort.cfgRecord req Reg.CFG_HCMD 1 .ok := (rfl)

/-- PR_START of logical region `l` from slot `k`: it waits in `pr`, where none waits yet (R536). -/
theorem State.cfgHcmd_prStart (s : State) (req : Nat) (l : BitVec 5) (k : BitVec 4) :
    s.cfgHcmd req (2 + l.toNat * 2 ^ 4 + k.toNat * 2 ^ 12) =
      if s.cfg.pr.isSome then s.cfgRecord req Reg.CFG_HCMD 2 .eBusy
      else ((s.setCfg { s.cfg with pr := some ⟨l.toNat, k.toNat, s.now, req, s.tick.aligned⟩ }).tookAligned.setBit Reg.CFG_HCMDSTAT_PEND
        true).cfgRecord req Reg.CFG_HCMD 2 .ok := by
  obtain ⟨hcmd, hregion, hslot⟩ := prStartWord_fields l k
  simp only [State.cfgHcmd, hcmd, hregion, hslot]
  split <;> rfl

/-- RUN_SLOT of slot `k`: a stream from it begins where none runs and the slot is valid (R534). -/
theorem State.cfgHcmd_runSlot (s : State) (req : Nat) (k : BitVec 4) :
    s.cfgHcmd req (3 + k.toNat * 2 ^ 12) =
      if s.cfgSrc ≠ srcIdle then s.cfgRecord req Reg.CFG_HCMD 3 .eBusy
      else if !s.on (Reg.CFG_SLOT_VALID k.toNat) then s.cfgRecord req Reg.CFG_HCMD 3 .eArg
      else (s.slotBegin k.toNat).cfgRecord req Reg.CFG_HCMD 3 .ok := by
  obtain ⟨hcmd, hslot⟩ := runSlotWord_fields k
  simp only [State.cfgHcmd, hcmd, hslot]
  split
  · rfl
  · split <;> rfl

/-! ## The host's PR_START -/

/-- A PR_START whose turn has come takes effect (R536). -/
theorem State.prEffect_due {s : State} {p : PrPend} (hpr : s.cfg.pr = some p) (hdue : s.prDue p = true) (hturn : s.prTurn p = true) :
    let r := ((s.setCfg { s.cfg with pr := none }).setBit Reg.CFG_HCMDSTAT_PEND false).prStart p.region p.slot
    s.prEffect = (((r.1.setFld Reg.CFG_HCMDSTAT_CODE r.2.num).setFld Reg.CFG_HCMDSTAT_CMD 2).setFld Reg.CFG_HCMDSTAT_REQ
      p.req).noteRefusal srcCfg (Reg.CFG_HCMD - Reg.CFG_CTL) p.req r.2 := by
  dsimp only
  simp only [State.prEffect, hpr, hdue, hturn, Bool.not_true, Bool.or_self, Bool.false_eq_true, if_false]

theorem State.prEffect_waits {s : State} {p : PrPend} (hpr : s.cfg.pr = some p) (hwait : s.prDue p = false ∨ s.prTurn p = false) :
    s.prEffect = s := by
  simp only [State.prEffect, hpr]
  exact if_pos (by rcases hwait with h | h <;> simp [h])

/-! ## Readback -/

theorem State.cfgReadback_locked {s : State} (req value : Nat) (h : s.on Reg.CFG_CTL_RDBK_DIS = true ∨ s.lcState = 2) :
    s.cfgReadback req value =
      ((s.setFld Reg.CFG_RBSTAT_CODE Code.eLock.num).setBit Reg.CFG_RBSTAT_VALID false).cfgRecord req Reg.CFG_RBFAR 0 .eLock := by
  have hlocked : (s.on Reg.CFG_CTL_RDBK_DIS || s.lcState == 2) = true := by simpa using h
  simp only [State.cfgReadback, hlocked, if_true]
  rfl

/-- Settles O34: a host command by its code, PR_START by its turn, a readback by its address and its region. -/
theorem configurationCommandsComplete : Obligations.ConfigurationCommandsComplete := by
  refine ⟨?_, ?_, ?_, ?_, ?_, ?_, ?_, ?_, ?_, ?_, ?_, ?_, ?_, ?_, ?_, ?_⟩
  · intro s req hidle
    refine gives_of_effect rfl ((State.cfgHcmd_abort s req).trans ?_)
    rw [State.cfgHostAbort, if_pos hidle]
  · intro s req hrun
    refine gives_of_effect rfl ((State.cfgHcmd_abort s req).trans ?_)
    rw [State.cfgHostAbort, if_neg hrun]
  · intro s req l k hpr
    exact gives_of_effect rfl ((State.cfgHcmd_prStart s req l k).trans (if_neg (by simp [hpr])))
  · intro s req l k p hpr
    exact gives_of_effect rfl ((State.cfgHcmd_prStart s req l k).trans (if_pos (by simp [hpr])))
  · dsimp only
    intro s p hpr htick
    have heffect := State.prEffect_due hpr (by simp [State.prDue, htick]) (by simp [State.prTurn, htick])
    refine gives_of_effect rfl (Eq.trans ?_ heffect)
    cases s.cfg.pr.bind (fun p => s.physicalOf p.region) with
    | none => rfl
    | some r => simp only [htick, Bool.false_eq_true, if_false]
  · intro s p r hpr htick hregion
    have heffect : Gives .prStartEffect s s.prEffect.releaseHeld := by
      refine gives_of_effect rfl ?_
      simp only [hpr, Option.bind_some, hregion, htick, if_true]
    refine ⟨fun _ => heffect, fun hwait => ?_⟩
    rwa [State.prEffect_waits hpr hwait] at heffect
  · intro s req k hidle hvalid
    refine gives_of_effect rfl ((State.cfgHcmd_runSlot s req k).trans ?_)
    rw [if_neg (by simp [hidle]), if_neg (by simp [hvalid])]
  · intro s req k
    refine ⟨fun hrun => gives_of_effect rfl ((State.cfgHcmd_runSlot s req k).trans (if_pos hrun)),
      fun hidle hvalid => gives_of_effect rfl ((State.cfgHcmd_runSlot s req k).trans ?_)⟩
    rw [if_neg (by simp [hidle]), if_pos (by simp [hvalid])]
  · dsimp only
    intro s hsrc hnor hlisten hroom hhold hraw
    refine gives_of_effect rfl ((if_pos hsrc).trans (if_neg ?_))
    simp [hnor, hlisten, hroom, hhold, hraw]
  · intro s req value
    exact gives_of_effect rfl rfl
  · dsimp only
    intro s req p value hopen hlife hfar hphys hon
    refine gives_of_effect rfl ?_
    have hlocked : (s.on Reg.CFG_CTL_RDBK_DIS || s.lcState == 2) = false := by simp [hopen, hlife]
    simp only [State.cfgReadback, hlocked, hfar, hphys, if_neg hon, Bool.not_true, Bool.false_eq_true, if_false, ne_eq, not_true_eq_false]
    rfl
  · dsimp only
    intro s req value hopen hlife
    have hlocked : (s.on Reg.CFG_CTL_RDBK_DIS || s.lcState == 2) = false := by simp [hopen, hlife]
    refine ⟨fun hbad => gives_of_effect rfl ?_, fun p hfar hphys hoff => gives_of_effect rfl ?_⟩
    · cases hfar : farOk (value.toNat % 2 ^ 22) with
      | false =>
        simp only [State.cfgReadback, hlocked, hfar, Bool.not_false, Bool.false_eq_true, if_false, if_true]
        rfl
      | true =>
        have hphys : s.physicalOf (farRegion (value.toNat % 2 ^ 22)) = none := hbad.resolve_left (by rw [hfar]; decide)
        simp only [State.cfgReadback, hlocked, hfar, hphys, Bool.not_true, Bool.false_eq_true, if_false]
        rfl
    · simp only [State.cfgReadback, hlocked, hfar, hphys, hoff, Bool.not_true, Bool.false_eq_true, if_false, if_true]
      rfl
  · intro s req value hlocked
    exact gives_of_effect rfl (State.cfgReadback_locked req _ hlocked)
  · intro s hlisten hrun
    exact gives_of_effect rfl (if_pos (by simp [hlisten, hrun]))
  · intro s r hr hstate hstage hgap
    exact gives_of_effect rfl (if_pos (by simp [hr, hstate, hstage, hgap]))
  · intro s r hr hstate hstage hgap
    exact gives_of_effect rfl (if_pos (by simp [hr, hstate, hstage, hgap]))

end Sys2Proof.Machine
end

section
/-! Start, reset, boot and listening (O35). -/

namespace Sys2Proof.Machine

/-- What the boot does about the NOR: it is found, with its size, or its absence is an incident (R553). -/
def State.norFound (s : State) (ok : Bool) (size : Nat) : State :=
  let found := ok && decide (norLeast ≤ size)
  let t := s.setHk { s.hk with norOk := found, norSize := if found then size else 0 }
  if found then t else t.bootEvent 3 .eUnsup 0

theorem State.norFound_large (s : State) {size : Nat} (h : norLeast ≤ size) :
    s.norFound true size = s.setHk { s.hk with norOk := true, norSize := size } := by
  simp only [State.norFound, decide_eq_true h, Bool.and_self, if_true]

theorem State.norFound_small (s : State) {size : Nat} (h : size < norLeast) :
    s.norFound true size = (s.setHk { s.hk with norOk := false, norSize := 0 }).bootEvent 3 .eUnsup 0 := by
  simp only [State.norFound, decide_eq_false (Nat.not_le.mpr h), Bool.and_false, Bool.false_eq_true, if_false]

theorem State.norFound_absent (s : State) (size : Nat) :
    s.norFound false size = (s.setHk { s.hk with norOk := false, norSize := 0 }).bootEvent 3 .eUnsup 0 := by
  simp only [State.norFound, Bool.false_and, Bool.false_eq_true, if_false]

/-- The first look for the NOR begins the boot. -/
theorem gives_norInit_first {s : State} (ok : Bool) (size : Nat) (hup : s.hk.up = true) (hmode : s.bootMode ≠ 1) (hstate : s.bootState = 0) :
    Gives (.norInit ok size) s ((s.setBoot 1).norFound ok size) := by
  have hmode' : (s.bootMode == 1) = false := by simpa using hmode
  refine gives_of_effect rfl ?_
  simp only [hup, hmode', hstate, beq_self_eq_true, Bool.true_or, Bool.not_true, Bool.or_self, Bool.false_eq_true, if_false, if_true]
  rfl

/-- An attempt at an image looks for the NOR again where none was found. -/
theorem gives_norInit_again {s : State} (ok : Bool) (size : Nat) (hup : s.hk.up = true) (hmode : s.bootMode ≠ 1) (hstate : s.bootState ≠ 0)
    (himage : s.imageDue = true) (hstep : s.hk.step = 0) (hnone : s.hk.norOk = false) :
    Gives (.norInit ok size) s (s.norFound ok size) := by
  have hstate' : (s.bootState == 0) = false := by simpa using hstate
  have hgo : (!s.hk.up || s.bootMode == 1 || !(false || s.imageDue && s.hk.step == 0 && !s.hk.norOk)) = false := by
    simp [hup, hmode, himage, hstep, hnone]
  refine gives_of_effect rfl ?_
  simp only [hstate', hgo, Bool.false_eq_true, if_false]
  rfl

/-- The regions that the settings name are powered (R554). -/
def State.regionsPowered (s : State) : State :=
  (List.range 24).foldl (fun t r => if hasBit t.hk.regpwr r then t.regionCmdWrite reqHk r cmdPowerOn else t) s

/-- The boot state that follows, by the boot mode (Table 15-1). -/
def stateOfMode : Nat → Nat
  | 0 => 4
  | 1 => bsListen
  | _ => bsHostOnly

theorem stateOfMode_host {m : Nat} (h : 2 ≤ m) : stateOfMode m = bsHostOnly := by
  match m, h with
  | _ + 2, _ => rfl

theorem gives_bootRegionPower {s : State} (hup : s.hk.up = true) (hclk : s.hk.refclk = true) (hlock : s.on Reg.TICK_STATUS_PLL_LOCK = true)
    (hstate : s.bootState = 2 ∨ s.bootState = 3) :
    Gives .bootRegionPower s (s.regionsPowered.setBoot (stateOfMode s.regionsPowered.bootMode)) := by
  refine gives_of_effect rfl ((if_pos ?_).trans rfl)
  obtain h | h := hstate <;> simp [hup, hclk, hlock, h]

/-- HOLD is taken in the states of an attempt (R561): a running attempt at an image is given up. -/
theorem State.bootCtl_hold {s : State} (req : Nat) (hmode : s.bootMode = 0) (hlow : 5 ≤ s.bootState) (hhigh : s.bootState ≤ 8) :
    s.bootCtl req 1 = ((if s.hk.attempt = 1 ∨ s.hk.attempt = 2 then s.cfgHostAbort.setHk { s.cfgHostAbort.hk with attempt := 0 } else s).setBoot
      bsHeld).bootRecord req .ok := by
  rw [State.bootCtl]
  exact if_pos ⟨hmode, hlow, hhigh⟩

/-- A listener takes what it hears by its place. -/
theorem gives_busRead {s : State} (a n v : Nat) (hup : s.hk.up = true) (hlisten : s.listener = true) (hstate : s.bootState ≠ bsRescue) :
    Gives (.listenerBusRead a n v) s (s.busRead a n v) :=
  gives_of_effect rfl (if_pos (by simp [hup, hlisten, hstate]))

/-- A place that is neither below the journal's end nor an image's first is one of the stream that is due, or of nothing. -/
theorem State.busRead_elsewhere {s : State} {a n : Nat} (v : Nat) (hhigh : 0x20000 ≤ a) (hA : a ≠ imageBase 1) (hB : a ≠ imageBase 2) :
    s.busRead a n v = if a = s.hk.expect ∧ s.cfgSrc = srcBoot then s.hearStream v n else s := by
  rw [State.busRead, if_neg (Nat.not_lt.mpr hhigh), if_neg (fun h => h.1.elim hA hB)]

/-- Settles O35: the NOR by its size, the journal by what is there, a boot command by its state, a word on the bus by its place. -/
theorem bootCompletes : Obligations.BootCompletes := by
  refine ⟨?_, ?_, ?_, ?_, ?_, ?_, ?_, ?_, ?_, ?_, ?_, ?_, ?_, ?_, ?_, ?_, ?_, ?_⟩
  · dsimp only
    intro s refclk hup hrun htrip
    refine gives_of_effect rfl (if_neg ?_)
    simp [hup, hrun, htrip]
  · dsimp only
    intro s hrun
    exact gives_of_effect rfl (if_neg (not_not_intro hrun))
  · intro s refclk hbad
    refine gives_of_effect rfl (if_pos ?_)
    obtain h | h | h := hbad <;> simp [h]
  · dsimp only
    intro s size hup hmode hstate
    refine ⟨fun hlarge => ?_, fun hsmall => ?_, ?_⟩
    · exact State.norFound_large _ hlarge ▸ gives_norInit_first true size hup hmode hstate
    · exact State.norFound_small _ hsmall ▸ gives_norInit_first true size hup hmode hstate
    · exact State.norFound_absent _ size ▸ gives_norInit_first false size hup hmode hstate
  · intro s size hup hmode hstate himage hstep hnone
    refine ⟨fun hlarge => ?_, ?_⟩
    · exact State.norFound_large _ hlarge ▸ gives_norInit_again true size hup hmode hstate himage hstep hnone
    · exact State.norFound_absent _ size ▸ gives_norInit_again false size hup hmode hstate himage hstep hnone
  · dsimp only
    intro s hup hjournal hstate hnor hretry
    have hfirst : (s.bootState != 1) = false := by simp [hstate]
    refine ⟨fun hlife hmode hclk => gives_of_effect rfl ?_, fun hlife hmode hclk => gives_of_effect rfl ?_,
      fun hrescue => gives_of_effect rfl ?_⟩ <;>
      simp only [hup, hjournal, hfirst, hnor, hretry, Bool.not_true, Bool.false_and, Bool.or_self, Bool.true_or, Bool.false_eq_true, if_false,
        if_true]
    · rw [if_neg (fun h => h.elim hlife hmode), if_pos hclk]
    · rw [if_neg (fun h => h.elim hlife hmode), if_neg (by simp [hclk])]
    · rw [if_pos hrescue]
  · dsimp only
    intro s hup hjournal hstate hnor hlisten hretry hlife hmode hclk
    have hgo : (!s.hk.up || s.hk.journal || (s.bootState != 1 && !(s.bootMode == 1 && s.bootState == 0))) = false := by
      simp [hup, hjournal, hstate]
    have hnoJournal : (s.hk.norOk || s.listener) = false := by simp [hnor, hlisten]
    refine gives_of_effect rfl ?_
    simp only [hgo, hnoJournal, hretry, Bool.false_eq_true, if_false, if_true]
    rw [if_neg (fun h => h.elim hlife hmode), if_pos hclk]
  · intro s
    exact gives_of_effect rfl rfl
  · dsimp only
    intro s hup hclk hlock hstate
    have hgives := gives_bootRegionPower hup hclk hlock hstate
    refine ⟨fun hmode => ?_, fun hmode => ?_, fun hmode => ?_⟩
    · have hmode' : s.regionsPowered.bootMode = 0 := hmode
      rwa [hmode'] at hgives
    · have hmode' : s.regionsPowered.bootMode = 1 := hmode
      rwa [hmode'] at hgives
    · rwa [stateOfMode_host (m := s.regionsPowered.bootMode) hmode] at hgives
  · intro s himage hregions hidle
    exact gives_of_effect rfl (if_pos (by simp [himage, hregions, hidle]))
  · intro s hup hmode hwait hattempt
    exact gives_of_effect rfl (if_pos (by obtain ⟨h, h'⟩ | ⟨h, h'⟩ := hwait <;> simp [hup, hmode, h, h', hattempt]))
  · intro s c hdone hattempt hidle
    refine gives_of_effect rfl ?_
    simp only [hdone]
    exact if_neg (by simp [hattempt, hidle])
  · intro s req hmode hlow hhigh
    refine ⟨fun hattempt => gives_of_effect rfl ((State.bootCtl_hold req hmode hlow hhigh).trans ?_),
      fun hattempt => gives_of_effect rfl ((State.bootCtl_hold req hmode hlow hhigh).trans ?_)⟩
    · rw [if_neg (by omega)]
    · rw [if_pos hattempt]
  · intro s req
    refine ⟨fun hbad => gives_of_effect rfl ?_, fun hstate => gives_of_effect rfl ?_⟩
    · rw [State.bootCtl]
      exact if_neg (by omega)
    · rw [State.bootCtl]
      exact if_neg hstate
  · dsimp only
    intro s req hstate
    refine gives_of_effect rfl ?_
    rw [State.bootCtl]
    exact if_pos hstate
  · intro s hstate hseen
    exact gives_of_effect rfl (if_pos ⟨hstate, by rw [hseen]; rfl⟩)
  · intro s a n v hup hlisten hstate
    have hgives := gives_busRead a n v hup hlisten hstate
    refine ⟨fun hlow => ?_, fun ha hn => ?_, fun ha hn => ?_, fun hhigh hA hB hexpect hsrc => ?_, fun hhigh hA hB hother => ?_⟩
    · rwa [State.busRead, if_pos hlow] at hgives
    · subst ha
      rwa [State.busRead, if_neg (by decide), if_pos ⟨.inl rfl, hn⟩, if_pos rfl] at hgives
    · subst ha
      rwa [State.busRead, if_neg (by decide), if_pos ⟨.inr rfl, hn⟩, if_neg (by decide)] at hgives
    · rwa [State.busRead_elsewhere v hhigh hA hB, if_pos ⟨hexpect, hsrc⟩] at hgives
    · rwa [State.busRead_elsewhere v hhigh hA hB, if_neg (fun h => hother h.1)] at hgives
  · intro s
    exact gives_of_effect rfl rfl

end Sys2Proof.Machine
end

section
/-! Journal commands, store tries and raw access to the NOR (O36). -/

namespace Sys2Proof.Machine

/-! ## Command words -/

theorem journalReadWord_fields {type dev part : Nat} (htype : type < 256) (hdev : dev < 8) (hpart : part < 8) :
    (2 + type % 2 ^ 8 * 2 ^ 4 + dev % 8 * 2 ^ 12 + part % 8 * 2 ^ 16) % 16 = 2 ∧
      bitsOf (2 + type % 2 ^ 8 * 2 ^ 4 + dev % 8 * 2 ^ 12 + part % 8 * 2 ^ 16) 4 8 = type ∧
      bitsOf (2 + type % 2 ^ 8 * 2 ^ 4 + dev % 8 * 2 ^ 12 + part % 8 * 2 ^ 16) 12 3 = dev ∧
      bitsOf (2 + type % 2 ^ 8 * 2 ^ 4 + dev % 8 * 2 ^ 12 + part % 8 * 2 ^ 16) 16 3 = part := by
  simp only [bitsOf, Nat.shiftRight_eq_div_pow]
  omega

theorem norProgramWord_fields (force : Bool) : (2 + bit force * 2 ^ 4) % 16 = 2 ∧ hasBit (2 + bit force * 2 ^ 4) 4 = force := by
  cases force <;> decide

/-! ## Journal commands -/

theorem State.journalCmd_busy {s : State} (req value : Nat) (h : s.on Reg.HK_JSTAT_BUSY = true) :
    s.journalCmd req value = s.journalRecord req (value % 16) .eBusy := if_pos h

/-- READ of the record of a key: the buffer takes it where one is in force (R565). -/
theorem State.journalCmd_read {s : State} {type dev part : Nat} (req : Nat) (htype : type < 256) (hdev : dev < 8) (hpart : part < 8)
    (hfree : s.on Reg.HK_JSTAT_BUSY = false) :
    s.journalCmd req (2 + type % 2 ^ 8 * 2 ^ 4 + dev % 8 * 2 ^ 12 + part % 8 * 2 ^ 16) =
      (s.inForce (keyOf type dev part)).elim (s.journalRecord req 2 .eArg)
        (fun e => (s.setHk { s.hk with jbuf := e.2 }).journalRecord req 2 .ok) := by
  obtain ⟨hcmd, htype', hdev', hpart'⟩ := journalReadWord_fields htype hdev hpart
  simp only [State.journalCmd, hfree, hcmd, htype', hdev', hpart', Bool.false_eq_true, if_false]
  cases s.inForce (keyOf type dev part) <;> rfl

/-! ## Tries of a store -/

/-- The try of the store at work comes by JOURNAL_STORE, and after a hold-up check that failed by HOLDUP_RETRY. -/
theorem gives_storeTry {s : State} (v1 v2 : Nat) (back : Option Nat) (hup : s.hk.up = true) :
    Gives (if s.hk.waiting then .holdupRetry v1 v2 back else .journalStore v1 v2 back) s (s.storeTry v1 v2 back) := by
  cases hwait : s.hk.waiting with
  | true =>
    rw [if_pos rfl]
    exact gives_of_effect rfl (if_pos (by rw [hup, hwait]; rfl))
  | false =>
    rw [if_neg (by decide)]
    exact gives_of_effect rfl (if_pos (by rw [hup, hwait]; rfl))

theorem State.storeTry_idle {s : State} (v1 v2 : Nat) (back : Option Nat) (h : s.hk.cur = none ∨ s.storeBlocked = true) :
    s.storeTry v1 v2 back = s := by
  unfold State.storeTry
  split
  · rfl
  · rename_i x hcur
    exact if_pos (.inr (h.resolve_left (by simp [hcur])))

/-! ## Raw access -/

theorem State.norCmd_refused {s : State} {req value cmd : Nat} {force : Bool} (hcmd : value % 16 = cmd) (hforce : hasBit value 4 = force)
    (h : s.norCode cmd force ≠ .ok) : s.norCmd req value = s.norRecord req cmd (s.norCode cmd force) := by
  rw [State.norCmd, hcmd, hforce]
  exact if_pos h

/-- Settles O36: a journal command by what is in force, a try of a store by what it meets, a raw command by its code. -/
theorem journalAndNorComplete : Obligations.JournalAndNorComplete := by
  refine ⟨?_, ?_, ?_, ?_, ?_, ?_, ?_, ?_, ?_, ?_, ?_, ?_, ?_, ?_, ?_, ?_, ?_, ?_⟩
  · dsimp only
    intro s req hfree
    exact gives_of_effect rfl (if_neg (by rw [hfree]; decide))
  · intro s req type dev part htype hdev hpart hbusy
    obtain ⟨hcmd, -⟩ := journalReadWord_fields htype hdev hpart
    refine ⟨gives_of_effect rfl (State.journalCmd_busy req _ hbusy), gives_of_effect rfl ((State.journalCmd_busy req _ hbusy).trans ?_),
      gives_of_effect rfl (State.journalCmd_busy req _ hbusy)⟩
    rw [hcmd]
  · intro s req hfree hempty
    refine gives_of_effect rfl ((if_neg (by rw [hfree]; decide)).trans ?_)
    simp only [hempty]
  · intro s req type dev part e htype hdev hpart hfree hforce
    refine gives_of_effect rfl ((State.journalCmd_read req htype hdev hpart hfree).trans ?_)
    rw [hforce, Option.elim_some]
  · intro s req type dev part htype hdev hpart hfree hforce
    refine gives_of_effect rfl ((State.journalCmd_read req htype hdev hpart hfree).trans ?_)
    rw [hforce, Option.elim_none]
  · intro s req v l hfree hfull
    refine gives_of_effect rfl ((if_neg (by rw [hfree]; decide)).trans ?_)
    simp only [hfull]
  · dsimp only
    intro s x v1 v2 back hup hcur houtcome hblocked
    have hgives := gives_storeTry v1 v2 back hup
    have hgo : ¬ (x.outcome.isSome = true ∨ s.storeBlocked = true) := by simp [houtcome, hblocked]
    refine ⟨fun hlisten => ?_, fun hlisten hnor => ?_, fun hlisten hnor hidle => ?_, fun hlisten hnor hidle hsense => ?_,
      fun hlisten hnor hidle hsense => ⟨fun hfail hlast => ?_, fun hfail hmore => ?_, fun hpass => ⟨fun hroom => ?_, fun hfull => ?_⟩⟩⟩ <;>
      simp only [State.storeTry, hcur, if_neg hgo, hlisten, Bool.false_eq_true, if_false, if_true] at hgives
    · exact hgives
    · simpa only [hnor, Bool.not_false, if_true] using hgives
    · simpa only [hnor, hidle, Bool.not_true, Bool.false_eq_true, if_false, if_true] using hgives
    · simpa only [hnor, hidle, hsense, Bool.not_true, Bool.not_false, Bool.false_eq_true, if_false, if_true] using hgives
    all_goals
      simp only [hnor, hidle, hsense, Bool.not_true, Bool.false_eq_true, if_false] at hgives
    · simpa only [hfail, Bool.not_false, if_true, if_pos hlast] using hgives
    · simpa only [hfail, Bool.not_false, if_true, if_neg (Nat.not_le.mpr hmore)] using hgives
    · simpa only [hpass, Bool.not_true, Bool.false_eq_true, if_false, hroom] using hgives
    · simpa only [hpass, Bool.not_true, Bool.false_eq_true, if_false, hfull, if_true] using hgives
  · intro s v1 v2 back h
    have hidle := State.storeTry_idle v1 v2 back h
    exact ⟨gives_of_effect rfl (by rw [hidle, ite_self]), gives_of_effect rfl (by rw [hidle, ite_self])⟩
  · intro s hhold
    exact gives_of_effect rfl (if_pos hhold)
  · intro s x c back hst hcur houtcome
    exact gives_of_effect rfl ((if_neg hst).trans (if_pos (by rw [hcur, Option.bind_some, houtcome]; rfl)))
  · intro s back hst
    exact gives_of_effect rfl (if_pos hst)
  · intro s op back hst hcur hraw
    refine gives_of_effect rfl ((if_neg hst).trans ((if_neg (by rw [hcur]; decide)).trans ?_))
    simp only [hraw]
  · intro s req hok
    exact gives_of_effect rfl (if_neg (not_not_intro hok))
  · dsimp only
    intro s req force hok
    obtain ⟨hcmd, hforce⟩ := norProgramWord_fields force
    refine gives_of_effect rfl ?_
    rw [State.norCmd, hcmd, hforce]
    exact if_neg (not_not_intro hok)
  · intro s req force hcode
    obtain ⟨hcmd, hforce⟩ := norProgramWord_fields force
    exact gives_of_effect rfl (State.norCmd_refused hcmd hforce hcode)
  · intro s req p hp hcode
    simp only [List.mem_cons, List.not_mem_nil, or_false] at hp
    rcases hp with rfl | rfl | rfl <;> exact gives_of_effect rfl (State.norCmd_refused rfl rfl hcode)
  · intro s req hok
    exact gives_of_effect rfl (if_neg (not_not_intro hok))
  · intro s req hok
    exact gives_of_effect rfl (if_neg (not_not_intro hok))

end Sys2Proof.Machine
end

section
/-! Slice events of the self-test (O37). -/

namespace Sys2Proof.Machine

/-- What the copy of a slice shows: a frame fault, for a block only (R590). -/
def State.copyShows (s : State) (r : Nat) : Option Nat :=
  if s.fld (Reg.ST_SLICE_KIND r) = 0 then s.copyFault r (s.fld (Reg.ST_SLICE_INDEX r)) else none

theorem State.copyShows_fault {s : State} {r f : Nat} (hkind : s.fld (Reg.ST_SLICE_KIND r) = 0)
    (hfault : s.copyFault r (s.fld (Reg.ST_SLICE_INDEX r)) = some f) : s.copyShows r = some f := by
  rw [State.copyShows, if_pos hkind, hfault]

theorem State.copyShows_none {s : State} {r : Nat}
    (h : s.fld (Reg.ST_SLICE_KIND r) = 0 → s.copyFault r (s.fld (Reg.ST_SLICE_INDEX r)) = none) : s.copyShows r = none := by
  unfold State.copyShows
  split
  · rename_i hkind
    exact h hkind
  · rfl

/-- A copy ends without a fault: the slice waits for its handover. -/
theorem gives_sliceCopyDone_clean {s : State} {r : Nat} (dur : Nat) (hr : r < 24) (hphase : s.slicePhase r = phCopy)
    (hshows : s.copyShows r = none) : Gives (.sliceCopyDone r dur) s ((s.setPhase r phWaitOut).sliceReady r) := by
  refine gives_of_effect rfl ((if_neg (by simp [hr, hphase])).trans ?_)
  simp only [State.copyShows] at hshows
  simp only [hshows]

/-- A copy shows a fault: the slice is over. -/
theorem gives_sliceCopyDone_fault {s : State} {r f : Nat} (dur : Nat) (hr : r < 24) (hphase : s.slicePhase r = phCopy)
    (hshows : s.copyShows r = some f) :
    Gives (.sliceCopyDone r dur) s ((s.frameFault r (s.fld (Reg.ST_SLICE_INDEX r) / 8)
      (40 * (s.fld (Reg.ST_SLICE_INDEX r) % 8) + f)).sliceFinish r outCopyFault dur).sweepCheck := by
  refine gives_of_effect rfl ((if_neg (by simp [hr, hphase])).trans ?_)
  simp only [State.copyShows] at hshows
  simp only [hshows]

/-- A restore ends without a fault: the slice waits to be handed back, or is parked. -/
theorem gives_sliceRestoreDone_clean {s : State} {r : Nat} (dur : Nat) (hr : r < 24) (hphase : s.slicePhase r = phRestore)
    (hshows : s.copyShows r = none) :
    Gives (.sliceRestoreDone r dur) s ((s.setPhase r (if hasBit s.selfTest.aborting r then phParked else phWaitBack)).sliceReady r) := by
  refine gives_of_effect rfl ((if_neg (by simp [hr, hphase])).trans ?_)
  simp only [State.copyShows] at hshows
  simp only [hshows]

/-- A restore shows a fault: the slice is over, and nothing stands in. -/
theorem gives_sliceRestoreDone_fault {s : State} {r f : Nat} (dur : Nat) (hr : r < 24) (hphase : s.slicePhase r = phRestore)
    (hshows : s.copyShows r = some f) :
    Gives (.sliceRestoreDone r dur) s (((s.frameFault r (s.fld (Reg.ST_SLICE_INDEX r) / 8)
      (40 * (s.fld (Reg.ST_SLICE_INDEX r) % 8) + f)).sliceFinish r outCopyFault dur).setOrigin r (s.fld (Reg.ST_SLICE_KIND r)) 0).sweepCheck := by
  refine gives_of_effect rfl ((if_neg (by simp [hr, hphase])).trans ?_)
  simp only [State.copyShows] at hshows
  simp only [hshows]

/-- Settles O37: a slice goes on by its phase, by what its copy shows, and by the result of its test. -/
theorem sliceEventsComplete : Obligations.SliceEventsComplete := by
  refine ⟨?_, ?_, ?_, ?_, ?_, ?_, ?_, ?_, ?_, ?_⟩
  · dsimp only
    intro s r p hmay hnext
    refine gives_of_effect rfl ?_
    simp only [hmay, hnext, Bool.not_true, Bool.false_eq_true, if_false]
  · intro s r hmay hnext
    refine gives_of_effect rfl ?_
    simp only [hmay, hnext, Bool.not_true, Bool.false_eq_true, if_false]
  · dsimp only
    intro s r dur f hr hkind hfault
    have hshows := State.copyShows_fault hkind hfault
    refine ⟨fun hphase => gives_sliceCopyDone_fault dur hr hphase hshows, fun hphase => ?_⟩
    have hgives := gives_sliceRestoreDone_fault dur hr hphase hshows
    rwa [hkind] at hgives
  · intro s r dur hr hphase hclean
    exact gives_sliceCopyDone_clean dur hr hphase (State.copyShows_none hclean)
  · dsimp only
    intro s r dur hr hphase heligible
    have hgo : (!validRegion r || s.slicePhase r != phWaitOut || !s.sliceEligible r) = false := by simp [hr, hphase, heligible]
    refine ⟨fun htest => gives_of_effect rfl ?_, fun hmark => gives_of_effect rfl ?_⟩
    · simp only [hgo, hasBit, htest, Bool.false_eq_true, if_false]
    · simp only [hgo, hasBit, hmark, Bool.false_eq_true, if_false, if_true]
  · intro s r dur hr hphase
    have hgo : (!validRegion r || s.slicePhase r != phTest) = false := by simp [hr, hphase]
    refine ⟨fun hspare => gives_of_effect rfl ?_, fun hplace => gives_of_effect rfl ?_, fun honce => gives_of_effect rfl ?_,
      fun honce => gives_of_effect rfl ?_⟩
    · simp only [hgo, Bool.not_true, Bool.false_and, Bool.false_eq_true, if_false, if_neg hspare]
    · simp only [hgo, Bool.not_true, Bool.false_and, Bool.false_eq_true, if_false, if_pos hplace]
      rfl
    · simp only [hgo, hasBit, honce, Bool.not_false, Bool.and_self, Bool.false_eq_true, if_false, if_true]
    · simp only [hgo, hasBit, honce, Bool.not_false, Bool.not_true, Bool.and_false, Bool.false_eq_true, if_false, if_true]
  · intro s r dur hr hphase hclean
    exact gives_sliceRestoreDone_clean dur hr hphase (State.copyShows_none hclean)
  · intro s r dur hr hphase heligible
    have hwaits : (waitsBack (s.slicePhase r) && s.sliceEligible r) = true := by
      obtain h | h := hphase <;> rw [h, heligible] <;> decide
    refine gives_of_effect rfl ((if_neg (by simp [hr])).trans ((if_pos hwaits).trans rfl))
  · intro s r dur hr hphase
    refine ⟨fun hkind hblocked => gives_of_effect rfl (if_pos ?_), fun hkind => gives_of_effect rfl (if_pos ?_)⟩
    · simp [hr, hphase, hkind, hblocked]
    · simp [hr, hphase, hkind]
  · intro s hrestore
    exact gives_of_effect rfl (if_pos hrestore)

end Sys2Proof.Machine
end

section
/-! Commands of the self-test controller and of the life cycle (O38). -/

namespace Sys2Proof.Machine

theorem validRegion_eq_false {r : Nat} (h : 24 ≤ r) : validRegion r = false := by simp [validRegion, h]

theorem validLane_eq_false {n : Nat} (h : 128 ≤ n) : validLane n = false := by simp [validLane, h]

/-! ## REGION_TEST and EYE_CHECK -/

/-- The code of REGION_TEST (Table 16-3). -/
def State.regionTestCode (s : State) (r : Nat) : Code :=
  if !validRegion r then .eArg else if s.testing r || s.slicing r then .eBusy else if s.rstate r ≠ .blank then .eState else .ok

theorem gives_regionTest_refused {s : State} {req r : Nat} {c : Code} (hcode : s.regionTestCode r = c) (hc : c ≠ .ok) :
    Gives (.selftestRegionTest req r) s (s.stRecord req 3 c) := by
  subst hcode
  exact gives_of_effect rfl (congrArg (State.stRecord · req 3 (s.regionTestCode r)) (if_neg hc))

/-- The code of EYE_CHECK (Table 16-3). -/
def State.eyeCheckCode (s : State) (n : Nat) : Code :=
  if !validLane n then .eArg else if s.on (Reg.LN_STATUS_ST_HOLD n) then .eBusy else if s.laneState n ≠ lnUp then .eState else .ok

theorem gives_eyeCheck_refused {s : State} {req n p0 p1 p2 p3 : Nat} {c : Code} (hcode : s.eyeCheckCode n = c) (hc : c ≠ .ok) :
    Gives (.selftestEyeCheck req n p0 p1 p2 p3) s (s.stRecord req 6 c) := by
  subst hcode
  exact gives_of_effect rfl (congrArg (State.stRecord · req 6 (s.eyeCheckCode n)) (if_neg hc))

/-! ## MARK_FAILED -/

/-- The code of MARK_FAILED (Table 16-3). -/
def State.markFailedCode (s : State) (r kind idx : Nat) : Code :=
  if !validRegion r || !(kind == 3 || posOk kind idx) then .eArg else if !s.sliceable r then .eState
  else if s.slicing r || Tbl.get (0, 0) s.selfTest.behind r != (0, 0) then .eBusy else .ok

theorem gives_markFailed_refused {s : State} {req r kind idx : Nat} {c : Code} (hcode : s.markFailedCode r kind idx = c) (hc : c ≠ .ok) :
    Gives (.selftestMarkFailed req r kind idx) s (s.stRecord req 5 c) := by
  subst hcode
  exact gives_of_effect rfl (congrArg (State.stRecord · req 5 (s.markFailedCode r kind idx)) (if_pos hc))

theorem State.markFailedCode_ok {s : State} {r kind idx : Nat} (hslices : s.sliceable r = true) (hidle : s.slicing r = false)
    (hbehind : Tbl.get (0, 0) s.selfTest.behind r = (0, 0)) (hpos : kind = 3 ∨ posOk kind idx = true) :
    s.markFailedCode r kind idx = .ok := by
  have hvalid : validRegion r = true := (Bool.and_eq_true_iff.mp hslices).1
  have hpos' : (kind == 3 || posOk kind idx) = true := by simpa using hpos
  simp only [State.markFailedCode, hvalid, hpos', hslices, hidle, hbehind, bne_self_eq_false, Bool.not_true, Bool.or_self,
    Bool.false_eq_true, if_false]

theorem posOk_user {kind p : Nat} (hkind : kind < 3) (hp : p < userCount kind) : posOk kind p = true := by
  simp only [posOk, decide_eq_true hkind, Bool.true_and, decide_eq_true_eq]
  exact Nat.lt_add_right _ hp

theorem spareOfIndex_user {kind p : Nat} (hp : p < userCount kind) : spareOfIndex kind p = none := if_pos hp

/-! ## Keys of the life-cycle commands -/

theorem lifeKey_ne {key : BitVec 8} (h : key ≠ 0xC3) : key.toNat ≠ 0xC3 := fun hkey => h (BitVec.eq_of_toNat_eq hkey)

theorem State.lcState_lcRecord_ok (s : State) (req cmd : Nat) : (s.lcRecord req cmd .ok).lcState = s.lcState := (rfl)

theorem lifeKey : (0xC3 : BitVec 8).toNat = 0xC3 := rfl

/-- The code of KEY_PROG (Table 16-12). -/
def State.keyProgCode (s : State) (slot key : Nat) : Code :=
  if key ≠ 0xC3 then .eArg
  else if s.on Reg.LC_CMDSTAT_BUSY then .eBusy
  else if s.lcState ≠ 1 then .eLock
  else if (Tbl.get none s.fuses.keys slot).isSome ∨ hasBit s.fuses.kill slot then .eState
  else .ok

/-- The key buffer reads 0 after KEY_PROG, whatever its outcome. -/
def State.keyBufCleared (s : State) : State := (List.range 8).foldl (fun t i => t.setFld (Reg.LC_KEYBUF_KEY i) 0) s

theorem gives_keyProg_refused {s : State} {req slot : Nat} {key : BitVec 8} {c : Code} (hslot : slot < 2)
    (hcode : s.keyProgCode slot key.toNat = c) (hc : c ≠ .ok) : Gives (.lcKeyProg req slot key) s (s.keyBufCleared.lcRecord req 2 c) := by
  subst hcode
  refine gives_of_effect rfl ?_
  rw [Nat.mod_eq_of_lt hslot]
  exact congrArg (State.lcRecord · req 2 (s.keyProgCode slot key.toNat)) (if_pos hc)

/-- Settles O38: a command by its code, an end by what it ends, a key by its slot. -/
theorem selfTestAndLifeCycleComplete : Obligations.SelfTestAndLifeCycleComplete := by
  refine ⟨?_, ?_, ?_, ?_, ?_, ?_, ?_, ?_, ?_, ?_, ?_, ?_, ?_, ?_, ?_, ?_, ?_, ?_, ?_, ?_, ?_, ?_, ?_, ?_, ?_, ?_, ?_⟩
  · intro s req r kind idx hcode hbehind
    refine gives_of_effect rfl ?_
    simp [State.stSlice, hcode, hbehind]
  · intro s req r kind idx hcode
    refine gives_of_effect rfl ?_
    simp [State.stSlice, hcode]
  · intro s req r kind idx hcode hbehind
    refine gives_of_effect rfl ?_
    simp [State.stSlice, hcode, hbehind]
  · intro s req r
    refine ⟨fun hnone => gives_of_effect rfl ?_, fun hr => gives_of_effect rfl ?_, fun hr hidle hbehind => gives_of_effect rfl ?_,
      fun hr hbehind => gives_of_effect rfl ?_⟩
    · simp only [State.stAbort, if_true, hnone, Bool.false_eq_true, if_false]
    · simp [State.stAbort, validRegion_eq_false hr]
    · simp [State.stAbort, hr, hidle, hbehind]
    · simp [State.stAbort, hr, hbehind]
  · intro s req r
    refine ⟨fun hr => gives_regionTest_refused ?_ (by decide), fun hr hbusy => gives_regionTest_refused ?_ (by decide),
      fun hr htest hslice hstate => gives_regionTest_refused ?_ (by decide)⟩
    · simp [State.regionTestCode, validRegion_eq_false hr]
    · have hbusy' : (s.testing r || s.slicing r) = true := by simpa using hbusy
      simp [State.regionTestCode, hr, hbusy']
    · simp [State.regionTestCode, hr, htest, hslice, hstate]
  · intro s req r hr hslicing
    refine gives_of_effect rfl ?_
    simp [State.stAbort, hr, hslicing]
  · intro s req r hran
    refine gives_of_effect rfl ?_
    simp [State.stAbort, hran]
  · dsimp only
    intro s req r hr htest hslice hstate
    have hcode : s.regionTestCode r = .ok := by simp [State.regionTestCode, hr, htest, hslice, hstate]
    refine gives_of_effect rfl (Eq.trans ?_ (congrArg (State.stRecord _ req 3) hcode))
    exact congrArg (State.stRecord · req 3 (s.regionTestCode r)) (if_pos hcode)
  · dsimp only
    intro s r dur hr htest
    have hgo : (!validRegion r || !s.testing r) = false := by simp [hr, htest]
    refine gives_of_effect rfl ?_
    simp only [hgo, hasBit, Bool.not_true, Bool.false_and, Bool.false_eq_true, if_false, if_true]
  · dsimp only
    intro s r dur hr htest
    have hgo : (!validRegion r || !s.testing r) = false := by simp [hr, htest]
    refine ⟨fun honce => gives_of_effect rfl ?_, fun honce => gives_of_effect rfl ?_⟩
    · simp only [hgo, hasBit, honce, Bool.not_false, Bool.and_self, Bool.false_eq_true, if_false, if_true]
    · simp only [hgo, hasBit, honce, Bool.not_true, Bool.and_false, Bool.false_eq_true, if_false]
  · intro s req hidle hdiode hsense
    refine gives_of_effect rfl ?_
    simp [State.stAnalog, hidle, hdiode, hsense]
  · intro s req hidle hdiode
    have hsense : (s.on Reg.ST_ACTL_DIODE_EN && !s.diodeSenses) = false := by
      cases hen : s.on Reg.ST_ACTL_DIODE_EN with
      | false => rfl
      | true => rw [hdiode hen]; rfl
    refine gives_of_effect rfl ?_
    simp only [State.stAnalog, hidle, hsense, Bool.false_eq_true, if_false]
  · intro s req hbusy
    exact gives_of_effect rfl (if_pos hbusy)
  · intro s req r kind p j hslices hidle hbehind hkind hp hspare
    have hcode := State.markFailedCode_ok hslices hidle hbehind (.inr (posOk_user hkind hp))
    simp only [State.markFailedCode] at hcode
    refine gives_of_effect rfl ?_
    simp only [State.stMarkFailed, hcode, ne_eq, not_true_eq_false, if_false, if_neg (Nat.ne_of_lt hkind), spareOfIndex_user hp, hspare]
  · intro s req r kind p hslices hidle hbehind hr
    refine ⟨gives_of_effect rfl ?_, fun hkind hp hspare => gives_of_effect rfl ?_, fun j hkind hpos hindex hused => gives_of_effect rfl ?_⟩
    · have hcode := State.markFailedCode_ok hslices hidle hbehind (idx := p) (.inl rfl)
      simp only [State.markFailedCode] at hcode
      simp only [State.stMarkFailed, hcode, ne_eq, not_true_eq_false, if_false, if_true]
    · have hcode := State.markFailedCode_ok hslices hidle hbehind (.inr (posOk_user hkind hp))
      simp only [State.markFailedCode] at hcode
      simp only [State.stMarkFailed, hcode, ne_eq, not_true_eq_false, if_false, if_neg (Nat.ne_of_lt hkind), spareOfIndex_user hp, hspare]
    · have hcode := State.markFailedCode_ok hslices hidle hbehind (.inr hpos)
      simp only [State.markFailedCode] at hcode
      simp only [State.stMarkFailed, hcode, ne_eq, not_true_eq_false, if_false, if_neg (Nat.ne_of_lt hkind), hindex, hused,
        Bool.false_eq_true]
  · intro s req r kind p
    refine ⟨fun hbad => gives_markFailed_refused ?_ (by decide), fun hr hpos hslices => gives_markFailed_refused ?_ (by decide),
      fun hr hpos hslices hbusy => gives_markFailed_refused ?_ (by decide)⟩
    · refine if_pos ?_
      obtain hr | ⟨hkind, hpos⟩ := hbad
      · simp [validRegion_eq_false hr]
      · simp [hkind, hpos]
    · have hpos' : (kind == 3 || posOk kind p) = true := by simpa using hpos
      simp [State.markFailedCode, hr, hpos', hslices]
    · have hpos' : (kind == 3 || posOk kind p) = true := by simpa using hpos
      have hbusy' : (s.slicing r || Tbl.get (0, 0) s.selfTest.behind r != (0, 0)) = true := by simpa using hbusy
      simp only [State.markFailedCode, validRegion_eq_true.mpr hr, hpos', hslices, hbusy', Bool.not_true, Bool.or_self,
        Bool.false_eq_true, if_false, if_true]
  · intro s req n p0 p1 p2 p3
    refine ⟨fun hn => gives_eyeCheck_refused ?_ (by decide), fun hn hhold => gives_eyeCheck_refused ?_ (by decide),
      fun hn hhold hstate => gives_eyeCheck_refused ?_ (by decide)⟩
    · simp [State.eyeCheckCode, validLane_eq_false hn]
    · simp [State.eyeCheckCode, hn, hhold]
    · simp [State.eyeCheckCode, hn, hhold, hstate]
  · intro s req n p0 p1 p2 p3 hn hhold hstate
    have hcode : s.eyeCheckCode n = .ok := by simp [State.eyeCheckCode, hn, hhold, hstate]
    refine gives_of_effect rfl (Eq.trans ?_ (congrArg (State.stRecord _ req 6) hcode))
    exact congrArg (State.stRecord · req 6 (s.eyeCheckCode n)) (if_pos hcode)
  · intro s n p0 p1 p2 p3 hen hcheck hn hlanes hhold
    have hgo : ¬ (!s.on Reg.ST_CTL_EN || !s.on Reg.ST_CTL_LANECHK || !validLane n || s.selfTest.lanes != n ||
        s.on (Reg.LN_STATUS_ST_HOLD n)) = true := by simp [hen, hcheck, hn, hlanes, hhold]
    refine ⟨fun hup => gives_of_effect rfl ((if_neg hgo).trans (if_pos hup)), fun hrest => gives_of_effect rfl ((if_neg hgo).trans ?_),
      fun hup hoff hwait => gives_of_effect rfl ((if_neg hgo).trans ((if_neg hup).trans (if_neg (not_or_intro hoff hwait))))⟩
    have hup : ¬ s.laneState n = lnUp := by
      obtain h | h := hrest <;> rw [h] <;> decide
    exact (if_neg hup).trans (if_pos hrest)
  · dsimp only
    intro s n errors locked hn hhold
    exact gives_of_effect rfl ((if_pos (by simp [hn, hhold])).trans rfl)
  · dsimp only
    intro s bg ts sup diode vcore hold temp hhold
    refine ⟨fun hasked => gives_of_effect rfl ?_, fun hfree hen hanalog hnot => gives_of_effect rfl ?_⟩
    · simp only [hasked, hhold, Bool.not_true, Bool.false_and, Bool.or_self, Bool.false_eq_true, if_false, if_true]
    · simp only [hfree, hen, hanalog, hnot, hhold, Bool.not_false, Bool.not_true, Bool.and_self, Bool.and_false, Bool.or_self,
        Bool.false_eq_true, if_false]
  · intro s req target htarget hfree hallowed
    refine ⟨fun hkeep => gives_of_effect rfl ?_, fun hzero => gives_of_effect rfl ?_⟩
    · simp only [State.lcTransition, Nat.mod_eq_of_lt htarget, lifeKey, hfree, hallowed, State.lcState_lcRecord_ok, hkeep,
        ne_eq, not_true_eq_false, if_false, Bool.not_true, Bool.false_eq_true]
    · simp only [State.lcTransition, Nat.mod_eq_of_lt htarget, lifeKey, hfree, hallowed, State.lcState_lcRecord_ok, hzero,
        ne_eq, not_true_eq_false, if_false, Bool.not_true, Bool.false_eq_true, if_true]
  · intro s req target slot key hkey
    refine ⟨gives_of_effect rfl (if_pos (lifeKey_ne hkey)), gives_of_effect rfl ?_⟩
    simp only [State.keyKill, ne_eq, lifeKey_ne hkey, not_false_eq_true, if_true, reduceCtorEq]
  · intro s req target slot htarget
    refine ⟨fun hbusy => ⟨gives_of_effect rfl ?_, gives_of_effect rfl ?_⟩, fun hfree hnot => gives_of_effect rfl ?_⟩
    · simp only [State.lcTransition, lifeKey, hbusy, ne_eq, not_true_eq_false, if_false, if_true]
    · simp only [State.keyKill, lifeKey, hbusy, ne_eq, not_true_eq_false, if_false, if_true, not_false_eq_true, reduceCtorEq]
    · simp only [State.lcTransition, Nat.mod_eq_of_lt htarget, lifeKey, hfree, hnot, ne_eq, not_true_eq_false, if_false, Bool.not_false,
        Bool.false_eq_true, if_true]
  · dsimp only
    intro s req slot key hslot
    refine ⟨fun hkey => gives_keyProg_refused hslot (if_pos (lifeKey_ne hkey)) (by decide),
      fun hkey hbusy => gives_keyProg_refused hslot ?_ (by decide),
      fun hkey hfree hlife => gives_keyProg_refused hslot ?_ (by decide),
      fun hkey hfree hlife hused => gives_keyProg_refused hslot ?_ (by decide)⟩
    · simp only [State.keyProgCode, hkey, lifeKey, hbusy, ne_eq, not_true_eq_false, if_false, if_true]
    · simp only [State.keyProgCode, hkey, lifeKey, hfree, hlife, ne_eq, not_true_eq_false, not_false_eq_true, Bool.false_eq_true, if_false,
        if_true]
    · simp only [State.keyProgCode, hkey, lifeKey, hfree, hlife, if_pos hused, ne_eq, not_true_eq_false, if_false, Bool.false_eq_true]
  · dsimp only
    intro s req slot hslot hfree hlife hempty hlive
    have hcode : ¬ ((Tbl.get none s.fuses.keys slot).isSome = true ∨ hasBit s.fuses.kill slot = true) := by simp [hempty, hasBit, hlive]
    refine gives_of_effect rfl ?_
    simp only [State.keyProg, Nat.mod_eq_of_lt hslot, lifeKey, hfree, hlife, if_neg hcode, ne_eq, not_true_eq_false, if_false, Bool.false_eq_true]
  · dsimp only
    intro s req slot hslot hfree
    refine gives_of_effect rfl ?_
    simp only [State.keyKill, Nat.mod_eq_of_lt hslot, lifeKey, hfree, ne_eq, not_true_eq_false, if_false, Bool.false_eq_true]

end Sys2Proof.Machine
end

section
/-! FLOW and GEARED pins (O39). -/

namespace Sys2Proof.Machine

theorem bitslipWord_fields {q : Nat} (hq : q < 32) :
    hasBit (4 + q % 32 * 2 ^ 8) 0 = false ∧ hasBit (4 + q % 32 * 2 ^ 8) 1 = false ∧ hasBit (4 + q % 32 * 2 ^ 8) 2 = true ∧
      bitsOf (4 + q % 32 * 2 ^ 8) 8 5 = q := by
  simp only [hasBit, Nat.testBit_eq_decide_div_mod_eq, bitsOf, Nat.shiftRight_eq_div_pow, decide_eq_false_iff_not, decide_eq_true_eq]
  omega

theorem quenchWord_fields : hasBit 1 0 = true ∧ hasBit 1 1 = false ∧ hasBit 1 2 = false := by decide

theorem qclrWord_fields : hasBit 2 0 = false ∧ hasBit 2 1 = true ∧ hasBit 2 2 = false := by decide

/-- A command to a bank that is refused with code `c` is recorded, with no effect. -/
theorem State.bankCtlWrite_refused {s : State} {req b value : Nat} {recent : Bool} {c : Code} (counts : Bool)
    (hcode : s.bankCtlCode b value recent = c) (hc : c ≠ .ok) :
    s.bankCtlWrite req b value recent counts = (((s.setFld (Reg.IOB_CMDSTAT_CODE b) c.num).setFld (Reg.IOB_CMDSTAT_REQ b) req).noteRefusal
      (srcBank b) (Reg.IOB_CTL b - 0x10000) req c).respond req (Reg.IOB_CTL b) c := by
  simp only [State.bankCtlWrite, hcode, if_pos hc]

theorem validBank_eq_true {b : Nat} (h : b < 12) : validBank b = true := decide_eq_true h

/-- Settles O39: a pin by what it drives and what its token is, a word by its queue, a command by the bank's state. -/
theorem pinDataCompletes : Obligations.PinDataCompletes := by
  refine ⟨?_, ?_, ?_, ?_, ?_, ?_, ?_, ?_⟩
  · dsimp only
    intro s b p hlive hdir
    have hgo : (!s.pinLive b p 1 || decide (ioDir ((s.bank b).word p) < 2)) = false := by
      rw [hlive, decide_eq_false (Nat.not_lt.mpr hdir)]
      rfl
    refine ⟨fun hack hnull => gives_of_effect rfl ?_, fun hack hvalid => gives_of_effect rfl ?_⟩
    · simp only [hgo, hack, hnull, Bool.false_eq_true, if_false, if_true]
    · simp only [hgo, hack, hvalid, Bool.false_eq_true, if_false, if_true]
  · dsimp only
    intro s b p level hlive hdir
    have hgo : (s.pinLive b p 1 && hasBit (ioDir ((s.bank b).word p)) 0) = true := by rw [hlive, hasBit, hdir]; rfl
    refine ⟨fun htok hack => gives_of_effect rfl ((if_pos hgo).trans ?_), fun htok hack => gives_of_effect rfl ((if_pos hgo).trans ?_)⟩
    · simp only [htok, hack, beq_self_eq_true, Bool.and_self, if_true]
    · simp only [htok, hack, Option.isSome_none, Option.isNone_none, Bool.false_and, beq_self_eq_true, Bool.and_self, Bool.false_eq_true,
        if_false, if_true]
  · dsimp only
    intro s b p level hflow hgeared hdir
    have hnot : ¬ (s.pinLive b p 1 && hasBit (ioDir ((s.bank b).word p)) 0) = true := by simp [hflow]
    have hgo : (s.pinLive b p 2 && ioDir ((s.bank b).word p) == 1) = true := by simp [hgeared, hdir]
    refine ⟨fun htok hack => gives_of_effect rfl ((if_neg hnot).trans ((if_pos hgo).trans ?_)),
      fun htok hiack hack => gives_of_effect rfl ((if_neg hnot).trans ((if_pos hgo).trans ?_))⟩
    · simp only [htok, hack, beq_self_eq_true, Bool.and_self, if_true]
    · simp only [htok, hiack, hack, Bool.false_and, beq_self_eq_true, Bool.and_self, Bool.false_eq_true, if_false, if_true]
  · dsimp only
    intro s b q hlive hdir
    have hgo : ¬ (!s.pinLive b (2 * q) 2 || ioDir ((s.bank b).word (2 * q)) != 2) = true := by simp [hlive, hdir]
    refine ⟨fun w l hq => gives_of_effect rfl ((if_neg hgo).trans ?_), fun hack hvalid hroom => gives_of_effect rfl ((if_neg hgo).trans ?_),
      fun hack hnull => gives_of_effect rfl ((if_neg hgo).trans ?_), fun hq => gives_of_effect rfl ((if_neg hgo).trans ?_)⟩
    · simp only [if_true, hq]
    · simp only [hack, hvalid, decide_eq_true hroom, Bool.and_self, Bool.false_eq_true, if_false, if_true]
    · simp only [hack, hnull, Bool.false_eq_true, if_false, if_true]
    · simp only [if_true, hq]
  · dsimp only
    intro s b q bits hb hin hfree
    have hgo : ¬ (!validBank b || !s.gearedIn b q || ((s.bank b).pin (2 * q)).hold.isSome) = true := by
      simp [validBank_eq_true hb, hin, hfree]
    refine ⟨fun hnone => gives_of_effect rfl ((if_neg hgo).trans ?_), fun w ws hword hroom => gives_of_effect rfl ((if_neg hgo).trans ?_),
      fun w ws hword hfull => gives_of_effect rfl ((if_neg hgo).trans ?_)⟩
    · simp only [hnone]
    · simp only [hword, if_neg (Nat.not_le.mpr hroom)]
    · simp only [hword, if_pos hfull]
  · dsimp only
    intro s req b q hb hin
    have hq : q < 24 := by
      simp only [State.gearedIn, Bool.and_eq_true, decide_eq_true_eq] at hin
      exact hin.1.1.1
    obtain ⟨hquench, hclear, hslip, hpair⟩ := bitslipWord_fields (Nat.lt_trans hq (by decide))
    have hcode : s.bankCtlCode b (4 + q % 32 * 2 ^ 8) false = .ok := by
      simp only [State.bankCtlCode, hquench, hclear, hslip, hpair, hin, Bool.not_true, Bool.false_and, Bool.and_false, Bool.or_self,
        Bool.false_eq_true, if_false]
    refine gives_of_effect rfl ((if_pos (validBank_eq_true hb)).trans ?_)
    simp only [State.bankCtlWrite, hcode, hquench, hclear, hslip, hpair, ne_eq, not_true_eq_false, Bool.false_eq_true, if_false, if_true,
      State.noteRefusal_ok]
    rfl
  · dsimp only
    intro s req b together hb
    have hguard : guarded b = true := decide_eq_true hb
    have hvalid : validBank b = true := validBank_eq_true (Nat.lt_trans hb (by decide))
    refine ⟨gives_of_effect rfl ((if_pos hvalid).trans ?_), fun hok => gives_of_effect rfl ((if_pos hvalid).trans ?_)⟩
    · obtain ⟨hquench, hclear, hslip⟩ := quenchWord_fields
      have hcode : s.bankCtlCode b 1 false = .ok := by
        simp only [State.bankCtlCode, hquench, hclear, hslip, hguard, Bool.not_true, Bool.false_and, Bool.and_false, Bool.or_false,
          Bool.false_eq_true, if_false]
      simp only [State.bankCtlWrite, hcode, hquench, hslip, ne_eq, not_true_eq_false, Bool.false_eq_true, if_false, if_true,
        State.noteRefusal_ok]
      rfl
    · obtain ⟨hquench, hclear, hslip⟩ := qclrWord_fields
      have hcode : s.bankCtlCode b 2 false = .ok := by
        simp only [State.bankCtlCode, hquench, hclear, hslip, hguard, hok, Bool.not_true, Bool.not_false, Bool.false_and, Bool.and_false,
          Bool.and_self, Bool.or_true, Bool.false_eq_true, if_false]
      simp only [State.bankCtlWrite, hcode, hquench, hclear, hslip, ne_eq, not_true_eq_false, Bool.false_eq_true, if_false, if_true,
        State.noteRefusal_ok]
      rfl
  · dsimp only
    intro s req b q recent together hb hq
    obtain ⟨hquench, hclear, hslip, hpair⟩ := bitslipWord_fields hq
    have hvalid := validBank_eq_true hb
    refine ⟨fun hin => gives_of_effect rfl ((if_pos hvalid).trans (State.bankCtlWrite_refused _ ?_ (by decide))),
      fun hunguarded => ⟨gives_of_effect rfl ((if_pos hvalid).trans (State.bankCtlWrite_refused _ ?_ (by decide))),
        gives_of_effect rfl ((if_pos hvalid).trans (State.bankCtlWrite_refused _ ?_ (by decide)))⟩,
      fun hguard hvok => gives_of_effect rfl ((if_pos hvalid).trans (State.bankCtlWrite_refused _ ?_ (by decide))),
      fun hguard hvok => gives_of_effect rfl ((if_pos hvalid).trans (State.bankCtlWrite_refused _ ?_ (by decide)))⟩
    · simp only [State.bankCtlCode, hquench, hclear, hslip, hpair, hin, Bool.not_false, Bool.false_and, Bool.and_self, Bool.or_self,
        Bool.false_eq_true, if_false, if_true]
    · obtain ⟨hquench', -, -⟩ := quenchWord_fields
      have hguard : guarded b = false := decide_eq_false (Nat.not_lt.mpr hunguarded)
      simp only [State.bankCtlCode, hquench', hguard, Bool.true_or, Bool.not_false, Bool.and_self, if_true]
    · obtain ⟨hquench', hclear', -⟩ := qclrWord_fields
      have hguard : guarded b = false := decide_eq_false (Nat.not_lt.mpr hunguarded)
      simp only [State.bankCtlCode, hquench', hclear', hguard, Bool.or_true, Bool.not_false, Bool.and_self, if_true]
    · obtain ⟨hquench', hclear', hslip'⟩ := qclrWord_fields
      have hguarded : guarded b = true := decide_eq_true hguard
      simp only [State.bankCtlCode, hquench', hclear', hslip', hguarded, hvok, Bool.or_true, Bool.not_true, Bool.not_false, Bool.and_self,
        Bool.false_and, Bool.and_false, Bool.false_eq_true, if_false, if_true]
    · obtain ⟨hquench', hclear', hslip'⟩ := qclrWord_fields
      have hguarded : guarded b = true := decide_eq_true hguard
      simp only [State.bankCtlCode, hquench', hclear', hslip', hguarded, hvok, Bool.or_true, Bool.not_true, Bool.not_false, Bool.and_self,
        Bool.false_and, Bool.and_false, Bool.false_eq_true, if_false, if_true]

end Sys2Proof.Machine
end

section
/-! Bank supply and control-pin events (O40). -/

namespace Sys2Proof.Machine

/-! ## What a bank's supply leaves alone -/

theorem State.hk_errBit (s : State) (f : Fld) (masked : Bool) (src : Nat) (sev : Sev) (code : Nat) (arg : State → Nat) :
    (s.errBit f masked src sev code arg).hk = s.hk := by
  obtain ⟨r, b, l, h⟩ := s.errBit_eq f masked src sev code arg
  rw [h]
  rfl

theorem State.hk_bankEvent (s : State) (b i : Nat) : (s.bankEvent b i).hk = s.hk := s.hk_errBit ..

theorem State.hk_bankBoundary (s : State) : s.bankBoundary.hk = s.hk := by
  unfold State.bankBoundary
  refine List.foldlRecOn (List.range 12) _ (motive := fun (t : State) => t.hk = s.hk) rfl fun t ht b _ => ?_
  dsimp only
  split_ifs <;> exact ht

theorem State.hk_bankNow (s : State) : s.bankNow.hk = s.hk := by
  unfold State.bankNow
  split
  · rfl
  · exact s.hk_bankBoundary

theorem State.hk_bankSupply (s : State) (b mv : Nat) : (s.bankSupply b mv).hk = s.hk := by
  unfold State.bankSupply
  dsimp only
  split_ifs
  · exact State.hk_bankEvent ..
  · exact State.hk_bankNow _
  · rfl

/-! ## The bank's supply -/

/-- A supply out of its window where it was in it: an event (R626). -/
theorem State.bankSupply_leaves {s : State} {b mv : Nat} (hlow : mv * 100 < nominalMv ((s.bank b).set % 4) * 90)
    (hvok : s.on (Reg.IOB_STAT_VOK b) = true) :
    s.bankSupply b mv = ((s.setFld (Reg.IOB_VMON_MV b) mv).setBit (Reg.IOB_STAT_VOK b) false).bankEvent b 8 := by
  have hbad : (decide (nominalMv (bitsOf (s.bank b).set 0 2) * 90 ≤ mv * 100) &&
      decide (mv * 100 ≤ nominalMv (bitsOf (s.bank b).set 0 2) * 110)) = false := by
    rw [show bitsOf (s.bank b).set 0 2 = (s.bank b).set % 4 from rfl, decide_eq_false (Nat.not_le.mpr hlow)]
    rfl
  simp only [State.bankSupply, hbad, hvok, Bool.not_false, Bool.and_self, if_true]

/-- A supply back in its window: the bank's pins come back at the boundary (R627). -/
theorem State.bankSupply_returns {s : State} {b mv : Nat} (hlow : nominalMv ((s.bank b).set % 4) * 90 ≤ mv * 100)
    (hhigh : mv * 100 ≤ nominalMv ((s.bank b).set % 4) * 110) (hvok : s.on (Reg.IOB_STAT_VOK b) = false) :
    let u := (s.setFld (Reg.IOB_VMON_MV b) mv).setBit (Reg.IOB_STAT_VOK b) true
    s.bankSupply b mv = (u.setBank b { u.bank b with returning := true }).bankNow := by
  have hok : (decide (nominalMv (bitsOf (s.bank b).set 0 2) * 90 ≤ mv * 100) &&
      decide (mv * 100 ≤ nominalMv (bitsOf (s.bank b).set 0 2) * 110)) = true := by
    rw [show bitsOf (s.bank b).set 0 2 = (s.bank b).set % 4 from rfl, decide_eq_true hlow, decide_eq_true hhigh]
    rfl
  simp only [State.bankSupply, hok, hvok, Bool.not_true, Bool.not_false, Bool.and_self, Bool.false_eq_true, if_false, if_true]

/-- The state in which a bank's supply pin has the value `mv`. -/
def State.supplied (s : State) (b mv : Nat) : State := { s with pins := { s.pins with supply := Tbl.put 0 s.pins.supply b mv } }

theorem State.supplyChange_up {s : State} (b mv : Nat) (hup : s.hk.up = true) : s.supplyChange b mv = (s.supplied b mv).bankSupply b mv :=
  if_pos hup

theorem State.supplyChange_down {s : State} (b mv : Nat) (hup : s.hk.up = false) : s.supplyChange b mv = s.supplied b mv :=
  if_neg (by rw [hup]; decide)

theorem State.hk_supplyChange (s : State) (b mv : Nat) : (s.supplyChange b mv).hk = s.hk := by
  cases hup : s.hk.up with
  | true => rw [State.supplyChange_up b mv hup, State.hk_bankSupply]; rfl
  | false => rw [State.supplyChange_down b mv hup]; rfl

/-- A collapse quenches a guarded bank of a device that is powered (R629). -/
theorem gives_supplyCollapse {s : State} {b mv : Nat} (together : Bool) (hb : b < 12)
    (hlow : mv * 100 < nominalMv ((s.bank b).set % 4) * 80) :
    Gives (.bankSupplyCollapse b mv together) s
      (if guarded b && s.hk.up then (s.supplyChange b mv).quench b allPins 4 (!together) else s.supplyChange b mv) := by
  have hgo : (validBank b && decide (mv * 100 < nominalMv (bitsOf (s.bank b).set 0 2) * 80)) = true := by
    rw [show bitsOf (s.bank b).set 0 2 = (s.bank b).set % 4 from rfl, decide_eq_true hlow, validBank_eq_true hb]
    rfl
  refine gives_of_effect rfl ((if_pos hgo).trans ?_)
  simp only [State.hk_supplyChange]

theorem gives_currentLimit {s : State} {b p : Nat} {v : Bool} (together : Bool) (hb : b < 6) (hp : p < 48) (hdrive : s.pinDrive b p = .level v) :
    Gives (.currentLimitEvent b p together) s (s.quench b (if hasBit (s.bank b).set 3 then allPins else 2 ^ p) 3 (!together)) := by
  refine gives_of_effect rfl ?_
  simp only [hdrive, show guarded b = true from decide_eq_true hb, decide_eq_true hp, Bool.and_self, if_true]

/-- Settles O40: a supply by its window and by whether the device is powered, a pin by its filter, a write by what it may change. -/
theorem pinEventsComplete : Obligations.PinEventsComplete := by
  refine ⟨?_, ?_, ?_, ?_, ?_, ?_, ?_, ?_, ?_, ?_⟩
  · intro s b p v together hb hp hdrive
    have hgives := gives_currentLimit together hb hp hdrive
    refine ⟨fun hone => ?_, fun hall => ?_⟩
    · rwa [hasBit, hone, if_neg (by decide)] at hgives
    · rwa [hasBit, hall, if_pos rfl] at hgives
  · dsimp only
    intro s b mv together hb hlow
    have hgives := gives_supplyCollapse together hb hlow
    refine ⟨fun hup hguard => ?_, fun hup hguard => ?_, fun hup => ?_⟩
    · rwa [if_pos (by rw [hup, guarded, decide_eq_true hguard]; rfl), State.supplyChange_up b mv hup] at hgives
    · rwa [if_neg (by rw [guarded, decide_eq_false (Nat.not_lt.mpr hguard), Bool.false_and]; decide), State.supplyChange_up b mv hup] at hgives
    · rwa [if_neg (by rw [hup, Bool.and_false]; decide), State.supplyChange_down b mv hup] at hgives
  · dsimp only
    intro s b mv hb
    have hvalid := validBank_eq_true hb
    refine ⟨fun hup hlow hvok => gives_of_effect rfl ((if_pos hvalid).trans ((State.supplyChange_up b mv hup).trans ?_)),
      fun hup hlow hhigh hvok => gives_of_effect rfl ((if_pos hvalid).trans ((State.supplyChange_up b mv hup).trans ?_)),
      fun hup => ⟨gives_of_effect rfl ((if_pos hvalid).trans (State.supplyChange_down b mv hup)),
        gives_of_effect rfl ((if_pos hvalid).trans (State.supplyChange_down b mv hup))⟩⟩
    · exact State.bankSupply_leaves hlow hvok
    · exact State.bankSupply_returns hlow hhigh hvok
  · intro s n v hn hown
    have hgo : (decide (n < 52) && !ownPin n) = true := by rw [decide_eq_true hn, hown]; rfl
    refine ⟨fun hplain => gives_of_effect rfl ((if_pos hgo).trans ?_), fun hfilter hup => gives_of_effect rfl ((if_pos hgo).trans ?_)⟩
    · have hlive : (hasFilter n && s.hk.up) = false := by
        obtain h | h := hplain <;> simp [h]
      simp only [State.setCpBall, hlive, Bool.false_eq_true, if_false]
    · have hlive : (hasFilter n && s.hk.up) = true := by rw [hfilter, hup]; rfl
      simp only [State.setCpBall, hlive, if_true]
  · intro s n hfilter hmode
    refine gives_of_effect rfl ((if_pos hfilter).trans ?_)
    simp only [State.filterSettle, hmode]
  · intro s n hfilter hmode hwindow
    refine gives_of_effect rfl ((if_pos hfilter).trans ?_)
    simp only [State.filterSettle, hmode, hwindow, if_true]
  · dsimp only
    intro s req n value hn hfixed hdir
    refine gives_of_effect rfl ((if_pos hn).trans ?_)
    have hok : ¬ (value.toNat &&& 0x37FFF &&& (0x37FFF - cpMask n) ≠ (resetOf (Reg.CP_CFG n)).toNat &&& (0x37FFF - cpMask n) ∨
        bitsOf (value.toNat &&& 0x37FFF) 2 2 = 3) := fun h => h.elim (fun h => h hfixed) hdir
    simp only [State.cpCfgWrite, if_neg hok, ne_eq, not_true_eq_false, if_false]
    rw [Bool.and_comm]
  · dsimp only
    intro s req n value hn hbad
    refine gives_of_effect rfl ((if_pos hn).trans ?_)
    simp only [State.cpCfgWrite, if_pos hbad, ne_eq, reduceCtorEq, not_false_eq_true, if_true]
  · dsimp only
    intro s req k value hk hsource
    have hok : ¬ (hasBit value.toNat 4 = true ∧ 8 ≤ k) := fun h => Nat.not_le.mpr (hsource h.1) h.2
    refine gives_of_effect rfl ((if_pos hk).trans ?_)
    simp only [State.tlMapWrite, if_neg hok, ne_eq, not_true_eq_false, if_false]
  · intro s req k value hlow hk hsource
    have hbad : hasBit value.toNat 4 = true ∧ 8 ≤ k := ⟨hsource, hlow⟩
    refine gives_of_effect rfl ((if_pos hk).trans ?_)
    simp only [State.tlMapWrite, if_pos hbad, ne_eq, reduceCtorEq, not_false_eq_true, if_true]

end Sys2Proof.Machine
end

section
/-! Incidents, summaries and the log's commands (O41). -/

namespace Sys2Proof.Machine

/-- A write of IL_RATE with both fields at least 1 is applied (R645). -/
theorem State.logRate_applied {s : State} {req value : Nat} (hburst : value % 2 ^ 8 ≠ 0) (hrefill : bitsOf value 16 16 ≠ 0) :
    s.logRate req value =
      (((allSources.map (fun k => (k, s.tokens k))).foldl (fun t e => t.setTokens e.1 e.2)
        ((s.setFld Reg.IL_RATE_BURST (value % 2 ^ 8)).setFld Reg.IL_RATE_REFILL (bitsOf value 16 16))).logRecord req Reg.IL_RATE 0 .ok) :=
  if_neg (fun h => h.elim hburst hrefill)

/-- Settles O41: an incident by its source, a command of the log by its code, the gap of the summaries by what waits. -/
theorem incidentLogCompletes : Obligations.IncidentLogCompletes := by
  refine ⟨?_, ?_, ?_, ?_, ?_, ?_, ?_, ?_, ?_, ?_, ?_⟩
  · intro s src n v code arg hsev hsource hcode
    refine gives_of_effect rfl ?_
    simp only [hsev, hsource, decide_eq_true hcode, Bool.and_self, if_true]
  · intro s src recent i l hslots
    refine gives_of_effect rfl ?_
    simp only [hslots]
  · intro s src
    exact gives_of_effect rfl rfl
  · dsimp only
    intro s req value
    exact ⟨fun hburst hrefill => gives_of_effect rfl (State.logRate_applied hburst hrefill), fun hzero => gives_of_effect rfl (if_pos hzero)⟩
  · intro s req
    exact gives_of_effect rfl rfl
  · intro s req
    exact gives_of_effect rfl rfl
  · intro s req
    exact ⟨gives_of_effect rfl rfl, gives_of_effect rfl rfl⟩
  · intro s req
    refine ⟨fun hheld => gives_of_effect rfl ?_, fun hfree => gives_of_effect rfl ?_⟩
    · simp only [State.logCmd, hheld, if_true]
    · simp only [State.logCmd, hfree, Bool.false_eq_true, if_false]
  · dsimp only
    intro s req
    exact gives_of_effect rfl rfl
  · dsimp only
    intro s
    refine ⟨fun hnone => gives_of_effect rfl ?_, fun e hwaits => gives_of_effect rfl ?_⟩
    · have hnone' : (s.setHk { s.hk with sumRecent := false }).hk.sumWaits = none := hnone
      simp only [hnone']
    · have hwaits' : (s.setHk { s.hk with sumRecent := false }).hk.sumWaits = some e := hwaits
      simp only [hwaits']
  · intro s
    exact gives_of_effect rfl rfl

end Sys2Proof.Machine
end

section
/-! Supply, monitor, thermal and JTAG events (O42). -/

namespace Sys2Proof.Machine

/-! ## The supply monitors -/

/-- A sample of a rail that does not fail: the rail is measured (R663). -/
theorem gives_railSample {s : State} {n mv : Nat} (hup : s.hk.up = true) (hn : n < 20) (hlow : n < 7 → railFails n ≤ mv)
    (hstby : n = 7 → 1500 ≤ mv) : Gives (.supplyMonitorSample n mv) s (s.railSample n mv) := by
  refine gives_of_effect rfl ((if_neg ?_).trans ((if_neg (Nat.ne_of_lt hn)).trans ((if_neg ?_).trans (if_neg ?_))))
  · simp only [hup, Bool.not_true, Bool.false_eq_true, false_or]
    omega
  · exact fun h => Nat.not_lt.mpr (hlow h.1) h.2
  · exact fun h => Nat.not_lt.mpr (hstby h.1) h.2

/-- The rail with its new value, and where it stands to its window. -/
def State.railMeasured (s : State) (n mv : Nat) : State :=
  ((s.setFld (Reg.PWR_RAIL_MV n) mv).setBit (Reg.PWR_RAIL_LOW n) (decide (mv * 1000 < (s.monitorWindow n).1))).setBit (Reg.PWR_RAIL_HIGH n)
    (decide ((s.monitorWindow n).2 < mv * 1000))

/-- The rail is out of its window now. -/
def State.railOut (s : State) (n mv : Nat) : Bool :=
  decide (mv * 1000 < (s.monitorWindow n).1) || decide ((s.monitorWindow n).2 < mv * 1000)

/-- The rail was out of its window at its latest sample. -/
def State.railWasOut (s : State) (n : Nat) : Bool := s.on (Reg.PWR_RAIL_LOW n) || s.on (Reg.PWR_RAIL_HIGH n)

/-- A sample of a monitored rail: an event as it leaves its window, and as it comes back (R665). -/
theorem State.railSample_rail {s : State} {n mv : Nat} (hn : n < 8) :
    s.railSample n mv =
      if s.railOut n mv && !s.railWasOut n then
        ((((s.railMeasured n mv).setBit (Reg.PWR_RAIL_OOR n) true).setBit Reg.PWR_STAT_RAIL_EV true).powerEvent 3 n mv)
      else if s.railWasOut n && !s.railOut n mv then (s.railMeasured n mv).powerEvent 4 n mv
      else s.railMeasured n mv := by
  simp only [State.railSample, if_pos hn, decide_eq_true hn, Bool.and_true]
  rfl

/-! ## The sensors -/

/-- The 32 readings of a sample of the sensors. -/
def sensorReadings (temps : List (BitVec 16)) : List (Nat × Nat) := (List.range 32).map (fun k => (k, (temps.getD k 0).toNat))

/-- A reading at or above 120 °C twice in a row (R669). -/
def State.hotTwice (s : State) (e : Nat × Nat) : Bool :=
  decide (1200 ≤ tempOf e.2) && decide (1200 ≤ tempOf (s.fld (Reg.PWR_TS_TEMP e.1)))

theorem State.find_hotTwice_none (s : State) {temps : List (BitVec 16)} (h : ∀ k < 32, tempOf (temps.getD k 0).toNat < 1200) :
    (sensorReadings temps).find? s.hotTwice = none := by
  rw [List.find?_eq_none]
  intro e he
  obtain ⟨k, hk, rfl⟩ := List.mem_map.mp he
  simp only [State.hotTwice, decide_eq_false (Int.not_le.mpr (h k (List.mem_range.mp hk))), Bool.false_and, Bool.false_eq_true,
    not_false_eq_true]

/-- The readings enter their registers, the hottest one those of the maximum. -/
def State.sensed (s : State) (temps : List (BitVec 16)) : State :=
  (((sensorReadings temps).foldl (fun t e => t.setFld (Reg.PWR_TS_TEMP e.1) e.2) s).setFld Reg.PWR_TMAX_TEMP
    (hottest (sensorReadings temps)).2).setFld Reg.PWR_TMAX_SENSOR (hottest (sensorReadings temps)).1

/-- A warning as the hottest reading reaches TWARN, where none is set (R669). -/
def State.warned (s : State) (e : Nat × Nat) : State :=
  if tempOf e.2 ≥ 10 * (s.fld Reg.PWR_CTL_TWARN : Int) ∧ !s.on Reg.PWR_STAT_TWARN_ACT then
    (((s.setBit Reg.PWR_STAT_TWARN_ACT true).setBit Reg.PWR_STAT_TWARN_EV true).powerEvent 1 e.1 e.2)
  else s

/-- A sample of the sensors of a device that is powered: its readings, its warning, its trip. -/
theorem gives_thermalSample {s : State} (temps : List (BitVec 16)) (hup : s.hk.up = true) (htrip : s.lovage.tripHold = false) :
    Gives (.thermalSample temps) s (((sensorReadings temps).find? s.hotTwice).elim
      ((s.sensed temps).warned (hottest (sensorReadings temps)))
      (fun e => ((s.sensed temps).warned (hottest (sensorReadings temps))).trip e.1 e.2)) := by
  refine gives_of_effect rfl ((if_neg (by rw [hup, htrip]; decide)).trans ?_)
  cases hfind : (sensorReadings temps).find? s.hotTwice with
  | none =>
    unfold sensorReadings State.hotTwice at hfind
    simp only [hfind, Option.elim_none]
    rfl
  | some e =>
    unfold sensorReadings State.hotTwice at hfind
    simp only [hfind, Option.elim_some]
    rfl

/-! ## The IDCODE register

`stepping` has no value that the kernel can compute, and it tries to compute every closed number: the value of `idcode` is therefore
read off a function of the stepping, whose argument is a variable. -/

/-- The IDCODE of a device of stepping `x` (Table 16-9). -/
def idcodeOf (x : Nat) (_ : x = stepping) : Nat := x / 16 * 2 ^ 28 + 0x9624 * 2 ^ 12 + 0x52B * 2 + 1

theorem idcodeOf_eq (x : Nat) (h : x = stepping) : idcodeOf x h = x / 16 * 2 ^ 28 + 0x9624 * 2 ^ 12 + 0x52B * 2 + 1 := rfl

theorem idcode_eq_idcodeOf : idcode = idcodeOf stepping rfl := rfl

theorem idcode_eq : idcode = stepping / 16 * 2 ^ 28 + 0x9624 * 2 ^ 12 + 0x52B * 2 + 1 :=
  idcode_eq_idcodeOf.trans (idcodeOf_eq stepping rfl)

/-- Settles O42: a rail by its window, a sensor by its limits, an instruction by its code and the life-cycle state. -/
theorem powerCompletes : Obligations.PowerCompletes := by
  refine ⟨?_, ?_, ?_, ?_, ?_, ?_, ?_, ?_, ?_, ?_, ?_, ?_, ?_, ?_⟩
  · dsimp only
    intro s refclk hst
    refine ⟨fun hlow => gives_of_effect rfl ((if_neg (not_not_intro hst)).trans (if_neg ?_)),
      fun hhigh htrip => gives_of_effect rfl ((if_neg (not_not_intro hst)).trans (if_pos ?_))⟩
    · exact fun h => absurd ((Bool.and_eq_true_iff.mp h).1.symm.trans hlow) (by decide)
    · exact Bool.and_eq_true_iff.mpr ⟨hhigh, congrArg (!·) htrip⟩
  · intro s
    exact gives_of_effect rfl rfl
  · intro s
    exact gives_of_effect rfl rfl
  · intro s hst
    exact gives_of_effect rfl (if_pos hst)
  · intro s n mv hup
    have hpresent : ∀ k ≤ 20, ¬ ((!s.hk.up) = true ∨ 20 < k) := by
      intro k hk
      simp only [hup, Bool.not_true, Bool.false_eq_true, false_or]
      omega
    refine ⟨fun hn hfail => gives_of_effect rfl ?_, fun hn hok => gives_railSample hup (by omega) (fun _ => hok) (by omega),
      fun hfail => gives_of_effect rfl ?_, fun hlow hn => gives_railSample hup hn (by omega) (by omega),
      fun hok => gives_railSample hup (by decide) (by omega) (fun _ => hok), fun hlow hsense => gives_of_effect rfl ?_,
      fun hidle => gives_of_effect rfl ?_⟩
    · exact (if_neg (hpresent n (by omega))).trans ((if_neg (by omega)).trans (if_pos ⟨hn, hfail⟩))
    · exact (if_neg (hpresent 7 (by decide))).trans ((if_neg (by decide)).trans ((if_neg (fun h => absurd h.1 (by decide))).trans
        (if_pos ⟨rfl, hfail⟩)))
    · exact (if_neg (hpresent 20 (by decide))).trans ((if_pos rfl).trans (if_pos ⟨hlow, hsense⟩))
    · refine (if_neg (hpresent 20 (by decide))).trans ((if_pos rfl).trans (if_neg fun h => ?_))
      exact hidle.elim (Nat.not_le.mpr h.1) (fun hnone => absurd (h.2.symm.trans hnone) (by decide))
  · dsimp only
    intro s n mv hup hn hlow hstby
    have hgives := gives_railSample hup (by omega) hlow hstby
    rw [State.railSample_rail hn] at hgives
    refine ⟨fun hsame => ?_, fun hout hwas => ?_, fun hout hwas => ?_⟩
    · have hsame' : s.railOut n mv = s.railWasOut n := hsame
      rwa [hsame', Bool.and_not_self, if_neg (by decide), if_neg (by decide)] at hgives
    · have hout' : s.railOut n mv = true := hout
      have hwas' : s.railWasOut n = false := hwas
      rwa [hout', hwas', if_pos (by decide)] at hgives
    · have hout' : s.railOut n mv = false := hout
      have hwas' : s.railWasOut n = true := hwas
      rwa [hout', hwas', if_neg (by decide), if_pos (by decide)] at hgives
  · dsimp only
    intro s temps k hup htrip hfind hwarned
    have hgives := gives_thermalSample temps hup htrip
    have hfind' : (sensorReadings temps).find? s.hotTwice = some (k, (temps.getD k 0).toNat) := hfind
    have hwarned' : (s.sensed temps).on Reg.PWR_STAT_TWARN_ACT = true := hwarned
    rwa [hfind', Option.elim_some, State.warned, if_neg (by rw [hwarned']; exact fun h => absurd h.2 (by decide))] at hgives
  · dsimp only
    intro s temps hup htrip hcool
    have hgives := gives_thermalSample temps hup htrip
    rw [s.find_hotTwice_none hcool, Option.elim_none, State.warned] at hgives
    refine ⟨fun hbelow => ?_, fun hreach hfree => ?_⟩
    · rwa [if_neg (fun h => Int.not_le.mpr hbelow h.1)] at hgives
    · rwa [if_pos ⟨hreach, congrArg (!·) hfree⟩] at hgives
  · intro s hwarned hcool
    have hbelow : ((List.range 32).all fun k => decide (tempOf (s.fld (Reg.PWR_TS_TEMP k)) < 10 * ((s.fld Reg.PWR_CTL_TWARN : Int) - 5))) =
        true := by
      rw [List.all_eq_true]
      exact fun k hk => decide_eq_true (hcool k (List.mem_range.mp hk))
    exact gives_of_effect rfl (if_pos (Bool.and_eq_true_iff.mpr ⟨hwarned, hbelow⟩))
  · dsimp only
    intro s htrip hup
    have hgo : (s.lovage.tripHold && !s.hk.up) = true := by rw [htrip, hup]; rfl
    exact ⟨fun hst hpin => gives_of_effect rfl ((if_pos hgo).trans (if_pos ⟨hst, hpin⟩)),
      fun hst => gives_of_effect rfl ((if_pos hgo).trans (if_neg fun h => hst h.1))⟩
  · intro s level hst hpin
    refine gives_of_effect rfl ((if_neg ?_).trans (if_pos hst))
    rintro (h | h)
    · exact absurd (hst.symm.trans h) (by decide)
    · exact hpin h
  · dsimp only
    intro s req value
    refine ⟨fun hlow hhigh => gives_of_effect rfl ?_, fun hbad => gives_of_effect rfl ?_⟩
    · have hok : 60 ≤ value.toNat % 256 ∧ value.toNat % 256 ≤ 110 := ⟨hlow, hhigh⟩
      simp only [State.pwrCtl, if_pos hok, if_true]
      rfl
    · have hno : ¬ (60 ≤ value.toNat % 256 ∧ value.toNat % 256 ≤ 110) := by omega
      simp only [State.pwrCtl, if_neg hno, reduceCtorEq, if_false]
      rfl
  · intro s code
    refine ⟨fun hstd => gives_of_effect rfl ?_, fun hhigh h40 h41 => gives_of_effect rfl ?_, fun hown hlife => gives_of_effect rfl ?_,
      fun hown hraw hrma => gives_of_effect rfl ?_⟩
    · simp only [decide_eq_true hstd, Bool.true_or, if_true]
    · have hown : (code == 0x40 || code == 0x41) = false := by
        rw [beq_eq_false_iff_ne.mpr h40, beq_eq_false_iff_ne.mpr h41]
        rfl
      simp only [decide_eq_false (Nat.not_le.mpr hhigh), hown, Bool.false_and, Bool.or_self, Bool.false_eq_true, if_false]
    · have hown' : (code == 0x40 || code == 0x41) = true := by simpa using hown
      have hlife' : (s.lcState == 0 || s.lcState == 3) = true := by simpa using hlife
      simp only [hown', hlife', Bool.and_self, Bool.or_true, if_true]
    · have hlife' : (s.lcState == 0 || s.lcState == 3) = false := by simp [hraw, hrma]
      have hhigh : ¬ code.toNat ≤ 6 := by
        rcases hown with rfl | rfl <;> decide
      simp only [hlife', decide_eq_false hhigh, Bool.and_false, Bool.or_self, Bool.false_eq_true, if_false]
  · intro s hjtag
    exact (if_pos hjtag).trans (congrArg some idcode_eq)

end Sys2Proof.Machine
end
